-- ==== Sys2Proof/Word.lean ====
section
/-! DEFINITION. The byte and the plain abbreviations every other file speaks of. -/

namespace Sys2Proof

/-- One byte of an addressed memory. -/
abbrev Byte := BitVec 8

/-- The octets of a record, message or image, each below 256, the byte at the lowest offset first (R2, R3). -/
abbrev Octets := List Nat

end Sys2Proof
end

