-- ==== Sys2Proof/Config.lean ====
section
/-! DEFINITION. What an implementation fixes and what the spec leaves open: the outside cryptographic functions,
the true random draws, the values of one device, and the measured samples. None has a body, so no proof can see a value. -/

namespace Sys2Proof

/-- The k-th draw of the check die's TRNG (R24, R95, R145, R149, R150, R172, R345). Free value; log entry 2. -/
opaque Config.trng : Nat → Nat

/-- The k-th draw of the safety die's TRNG (R345, Nd). Free value; log entry 2. -/
opaque Config.trngSafety : Nat → Nat

/-- SHAKE256 with an output of the given number of bytes (R143, R114). FIPS 202, outside the spec; log entry 3. -/
opaque Config.shake256 : Nat → Octets → Octets

/-- KMAC256(K, X, L, S) of NIST SP 800-185 (R346, R348), L in bits; log entry 3. -/
opaque Config.kmac256 : Octets → Octets → Nat → String → Octets

/-- The number of an event code within its block, by the happening's place in EventName, where the manual lists none (R322: the catalogue names it); log entry 4. -/
opaque Config.eventNumber : Nat → Nat

/-- TEMP of a record of the given block, instance and time, in 1/16 degree as a U16 (R320, R321); log entry 5. -/
opaque Config.temperature : Nat → Nat → Nat → Nat

/-- VOLT of a record of the given block, instance and time, in mV (R320, R321); log entry 5. -/
opaque Config.voltage : Nat → Nat → Nat → Nat

/-- DEVICE_UID, 16 bytes (R370). Per device; log entry 6. -/
opaque Config.deviceUid : Octets

/-- PASS_SALT, 16 bytes (R347, R359). Per device; log entry 6. -/
opaque Config.passSalt : Octets

/-- True for order code GV720-I, false for GV720-C (R1, R370). Per device; log entry 6. -/
opaque Config.industrial : Bool

/-- BOOT_ROM_VERSION (R370). Per device; log entry 6. -/
opaque Config.bootRomVersion : Nat

/-- The per-device initial key of the INTEGRATOR slot (R352, "Session life"), 32 bytes; log entry 6. -/
opaque Config.initialIntegratorKey : Octets

/-- IDENTITY_PUBLIC_KEY, 64 bytes (R452). Per device; log entry 6. -/
opaque Config.identityKey : Octets

/-- SEC_VERSION_FLOOR at delivery (R447, R452). Per device; log entry 6. -/
opaque Config.secVersionFloor : Nat

/-- The SLH-DSA signature of a digest by the device identity key (R331, R450). FIPS 205, outside the spec; log entry 3. -/
opaque Config.slhSign : Octets → Octets

/-- An SLH-DSA-SHAKE-256s signature of some bytes verifies under a key (R240, R444). FIPS 205, outside the spec; log entry 3. -/
opaque Config.slhVerify : Octets → Octets → Octets → Bool

/-- The board's LPDDR5X capacity code: 8, 16 or 32 GiB (R421). Per board; log entry 6. -/
opaque Config.memoryChoice : Nat

/-- What the board's PCIe link trained to, as PCIE_LINK reads (R403, R426). Per board; log entry 6. -/
opaque Config.pcieLink : Nat

/-- The pattern that the output unit delivers for a NaN in a format without one (R79 states none). Free value; log entry 82. -/
opaque Config.nanConverted : Nat → Nat

/-- The sum of two infinities of opposite sign in one reduction (R78 states none): 0 NaN, 1 +Inf, else −Inf, by the number of
the position. Free value; log entry 82. -/
opaque Config.oppositeInf : Nat → Nat

/-- An anomaly score that would fall below 0 (R113 gives its range alone), an FP16 magnitude, by its FP32 pattern. Free value;
log entry 82. -/
opaque Config.anomalyBelow : Nat → Nat

/-- The spectral front unit's constants for e^(−j2πm/N): the FP32 patterns of the real and the imaginary part (R95). Free value;
log entry 83. -/
opaque Config.twiddle : Nat → Nat → Nat × Nat

/-- The cluster, among those available, that the n-th batch pass runs on (R162 states no choice). Free value; log entry 84. -/
opaque Config.passCluster : Nat → Nat

/-- The servo's rate correction in ppb after its last offset samples, newest first (R397 gives bounds, no control law).
Free value; log entry 10. -/
opaque Config.servoRate : List Int → Int

/-- The answer to a PTP management GET with the given management ID (IEEE 1588-2019, outside the spec); log entry 10. -/
opaque Config.ptpManagement : Nat → List Int

/-- A field of a PTP message after an injector altered 4 of its bytes: OFFSET, XOR_MASK, the field's number and its value
(the bytes of a PTP message are IEEE 1588's, outside the spec). Free value; log entry 10. -/
opaque Config.ptpAltered : Nat → Nat → Nat → Int → Int

end Sys2Proof
end

