-- ==== Sys2Proof/Machine/Bits.lean ====
section
/-! DEFINITION. Little-endian fields (R2, R3) and the check values of R44 and R47. -/

namespace Sys2Proof.Machine

/-- The `n` little-endian bytes of `v` (R2). -/
def le : Nat → Nat → Octets
  | 0, _ => []
  | n + 1, v => v % 256 :: le n (v / 256)

/-- The value of little-endian bytes (R2). -/
def ofLe : Octets → Nat
  | [] => 0
  | b :: bs => b % 256 + 256 * ofLe bs

/-- The field of `n` bytes at byte offset `off` (R3). -/
def field (b : Octets) (off n : Nat) : Nat := ofLe ((b.drop off).take n)

/-- The bits [lo + w - 1 : lo] of `v` (R3). -/
def bitsOf (v lo w : Nat) : Nat := (v >>> lo) % 2 ^ w

/-- The number 1 for true, 0 for false. -/
def b01 (b : Bool) : Nat := if b then 1 else 0

/-- `n` applications of `f`. -/
def iter (f : Nat → Nat) : Nat → Nat → Nat
  | 0, v => v
  | n + 1, v => iter f n (f v)

/-- One bit of a CRC register of width `w`, most significant bit first. -/
def crcMsbBit (w poly c : Nat) : Nat :=
  if c.testBit (w - 1) then ((c <<< 1) % 2 ^ w) ^^^ poly else (c <<< 1) % 2 ^ w

/-- A CRC without reflection. -/
def crcMsb (w poly init : Nat) (b : Octets) : Nat :=
  b.foldl (fun c x => iter (crcMsbBit w poly) 8 (c ^^^ (x <<< (w - 8)))) init

/-- One bit of a reflected CRC register. -/
def crcLsbBit (poly c : Nat) : Nat := if c % 2 = 1 then (c / 2) ^^^ poly else c / 2

/-- A reflected 32-bit CRC, initial value and final XOR all ones. -/
def crcLsb32 (poly : Nat) (b : Octets) : Nat :=
  (b.foldl (fun c x => iter (crcLsbBit poly) 8 (c ^^^ x)) 0xFFFFFFFF) ^^^ 0xFFFFFFFF

/-- CRC-16 of R44: polynomial 0x1021, initial value 0xFFFF, no reflection, no final XOR. -/
def crc16 (b : Octets) : Nat := crcMsb 16 0x1021 0xFFFF b

/-- CRC-32C of R47, kind 0 (polynomial 0x1EDC_6F41, reflected). -/
def crc32c (b : Octets) : Nat := crcLsb32 0x82F63B78 b

/-- CRC-32 of R47, kind 1 (polynomial 0x04C1_1DB7, reflected). -/
def crc32 (b : Octets) : Nat := crcLsb32 0xEDB88320 b

/-- CRC-64 of R47, kind 2 (polynomial 0x42F0_E1EB_A9EA_3693, not reflected, initial value 0). -/
def crc64 (b : Octets) : Nat := crcMsb 64 0x42F0E1EBA9EA3693 0 b

/-- The check value of CHECK_KIND `k` (R47). -/
def checkValue (k : Nat) (b : Octets) : Nat :=
  if k = 0 then crc32c b else if k = 1 then crc32 b else crc64 b

/-- `b` cut or padded with zeros to `n` bytes. -/
def padTo (n : Nat) (b : Octets) : Octets := (b ++ List.replicate (n - b.length) 0).take n

/-- `ceil(a / b)`, 0 for b = 0 (R10). -/
def ceilDiv (a b : Nat) : Nat := (a + b - 1) / b

/-- `a - b` modulo 2^w, for counters that wrap. -/
def subMod (w a b : Nat) : Nat := (a % 2 ^ w + 2 ^ w - b % 2 ^ w) % 2 ^ w

/-- `a` comes after `b` in serial-number order modulo 2^32 (R252). -/
def serialAfter (a b : Nat) : Bool := decide (0 < subMod 32 a b ∧ subMod 32 a b < 2 ^ 31)

/-- Saturation at 0xFFFF (R320, R327). -/
def sat16 (n : Nat) : Nat := min n 0xFFFF

end Sys2Proof.Machine
end

