-- ==== Sys2Proof/Machine/EventTypes.lean ====
section
/-! DEFINITION. Event records (R320-R322): the happenings recorded, their severities, blocks and codes, and the 32 bytes. -/

namespace Sys2Proof.Machine

/-- The happenings the manual says are recorded, one constructor per event code (R322). -/
inductive EventName where
  -- the SAFETY codes of R322
  | coreMismatch | comparatorSplit | delayEcc | injectMissed | fatalTrap | sorterSplit | heartTrip | corridorFailure
  | configCrcMismatch | cdResetLocked | wdsReset | wdhReset | wdClockTrip | clockLoss | streamFaulted | escalatedStrict
  | tokenOrder | brakeTestFailed | brakeTestExpired | checkDieUncorrectable | pStoreLost
  -- the log's own codes
  | overflow | logCleared | batchSigned | batchDropped | marginPass | marginFail | marginAborted | marginDeferred
  -- injection and power codes listed by the manual
  | injectArmed | injectDisarmed
  -- porter
  | heartbeatAlive | strayLantern | streamDegraded | streamRecovered
  -- a "must" of another party broken, with no reaction stated (R9): a source, and the host
  | sourceBreach | hostBreach
  -- arrays and dispatcher
  | arithCheck | pairMismatch | auditPassMismatch | cycleStop | fallbackSwitch | streamShed | packageInvalid
  -- audit
  | manifestInvalid | strayLanding | foreignCompletion | deliveryCrc | toleranceElement | weightPage
  -- composer
  | setInvalid | mapInvalid | lanternStarved | lanternSentinel | escalated | returnNormal | attribution
  | attributionSentinel | noMap
  -- toll gate and host interface
  | resultDropped | lateRecord | malformedRecord | orphanRecord | slotOverrun | ringReadBeyond
  -- fabric and time
  | nodeCollision | pairBroken | managerLost | timeStep
  | mirrorGap
  -- keeper, watchdogs, roll call
  | splitFallback | splitAppHalted | wdsWarning | wdhWarning | wdhIgnored | disableDiscarded | rollCallFailed
  -- safety inputs and brake
  | pairDiscrepancy | pairTestFault | pairDisagree | feedbackFault
  | brakeTestOverdue
  -- sessions and dictionary
  | commitRefused
  -- power, reset, boot, identity
  | thermalWarn | thermalClear | guestBookLost | imagesLost | restartRefused | restartLapsed
deriving DecidableEq, Repr

/-- Severities of R320. -/
inductive Severity where
  | info | notice | warn | fault | safety
deriving DecidableEq, Repr

/-- The number of a severity (R320). -/
def Severity.code : Severity → Nat
  | .info => 0 | .notice => 1 | .warn => 2 | .fault => 3 | .safety => 4

/-- Index of a SAFETY code (R322). -/
def EventName.safetyIndex : EventName → Option Nat
  | .coreMismatch => some 0 | .comparatorSplit => some 1 | .delayEcc => some 2 | .injectMissed => some 3
  | .fatalTrap => some 4 | .sorterSplit => some 5 | .heartTrip => some 6 | .corridorFailure => some 7
  | .configCrcMismatch => some 8 | .cdResetLocked => some 9 | .wdsReset => some 10 | .wdhReset => some 11
  | .wdClockTrip => some 12 | .clockLoss => some 13 | .streamFaulted => some 14 | .escalatedStrict => some 15
  | .tokenOrder => some 16 | .brakeTestFailed => some 17 | .brakeTestExpired => some 18
  | .checkDieUncorrectable => some 19 | .pStoreLost => some 20
  | _ => none

/-- The one severity of each code (R322); where the manual states none, see log entry 9. -/
def EventName.severity (e : EventName) : Severity :=
  if e.safetyIndex.isSome then .safety
  else match e with
    | .overflow | .logCleared | .marginAborted | .marginDeferred | .injectArmed | .injectDisarmed | .streamRecovered
    | .returnNormal | .attribution | .resultDropped | .lateRecord | .orphanRecord | .ringReadBeyond | .wdhIgnored
    | .restartRefused | .restartLapsed | .disableDiscarded | .commitRefused | .thermalClear
    | .managerLost | .nodeCollision | .timeStep => .notice
    | .batchSigned | .marginPass => .info
    | .arithCheck | .pairMismatch | .auditPassMismatch | .cycleStop | .weightPage | .lanternSentinel
    | .attributionSentinel | .pairDiscrepancy | .pairTestFault | .pairDisagree
    | .feedbackFault => .fault
    | _ => .warn

/-- The BLOCK_ID of the reporting unit (table above R322). -/
def EventName.block : EventName → Nat
  | .heartbeatAlive | .strayLantern | .streamDegraded | .streamRecovered | .streamFaulted | .sourceBreach => 0x01
  | .arithCheck | .pairMismatch | .marginPass | .marginFail | .marginAborted | .marginDeferred => 0x02
  | .cycleStop | .fallbackSwitch | .streamShed | .packageInvalid => 0x03
  | .auditPassMismatch | .manifestInvalid | .strayLanding | .foreignCompletion | .deliveryCrc | .toleranceElement => 0x04
  | .setInvalid | .mapInvalid | .lanternStarved | .lanternSentinel | .escalated | .escalatedStrict | .returnNormal
  | .attribution | .attributionSentinel | .noMap | .checkDieUncorrectable => 0x05
  | .resultDropped => 0x06
  | .lateRecord | .malformedRecord | .orphanRecord | .slotOverrun | .ringReadBeyond | .hostBreach => 0x07
  | .weightPage | .imagesLost => 0x08
  | .nodeCollision | .pairBroken | .managerLost | .mirrorGap => 0x09
  | .timeStep => 0x0A
  | .coreMismatch | .comparatorSplit | .delayEcc | .injectMissed | .fatalTrap | .splitFallback | .splitAppHalted => 0x10
  | .corridorFailure | .heartTrip | .configCrcMismatch | .cdResetLocked => 0x11
  | .wdsReset | .wdhReset | .wdClockTrip | .wdsWarning | .wdhWarning | .wdhIgnored | .disableDiscarded => 0x12
  | .rollCallFailed => 0x13
  | .pairDiscrepancy | .pairTestFault | .pairDisagree => 0x14
  | .feedbackFault | .brakeTestFailed | .brakeTestExpired | .brakeTestOverdue | .restartRefused | .restartLapsed => 0x15
  | .commitRefused | .injectArmed | .injectDisarmed => 0x17
  | .clockLoss | .pStoreLost | .thermalWarn | .thermalClear
  | .guestBookLost => 0x18
  | .sorterSplit | .tokenOrder => 0x19
  | .overflow | .logCleared | .batchSigned | .batchDropped => 0x20

/-- EVENT_CODE (R322): fixed where the manual lists it, else numbered in its block by the catalogue. -/
def EventName.code (e : EventName) : Nat :=
  match e.safetyIndex with
  | some i => 0xFF00 + i
  | none =>
    match e with
    | .overflow => 0x2001 | .logCleared => 0x2002 | .batchSigned => 0x2003 | .batchDropped => 0x2004
    | .marginPass => 0x2010 | .marginFail => 0x2011 | .marginAborted => 0x2012 | .marginDeferred => 0x2013
    | .injectArmed => 0x1710 | .injectDisarmed => 0x1711 | .thermalWarn => 0x1820 | .thermalClear => 0x1821
    | _ => e.block * 256 + Config.eventNumber e.ctorIdx % 256

/-- One event record (R320); TEMP and VOLT are the samples of its unit and time, EVENT_CODE that of its name. -/
structure EventRec where
  name : EventName
  /-- DIE: true for the safety die -/
  onSafety : Bool := false
  first : Bool := false
  coalesced : Bool := false
  /-- TIME_LOCAL (R321) -/
  timeLocal : Bool := false
  /-- INSTANCE: [15:8] instance, [7:0] sub-unit -/
  inst : Nat := 0
  /-- CONTEXT: [15:12] kind, [11:0] index -/
  ctx : Nat := 0
  opDesc : Nat := 0
  count : Nat := 1
  detail : Nat := 0
  gts : Nat := 0
deriving DecidableEq, Repr

/-- Byte 0 of a record (R320). -/
def EventRec.severityByte (r : EventRec) : Nat :=
  r.name.severity.code + 8 * b01 r.onSafety + 16 * b01 r.first + 32 * b01 r.coalesced + 64 * b01 r.timeLocal

/-- Bytes 0–27 of a record (R320). -/
def EventRec.body (r : EventRec) : Octets :=
  le 1 r.severityByte ++ le 1 r.name.block ++ le 2 r.inst ++ le 2 r.name.code ++ le 2 r.ctx ++ le 4 r.opDesc
    ++ le 2 (sat16 r.count) ++ le 2 r.detail ++ le 8 r.gts
    ++ le 2 (Config.temperature r.name.block r.inst r.gts) ++ le 2 (Config.voltage r.name.block r.inst r.gts)

/-- The 32 bytes of a record (R320). -/
def EventRec.octets (r : EventRec) : Octets := r.body ++ le 4 (crc32c r.body)

/-- Identical occurrences (R324): same severity, block, instance and code. -/
def EventRec.same (a b : EventRec) : Bool :=
  decide (a.name = b.name ∧ a.inst = b.inst)

/-- CONTEXT of a stream. -/
def ctxStream (n : Nat) : Nat := 0x1000 + n
/-- CONTEXT of a partner. -/
def ctxPartner (p : Nat) : Nat := 0x2000 + p
/-- CONTEXT of a map or package slot. -/
def ctxSlot (k : Nat) : Nat := 0x3000 + k

/-- Loss counts by severity INFO, NOTICE, WARN, FAULT (R325, R327). -/
structure LostCounts where
  info : Nat := 0
  notice : Nat := 0
  warn : Nat := 0
  fault : Nat := 0
deriving DecidableEq, Repr

/-- One more record of a severity lost. -/
def LostCounts.add (l : LostCounts) : Severity → LostCounts
  | .info => { l with info := l.info + 1 }
  | .notice => { l with notice := l.notice + 1 }
  | .warn => { l with warn := l.warn + 1 }
  | .fault => { l with fault := l.fault + 1 }
  | .safety => l

/-- Some record was lost. -/
def LostCounts.any (l : LostCounts) : Bool := l.info + l.notice + l.warn + l.fault != 0

/-- The OVERFLOW record of a stage (R327): stage 0 collector, 1 corridor queue, 2 host ring, 3 safety log. -/
def overflowRec (stage : Nat) (l : LostCounts) (gts : Nat) : EventRec :=
  { name := .overflow, onSafety := stage == 3, ctx := stage, opDesc := sat16 l.info + sat16 l.notice * 65536,
    detail := sat16 l.warn, count := sat16 l.fault, gts := gts }

/-- One open window of the coalescing table (R324). -/
structure Window where
  record : EventRec
  opened : Nat
  counted : Nat := 0
  firstGts : Nat := 0
  last : EventRec
deriving DecidableEq, Repr

/-- A stage with SAFETY entries waiting (R326): records in it, those that wait, and the loss counts. -/
structure Stage where
  entries : List EventRec := []
  waiting : List EventRec := []
  lost : LostCounts := {}
  /-- lost since the stage's previous OVERFLOW record (R327) -/
  since : LostCounts := {}
deriving DecidableEq, Repr

/-- A SAFETY record joins the waiting queue of its code, or adds to the COUNT of the one waiting (R326). -/
def waitFor (w : List EventRec) (r : EventRec) : List EventRec :=
  if w.any (fun x => x.name == r.name)
  then w.map (fun x => if x.name = r.name then { x with count := x.count + r.count } else x)
  else w ++ [r]

/-- A record offered to a stage of `cap` entries, the last `kept` kept for SAFETY (R325, R326). -/
def Stage.offer (s : Stage) (cap kept : Nat) (r : EventRec) : Stage :=
  if r.name.severity = .safety then
    if s.waiting.any (fun x => x.name == r.name) ∨ cap ≤ s.entries.length
    then { s with waiting := waitFor s.waiting r }
    else { s with entries := s.entries ++ [r] }
  else if cap - kept ≤ s.entries.length
    then { s with lost := s.lost.add r.name.severity, since := s.since.add r.name.severity }
    else { s with entries := s.entries ++ [r] }

/-- The first SAFETY record that waits enters the stage when an entry is free (R326). -/
def Stage.admitWaiting (s : Stage) (cap : Nat) : Stage :=
  match s.waiting with
  | [] => s
  | r :: rest => if s.entries.length < cap then { s with entries := s.entries ++ [r], waiting := rest } else s

/-- The OVERFLOW record is due and fits (R327): at least 16 entries free outside those kept, and no SAFETY record waits. -/
def Stage.writeOverflow (s : Stage) (cap kept stage gts : Nat) : Stage :=
  if s.since.any ∧ s.waiting = [] ∧ s.entries.length + 16 ≤ cap - kept
  then { s with entries := s.entries ++ [overflowRec stage s.since gts], since := {} }
  else s

/-- LOST_* octets: U64 counts INFO, NOTICE, WARN, FAULT (R338). -/
def LostCounts.octets (l : LostCounts) : Octets := le 8 l.info ++ le 8 l.notice ++ le 8 l.warn ++ le 8 l.fault

/-- One failure signature (R329): its kind and the (key, value) pairs present, values as unsigned numbers or octets. -/
structure Signature where
  kind : Nat
  gts : Nat
  keys : List (Nat × Octets)
deriving DecidableEq, Repr

end Sys2Proof.Machine
end

