-- ==== Sys2Proof/Machine/Float.lean ====
section
/-! DEFINITION. The number formats of R74 as exact rationals, UB24 (R85), and FP32 rounding upward (R89). -/

namespace Sys2Proof.Machine

/-- A decoded floating value. -/
inductive FpVal where
  /-- a finite value -/
  | fin (q : Rat)
  /-- an infinity, with its sign -/
  | inf (neg : Bool)
  /-- not a number -/
  | nan
deriving DecidableEq, Repr

/-- 2^e for an integer e. -/
def pow2 (e : Int) : Rat := if 0 ≤ e then ((2 ^ e.toNat : Nat) : Rat) else mkRat 1 (2 ^ (-e).toNat)

/-- Decoding of a binary format with `eb` exponent bits, `fb` fraction bits and the given bias; `ieee` says that the all-ones
exponent encodes Inf and NaN (R74). -/
def decodeFp (eb fb : Nat) (bias : Int) (ieee : Bool) (b : Nat) : FpVal :=
  let f := b % 2 ^ fb
  let e := (b / 2 ^ fb) % 2 ^ eb
  let s := (b / 2 ^ (fb + eb)) % 2
  let sg : Rat := if s = 1 then -1 else 1
  if ieee && e == 2 ^ eb - 1 then (if f = 0 then .inf (s == 1) else .nan)
  else if e = 0 then .fin (sg * (f : Rat) * pow2 (1 - bias - fb))
  else .fin (sg * ((2 ^ fb + f : Nat) : Rat) * pow2 ((e : Int) - bias - fb))

/-- Two's-complement value of the low `w` bits. -/
def signedOf (w b : Nat) : Int := if b % 2 ^ w < 2 ^ (w - 1) then (b % 2 ^ w : Int) else (b % 2 ^ w : Int) - 2 ^ w

/-- The value of an operand of format code `c` (R74). -/
def decodeFormat (c b : Nat) : FpVal :=
  if c = 1 then .fin (signedOf 4 b)
  else if c = 2 then .fin (signedOf 8 b)
  else if c = 3 then .fin (signedOf 16 b)
  else if c = 4 then decodeFp 2 1 1 false (b % 16)
  else if c = 5 then decodeFp 2 3 1 false (b % 64)
  else if c = 6 then decodeFp 3 2 3 false (b % 64)
  else if c = 7 then (if b % 128 = 127 then .nan else decodeFp 4 3 7 false (b % 256))
  else if c = 8 then decodeFp 5 2 15 true (b % 256)
  else if c = 9 then decodeFp 8 7 127 true (b % 65536)
  else if c = 10 then decodeFp 5 10 15 true (b % 65536)
  else decodeFp 8 23 127 true (b % 2 ^ 32)

/-- The FP16 value of a 16-bit pattern. -/
def fp16 (b : Nat) : FpVal := decodeFormat 10 b

/-- The FP32 value of a 32-bit pattern. -/
def fp32 (b : Nat) : FpVal := decodeFormat 11 b

/-- Bits of one element of format code `c` (R45, R74). -/
def formatBits (c : Nat) : Nat :=
  if c = 1 ∨ c = 4 then 4 else if c = 5 ∨ c = 6 then 6 else if c = 2 ∨ c = 7 ∨ c = 8 then 8
  else if c = 3 ∨ c = 9 ∨ c = 10 then 16 else 32

/-- Integer formats are codes 0x1 to 0x3 (R74). -/
def isIntFormat (c : Nat) : Bool := decide (1 ≤ c ∧ c ≤ 3)

/-- Significand bits p and the least exponent of a normal value, for floating format `c` (R74). -/
def formatShape (c : Nat) : Nat × Int :=
  if c = 4 then (2, 0) else if c = 5 then (4, 0) else if c = 6 then (3, -2) else if c = 7 then (4, -6)
  else if c = 8 then (3, -14) else if c = 9 then (8, -126) else if c = 10 then (11, -14) else (24, -126)

/-- floor(log2 v) of a positive rational. -/
def floorLog2 (v : Rat) : Int :=
  let k : Int := (Nat.log2 v.num.toNat : Int) - (Nat.log2 v.den : Int)
  if v < pow2 k then k - 1 else if pow2 (k + 1) ≤ v then k + 1 else k

/-- ulp(v) of R89 in format `c`, of a magnitude. -/
def ulpOf (c : Nat) (v : Rat) : Rat :=
  let s := formatShape c
  if v ≤ 0 then pow2 (s.2 - s.1 + 1)
  else pow2 (max (floorLog2 v) s.2 - s.1 + 1)

/-- The least FP32 value at or above a nonnegative value (R89: every step rounded upward). -/
def up32 (v : Rat) : Rat :=
  if v ≤ 0 then 0
  else
    let q := pow2 (max (floorLog2 v - 23) (-149))
    ((v / q).ceil : Rat) * q

/-- The value of a UB24 pattern: E in [23:16], F in [15:0] (R85). -/
def ub24 (b : Nat) : Rat :=
  let e := (b / 65536) % 256
  let f := b % 65536
  if e = 0 then (f : Rat) * pow2 (-142) else ((65536 + f : Nat) : Rat) * pow2 ((e : Int) - 143)

/-- ceil(log2 k), 0 for k at most 1. -/
def clog2 (k : Nat) : Nat := if k ≤ 1 then 0 else Nat.log2 (k - 1) + 1

/-- The declared accumulation formats of the table above R89. -/
inductive AccFormat where
  | fp32 | fp16 | bf16 | int32
deriving DecidableEq, Repr

/-- Unit roundoff u_acc (table above R89); 0 where accumulation is exact. -/
def AccFormat.u : AccFormat → Rat
  | .fp32 => pow2 (-24) | .fp16 => pow2 (-11) | .bf16 => pow2 (-8) | .int32 => 0

/-- Reduction classes (table above R89). -/
inductive Reduction where
  | sequential | tree | blocked (b : Nat)
deriving DecidableEq, Repr

/-- n_eff of a reduction of length k (table above R89). -/
def Reduction.depth : Reduction → Nat → Nat
  | .sequential, k => k
  | .tree, k => max 1 (clog2 k)
  | .blocked b, k => if k ≤ b then k else b + clog2 ((k + b - 1) / b)

/-- n_ref = ceil(K / 32), one rounding per block (R76, R89). -/
def refDepth (k : Nat) : Nat := (k + 31) / 32

/-- γ(n, u) = n·u / (1 − n·u) in FP32, each step rounded upward (R89). -/
def gamma (n : Nat) (u : Rat) : Rat :=
  let p := (n : Rat) * u
  up32 (up32 p / (1 - p))

/-- R92: a floating layer is refused when n_eff·u_acc or n_ref·2^-24 reaches one half. -/
def roundingRefused (acc : AccFormat) (r : Reduction) (k : Nat) : Bool :=
  decide (1 / 2 ≤ (r.depth k : Rat) * acc.u) || decide (1 / 2 ≤ (refDepth k : Rat) * pow2 (-24))

/-- The tolerance of R89, for an accelerator's depth `nEff` and roundoff `u`. -/
def tolerance (nEff : Nat) (u : Rat) (k kAct outFmt : Nat) (mb ya yr : Rat) : Rat :=
  let g := up32 (gamma nEff u + gamma (refDepth k) (pow2 (-24)))
  up32 (up32 (g * mb) + up32 ((kAct : Rat) * ulpOf outFmt (max |ya| |yr|)))

/-- The outcome of one comparison (R89, R91). -/
inductive Agreement where
  | agrees | disagrees | excluded
deriving DecidableEq, Repr

/-- One floating element compared by R89 and R91: `saturated` is BOUND_SATURATED (R86), `opFlag` the non-finite-operand
flag of R91. -/
def floatAgreement (nEff : Nat) (u : Rat) (k kAct outFmt : Nat)
    (mb : Rat) (saturated opFlag : Bool) (ya yr : FpVal) : Agreement :=
  if saturated then .excluded
  else match ya, yr with
    | .fin a, .fin b =>
      if up32 |a - b| ≤ tolerance nEff u k kAct outFmt mb a b then .agrees else .disagrees
    | _, .fin _ => .disagrees
    | a, b => if !opFlag then .excluded else if a = b then .agrees else .disagrees

end Sys2Proof.Machine
end

