-- ==== Sys2Proof/Machine/ImageTypes.lean ====
section
/-! DEFINITION. Signed images as the GV720 reads them: sentinel packages (R110-R113), model manifests (R136), lantern sets
(R169) and compatibility maps (R184), each with the facts its load checks ask of it. -/

namespace Sys2Proof.Machine

/-- Slot states of the sentinel slot state table. -/
inductive SlotState where
  | empty | loading | verifying | valid | invalid
deriving DecidableEq, Repr

/-- The number of a slot state. -/
def SlotState.code : SlotState → Nat
  | .empty => 0 | .loading => 1 | .verifying => 2 | .valid => 3 | .invalid => 4

/-- What every signed image states of itself: header magic, version and target right; signed by an enrolled integrator key;
its SHAKE256 digest. -/
structure ImageHead where
  formatOk : Bool := true
  signed : Bool := true
  digest : Octets := []
deriving DecidableEq, Repr

/-- Layer kinds of a package, and MAC layers of a manifest, with the numbers R110 limits: kernel, stride, dilation, the zero
padding before the first position of each axis, groups, input and output channels. -/
inductive Layer where
  | spectral (n : Nat)
  | magnitude
  | conv1d (float : Bool) (kernel stride dilation pad groups inCh outCh : Nat)
  | conv2d (float : Bool) (kh kw sh sw dh dw ph pw groups inCh outCh : Nat)
  | dense (float : Bool) (inputs outputs : Nat)
  | scaleBias
  | act (table : Nat)
  | pool (wh ww : Nat)
  | add
  | concat
  | head
  | other (kind : Nat)
deriving DecidableEq, Repr

/-- One segment of a PWL table (R111): its breakpoint, the lower end, with slope and intercept, as FP32 patterns. -/
structure PwlSeg where
  breakpoint : Nat
  slope : Nat
  intercept : Nat
deriving DecidableEq, Repr

/-- An activation table (R111): DIRECT with its output values by 8-bit input code, or PWL with its segments. -/
inductive ActTable where
  | direct (values : List Int)
  | pwl (segs : List PwlSeg)
deriving DecidableEq, Repr

/-- A sentinel package image. -/
structure Package where
  hd : ImageHead := {}
  packageId : Nat := 0
  /-- operand format of the input, as PAYLOAD_FORMAT -/
  inFormat : Nat := 0
  inLength : Nat := 0
  macPerFrame : Nat := 0
  startOffset : Nat := 0
  macCycles : Nat := 0
  epilogueCycles : Nat := 0
  weightKib : Nat := 0
  workKib : Nat := 0
  classes : Nat := 0
  layers : List Layer := []
  /-- cycles of the 64 tile groups of each MAC layer (R112) -/
  groups : List (List Nat) := []
  tables : List ActTable := []
  /-- floating output format of the package's elements, for the pair comparison (R98) -/
  outFormat : Nat := 11
deriving DecidableEq, Repr

/-- A tap descriptor (R136, R141). -/
structure Tap where
  format : Nat
  mx : Bool := false
  dims : List Nat
deriving DecidableEq, Repr

/-- A segment descriptor (R136). -/
structure Segment where
  audited : Bool := true
  mac : Layer
  /-- SCALE_BIAS, when present: scale and bias of each output channel, FP32 patterns -/
  scaleBias : Option (List (Nat × Nat)) := none
  /-- the tap added, when ADD is present -/
  addTap : Option Nat := none
  /-- the activation table, when ACT is present -/
  act : Option ActTable := none
  /-- requantisation, when present: the multiplier of each output channel, an FP32 pattern, and the zero point -/
  requant : Option (List Nat × Int) := none
  acc : AccFormat := .fp32
  reduction : Reduction := .sequential
  kAct : Nat := 0
  weightFormat : Nat := 0
deriving DecidableEq, Repr

/-- A weight blob: its length and digest. -/
structure Blob where
  length : Nat
  digest : Octets
deriving DecidableEq, Repr

/-- A model manifest image. -/
structure Manifest where
  hd : ImageHead := {}
  modelId : Nat := 0
  taps : List Tap := []
  segments : List Segment := []
  topK : Nat := 1
  anomaly : Option Nat := none
  resultBytes : Nat := 0
  blobs : List Blob := []
deriving DecidableEq, Repr

/-- A band [lo, hi] of FP16 patterns. -/
structure Band where
  lo : Nat
  hi : Nat
deriving DecidableEq, Repr

/-- One lantern (R169). -/
structure Lantern where
  id : Nat
  format : Nat := 0
  samples : Nat := 0
  payload : Octets := []
  sentClass : Nat := 0
  sentScore : Band
  sentAnomaly : Band
  accClasses : List Nat := []
  accScore : Band
  accAnomaly : Option Band := none
deriving DecidableEq, Repr

/-- A lantern set image (R169). -/
structure LanternSet where
  hd : ImageHead := {}
  packageId : Nat := 0
  modelId : Nat := 0
  lanterns : List Lantern := []
deriving DecidableEq, Repr

/-- One accelerator class of a map (R184): MASK as a number, DELTA and FLOOR as FP16 patterns. -/
structure MapEntry where
  mask : Nat
  delta : Nat
  floor : Nat
deriving DecidableEq, Repr

/-- A compatibility map image (R184). -/
structure CompatMap where
  hd : ImageHead := {}
  modelId : Nat := 0
  packageId : Nat := 0
  accClasses : Nat := 0
  sentClasses : Nat := 0
  thrAcc : Nat := 0
  thrSent : Nat := 0
  entries : List MapEntry := []
deriving DecidableEq, Repr

/-- One operand as it is read from cluster SRAM: its word, and the E8M0 byte of its MX block, 127 where it has none (R75). -/
structure Operand where
  word : Nat
  scale : Nat := 127
deriving DecidableEq, Repr

/-- An image slot: its state, image, stored fault code, and whether a reset emptied it (R115, R132). -/
structure Slot (α : Type) where
  state : SlotState := .empty
  image : Option α := none
  fault : Nat := 0
  emptied : Bool := false
deriving DecidableEq, Repr

/-- The slot is EMPTY, or has not been VALID since a reset emptied it: its image may be written although a binding names it
(R115). -/
def Slot.vacant {α : Type} (s : Slot α) : Bool := s.state == .empty || s.emptied

/-- A VALID slot's image. -/
def Slot.ok {α : Type} (s : Slot α) : Option α := if s.state = .valid then s.image else none

/-- A sentinel output (R113): top class, FP16 score, FP16 anomaly score. -/
structure SentOut where
  cls : Nat
  score : Nat
  anomaly : Nat
deriving DecidableEq, Repr

/-- A result record that has landed (R409), parsed, with the time of its landing. -/
structure ResultRec where
  octets : Octets
  ctx : Nat
  stream : Nat
  counter : Nat
  lantern : Bool
  model : Nat
  gts : Nat
  topK : Nat
  classes : List Nat
  scores : List Nat
  anomaly : Nat
  commit : Octets
  landed : Nat
  /-- the audit epoch in which it landed (R148) -/
  auditEpoch : Nat := 0
deriving DecidableEq, Repr

/-- The rank-1 class. -/
def ResultRec.cls (r : ResultRec) : Nat := r.classes.headD 0xFFFF
/-- The rank-1 score, an FP16 pattern. -/
def ResultRec.score (r : ResultRec) : Nat := r.scores.headD 0

/-- Two FP16 patterns compared as values: lo ≤ v, false when either is a NaN. -/
def fp16Le (a b : Nat) : Bool :=
  match fp16 a, fp16 b with
  | .fin x, .fin y => decide (x ≤ y)
  | .inf n, .inf m => n || !m
  | .inf n, .fin _ => n
  | .fin _, .inf m => !m
  | _, _ => false

/-- The FP16 pattern is finite. -/
def fp16Finite (a : Nat) : Bool := match fp16 a with | .fin _ => true | _ => false

/-- The FP16 pattern is a NaN. -/
def fp16Nan (a : Nat) : Bool := match fp16 a with | .nan => true | _ => false

/-- An FP16 pattern lies in a band. -/
def Band.holds (b : Band) (v : Nat) : Bool := fp16Le b.lo v && fp16Le v b.hi

/-- The band is well formed: finite bounds, lower at or below upper (R169). -/
def Band.ok (b : Band) : Bool := fp16Finite b.lo && fp16Finite b.hi && fp16Le b.lo b.hi

end Sys2Proof.Machine
end

