-- ==== Sys2Proof/Machine/Table.lean ====
section
/-! DEFINITION. A sparse table: a list of (key, value) pairs in one canonical form, keys strictly rising and no entry equal
to the default, so that equal tables are equal lists. A memory is the table of bytes with default 0. -/

namespace Sys2Proof.Machine

/-- A sparse table with keys in Nat. -/
abbrev Tbl (α : Type) := List (Nat × α)

/-- The entry of key `i`, `d` where none is listed. -/
def Tbl.get {α : Type} (d : α) : Tbl α → Nat → α
  | [], _ => d
  | (k, v) :: t, i => if i = k then v else Tbl.get d t i

/-- The table with `v` at key `i`; an entry equal to the default `d` is removed. -/
def Tbl.set {α : Type} [DecidableEq α] (d : α) : Tbl α → Nat → α → Tbl α
  | [], i, v => if v = d then [] else [(i, v)]
  | (k, w) :: t, i, v =>
    if i = k then (if v = d then t else (i, v) :: t)
    else if i < k then (if v = d then (k, w) :: t else (i, v) :: (k, w) :: t)
    else (k, w) :: Tbl.set d t i v

/-- The entry of key `i` replaced by its image under `f`. -/
def Tbl.upd {α : Type} [DecidableEq α] (d : α) (t : Tbl α) (i : Nat) (f : α → α) : Tbl α :=
  t.set d i (f (t.get d i))

/-- Every key of the table lies above `lo`, keys rise strictly, and no entry equals the default. -/
def Tbl.wfFrom {α : Type} [DecidableEq α] (d : α) : Nat → Tbl α → Bool
  | _, [] => true
  | lo, (k, v) :: t => decide (lo ≤ k) && decide (v ≠ d) && Tbl.wfFrom d (k + 1) t

/-- The canonical form of a table. -/
def Tbl.wf {α : Type} [DecidableEq α] (d : α) (t : Tbl α) : Bool := Tbl.wfFrom d 0 t

/-- A byte-addressed memory: Host.Cell pairs; an unlisted byte reads 0 (log entry 8). -/
abbrev Memory := Tbl Byte

/-- The byte at address `a`. -/
def Memory.readByte (m : Memory) (a : Nat) : Byte := Tbl.get 0 m a

/-- One byte written. -/
def Memory.writeByte (m : Memory) (a : Nat) (b : Byte) : Memory := Tbl.set 0 m a b

/-- The `n` bytes from address `a`. -/
def Memory.read (m : Memory) (a : Nat) : Nat → Octets
  | 0 => []
  | n + 1 => (m.readByte a).toNat :: Memory.read m (a + 1) n

/-- The bytes `bs` written from address `a`. -/
def Memory.write (m : Memory) (a : Nat) : Octets → Memory
  | [] => m
  | b :: bs => Memory.write (m.writeByte a (BitVec.ofNat 8 b)) (a + 1) bs

/-- The canonical form of a memory. -/
def Memory.wf (m : Memory) : Bool := Tbl.wf 0 m

end Sys2Proof.Machine
end

