-- ==== Sys2Proof/Machine/OdTable.lean ====
section
/-! DEFINITION. The object dictionary: one row per entry of the spec's tables (R360), its types, access classes,
ranges and defaults, and the reading and writing of the value stores built on it. -/

namespace Sys2Proof.Machine

/-- The types of R339. -/
inductive OdType where
  | bool | u8 | u16 | u32 | u64 | i8 | i16 | i32 | i64 | r32 | vstr | ostr | domain
deriving DecidableEq, Repr

/-- The access classes of R340. -/
inductive Access where
  | const | ro | rw | wo | rws
deriving DecidableEq, Repr

/-- The persistence classes of R340; `none` where the table has a dash. -/
inductive Pers where
  | v | w | p | g | none
deriving DecidableEq, Repr

/-- The range of an entry whose bounds are fixed numbers (R356). -/
inductive OdRange where
  /-- every value of the type -/
  | any
  /-- lo to hi -/
  | span (lo hi : Nat)
  /-- lo to hi, a multiple of m -/
  | mult (lo hi m : Nat)
  /-- one of a list -/
  | oneOf (l : List Nat)
  /-- 0, or lo to hi -/
  | zeroOr (lo hi : Nat)
  /-- lo to hi except x -/
  | except (lo hi x : Nat)
  /-- lo to hi, or x for none -/
  | orNone (lo hi x : Nat)
  /-- a multiple of m -/
  | align (m : Nat)
  /-- only bits of m -/
  | mask (m : Nat)
  /-- two's complement, lo to hi -/
  | signed (lo hi : Int)
  /-- octets, lo to hi of them -/
  | len (lo hi : Nat)
  /-- a valid PAYLOAD_FORMAT of R43 -/
  | format
deriving DecidableEq, Repr

/-- A value of an entry: a number of the type's width (two's complement where signed), or octets. -/
inductive Val where
  | num (n : Nat)
  | bytes (b : Octets)
deriving DecidableEq, Repr

/-- The number of a value, 0 for octets. -/
def Val.n : Val → Nat
  | .num n => n
  | .bytes _ => 0

/-- The octets of a value, none for a number. -/
def Val.b : Val → Octets
  | .num _ => []
  | .bytes b => b

/-- One row of the dictionary (R339, R360). -/
structure OdRow where
  /-- the entry's name -/
  name : String
  /-- index of instance 0 -/
  index : Nat
  /-- number of instances, at consecutive indices -/
  count : Nat
  /-- first subindex -/
  sub : Nat
  /-- number of consecutive subindices of the same entry -/
  subs : Nat
  type : OdType
  access : Access
  /-- default (R8) -/
  dflt : Val
  range : OdRange
  pers : Pers
deriving DecidableEq, Repr

/-- A valid PAYLOAD_FORMAT: format code 0x1–0xB in [3:0], bit 4 complex, the rest 0 (R43). -/
def validFormat (n : Nat) : Bool := decide (1 ≤ n % 16 ∧ n % 16 ≤ 11 ∧ n / 32 = 0)

/-- Bits of a numeric type; 0 for the others (R339). -/
def OdType.bits : OdType → Nat
  | .bool => 8 | .u8 => 8 | .i8 => 8 | .u16 => 16 | .i16 => 16 | .u32 => 32 | .i32 => 32 | .r32 => 32
  | .u64 => 64 | .i64 => 64 | .vstr => 0 | .ostr => 0 | .domain => 0

/-- The type code of R357. -/
def OdType.code : OdType → Nat
  | .bool => 1 | .u8 => 2 | .u16 => 3 | .u32 => 4 | .u64 => 5 | .i8 => 6 | .i16 => 7 | .i32 => 8 | .i64 => 9
  | .r32 => 10 | .vstr => 11 | .ostr => 12 | .domain => 13

/-- A numeric type: BOOL, integer or R32. -/
def OdType.numeric (t : OdType) : Bool := t.bits != 0

/-- The value lies in a range (R356); `w` is the width of the entry's type. -/
def OdRange.holds (w : Nat) : OdRange → Val → Bool
  | .any, _ => true
  | .span lo hi, v => decide (lo ≤ v.n ∧ v.n ≤ hi)
  | .mult lo hi m, v => decide (lo ≤ v.n ∧ v.n ≤ hi ∧ v.n % m = 0)
  | .oneOf l, v => l.contains v.n
  | .zeroOr lo hi, v => decide (v.n = 0 ∨ (lo ≤ v.n ∧ v.n ≤ hi))
  | .except lo hi x, v => decide (lo ≤ v.n ∧ v.n ≤ hi ∧ v.n ≠ x)
  | .orNone lo hi x, v => decide ((lo ≤ v.n ∧ v.n ≤ hi) ∨ v.n = x)
  | .align m, v => decide (v.n % m = 0)
  | .mask m, v => decide (v.n &&& m = v.n)
  | .signed lo hi, v => decide (lo ≤ signedOf w v.n ∧ signedOf w v.n ≤ hi)
  | .len lo hi, v => decide (lo ≤ v.b.length ∧ v.b.length ≤ hi)
  | .format, v => validFormat v.n

/-- The key under which the value of instance `i` of a row is held. -/
def OdRow.key (r : OdRow) (i : Nat) : Nat := (r.index + i) * 256 + r.sub

/-- The key of a row at subindex offset `j`. -/
def OdRow.keySub (r : OdRow) (j : Nat) : Nat := r.index * 256 + r.sub + j

/-- A store of entry values: absent means the row's default. -/
abbrev OdStore := List (Nat × Val)

/-- The value stored at a key, if any. -/
def OdStore.find? : OdStore → Nat → Option Val
  | [], _ => none
  | (k, v) :: t, i => if i = k then some v else OdStore.find? t i

/-- The value of instance `i` of a row. -/
def OdStore.get (s : OdStore) (r : OdRow) (i : Nat := 0) : Val := (s.find? (r.key i)).getD r.dflt

/-- The number of instance `i` of a row. -/
def OdStore.n (s : OdStore) (r : OdRow) (i : Nat := 0) : Nat := (s.get r i).n

/-- A BOOL of instance `i` of a row. -/
def OdStore.on (s : OdStore) (r : OdRow) (i : Nat := 0) : Bool := s.n r i == 1

/-- The store with key `k` holding `v`, or absent when `v` is the default `d`; keys rise strictly. -/
def OdStore.put (d : Val) : OdStore → Nat → Val → OdStore
  | [], i, v => if v = d then [] else [(i, v)]
  | (k, w) :: t, i, v =>
    if i = k then (if v = d then t else (i, v) :: t)
    else if i < k then (if v = d then (k, w) :: t else (i, v) :: (k, w) :: t)
    else (k, w) :: OdStore.put d t i v

/-- Instance `i` of a row set to `v`. -/
def OdStore.set (s : OdStore) (r : OdRow) (v : Val) (i : Nat := 0) : OdStore := s.put r.dflt (r.key i) v

/-- Instance `i` of a row set to a number. -/
def OdStore.setN (s : OdStore) (r : OdRow) (n : Nat) (i : Nat := 0) : OdStore := s.set r (.num n) i

/-- A counter increased by `n`, wrapping at its width (R339). -/
def OdStore.bump (s : OdStore) (r : OdRow) (i : Nat := 0) (n : Nat := 1) : OdStore :=
  s.setN r ((s.n r i + n) % 2 ^ r.type.bits) i

/-- OD 0x2C00:05 (R26): 1,000–100,000. -/
def Od.AUDIT_EPOCH_US : OdRow := ⟨"AUDIT_EPOCH_US", 0x2C00, 1, 0x05, 1, .u32, .rws, .num 10000, .span 1000 100000, .p⟩

/-- OD 0x2C00:06 (R26): 10–1,000, multiple of 10. -/
def Od.AUDIT_HORIZON_MS : OdRow := ⟨"AUDIT_HORIZON_MS", 0x2C00, 1, 0x06, 1, .u16, .rws, .num 40, .mult 10 1000 10, .p⟩

/-- OD 0x2C00:07 (R26): 1–500. -/
def Od.TAP_DELIVERY_MS : OdRow := ⟨"TAP_DELIVERY_MS", 0x2C00, 1, 0x07, 1, .u16, .rws, .num 20, .span 1 500, .p⟩

/-- OD 0x3000:02 (R26): 4–1,000. -/
def Od.RESULT_DEADLINE_US : OdRow := ⟨"RESULT_DEADLINE_US", 0x3000, 1, 0x02, 1, .u16, .rws, .num 20, .span 4 1000, .p⟩

/-- OD 0x2000:01 (R70): 0–1. -/
def Od.STREAM_ENABLE : OdRow := ⟨"STREAM_ENABLE", 0x2000, 12, 0x01, 1, .bool, .rws, .num 0, .span 0 1, .p⟩

/-- OD 0x2000:02 (R70): 0 one lane, 1 bonded pair. -/
def Od.LANE_BOND : OdRow := ⟨"LANE_BOND", 0x2000, 12, 0x02, 1, .u8, .rws, .num 0, .span 0 1, .p⟩

/-- OD 0x2000:03 (R70): 0 10.3125, 1 12.890625, 2 25.78125 GBd. -/
def Od.LINE_RATE : OdRow := ⟨"LINE_RATE", 0x2000, 12, 0x03, 1, .u8, .rws, .num 2, .span 0 2, .p⟩

/-- OD 0x2000:04 (R70): 0–1. -/
def Od.FEC_ENABLE : OdRow := ⟨"FEC_ENABLE", 0x2000, 12, 0x04, 1, .bool, .rws, .num 0, .span 0 1, .p⟩

/-- OD 0x2000:05 (R70): 1–65,535. -/
def Od.FRAME_SLOTS : OdRow := ⟨"FRAME_SLOTS", 0x2000, 12, 0x05, 1, .u16, .rws, .num 1, .span 1 65535, .p⟩

/-- OD 0x2000:06 (R70): 64–16,384, multiple of 64. -/
def Od.PAYLOAD_MAX : OdRow := ⟨"PAYLOAD_MAX", 0x2000, 12, 0x06, 1, .u16, .rws, .num 5952, .mult 64 16384 64, .p⟩

/-- OD 0x2000:07 (R70): 0 LENIENT, 1 STRICT. -/
def Od.STRICTNESS : OdRow := ⟨"STRICTNESS", 0x2000, 12, 0x07, 1, .u8, .rws, .num 1, .span 0 1, .p⟩

/-- OD 0x2000:08 (R70): 100–1,000,000. -/
def Od.FRAME_GAP_MAX_NS : OdRow := ⟨"FRAME_GAP_MAX_NS", 0x2000, 12, 0x08, 1, .u32, .rws, .num 1000, .span 100 1000000, .p⟩

/-- OD 0x2000:09 (R70): 4–10,000. -/
def Od.STALL_LIMIT_US : OdRow := ⟨"STALL_LIMIT_US", 0x2000, 12, 0x09, 1, .u16, .rws, .num 10, .span 4 10000, .p⟩

/-- OD 0x2000:0A (R70): STALL_LIMIT_US–10,000,000. -/
def Od.STALL_SAFE_US : OdRow := ⟨"STALL_SAFE_US", 0x2000, 12, 0x0A, 1, .u32, .rws, .num 100, .span 0 10000000, .p⟩

/-- OD 0x2000:0B (R70): 2–64. -/
def Od.RESYNC_RUN : OdRow := ⟨"RESYNC_RUN", 0x2000, 12, 0x0B, 1, .u8, .rws, .num 4, .span 2 64, .p⟩

/-- OD 0x2000:0C (R70): 10–10,000,000. -/
def Od.AGE_MAX_US : OdRow := ⟨"AGE_MAX_US", 0x2000, 12, 0x0C, 1, .u32, .rws, .num 1000, .span 10 10000000, .p⟩

/-- OD 0x2000:0D (R70): 1–ERR_W. -/
def Od.ERR_D : OdRow := ⟨"ERR_D", 0x2000, 12, 0x0D, 1, .u16, .rws, .num 8, .span 1 65535, .p⟩

/-- OD 0x2000:0E (R70): 16–65,535. -/
def Od.ERR_W : OdRow := ⟨"ERR_W", 0x2000, 12, 0x0E, 1, .u16, .rws, .num 1024, .span 16 65535, .p⟩

/-- OD 0x2000:0F (R70): 0–1. -/
def Od.TEST_ALLOW : OdRow := ⟨"TEST_ALLOW", 0x2000, 12, 0x0F, 1, .bool, .rws, .num 0, .span 0 1, .v⟩

/-- OD 0x2000:10 (R70): 1 = restart. -/
def Od.STREAM_RESTART : OdRow := ⟨"STREAM_RESTART", 0x2000, 12, 0x10, 1, .u8, .wo, .num 0, .span 1 1, .v⟩

/-- OD 0x2000:11 (R70): 0 IDLE, 1 HUNT, 2 SYNC, 3 RUN, 4 RESYNC, 5 STALLED, 6 DEGRADED, 7 FAULTED. -/
def Od.STREAM_STATE : OdRow := ⟨"STREAM_STATE", 0x2000, 12, 0x11, 1, .u8, .ro, .num 0, .any, .v⟩

/-- OD 0x2000:12 (R70): —. -/
def Od.FRAMES_ACCEPTED : OdRow := ⟨"FRAMES_ACCEPTED", 0x2000, 12, 0x12, 1, .u64, .ro, .num 0, .any, .v⟩

/-- OD 0x2000:13 (R70): frames failing any check. -/
def Od.INGRESS_FAULTS : OdRow := ⟨"INGRESS_FAULTS", 0x2000, 12, 0x13, 1, .u64, .ro, .num 0, .any, .v⟩

/-- OD 0x2000:14 (R70): —. -/
def Od.NO_INPUT_SLOTS : OdRow := ⟨"NO_INPUT_SLOTS", 0x2000, 12, 0x14, 1, .u64, .ro, .num 0, .any, .v⟩

/-- OD 0x2000:15 (R70): stray blocks + duplicates. -/
def Od.STRAY_AND_DUPLICATE : OdRow := ⟨"STRAY_AND_DUPLICATE", 0x2000, 12, 0x15, 1, .u32, .ro, .num 0, .any, .v⟩

/-- OD 0x2000:16 (R70): —. -/
def Od.LINK_DELAY_PS : OdRow := ⟨"LINK_DELAY_PS", 0x2000, 12, 0x16, 1, .u32, .ro, .num 4294967295, .any, .v⟩

/-- OD 0x2040:01 (R70): 1–0xFFFF_FFFF. -/
def Od.SOURCE_ID : OdRow := ⟨"SOURCE_ID", 0x2040, 12, 0x01, 1, .u32, .rws, .num 0, .span 1 4294967295, .p⟩

/-- OD 0x2040:02 (R70): 0–2. -/
def Od.CHECK_KIND : OdRow := ⟨"CHECK_KIND", 0x2040, 12, 0x02, 1, .u8, .rws, .num 0, .span 0 2, .p⟩

/-- OD 0x2040:03 (R70): valid codes of R43. -/
def Od.PAYLOAD_FORMAT : OdRow := ⟨"PAYLOAD_FORMAT", 0x2040, 12, 0x03, 1, .u8, .rws, .num 19, .format, .p⟩

/-- OD 0x2040:04 (R70): 0 = off; 1–0xFFFF_FFFF. -/
def Od.SAMPLE_PERIOD_FS : OdRow := ⟨"SAMPLE_PERIOD_FS", 0x2040, 12, 0x04, 1, .u32, .rws, .num 0, .any, .p⟩

/-- OD 0x2040:05 (R70): 2–10,000. -/
def Od.GTS_TOL_NS : OdRow := ⟨"GTS_TOL_NS", 0x2040, 12, 0x05, 1, .u16, .rws, .num 10, .span 2 10000, .p⟩

/-- OD 0x2040:06 (R70): 100–10,000. -/
def Od.TIME_PERIOD_US : OdRow := ⟨"TIME_PERIOD_US", 0x2040, 12, 0x06, 1, .u16, .rws, .num 1000, .span 100 10000, .p⟩

/-- OD 0x3400:01 (R109): 0 STANDARD, 1 FULL. -/
def Od.REDUNDANCY_MODE : OdRow := ⟨"REDUNDANCY_MODE", 0x3400, 1, 0x01, 1, .u8, .rws, .num 0, .span 0 1, .p⟩

/-- OD 0x3400:02 (R109): 192 bytes; bit 96·c + r set when row r of cluster c is fenced. -/
def Od.FENCE_MAP : OdRow := ⟨"FENCE_MAP", 0x3400, 1, 0x02, 1, .ostr, .ro, .bytes (List.replicate 192 0), .len 192 192, .p⟩

/-- OD 0x3400:03 (R109): bit c set when cluster c is fenced. -/
def Od.CLUSTER_FENCED : OdRow := ⟨"CLUSTER_FENCED", 0x3400, 1, 0x03, 1, .u16, .ro, .num 0, .any, .p⟩

/-- OD 0x3400:04 (R109): bitmap of clusters to clear (R106). -/
def Od.FENCE_CLEAR : OdRow := ⟨"FENCE_CLEAR", 0x3400, 1, 0x04, 1, .u16, .wo, .num 0, .any, .v⟩

/-- OD 0x3400:05 (R109): 10–60,000. -/
def Od.ROW_FENCE_WINDOW_MS : OdRow := ⟨"ROW_FENCE_WINDOW_MS", 0x3400, 1, 0x05, 1, .u16, .rws, .num 1000, .span 10 60000, .p⟩

/-- OD 0x3400:06 (R109): 1–16. -/
def Od.ROW_FENCE_LIMIT : OdRow := ⟨"ROW_FENCE_LIMIT", 0x3400, 1, 0x06, 1, .u8, .rws, .num 8, .span 1 16, .p⟩

/-- OD 0x3400:07 (R109): 194 bytes; rows as in FENCE_MAP, then bit 1,536 + c for cluster c. -/
def Od.WATCH_MAP : OdRow := ⟨"WATCH_MAP", 0x3400, 1, 0x07, 1, .ostr, .ro, .bytes (List.replicate 194 0), .len 194 194, .p⟩

/-- OD 0x3400:08 (R109): —. -/
def Od.RESIDUE_MISMATCHES : OdRow := ⟨"RESIDUE_MISMATCHES", 0x3400, 1, 0x08, 1, .u64, .ro, .num 0, .any, .v⟩

/-- OD 0x3400:09 (R109): Parseval and spot-bin failures. -/
def Od.SPECTRAL_FAILS : OdRow := ⟨"SPECTRAL_FAILS", 0x3400, 1, 0x09, 1, .u32, .ro, .num 0, .any, .v⟩

/-- OD 0x3400:0A (R109): —. -/
def Od.PAIR_MISMATCHES : OdRow := ⟨"PAIR_MISMATCHES", 0x3400, 1, 0x0A, 1, .u32, .ro, .num 0, .any, .v⟩

/-- OD 0x3400:0B (R109): elements excluded under R86 and R91. -/
def Od.BOUND_SATURATED : OdRow := ⟨"BOUND_SATURATED", 0x3400, 1, 0x0B, 1, .u32, .ro, .num 0, .any, .v⟩

/-- OD 0x3400:0C (R109): 100–10,000. -/
def Od.BOUND_TEST_PERIOD_MS : OdRow := ⟨"BOUND_TEST_PERIOD_MS", 0x3400, 1, 0x0C, 1, .u16, .rws, .num 1000, .span 100 10000, .p⟩

/-- OD 0x3400:0D (R109): corrected single-bit errors in cluster SRAM. -/
def Od.SRAM_CORRECTED : OdRow := ⟨"SRAM_CORRECTED", 0x3400, 1, 0x0D, 1, .u64, .ro, .num 0, .any, .v⟩

/-- OD 0x3400:0E (R109): bitmap of clusters to re-test; SERVICE session, device state SERVICE (R107). -/
def Od.ARRAY_RETEST : OdRow := ⟨"ARRAY_RETEST", 0x3400, 1, 0x0E, 1, .u16, .wo, .num 0, .any, .v⟩

/-- OD 0x3400:0F (R109): bit c set when cluster c has passed the re-test in the present stay in SERVICE (R107). -/
def Od.RETEST_PASSED : OdRow := ⟨"RETEST_PASSED", 0x3400, 1, 0x0F, 1, .u16, .ro, .num 0, .any, .v⟩

/-- OD 0x3400:10 (R109): [3:0] 0 IDLE, 1 RUNNING, 2 DONE; [7:4] cluster under test while RUNNING. -/
def Od.RETEST_STATE : OdRow := ⟨"RETEST_STATE", 0x3400, 1, 0x10, 1, .u8, .ro, .num 0, .any, .v⟩

/-- OD 0x2400:01 (R134): 0–8,000, in 1/1,000 cluster. -/
def Od.AUDIT_RESERVE_PM : OdRow := ⟨"AUDIT_RESERVE_PM", 0x2400, 1, 0x01, 1, .u16, .rws, .num 0, .span 0 8000, .p⟩

/-- OD 0x2400:02 (R134): f × 2^16. -/
def Od.PLAN_SHARE : OdRow := ⟨"PLAN_SHARE", 0x2400, 1, 0x02, 1, .u32, .ro, .num 0, .any, .v⟩

/-- OD 0x2400:03 (R134): B of R120. -/
def Od.PLAN_BUDGET_MAC : OdRow := ⟨"PLAN_BUDGET_MAC", 0x2400, 1, 0x03, 1, .u32, .ro, .num 0, .any, .v⟩

/-- OD 0x2400:04 (R134): bit c set when CCc holds a portion. -/
def Od.PLAN_CLUSTERS : OdRow := ⟨"PLAN_CLUSTERS", 0x2400, 1, 0x04, 1, .u16, .ro, .num 0, .any, .v⟩

/-- OD 0x2400:05 (R134): —. -/
def Od.REPLANS : OdRow := ⟨"REPLANS", 0x2400, 1, 0x05, 1, .u32, .ro, .num 0, .any, .v⟩

/-- OD 0x2400:06 (R134): bit n set when Sn is shed. -/
def Od.SHED_STREAMS : OdRow := ⟨"SHED_STREAMS", 0x2400, 1, 0x06, 1, .u16, .ro, .num 0, .any, .v⟩

/-- OD 0x2400:07 (R134): bit n set when Sn runs its fallback. -/
def Od.FALLBACK_STREAMS : OdRow := ⟨"FALLBACK_STREAMS", 0x2400, 1, 0x07, 1, .u16, .ro, .num 0, .any, .v⟩

/-- OD 0x2400:08 (R134): stops under R126. -/
def Od.CYCLE_STOPS : OdRow := ⟨"CYCLE_STOPS", 0x2400, 1, 0x08, 1, .u32, .ro, .num 0, .any, .v⟩

/-- OD 0x2400:09 (R134): frames under R123. -/
def Od.EARLY_FRAMES : OdRow := ⟨"EARLY_FRAMES", 0x2400, 1, 0x09, 1, .u32, .ro, .num 0, .any, .v⟩

/-- OD 0x2401:01 (R134): 0–4, as in the slot state table. -/
def Od.SLOT_STATE : OdRow := ⟨"SLOT_STATE", 0x2401, 16, 0x01, 1, .u8, .ro, .num 0, .any, .w⟩

/-- OD 0x2401:02 (R134): signed .gsp image. -/
def Od.SLOT_IMAGE : OdRow := ⟨"SLOT_IMAGE", 0x2401, 16, 0x02, 1, .domain, .wo, .bytes [], .len 0 67108864, .w⟩

/-- OD 0x2401:03 (R134): 32 bytes, SHAKE256 of the image. -/
def Od.IMAGE_DIGEST : OdRow := ⟨"IMAGE_DIGEST", 0x2401, 16, 0x03, 1, .ostr, .ro, .bytes (List.replicate 32 0), .len 32 32, .w⟩

/-- OD 0x2401:04 (R134): —. -/
def Od.PACKAGE_ID : OdRow := ⟨"PACKAGE_ID", 0x2401, 16, 0x04, 1, .u32, .ro, .num 0, .any, .w⟩

/-- OD 0x2401:05 (R134): —. -/
def Od.MAC_PER_FRAME : OdRow := ⟨"MAC_PER_FRAME", 0x2401, 16, 0x05, 1, .u32, .ro, .num 0, .any, .w⟩

/-- OD 0x2401:06 (R134): [31:16] START_OFFSET, [15:0] MAC_CYCLES. -/
def Od.CYCLES : OdRow := ⟨"CYCLES", 0x2401, 16, 0x06, 1, .u32, .ro, .num 0, .any, .w⟩

/-- OD 0x2401:07 (R134): 32 bytes; all zero = any signed image. -/
def Od.SLOT_EXPECTED_DIGEST : OdRow := ⟨"SLOT_EXPECTED_DIGEST", 0x2401, 16, 0x07, 1, .ostr, .rws, .bytes (List.replicate 32 0), .len 32 32, .p⟩

/-- OD 0x2401:08 (R134): 0 none, 1–7 as in R114. -/
def Od.SLOT_LOAD_FAULT : OdRow := ⟨"SLOT_LOAD_FAULT", 0x2401, 16, 0x08, 1, .u8, .ro, .num 0, .any, .w⟩

/-- OD 0x2420:01 (R134): 0–15; 0xFF none. -/
def Od.PRIMARY_SLOT : OdRow := ⟨"PRIMARY_SLOT", 0x2420, 12, 0x01, 1, .u8, .rws, .num 255, .orNone 0 15 255, .p⟩

/-- OD 0x2420:02 (R134): 0–15; 0xFF none. -/
def Od.FALLBACK_SLOT : OdRow := ⟨"FALLBACK_SLOT", 0x2420, 12, 0x02, 1, .u8, .rws, .num 255, .orNone 0 15 255, .p⟩

/-- OD 0x2420:03 (R134): 0–255; 0 is shed last. -/
def Od.SHED_PRIORITY : OdRow := ⟨"SHED_PRIORITY", 0x2420, 12, 0x03, 1, .u8, .rws, .num 0, .span 0 255, .p⟩

/-- OD 0x2420:04 (R134): slot running; 0xFF shed or unbound. -/
def Od.ACTIVE_SLOT : OdRow := ⟨"ACTIVE_SLOT", 0x2420, 12, 0x04, 1, .u8, .ro, .num 255, .any, .v⟩

/-- OD 0x2420:05 (R134): bytes 0–3: clusters of the first copy's two portions, then the second copy's; 0xFF none. -/
def Od.PLACEMENT : OdRow := ⟨"PLACEMENT", 0x2420, 12, 0x05, 1, .u32, .ro, .num 4294967295, .any, .v⟩

/-- OD 0x2C00:01 (R168): 1–64. -/
def Od.SAMPLE_CHANNELS : OdRow := ⟨"SAMPLE_CHANNELS", 0x2C00, 1, 0x01, 1, .u8, .rws, .num 8, .span 1 64, .p⟩

/-- OD 0x2C00:02 (R168): 1–64. -/
def Od.SAMPLE_POSITIONS : OdRow := ⟨"SAMPLE_POSITIONS", 0x2C00, 1, 0x02, 1, .u8, .rws, .num 4, .span 1 64, .p⟩

/-- OD 0x2C00:03 (R168): 0–4,096. -/
def Od.AUDITS_OPEN : OdRow := ⟨"AUDITS_OPEN", 0x2C00, 1, 0x03, 1, .u16, .ro, .num 0, .span 0 4096, .v⟩

/-- OD 0x2C00:04 (R168): —. -/
def Od.AUDIT_EPOCH_NUMBER : OdRow := ⟨"AUDIT_EPOCH_NUMBER", 0x2C00, 1, 0x04, 1, .u32, .ro, .num 0, .any, .v⟩

/-- OD 0x2C00:08 (R168): —. -/
def Od.AUDITED_OK_COUNT : OdRow := ⟨"AUDITED_OK_COUNT", 0x2C00, 1, 0x08, 1, .u64, .ro, .num 0, .any, .v⟩

/-- OD 0x2C00:09 (R168): —. -/
def Od.AUDITED_FAIL_COUNT : OdRow := ⟨"AUDITED_FAIL_COUNT", 0x2C00, 1, 0x09, 1, .u64, .ro, .num 0, .any, .v⟩

/-- OD 0x2C00:0A (R168): —. -/
def Od.AUDIT_SKIPPED_COUNT : OdRow := ⟨"AUDIT_SKIPPED_COUNT", 0x2C00, 1, 0x0A, 1, .u64, .ro, .num 0, .any, .v⟩

/-- OD 0x2C00:0B (R168): 24 bytes: U32 counts for ledger, resources, allowance, cluster faults, weights and power, in that order. -/
def Od.SKIP_CAUSES : OdRow := ⟨"SKIP_CAUSES", 0x2C00, 1, 0x0B, 1, .ostr, .ro, .bytes (List.replicate 24 0), .len 24 24, .v⟩

/-- OD 0x2C00:0C (R168): —. -/
def Od.LATE_DELIVERIES : OdRow := ⟨"LATE_DELIVERIES", 0x2C00, 1, 0x0C, 1, .u32, .ro, .num 0, .any, .v⟩

/-- OD 0x2C00:0D (R168): —. -/
def Od.STRAY_LANDING_WRITES : OdRow := ⟨"STRAY_LANDING_WRITES", 0x2C00, 1, 0x0D, 1, .u32, .ro, .num 0, .any, .v⟩

/-- OD 0x2C10:01 (R168): 0–4, as in the slot state table. -/
def Od.MANIFEST_STATE : OdRow := ⟨"MANIFEST_STATE", 0x2C10, 32, 0x01, 1, .u8, .ro, .num 0, .any, .w⟩

/-- OD 0x2C10:02 (R168): signed manifest image. -/
def Od.MANIFEST_IMAGE : OdRow := ⟨"MANIFEST_IMAGE", 0x2C10, 32, 0x02, 1, .domain, .wo, .bytes [], .len 0 67108864, .w⟩

/-- OD 0x2C10:03 (R168): —. -/
def Od.MODEL_ID : OdRow := ⟨"MODEL_ID", 0x2C10, 32, 0x03, 1, .u32, .ro, .num 0, .any, .w⟩

/-- OD 0x2C10:04 (R168): 32 bytes, SHAKE256 of the image. -/
def Od.MANIFEST_DIGEST : OdRow := ⟨"MANIFEST_DIGEST", 0x2C10, 32, 0x04, 1, .ostr, .ro, .bytes (List.replicate 32 0), .len 32 32, .w⟩

/-- OD 0x2C10:05 (R168): 32 bytes; all zero = any signed image. -/
def Od.MANIFEST_EXPECTED_DIGEST : OdRow := ⟨"MANIFEST_EXPECTED_DIGEST", 0x2C10, 32, 0x05, 1, .ostr, .rws, .bytes (List.replicate 32 0), .len 32 32, .p⟩

/-- OD 0x2C10:06 (R168): 0 ABSENT, 1 LOADING, 2 VERIFIED, 3 FAILED. -/
def Od.WEIGHTS_STATE : OdRow := ⟨"WEIGHTS_STATE", 0x2C10, 32, 0x06, 1, .u8, .ro, .num 0, .any, .w⟩

/-- OD 0x2C10:07 (R168): 0 none, 1–8 as in R137. -/
def Od.MANIFEST_LOAD_FAULT : OdRow := ⟨"MANIFEST_LOAD_FAULT", 0x2C10, 32, 0x07, 1, .u8, .ro, .num 0, .any, .w⟩

/-- OD 0x2C10:08 (R168): S + 64. -/
def Od.DELIVERY_BYTES : OdRow := ⟨"DELIVERY_BYTES", 0x2C10, 32, 0x08, 1, .u32, .ro, .num 0, .any, .w⟩

/-- OD 0x2C10:09 (R168): MACs per audited frame at the settings in force. -/
def Od.AUDIT_MAC : OdRow := ⟨"AUDIT_MAC", 0x2C10, 32, 0x09, 1, .u32, .ro, .num 0, .any, .v⟩

/-- OD 0x2C40:01 (R168): 0–31; 0xFF none. -/
def Od.MANIFEST_SLOT : OdRow := ⟨"MANIFEST_SLOT", 0x2C40, 12, 0x01, 1, .u8, .rws, .num 255, .orNone 0 31 255, .p⟩

/-- OD 0x2C40:02 (R168): 0–65,535, in 1/65,536. -/
def Od.AUDIT_FRACTION : OdRow := ⟨"AUDIT_FRACTION", 0x2C40, 12, 0x02, 1, .u16, .rws, .num 0, .any, .p⟩

/-- OD 0x2D00:01 (R168): bus address, 64-byte aligned. -/
def Od.MAILBOX_BASE : OdRow := ⟨"MAILBOX_BASE", 0x2D00, 256, 0x01, 1, .u64, .rw, .num 0, .align 64, .v⟩

/-- OD 0x2D00:02 (R168): 0 = no audits; power of 2, 16–8,192. -/
def Od.MAILBOX_ENTRIES : OdRow := ⟨"MAILBOX_ENTRIES", 0x2D00, 256, 0x02, 1, .u16, .rw, .num 0, .oneOf [0, 16, 32, 64, 128, 256, 512, 1024, 2048, 4096, 8192], .v⟩

/-- OD 0x2D00:03 (R168): PCIe requester ID of the context. -/
def Od.REQUESTER_ID : OdRow := ⟨"REQUESTER_ID", 0x2D00, 256, 0x03, 1, .u16, .rw, .num 0, .any, .v⟩

/-- OD 0x2080:01 (R202): 0 INSERT, 1 SUBSTITUTE. -/
def Od.LANTERN_MODE : OdRow := ⟨"LANTERN_MODE", 0x2080, 12, 0x01, 1, .u8, .rws, .num 0, .span 0 1, .p⟩

/-- OD 0x2080:02 (R202): 0 = off; 16–65,535. -/
def Od.LANTERN_PERIOD : OdRow := ⟨"LANTERN_PERIOD", 0x2080, 12, 0x02, 1, .u16, .rws, .num 1024, .zeroOr 16 65535, .p⟩

/-- OD 0x2080:03 (R202): signed lantern set image. -/
def Od.LANTERN_SET : OdRow := ⟨"LANTERN_SET", 0x2080, 12, 0x03, 1, .domain, .wo, .bytes [], .len 0 67108864, .w⟩

/-- OD 0x2080:04 (R202): 0–4, as in the slot state table. -/
def Od.LANTERN_SET_STATE : OdRow := ⟨"LANTERN_SET_STATE", 0x2080, 12, 0x04, 1, .u8, .ro, .num 0, .any, .w⟩

/-- OD 0x2080:05 (R202): 32 bytes; all zero = any signed set. -/
def Od.EXPECTED_SET_DIGEST : OdRow := ⟨"EXPECTED_SET_DIGEST", 0x2080, 12, 0x05, 1, .ostr, .rws, .bytes (List.replicate 32 0), .len 32 32, .p⟩

/-- OD 0x2080:06 (R202): 0 note, 1 NOT_BELIEVED. -/
def Od.STARVED_ACTION : OdRow := ⟨"STARVED_ACTION", 0x2080, 12, 0x06, 1, .u8, .rws, .num 0, .span 0 1, .p⟩

/-- OD 0x2080:07 (R202): —. -/
def Od.LANTERNS_PASSED : OdRow := ⟨"LANTERNS_PASSED", 0x2080, 12, 0x07, 1, .u32, .ro, .num 0, .any, .v⟩

/-- OD 0x2080:08 (R202): including missing. -/
def Od.LANTERNS_FAILED : OdRow := ⟨"LANTERNS_FAILED", 0x2080, 12, 0x08, 1, .u32, .ro, .num 0, .any, .v⟩

/-- OD 0x2080:09 (R202): —. -/
def Od.LANTERNS_MISSING : OdRow := ⟨"LANTERNS_MISSING", 0x2080, 12, 0x09, 1, .u32, .ro, .num 0, .any, .v⟩

/-- OD 0x2080:0A (R202): slots counted under R174. -/
def Od.LANTERN_DEFERRALS : OdRow := ⟨"LANTERN_DEFERRALS", 0x2080, 12, 0x0A, 1, .u32, .ro, .num 0, .any, .v⟩

/-- OD 0x2080:0B (R202): —. -/
def Od.LANTERN_STARVED : OdRow := ⟨"LANTERN_STARVED", 0x2080, 12, 0x0B, 1, .bool, .ro, .num 0, .any, .v⟩

/-- OD 0x3000:03 (R202): —. -/
def Od.VERDICT_EPOCH : OdRow := ⟨"VERDICT_EPOCH", 0x3000, 1, 0x03, 1, .u32, .ro, .num 0, .any, .g⟩

/-- OD 0x3000:04 (R202): GTS of the last boundary. -/
def Od.EPOCH_BOUNDARY_GTS : OdRow := ⟨"EPOCH_BOUNDARY_GTS", 0x3000, 1, 0x04, 1, .u64, .ro, .num 0, .any, .v⟩

/-- OD 0x3000:05 (R202): bit 0 commit, 1 safe-state entry, 2 safe-state exit, 3 check-die reset. -/
def Od.EPOCH_CAUSES : OdRow := ⟨"EPOCH_CAUSES", 0x3000, 1, 0x05, 1, .u8, .ro, .num 0, .any, .v⟩

/-- OD 0x3000:06 (R202): 1–40. -/
def Od.SECOND_OPINION_MS : OdRow := ⟨"SECOND_OPINION_MS", 0x3000, 1, 0x06, 1, .u8, .rws, .num 5, .span 1 40, .p⟩

/-- OD 0x3000:07 (R202): 0–1. -/
def Od.SECOND_OPINION_ENABLE : OdRow := ⟨"SECOND_OPINION_ENABLE", 0x3000, 1, 0x07, 1, .bool, .rws, .num 1, .span 0 1, .p⟩

/-- OD 0x3010:01 (R202): 0–4, as in the slot state table. -/
def Od.MAP_STATE : OdRow := ⟨"MAP_STATE", 0x3010, 16, 0x01, 1, .u8, .ro, .num 0, .any, .w⟩

/-- OD 0x3010:02 (R202): signed map image. -/
def Od.MAP_IMAGE : OdRow := ⟨"MAP_IMAGE", 0x3010, 16, 0x02, 1, .domain, .wo, .bytes [], .len 0 67108864, .w⟩

/-- OD 0x3010:03 (R202): 32 bytes, SHAKE256 of the image. -/
def Od.MAP_DIGEST : OdRow := ⟨"MAP_DIGEST", 0x3010, 16, 0x03, 1, .ostr, .ro, .bytes (List.replicate 32 0), .len 32 32, .w⟩

/-- OD 0x3010:04 (R202): 32 bytes; all zero = any signed image. -/
def Od.MAP_EXPECTED_DIGEST : OdRow := ⟨"MAP_EXPECTED_DIGEST", 0x3010, 16, 0x04, 1, .ostr, .rws, .bytes (List.replicate 32 0), .len 32 32, .p⟩

/-- OD 0x3010:05 (R202): 0 none, 1–4 as in R185. -/
def Od.MAP_LOAD_FAULT : OdRow := ⟨"MAP_LOAD_FAULT", 0x3010, 16, 0x05, 1, .u8, .ro, .num 0, .any, .w⟩

/-- OD 0x3020:01 (R202): 0–15; 0xFF none. -/
def Od.MAP_SLOT : OdRow := ⟨"MAP_SLOT", 0x3020, 12, 0x01, 1, .u8, .rws, .num 255, .orNone 0 15 255, .p⟩

/-- OD 0x3020:02 (R202): 1 to min(255, ESC_W). -/
def Od.ESC_D : OdRow := ⟨"ESC_D", 0x3020, 12, 0x02, 1, .u8, .rws, .num 3, .span 1 255, .p⟩

/-- OD 0x3020:03 (R202): 8–4,096. -/
def Od.ESC_W : OdRow := ⟨"ESC_W", 0x3020, 12, 0x03, 1, .u16, .rws, .num 64, .span 8 4096, .p⟩

/-- OD 0x3020:04 (R202): 0 note, 1 NOT_BELIEVED. -/
def Od.ESCALATION_ACTION : OdRow := ⟨"ESCALATION_ACTION", 0x3020, 12, 0x04, 1, .u8, .rws, .num 1, .span 0 1, .p⟩

/-- OD 0x3020:05 (R202): 0–64. -/
def Od.FORCED_AUDITS : OdRow := ⟨"FORCED_AUDITS", 0x3020, 12, 0x05, 1, .u8, .rws, .num 8, .span 0 64, .p⟩

/-- OD 0x3020:06 (R202): 0–1. -/
def Od.DISAGREE_AUDIT : OdRow := ⟨"DISAGREE_AUDIT", 0x3020, 12, 0x06, 1, .bool, .rws, .num 1, .span 0 1, .p⟩

/-- OD 0x3020:07 (R202): —. -/
def Od.ESCALATED : OdRow := ⟨"ESCALATED", 0x3020, 12, 0x07, 1, .bool, .ro, .num 0, .any, .v⟩

/-- OD 0x3020:08 (R202): —. -/
def Od.DISAGREEMENTS : OdRow := ⟨"DISAGREEMENTS", 0x3020, 12, 0x08, 1, .u64, .ro, .num 0, .any, .v⟩

/-- OD 0x3020:09 (R202): —. -/
def Od.ESCALATIONS : OdRow := ⟨"ESCALATIONS", 0x3020, 12, 0x09, 1, .u32, .ro, .num 0, .any, .v⟩

/-- OD 0x3020:0A (R202): 12 bytes: U32 counts SENTINEL, ACCELERATOR, UNDECIDED. -/
def Od.ATTRIBUTIONS : OdRow := ⟨"ATTRIBUTIONS", 0x3020, 12, 0x0A, 1, .ostr, .ro, .bytes (List.replicate 12 0), .len 12 12, .v⟩

/-- OD 0x3020:0B (R202): 0–15; 0xFF none. -/
def Od.FALLBACK_MAP_SLOT : OdRow := ⟨"FALLBACK_MAP_SLOT", 0x3020, 12, 0x0B, 1, .u8, .rws, .num 255, .orNone 0 15 255, .p⟩

/-- OD 0x3000:08 (R228): 10–10,000. -/
def Od.HEARTBEAT_PERIOD_US : OdRow := ⟨"HEARTBEAT_PERIOD_US", 0x3000, 1, 0x08, 1, .u16, .rws, .num 100, .span 10 10000, .p⟩

/-- OD 0x3000:09 (R228): 2–1,000. -/
def Od.RELEASE_WAIT_US : OdRow := ⟨"RELEASE_WAIT_US", 0x3000, 1, 0x09, 1, .u16, .rws, .num 20, .span 2 1000, .p⟩

/-- OD 0x3000:0A (R228): —. -/
def Od.RETRACTS_SENT : OdRow := ⟨"RETRACTS_SENT", 0x3000, 1, 0x0A, 1, .u64, .ro, .num 0, .any, .v⟩

/-- OD 0x3000:0B (R228): —. -/
def Od.FENCES_SENT : OdRow := ⟨"FENCES_SENT", 0x3000, 1, 0x0B, 1, .u32, .ro, .num 0, .any, .v⟩

/-- OD 0x3000:0C (R228): —. -/
def Od.RESULTS_RELEASED : OdRow := ⟨"RESULTS_RELEASED", 0x3000, 1, 0x0C, 1, .u64, .ro, .num 0, .any, .v⟩

/-- OD 0x3000:0D (R228): —. -/
def Od.MIRROR_DROPPED : OdRow := ⟨"MIRROR_DROPPED", 0x3000, 1, 0x0D, 1, .u32, .ro, .num 0, .any, .v⟩

/-- OD 0x3030:01 (R228): 0 HELD, 1 EARLY. -/
def Od.RELEASE_MODE : OdRow := ⟨"RELEASE_MODE", 0x3030, 12, 0x01, 1, .u8, .rws, .num 0, .span 0 1, .p⟩

/-- OD 0x3040:01 (R228): 0–1. -/
def Od.VE_ENABLE : OdRow := ⟨"VE_ENABLE", 0x3040, 4, 0x01, 1, .bool, .rws, .num 0, .span 0 1, .p⟩

/-- OD 0x3040:02 (R228): 0 10.3125, 1 12.890625, 2 25.78125 GBd. -/
def Od.VE_LINE_RATE : OdRow := ⟨"VE_LINE_RATE", 0x3040, 4, 0x02, 1, .u8, .rws, .num 2, .span 0 2, .p⟩

/-- OD 0x3040:03 (R228): 0–1. -/
def Od.VE_FEC : OdRow := ⟨"VE_FEC", 0x3040, 4, 0x03, 1, .bool, .rws, .num 0, .span 0 1, .p⟩

/-- OD 0x3040:04 (R228): 0 DOWN, 1 BLOCK_LOCK. -/
def Od.VE_STATE : OdRow := ⟨"VE_STATE", 0x3040, 4, 0x04, 1, .u8, .ro, .num 0, .any, .v⟩

/-- OD 0x3040:05 (R228): —. -/
def Od.VE_RX_ERRORS : OdRow := ⟨"VE_RX_ERRORS", 0x3040, 4, 0x05, 1, .u32, .ro, .num 0, .any, .v⟩

/-- OD 0x3100:01 (R228): 0–1. -/
def Od.CONSUMER_ENABLE : OdRow := ⟨"CONSUMER_ENABLE", 0x3100, 256, 0x01, 1, .bool, .rws, .num 0, .span 0 1, .p⟩

/-- OD 0x3100:02 (R228): 0–3. -/
def Od.CONSUMER_LANE : OdRow := ⟨"CONSUMER_LANE", 0x3100, 256, 0x02, 1, .u8, .rws, .num 0, .span 0 3, .p⟩

/-- OD 0x3100:03 (R228): 0–63. -/
def Od.CONSUMER_ID : OdRow := ⟨"CONSUMER_ID", 0x3100, 256, 0x03, 1, .u8, .rws, .num 0, .span 0 63, .p⟩

/-- OD 0x3100:04 (R228): bit n for Sn; bits [15:12] 0. -/
def Od.RESULT_STREAMS : OdRow := ⟨"RESULT_STREAMS", 0x3100, 256, 0x04, 1, .u16, .rws, .num 0, .mask 4095, .p⟩

/-- OD 0x3100:05 (R228): bit n for Sn; bits [15:12] 0. -/
def Od.VERDICT_STREAMS : OdRow := ⟨"VERDICT_STREAMS", 0x3100, 256, 0x05, 1, .u16, .rws, .num 0, .mask 4095, .p⟩

/-- OD 0x3100:06 (R228): last valid CREDIT_TOTAL. -/
def Od.CREDIT_TOTAL : OdRow := ⟨"CREDIT_TOTAL", 0x3100, 256, 0x06, 1, .u32, .ro, .num 0, .any, .v⟩

/-- OD 0x3100:07 (R228): —. -/
def Od.CREDIT_GEN : OdRow := ⟨"CREDIT_GEN", 0x3100, 256, 0x07, 1, .u8, .ro, .num 0, .any, .v⟩

/-- OD 0x3100:08 (R228): —. -/
def Od.RESULTS_SENT : OdRow := ⟨"RESULTS_SENT", 0x3100, 256, 0x08, 1, .u64, .ro, .num 0, .any, .v⟩

/-- OD 0x3100:09 (R228): R224. -/
def Od.RESULTS_DROPPED : OdRow := ⟨"RESULTS_DROPPED", 0x3100, 256, 0x09, 1, .u32, .ro, .num 0, .any, .v⟩

/-- OD 0x6000:10 (R261): 0 PAIRED, 1 SPLIT; next boot. -/
def Od.CORE_MODE : OdRow := ⟨"CORE_MODE", 0x6000, 1, 0x10, 1, .u8, .rws, .num 0, .span 0 1, .p⟩

/-- OD 0x6000:11 (R261): 0 PAIRED, 1 SPLIT. -/
def Od.CORE_MODE_ACTIVE : OdRow := ⟨"CORE_MODE_ACTIVE", 0x6000, 1, 0x11, 1, .u8, .ro, .num 0, .any, .v⟩

/-- OD 0x6000:12 (R261): 8–64; next boot. -/
def Od.KEEPER_LAG : OdRow := ⟨"KEEPER_LAG", 0x6000, 1, 0x12, 1, .u8, .rws, .num 16, .span 8 64, .p⟩

/-- OD 0x6000:13 (R261): signed application image. -/
def Od.SPLIT_APP_IMAGE : OdRow := ⟨"SPLIT_APP_IMAGE", 0x6000, 1, 0x13, 1, .domain, .wo, .bytes [], .len 0 67108864, .p⟩

/-- OD 0x6000:14 (R261): 32 bytes; all zero = any signed image. -/
def Od.SPLIT_APP_DIGEST : OdRow := ⟨"SPLIT_APP_DIGEST", 0x6000, 1, 0x14, 1, .ostr, .rws, .bytes (List.replicate 32 0), .len 32 32, .p⟩

/-- OD 0x6000:15 (R261): 0 NONE, 1 RUNNING, 2 HALTED. -/
def Od.SPLIT_APP_STATE : OdRow := ⟨"SPLIT_APP_STATE", 0x6000, 1, 0x15, 1, .u8, .ro, .num 0, .any, .v⟩

/-- OD 0x6000:20 (R261): 3,000–100,000. -/
def Od.HEART_LOSS_NS : OdRow := ⟨"HEART_LOSS_NS", 0x6000, 1, 0x20, 1, .u32, .rws, .num 3000, .span 3000 100000, .p⟩

/-- OD 0x6000:21 (R261): 0–1. -/
def Od.KILL_POWER : OdRow := ⟨"KILL_POWER", 0x6000, 1, 0x21, 1, .bool, .rws, .num 1, .span 0 1, .p⟩

/-- OD 0x6000:22 (R261): 1–10. -/
def Od.CD_RESET_LIMIT : OdRow := ⟨"CD_RESET_LIMIT", 0x6000, 1, 0x22, 1, .u8, .rws, .num 3, .span 1 10, .p⟩

/-- OD 0x6000:23 (R261): 10–3,600. -/
def Od.CD_RESET_WINDOW_S : OdRow := ⟨"CD_RESET_WINDOW_S", 0x6000, 1, 0x23, 1, .u16, .rws, .num 60, .span 10 3600, .p⟩

/-- OD 0x6000:24 (R261): write 0 only, SERVICE session (R259). -/
def Od.CD_RESET_LOCKED : OdRow := ⟨"CD_RESET_LOCKED", 0x6000, 1, 0x24, 1, .bool, .rw, .num 0, .span 0 0, .g⟩

/-- OD 0x6000:25 (R261): 1–1,000, per 1 ms. -/
def Od.CORRIDOR_ERR_LIMIT : OdRow := ⟨"CORRIDOR_ERR_LIMIT", 0x6000, 1, 0x25, 1, .u16, .rws, .num 16, .span 1 1000, .p⟩

/-- OD 0x7000:20 (R261): both receivers. -/
def Od.FLIT_CRC_ERRORS : OdRow := ⟨"FLIT_CRC_ERRORS", 0x7000, 1, 0x20, 1, .u64, .ro, .num 0, .any, .v⟩

/-- OD 0x7000:21 (R261): —. -/
def Od.FLITS_REPLAYED : OdRow := ⟨"FLITS_REPLAYED", 0x7000, 1, 0x21, 1, .u64, .ro, .num 0, .any, .v⟩

/-- OD 0x7000:22 (R261): check-die resets of R258. -/
def Od.CD_RESETS : OdRow := ⟨"CD_RESETS", 0x7000, 1, 0x22, 1, .u32, .ro, .num 0, .any, .v⟩

/-- OD 0x7000:23 (R261): —. -/
def Od.DELAY_ECC_CORRECTED : OdRow := ⟨"DELAY_ECC_CORRECTED", 0x7000, 1, 0x23, 1, .u32, .ro, .num 0, .any, .v⟩

/-- OD 0x7000:24 (R261): injections of R237. -/
def Od.INJECTIONS_PASSED : OdRow := ⟨"INJECTIONS_PASSED", 0x7000, 1, 0x24, 1, .u64, .ro, .num 0, .any, .v⟩

/-- OD 0x7000:25 (R261): largest fill of the action queue of R250. -/
def Od.TOKEN_QUEUE_PEAK : OdRow := ⟨"TOKEN_QUEUE_PEAK", 0x7000, 1, 0x25, 1, .u16, .ro, .num 0, .any, .v⟩

/-- OD 0x4000:01 (R295): 0 UNUSED, 1 STOP, 2 RESET, 3 MONITOR. -/
def Od.PAIR_FUNCTION : OdRow := ⟨"PAIR_FUNCTION", 0x4000, 8, 0x01, 1, .u8, .rws, .num 0, .span 0 3, .p⟩

/-- OD 0x4000:02 (R295): 0 EQUIVALENT, 1 ANTIVALENT. -/
def Od.WIRING : OdRow := ⟨"WIRING", 0x4000, 8, 0x02, 1, .u8, .rws, .num 0, .span 0 1, .p⟩

/-- OD 0x4000:03 (R295): 0–5,000, multiple of 10. -/
def Od.FILTER_US : OdRow := ⟨"FILTER_US", 0x4000, 8, 0x03, 1, .u16, .rws, .num 1000, .mult 0 5000 10, .p⟩

/-- OD 0x4000:04 (R295): 1–65,535, in 10 µs. -/
def Od.DISC_TIME : OdRow := ⟨"DISC_TIME", 0x4000, 8, 0x04, 1, .u16, .rws, .num 10000, .span 1 65535, .p⟩

/-- OD 0x4000:05 (R295): 0–1. -/
def Od.TEST_PULSE : OdRow := ⟨"TEST_PULSE", 0x4000, 8, 0x05, 1, .bool, .rws, .num 1, .span 0 1, .p⟩

/-- OD 0x4000:06 (R295): 0 OFF, 1 ON, 2 WAIT, 3 FAULT_DISCREPANCY, 4 FAULT_TEST. -/
def Od.PAIR_STATE : OdRow := ⟨"PAIR_STATE", 0x4000, 8, 0x06, 1, .u8, .ro, .num 0, .any, .v⟩

/-- OD 0x4000:07 (R295): bit 0 A, bit 1 B. -/
def Od.RAW_LEVELS : OdRow := ⟨"RAW_LEVELS", 0x4000, 8, 0x07, 1, .u8, .ro, .num 0, .any, .v⟩

/-- OD 0x4000:08 (R295): faults and ignored presses. -/
def Od.PAIR_FAULTS : OdRow := ⟨"PAIR_FAULTS", 0x4000, 8, 0x08, 1, .u32, .ro, .num 0, .any, .v⟩

/-- OD 0x4010:01 (R295): 50–2,000. -/
def Od.TP_WIDTH_US : OdRow := ⟨"TP_WIDTH_US", 0x4010, 1, 0x01, 1, .u16, .rws, .num 200, .span 50 2000, .p⟩

/-- OD 0x4010:02 (R295): 5–500. -/
def Od.TP_PERIOD_MS : OdRow := ⟨"TP_PERIOD_MS", 0x4010, 1, 0x02, 1, .u16, .rws, .num 20, .span 5 500, .p⟩

/-- OD 0x4100:01 (R295): 0 MANUAL, 1 AUTOMATIC. -/
def Od.RESTART_MODE : OdRow := ⟨"RESTART_MODE", 0x4100, 1, 0x01, 1, .u8, .rws, .num 0, .span 0 1, .p⟩

/-- OD 0x4100:02 (R295): 100–1,000. -/
def Od.PULSE_WIDTH_US : OdRow := ⟨"PULSE_WIDTH_US", 0x4100, 1, 0x02, 1, .u16, .rws, .num 300, .span 100 1000, .p⟩

/-- OD 0x4100:03 (R295): 10–60,000. -/
def Od.PULSE_PERIOD_MS : OdRow := ⟨"PULSE_PERIOD_MS", 0x4100, 1, 0x03, 1, .u32, .rws, .num 1000, .span 10 60000, .p⟩

/-- OD 0x4100:04 (R295): 0–1. -/
def Od.BFB_ENABLE : OdRow := ⟨"BFB_ENABLE", 0x4100, 1, 0x04, 1, .bool, .rws, .num 1, .span 0 1, .p⟩

/-- OD 0x4100:05 (R295): 10–2,000. -/
def Od.BFB_TIME_MS : OdRow := ⟨"BFB_TIME_MS", 0x4100, 1, 0x05, 1, .u16, .rws, .num 300, .span 10 2000, .p⟩

/-- OD 0x4100:06 (R295): 1–10,080. -/
def Od.BT_INTERVAL_MIN : OdRow := ⟨"BT_INTERVAL_MIN", 0x4100, 1, 0x06, 1, .u16, .rws, .num 480, .span 1 10080, .p⟩

/-- OD 0x4100:07 (R295): 0–1,440. -/
def Od.BT_GRACE_MIN : OdRow := ⟨"BT_GRACE_MIN", 0x4100, 1, 0x07, 1, .u16, .rws, .num 60, .span 0 1440, .p⟩

/-- OD 0x4100:08 (R295): 100–5,000. -/
def Od.BT_DURATION_MS : OdRow := ⟨"BT_DURATION_MS", 0x4100, 1, 0x08, 1, .u16, .rws, .num 500, .span 100 5000, .p⟩

/-- OD 0x4100:09 (R295): 0 refuse release, 1 stop. -/
def Od.BT_EXPIRY_ACTION : OdRow := ⟨"BT_EXPIRY_ACTION", 0x4100, 1, 0x09, 1, .u8, .rws, .num 0, .span 0 1, .p⟩

/-- OD 0x4100:0A (R295): 1 = start; OPERATOR or higher. -/
def Od.BT_START : OdRow := ⟨"BT_START", 0x4100, 1, 0x0A, 1, .u8, .wo, .num 0, .span 1 1, .v⟩

/-- OD 0x4100:0B (R295): 0 VALID, 1 OVERDUE, 2 FAILED, 3 EXPIRED. -/
def Od.BT_STATUS : OdRow := ⟨"BT_STATUS", 0x4100, 1, 0x0B, 1, .u8, .ro, .num 3, .any, .g⟩

/-- OD 0x4100:0C (R295): seconds since the last pass. -/
def Od.BT_AGE_S : OdRow := ⟨"BT_AGE_S", 0x4100, 1, 0x0C, 1, .u32, .ro, .num 4294967295, .any, .g⟩

/-- OD 0x4100:0D (R295): last test: 0 none, 1 PASS, 2 FAIL, 3 ABORTED, 4 REFUSED. -/
def Od.BT_RESULT : OdRow := ⟨"BT_RESULT", 0x4100, 1, 0x0D, 1, .u8, .ro, .num 0, .any, .g⟩

/-- OD 0x4100:0E (R295): 1 = stop; OPERATOR or higher. -/
def Od.HOLD_REQUEST : OdRow := ⟨"HOLD_REQUEST", 0x4100, 1, 0x0E, 1, .u8, .wo, .num 0, .span 1 1, .v⟩

/-- OD 0x4100:0F (R295): 0 APPLIED, 1 RELEASING, 2 RELEASED. -/
def Od.BRAKE_STATE : OdRow := ⟨"BRAKE_STATE", 0x4100, 1, 0x0F, 1, .u8, .ro, .num 0, .any, .v⟩

/-- OD 0x4100:10 (R295): bits of R281, active or latched. -/
def Od.SAFE_CAUSES : OdRow := ⟨"SAFE_CAUSES", 0x4100, 1, 0x10, 1, .u16, .ro, .num 0, .any, .v⟩

/-- OD 0x4100:11 (R295): bit 0 BRK_A, bit 1 BRK_B, bit 2 brake feedback. -/
def Od.OUTPUT_FAULT : OdRow := ⟨"OUTPUT_FAULT", 0x4100, 1, 0x11, 1, .u8, .ro, .num 0, .any, .g⟩

/-- OD 0x4100:12 (R295): bits as OUTPUT_FAULT; SERVICE session (R289). -/
def Od.FAULT_CLEAR : OdRow := ⟨"FAULT_CLEAR", 0x4100, 1, 0x12, 1, .u8, .wo, .num 0, .mask 7, .v⟩

/-- OD 0x4110:01 (R295): 0–1. -/
def Od.GUARD : OdRow := ⟨"GUARD", 0x4110, 12, 0x01, 1, .bool, .rws, .num 1, .span 0 1, .p⟩

/-- OD 0x4110:02 (R295): bit v for code v; reserved bits of R276 zero. -/
def Od.STOP_VERDICTS : OdRow := ⟨"STOP_VERDICTS", 0x4110, 12, 0x02, 1, .u16, .rws, .num 512, .mask 1598, .p⟩

/-- OD 0x4110:03 (R295): bits as REASON_CLASS (R247). -/
def Od.STOP_CLASSES : OdRow := ⟨"STOP_CLASSES", 0x4110, 12, 0x03, 1, .u8, .rws, .num 0, .any, .p⟩

/-- OD 0x4110:04 (R295): 0 = off; 1–65,535. -/
def Od.STOP_RUN : OdRow := ⟨"STOP_RUN", 0x4110, 12, 0x04, 1, .u16, .rws, .num 16, .any, .p⟩

/-- OD 0x4110:05 (R295): 0–1. -/
def Od.STOP_ON_ESCALATED : OdRow := ⟨"STOP_ON_ESCALATED", 0x4110, 12, 0x05, 1, .bool, .rws, .num 1, .span 0 1, .p⟩

/-- OD 0x4110:06 (R295): 0–1. -/
def Od.STOP_ON_LOSS : OdRow := ⟨"STOP_ON_LOSS", 0x4110, 12, 0x06, 1, .bool, .rws, .num 1, .span 0 1, .p⟩

/-- OD 0x4110:07 (R295): 0–1. -/
def Od.STOP_ON_STARVED : OdRow := ⟨"STOP_ON_STARVED", 0x4110, 12, 0x07, 1, .bool, .rws, .num 0, .span 0 1, .p⟩

/-- OD 0x4200:01 (R319): 0 TIMEOUT, 1 WINDOW. -/
def Od.WDS_MODE : OdRow := ⟨"WDS_MODE", 0x4200, 1, 0x01, 1, .u8, .rws, .num 1, .span 0 1, .p⟩

/-- OD 0x4200:02 (R319): 0 AO clock, 1 XTAL_25; next boot. -/
def Od.WDS_CLOCK : OdRow := ⟨"WDS_CLOCK", 0x4200, 1, 0x02, 1, .u8, .rws, .num 0, .span 0 1, .p⟩

/-- OD 0x4200:03 (R319): 100–16,777,215. -/
def Od.WDS_TIMEOUT_US : OdRow := ⟨"WDS_TIMEOUT_US", 0x4200, 1, 0x03, 1, .u32, .rws, .num 10000, .span 100 16777215, .p⟩

/-- OD 0x4200:04 (R319): 1 to WDS_TIMEOUT_US − 1. -/
def Od.WDS_WOPEN_US : OdRow := ⟨"WDS_WOPEN_US", 0x4200, 1, 0x04, 1, .u32, .rws, .num 2000, .span 1 16777214, .p⟩

/-- OD 0x4200:05 (R319): 10–16,777,215. -/
def Od.WDS_GRACE_US : OdRow := ⟨"WDS_GRACE_US", 0x4200, 1, 0x05, 1, .u32, .rws, .num 10000, .span 10 16777215, .p⟩

/-- OD 0x4200:06 (R319): —. -/
def Od.WDS_RESETS : OdRow := ⟨"WDS_RESETS", 0x4200, 1, 0x06, 1, .u32, .ro, .num 0, .any, .g⟩

/-- OD 0x4200:07 (R319): 0 TIMEOUT, 1 WINDOW. -/
def Od.WDH_MODE : OdRow := ⟨"WDH_MODE", 0x4200, 1, 0x07, 1, .u8, .rws, .num 1, .span 0 1, .p⟩

/-- OD 0x4200:08 (R319): 0 AO clock, 1 XTAL_25; next boot. -/
def Od.WDH_CLOCK : OdRow := ⟨"WDH_CLOCK", 0x4200, 1, 0x08, 1, .u8, .rws, .num 1, .span 0 1, .p⟩

/-- OD 0x4200:09 (R319): 100–16,777,215. -/
def Od.WDH_TIMEOUT_US : OdRow := ⟨"WDH_TIMEOUT_US", 0x4200, 1, 0x09, 1, .u32, .rws, .num 100000, .span 100 16777215, .p⟩

/-- OD 0x4200:0A (R319): 0 to WDH_TIMEOUT_US − 1. -/
def Od.WDH_WOPEN_US : OdRow := ⟨"WDH_WOPEN_US", 0x4200, 1, 0x0A, 1, .u32, .rws, .num 20000, .span 0 16777214, .p⟩

/-- OD 0x4200:0B (R319): 10–16,777,215. -/
def Od.WDH_GRACE_US : OdRow := ⟨"WDH_GRACE_US", 0x4200, 1, 0x0B, 1, .u32, .rws, .num 100000, .span 10 16777215, .p⟩

/-- OD 0x4200:0C (R319): 0 on EN, 1 at READY. -/
def Od.WDH_START : OdRow := ⟨"WDH_START", 0x4200, 1, 0x0C, 1, .u8, .rws, .num 0, .span 0 1, .p⟩

/-- OD 0x4200:0D (R319): —. -/
def Od.WDH_RESETS : OdRow := ⟨"WDH_RESETS", 0x4200, 1, 0x0D, 1, .u32, .ro, .num 0, .any, .g⟩

/-- OD 0x4200:0E (R319): failures of WDH. -/
def Od.WDH_WARNINGS : OdRow := ⟨"WDH_WARNINGS", 0x4200, 1, 0x0E, 1, .u32, .ro, .num 0, .any, .v⟩

/-- OD 0x4200:0F (R319): failures of WDS. -/
def Od.WDS_WARNINGS : OdRow := ⟨"WDS_WARNINGS", 0x4200, 1, 0x0F, 1, .u32, .ro, .num 0, .any, .v⟩

/-- OD 0x4200:10 (R319): trips of R298. -/
def Od.WD_CLOCK_TRIPS : OdRow := ⟨"WD_CLOCK_TRIPS", 0x4200, 1, 0x10, 1, .u32, .ro, .num 0, .any, .g⟩

/-- OD 0x4200:11 (R319): writes discarded under R306, R309, R315. -/
def Od.WDH_IGNORED : OdRow := ⟨"WDH_IGNORED", 0x4200, 1, 0x11, 1, .u32, .ro, .num 0, .any, .v⟩

/-- OD 0x4300:01 (R319): 0–1. -/
def Od.RC_ENABLE : OdRow := ⟨"RC_ENABLE", 0x4300, 1, 0x01, 1, .bool, .rws, .num 0, .span 0 1, .p⟩

/-- OD 0x4300:02 (R319): 1,000–16,777,215. -/
def Od.RC_CYCLE_US : OdRow := ⟨"RC_CYCLE_US", 0x4300, 1, 0x02, 1, .u32, .rws, .num 50000, .span 1000 16777215, .p⟩

/-- OD 0x4300:03 (R319): 0–1. -/
def Od.RC_AUTO_SERVE : OdRow := ⟨"RC_AUTO_SERVE", 0x4300, 1, 0x03, 1, .bool, .rws, .num 1, .span 0 1, .p⟩

/-- OD 0x4300:04 (R319): bit e enables entity e. -/
def Od.RC_ENTITY_MASK : OdRow := ⟨"RC_ENTITY_MASK", 0x4300, 1, 0x04, 1, .u32, .rws, .num 0, .any, .p⟩

/-- OD 0x4300:05 (R319): —. -/
def Od.RC_CYCLES_FAILED : OdRow := ⟨"RC_CYCLES_FAILED", 0x4300, 1, 0x05, 1, .u32, .ro, .num 0, .any, .v⟩

/-- OD 0x4300:06 (R319): STRAY check-ins. -/
def Od.RC_STRAYS : OdRow := ⟨"RC_STRAYS", 0x4300, 1, 0x06, 1, .u32, .ro, .num 0, .any, .v⟩

/-- OD 0x4310:01 (R319): 0–255. -/
def Od.RC_MIN : OdRow := ⟨"RC_MIN", 0x4310, 32, 0x01, 1, .u8, .rws, .num 1, .span 0 255, .p⟩

/-- OD 0x4310:02 (R319): 1–255. -/
def Od.RC_MAX : OdRow := ⟨"RC_MAX", 0x4310, 32, 0x02, 1, .u8, .rws, .num 1, .span 1 255, .p⟩

/-- OD 0x4310:03 (R319): 0–8 bytes, checkpoint IDs 1–255. -/
def Od.RC_SEQ : OdRow := ⟨"RC_SEQ", 0x4310, 32, 0x03, 1, .ostr, .rws, .bytes [], .len 0 8, .p⟩

/-- OD 0x4310:04 (R319): —. -/
def Od.RC_MIN_FAILS : OdRow := ⟨"RC_MIN_FAILS", 0x4310, 32, 0x04, 1, .u32, .ro, .num 0, .any, .v⟩

/-- OD 0x4310:05 (R319): —. -/
def Od.RC_MAX_FAILS : OdRow := ⟨"RC_MAX_FAILS", 0x4310, 32, 0x05, 1, .u32, .ro, .num 0, .any, .v⟩

/-- OD 0x4310:06 (R319): —. -/
def Od.RC_SEQ_FAILS : OdRow := ⟨"RC_SEQ_FAILS", 0x4310, 32, 0x06, 1, .u32, .ro, .num 0, .any, .v⟩

/-- OD 0x4800:01 (R338): 0–4. -/
def Od.HOST_MIN_SEVERITY : OdRow := ⟨"HOST_MIN_SEVERITY", 0x4800, 1, 0x01, 1, .u8, .rw, .num 2, .span 0 4, .p⟩

/-- OD 0x4800:02 (R338): 32 bytes: U64 counts INFO, NOTICE, WARN, FAULT. -/
def Od.LOST_COLLECTOR : OdRow := ⟨"LOST_COLLECTOR", 0x4800, 1, 0x02, 1, .ostr, .ro, .bytes (List.replicate 32 0), .len 32 32, .v⟩

/-- OD 0x4800:03 (R338): 32 bytes, as LOST_COLLECTOR. -/
def Od.LOST_CORRIDOR : OdRow := ⟨"LOST_CORRIDOR", 0x4800, 1, 0x03, 1, .ostr, .ro, .bytes (List.replicate 32 0), .len 32 32, .v⟩

/-- OD 0x4800:04 (R338): 32 bytes, as LOST_COLLECTOR. -/
def Od.LOST_HOST_RING : OdRow := ⟨"LOST_HOST_RING", 0x4800, 1, 0x04, 1, .ostr, .ro, .bytes (List.replicate 32 0), .len 32 32, .v⟩

/-- OD 0x4800:05 (R338): occurrences counted under R324. -/
def Od.COALESCED_TOTAL : OdRow := ⟨"COALESCED_TOTAL", 0x4800, 1, 0x05, 1, .u64, .ro, .num 0, .any, .v⟩

/-- OD 0x4800:06 (R338): records written to the event ring. -/
def Od.RING_WRITTEN : OdRow := ⟨"RING_WRITTEN", 0x4800, 1, 0x06, 1, .u64, .ro, .num 0, .any, .v⟩

/-- OD 0x4800:07 (R338): first record returned by RING_READ_DATA. -/
def Od.RING_READ_INDEX : OdRow := ⟨"RING_READ_INDEX", 0x4800, 1, 0x07, 1, .u64, .rw, .num 0, .any, .v⟩

/-- OD 0x4800:08 (R338): up to 256 records from RING_READ_INDEX still held. -/
def Od.RING_READ_DATA : OdRow := ⟨"RING_READ_DATA", 0x4800, 1, 0x08, 1, .domain, .ro, .bytes [], .any, .v⟩

/-- OD 0x4800:09 (R338): 256 records, oldest first. -/
def Od.SAFETY_LOG : OdRow := ⟨"SAFETY_LOG", 0x4800, 1, 0x09, 1, .domain, .ro, .bytes [], .any, .v⟩

/-- OD 0x4800:0A (R338): 64 × 36 bytes: record, then U32 count. -/
def Od.FIRST_FAULTS : OdRow := ⟨"FIRST_FAULTS", 0x4800, 1, 0x0A, 1, .domain, .ro, .bytes [], .any, .g⟩

/-- OD 0x4800:0B (R338): 1 safety-log ring, 2 first-fault table, 3 both. -/
def Od.LOG_CLEAR : OdRow := ⟨"LOG_CLEAR", 0x4800, 1, 0x0B, 1, .u8, .wo, .num 0, .span 1 3, .v⟩

/-- OD 0x4800:0C (R338): 10–3,600. -/
def Od.SIG_BATCH_PERIOD_S : OdRow := ⟨"SIG_BATCH_PERIOD_S", 0x4800, 1, 0x0C, 1, .u16, .rw, .num 60, .span 10 3600, .p⟩

/-- OD 0x4800:0D (R338): 16–65,535. -/
def Od.SIG_BATCH_MAX : OdRow := ⟨"SIG_BATCH_MAX", 0x4800, 1, 0x0D, 1, .u16, .rw, .num 4096, .span 16 65535, .p⟩

/-- OD 0x4800:0E (R338): last batch signed. -/
def Od.SIG_BATCH_SEQ : OdRow := ⟨"SIG_BATCH_SEQ", 0x4800, 1, 0x0E, 1, .u32, .ro, .num 0, .any, .g⟩

/-- OD 0x4800:0F (R338): oldest unread batch; a read removes it. -/
def Od.SIG_BATCH_READ : OdRow := ⟨"SIG_BATCH_READ", 0x4800, 1, 0x0F, 1, .domain, .ro, .bytes [], .any, .v⟩

/-- OD 0x4800:10 (R338): —. -/
def Od.SIG_BATCHES_DROPPED : OdRow := ⟨"SIG_BATCHES_DROPPED", 0x4800, 1, 0x10, 1, .u32, .ro, .num 0, .any, .v⟩

/-- OD 0x4800:20 (R338): 0 = off; 1–8,760. -/
def Od.MARGIN_PERIOD_H : OdRow := ⟨"MARGIN_PERIOD_H", 0x4800, 1, 0x20, 1, .u16, .rws, .num 24, .span 0 8760, .p⟩

/-- OD 0x4800:21 (R338): 0 WATCH, 1 FENCE. -/
def Od.MARGIN_POLICY : OdRow := ⟨"MARGIN_POLICY", 0x4800, 1, 0x21, 1, .u8, .rws, .num 0, .span 0 1, .p⟩

/-- OD 0x4800:22 (R338): cluster 0–15. -/
def Od.MARGIN_START : OdRow := ⟨"MARGIN_START", 0x4800, 1, 0x22, 1, .u8, .wo, .num 0, .span 0 15, .v⟩

/-- OD 0x4800:23 (R338): 0 IDLE, 1 SETTLING, 2 RUNNING, 3 RESTORING. -/
def Od.MARGIN_STATE : OdRow := ⟨"MARGIN_STATE", 0x4800, 1, 0x23, 1, .u8, .ro, .num 0, .any, .v⟩

/-- OD 0x4800:24 (R338): 10–1,000. -/
def Od.MARGIN_RUN_MS : OdRow := ⟨"MARGIN_RUN_MS", 0x4800, 1, 0x24, 1, .u16, .rws, .num 40, .span 10 1000, .p⟩

/-- OD 0x4800:25 (R338): 0–15. -/
def Od.MARGIN_NEXT : OdRow := ⟨"MARGIN_NEXT", 0x4800, 1, 0x25, 1, .u8, .ro, .num 0, .span 0 15, .g⟩

/-- OD 0x4800:26 (R338): 16 bytes: cluster, outcome, 12 bytes failed rows, temp max as I16. -/
def Od.MARGIN_LAST : OdRow := ⟨"MARGIN_LAST", 0x4800, 1, 0x26, 1, .ostr, .ro, .bytes (List.replicate 16 0), .len 16 16, .g⟩

/-- OD 0x4800:27 (R338): —. -/
def Od.MARGIN_DEFERRED : OdRow := ⟨"MARGIN_DEFERRED", 0x4800, 1, 0x27, 1, .u32, .ro, .num 0, .any, .v⟩

/-- OD 0x1200:01 (R359): 0–64. -/
def Od.SESSIONS_OPEN : OdRow := ⟨"SESSIONS_OPEN", 0x1200, 1, 0x01, 1, .u8, .ro, .num 0, .span 0 64, .v⟩

/-- OD 0x1200:02 (R359): 10–65,535. -/
def Od.SESSION_IDLE_S : OdRow := ⟨"SESSION_IDLE_S", 0x1200, 1, 0x02, 1, .u16, .rw, .num 300, .span 10 65535, .p⟩

/-- OD 0x1200:03 (R359): 40 bytes: per role, U32 f, then U32 RTC second at which the lock ends. -/
def Od.LOCKOUT_STATE : OdRow := ⟨"LOCKOUT_STATE", 0x1200, 1, 0x03, 1, .ostr, .ro, .bytes (List.replicate 40 0), .len 40 40, .g⟩

/-- OD 0x1200:04 (R359): —. -/
def Od.TAG_FAILURES : OdRow := ⟨"TAG_FAILURES", 0x1200, 1, 0x04, 1, .u32, .ro, .num 0, .any, .v⟩

/-- OD 0x1200:05 (R359): —. -/
def Od.REPLAYS : OdRow := ⟨"REPLAYS", 0x1200, 1, 0x05, 1, .u32, .ro, .num 0, .any, .v⟩

/-- OD 0x1200:06 (R359): 16 bytes. -/
def Od.PASS_SALT : OdRow := ⟨"PASS_SALT", 0x1200, 1, 0x06, 1, .ostr, .const, .bytes [], .len 16 16, .none⟩

/-- OD 0x1210:01 (R359): 32 bytes; writers as in "Session life". -/
def Od.ROLE_KEY : OdRow := ⟨"ROLE_KEY", 0x1210, 5, 0x01, 1, .ostr, .wo, .bytes [], .len 32 32, .p⟩

/-- OD 0x1210:02 (R359): 0 EMPTY, 1 SET, 2 INITIAL. -/
def Od.KEY_STATE : OdRow := ⟨"KEY_STATE", 0x1210, 5, 0x02, 1, .u8, .ro, .num 0, .any, .p⟩

/-- OD 0x1211:03 (R359): 8–64 bytes; OPERATOR or INTEGRATOR; stored as k_role of R347. -/
def Od.OPERATOR_PASSPHRASE : OdRow := ⟨"OPERATOR_PASSPHRASE", 0x1211, 1, 0x03, 1, .vstr, .wo, .bytes [], .len 8 64, .p⟩

/-- OD 0x1280:01 (R359): one OD message; any CAN client. -/
def Od.OD_TUNNEL_IN : OdRow := ⟨"OD_TUNNEL_IN", 0x1280, 1, 0x01, 1, .domain, .wo, .bytes [], .len 0 67108864, .v⟩

/-- OD 0x1280:02 (R359): the response to the last message. -/
def Od.OD_TUNNEL_OUT : OdRow := ⟨"OD_TUNNEL_OUT", 0x1280, 1, 0x02, 1, .domain, .ro, .bytes [], .any, .v⟩

/-- OD 0x1400:01 (R359): 1–127. -/
def Od.CAN_A_NODE_ID : OdRow := ⟨"CAN_A_NODE_ID", 0x1400, 1, 0x01, 1, .u8, .rw, .num 32, .span 1 127, .p⟩

/-- OD 0x1400:02 (R359): 1–127. -/
def Od.CAN_B_NODE_ID : OdRow := ⟨"CAN_B_NODE_ID", 0x1400, 1, 0x02, 1, .u8, .rw, .num 33, .span 1 127, .p⟩

/-- OD 0x1400:03 (R359): 125, 250, 500, 1,000. -/
def Od.CAN_NOMINAL_KBIT : OdRow := ⟨"CAN_NOMINAL_KBIT", 0x1400, 1, 0x03, 1, .u16, .rw, .num 500, .oneOf [125, 250, 500, 1000], .p⟩

/-- OD 0x1400:04 (R359): 1,000, 2,000, 4,000, 5,000. -/
def Od.CAN_DATA_KBIT : OdRow := ⟨"CAN_DATA_KBIT", 0x1400, 1, 0x04, 1, .u16, .rw, .num 2000, .oneOf [1000, 2000, 4000, 5000], .p⟩

/-- OD 0x1400:05 (R359): 0–1. -/
def Od.MGMT_ENABLE : OdRow := ⟨"MGMT_ENABLE", 0x1400, 1, 0x05, 1, .bool, .rw, .num 1, .span 0 1, .p⟩

/-- OD 0x1400:06 (R359): 12 bytes: address, mask, gateway. -/
def Od.MGMT_IPV4 : OdRow := ⟨"MGMT_IPV4", 0x1400, 1, 0x06, 1, .ostr, .rw, .bytes [192, 168, 72, 20, 255, 255, 255, 0, 0, 0, 0, 0], .len 12 12, .p⟩

/-- OD 0x1400:07 (R359): 1,024–65,535. -/
def Od.MGMT_UDP_PORT : OdRow := ⟨"MGMT_UDP_PORT", 0x1400, 1, 0x07, 1, .u16, .rw, .num 47210, .span 1024 65535, .p⟩

/-- OD 0x1400:08 (R359): 0–1. -/
def Od.FABRIC_OD_RELAY : OdRow := ⟨"FABRIC_OD_RELAY", 0x1400, 1, 0x08, 1, .bool, .rw, .num 1, .span 0 1, .p⟩

/-- OD 0x7F00:01 (R359): CRC-32C of the staged set; owner only. -/
def Od.COMMIT_CRC : OdRow := ⟨"COMMIT_CRC", 0x7F00, 1, 0x01, 1, .u32, .wo, .num 0, .any, .v⟩

/-- OD 0x7F00:02 (R359): 1 = discard; owner only. -/
def Od.STAGE_DISCARD : OdRow := ⟨"STAGE_DISCARD", 0x7F00, 1, 0x02, 1, .u8, .wo, .num 0, .span 1 1, .v⟩

/-- OD 0x7F00:03 (R359): 0 NONE, 1 STAGING, 2 COMMITTING, 3 APPLIED, 4 REFUSED. -/
def Od.COMMIT_STATUS : OdRow := ⟨"COMMIT_STATUS", 0x7F00, 1, 0x03, 1, .u8, .ro, .num 0, .any, .v⟩

/-- OD 0x7F00:04 (R359): 0 none, 1–12. -/
def Od.REFUSAL_CODE : OdRow := ⟨"REFUSAL_CODE", 0x7F00, 1, 0x04, 1, .u8, .ro, .num 0, .any, .v⟩

/-- OD 0x7F00:05 (R359): (INDEX << 8) | SUB. -/
def Od.REFUSAL_ENTRY : OdRow := ⟨"REFUSAL_ENTRY", 0x7F00, 1, 0x05, 1, .u32, .ro, .num 0, .any, .v⟩

/-- OD 0x7F00:06 (R359): session slot; 0xFF none. -/
def Od.STAGE_OWNER : OdRow := ⟨"STAGE_OWNER", 0x7F00, 1, 0x06, 1, .u8, .ro, .num 255, .any, .v⟩

/-- OD 0x7F00:07 (R359): 0–2,048. -/
def Od.STAGED_COUNT : OdRow := ⟨"STAGED_COUNT", 0x7F00, 1, 0x07, 1, .u16, .ro, .num 0, .span 0 2048, .v⟩

/-- OD 0x7F00:08 (R359): sets applied. -/
def Od.COMMITS : OdRow := ⟨"COMMITS", 0x7F00, 1, 0x08, 1, .u32, .ro, .num 0, .any, .g⟩

/-- OD 0x1000:01 (R370): —. -/
def Od.VENDOR_NAME : OdRow := ⟨"VENDOR_NAME", 0x1000, 1, 0x01, 1, .vstr, .const, .bytes [89, 105, 108, 103, 97, 110], .any, .none⟩

/-- OD 0x1000:02 (R370): —. -/
def Od.DEVICE_NAME : OdRow := ⟨"DEVICE_NAME", 0x1000, 1, 0x02, 1, .vstr, .const, .bytes [71, 86, 55, 50, 48], .any, .none⟩

/-- OD 0x1000:03 (R370): "GV720-C" or "GV720-I". -/
def Od.ORDER_CODE : OdRow := ⟨"ORDER_CODE", 0x1000, 1, 0x03, 1, .vstr, .const, .bytes [], .any, .none⟩

/-- OD 0x1000:04 (R370): —. -/
def Od.DIE_REVISION : OdRow := ⟨"DIE_REVISION", 0x1000, 1, 0x04, 1, .vstr, .const, .bytes [66, 48], .any, .none⟩

/-- OD 0x1000:05 (R370): 16 bytes; the UID of CHALLENGE (R345) and of batch header key 2 (R331). -/
def Od.DEVICE_UID : OdRow := ⟨"DEVICE_UID", 0x1000, 1, 0x05, 1, .ostr, .const, .bytes [], .len 16 16, .none⟩

/-- OD 0x1000:06 (R370): 4 bytes: I16 minimum, I16 maximum, in °C; 0 and 95, or −40 and 105. -/
def Od.TJ_RANGE : OdRow := ⟨"TJ_RANGE", 0x1000, 1, 0x06, 1, .ostr, .const, .bytes [], .len 4 4, .none⟩

/-- OD 0x1000:07 (R370): [31:24] major, [23:16] minor, [15:0] build. -/
def Od.BOOT_ROM_VERSION : OdRow := ⟨"BOOT_ROM_VERSION", 0x1000, 1, 0x07, 1, .u32, .const, .num 0, .any, .none⟩

/-- OD 0x1000:08 (R370): as BOOT_ROM_VERSION; 0 when no image runs. -/
def Od.FW_VERSION : OdRow := ⟨"FW_VERSION", 0x1000, 1, 0x08, 1, .u32, .ro, .num 0, .any, .none⟩

/-- OD 0x1000:09 (R370): 32 bytes, SHAKE256 of the running image; equal to batch header key 4. -/
def Od.FW_DIGEST : OdRow := ⟨"FW_DIGEST", 0x1000, 1, 0x09, 1, .ostr, .ro, .bytes (List.replicate 32 0), .len 32 32, .none⟩

/-- OD 0x1000:0A (R370): R363. -/
def Od.OD_LAYOUT : OdRow := ⟨"OD_LAYOUT", 0x1000, 1, 0x0A, 1, .u16, .const, .num 256, .any, .none⟩

/-- OD 0x1000:0B (R370): 0 not yet detected, 8, 16, 32. -/
def Od.MEMORY_GIB : OdRow := ⟨"MEMORY_GIB", 0x1000, 1, 0x0B, 1, .u8, .ro, .num 0, .any, .v⟩

/-- OD 0x1000:0C (R370): 0 BOOTING, 1 READY, 2 RUN, 3 FAULT, as the STATUS flit; 4 OFF, in reset or unpowered. -/
def Od.CHECK_DIE_STATE : OdRow := ⟨"CHECK_DIE_STATE", 0x1000, 1, 0x0C, 1, .u8, .ro, .num 4, .any, .v⟩

/-- OD 0x1000:0D (R370): coded as DEVICE_STATE of the HEARTBEAT record (R211). -/
def Od.DEVICE_STATE : OdRow := ⟨"DEVICE_STATE", 0x1000, 1, 0x0D, 1, .u8, .ro, .num 0, .any, .v⟩

/-- OD 0x1000:0E (R370): 0 ACTIVE, 1 GATED, 2 RETAIN, 3 DARK, 4 STANDBY. -/
def Od.POWER_STATE : OdRow := ⟨"POWER_STATE", 0x1000, 1, 0x0E, 1, .u8, .ro, .num 0, .any, .v⟩

/-- OD 0x1000:0F (R370): seconds since the last reset of the safety die. -/
def Od.UPTIME_S : OdRow := ⟨"UPTIME_S", 0x1000, 1, 0x0F, 1, .u32, .ro, .num 0, .any, .v⟩

/-- OD 0x1000:10 (R370): boots since VBAT was last applied. -/
def Od.BOOT_COUNT : OdRow := ⟨"BOOT_COUNT", 0x1000, 1, 0x10, 1, .u32, .ro, .num 0, .any, .g⟩

/-- OD 0x2800:01 (R372): entries not FREE, 0–4,096. -/
def Od.PARTNERS_IN_USE : OdRow := ⟨"PARTNERS_IN_USE", 0x2800, 1, 0x01, 1, .u16, .ro, .num 0, .any, .v⟩

/-- OD 0x2800:02 (R372): 0–4,095; one value per session. -/
def Od.PARTNER_SELECT : OdRow := ⟨"PARTNER_SELECT", 0x2800, 1, 0x02, 1, .u16, .rw, .num 0, .span 0 4095, .v⟩

/-- OD 0x2800:03 (R372): 32 bytes, layout below, of the entry selected by the reading session. -/
def Od.PARTNER_ENTRY : OdRow := ⟨"PARTNER_ENTRY", 0x2800, 1, 0x03, 1, .ostr, .ro, .bytes (List.replicate 32 0), .len 32 32, .v⟩

/-- OD 0x5000:01 (R402): 0–1. -/
def Od.FABRIC_ENABLE : OdRow := ⟨"FABRIC_ENABLE", 0x5000, 1, 0x01, 1, .bool, .rw, .num 0, .span 0 1, .p⟩

/-- OD 0x5000:02 (R402): bit p for FPp. -/
def Od.FP_ENABLE : OdRow := ⟨"FP_ENABLE", 0x5000, 1, 0x02, 1, .u8, .rw, .num 15, .mask 15, .p⟩

/-- OD 0x5000:03 (R402): bit p: 0 KR4, 1 CR4. -/
def Od.FP_MEDIUM : OdRow := ⟨"FP_MEDIUM", 0x5000, 1, 0x03, 1, .u8, .rw, .num 0, .mask 15, .p⟩

/-- OD 0x5000:04 (R402): 0x0600–0xFFFF except 0x88F7. -/
def Od.FABRIC_ETHERTYPE : OdRow := ⟨"FABRIC_ETHERTYPE", 0x5000, 1, 0x04, 1, .u16, .rw, .num 34997, .except 1536 65535 35063, .p⟩

/-- OD 0x5000:05 (R402): 0 derive; 0x001–0xFFE. -/
def Od.NODE_ID_CONFIG : OdRow := ⟨"NODE_ID_CONFIG", 0x5000, 1, 0x05, 1, .u16, .rw, .num 0, .span 0 4094, .p⟩

/-- OD 0x5000:06 (R402): 0 AUTO, 1 MANAGED. -/
def Od.FABRIC_MODE : OdRow := ⟨"FABRIC_MODE", 0x5000, 1, 0x06, 1, .u8, .rw, .num 0, .span 0 1, .p⟩

/-- OD 0x5000:07 (R402): 0–1. -/
def Od.MANAGER_ALLOWED : OdRow := ⟨"MANAGER_ALLOWED", 0x5000, 1, 0x07, 1, .bool, .rw, .num 1, .span 0 1, .p⟩

/-- OD 0x5000:08 (R402): 0–255. -/
def Od.MANAGER_PRIORITY : OdRow := ⟨"MANAGER_PRIORITY", 0x5000, 1, 0x08, 1, .u8, .rw, .num 128, .span 0 255, .p⟩

/-- OD 0x5000:09 (R402): 1 = restart. -/
def Od.FABRIC_RESTART : OdRow := ⟨"FABRIC_RESTART", 0x5000, 1, 0x09, 1, .u8, .wo, .num 0, .span 1 1, .v⟩

/-- OD 0x5000:0A (R402): 1–32. -/
def Od.SO_MAX_HOPS : OdRow := ⟨"SO_MAX_HOPS", 0x5000, 1, 0x0A, 1, .u8, .rw, .num 4, .span 1 32, .p⟩

/-- OD 0x5000:0B (R402): 1,024–65,535. -/
def Od.RELAY_UDP_PORT : OdRow := ⟨"RELAY_UDP_PORT", 0x5000, 1, 0x0B, 1, .u16, .rw, .num 47211, .span 1024 65535, .p⟩

/-- OD 0x5000:10 (R402): 0x000–0xFFE. -/
def Od.NODE_ID : OdRow := ⟨"NODE_ID", 0x5000, 1, 0x10, 1, .u16, .ro, .num 0, .span 0 4094, .v⟩

/-- OD 0x5000:11 (R402): 0 DOWN, 1 CLAIMING, 2 AUTONOMOUS, 3 WORKER, 4 MANAGER, 5 HOLDING. -/
def Od.FABRIC_STATE : OdRow := ⟨"FABRIC_STATE", 0x5000, 1, 0x11, 1, .u8, .ro, .num 0, .any, .v⟩

/-- OD 0x5000:12 (R402): N, 0–3,265. -/
def Od.FABRIC_NODES : OdRow := ⟨"FABRIC_NODES", 0x5000, 1, 0x12, 1, .u16, .ro, .num 0, .any, .v⟩

/-- OD 0x5000:13 (R402): 0 none. -/
def Od.MANAGER_NODE : OdRow := ⟨"MANAGER_NODE", 0x5000, 1, 0x13, 1, .u16, .ro, .num 0, .any, .v⟩

/-- OD 0x5000:14 (R402): [4p+3:4p]: 0 DOWN, 1 LINK_UP, 2 ADJACENT. -/
def Od.PORT_STATE : OdRow := ⟨"PORT_STATE", 0x5000, 1, 0x14, 1, .u16, .ro, .num 0, .any, .v⟩

/-- OD 0x5000:15 (R402): 16,384 bytes (R381). -/
def Od.ROUTE_TABLE : OdRow := ⟨"ROUTE_TABLE", 0x5000, 1, 0x15, 1, .domain, .ro, .bytes [], .any, .v⟩

/-- OD 0x5000:16 (R402): —. -/
def Od.CLAIM_ROUNDS_UNRESOLVED : OdRow := ⟨"CLAIM_ROUNDS_UNRESOLVED", 0x5000, 1, 0x16, 1, .u32, .ro, .num 0, .any, .v⟩

/-- OD 0x5000:17 (R402): —. -/
def Od.HOPS_EXCEEDED : OdRow := ⟨"HOPS_EXCEEDED", 0x5000, 1, 0x17, 1, .u32, .ro, .num 0, .any, .v⟩

/-- OD 0x5000:18 (R402): —. -/
def Od.RETRANSMITS : OdRow := ⟨"RETRANSMITS", 0x5000, 1, 0x18, 1, .u64, .ro, .num 0, .any, .v⟩

/-- OD 0x5000:19 (R402): —. -/
def Od.PAIRS_BROKEN : OdRow := ⟨"PAIRS_BROKEN", 0x5000, 1, 0x19, 1, .u32, .ro, .num 0, .any, .v⟩

/-- OD 0x5000:1A (R402): R377. -/
def Od.FRAMES_DISCARDED : OdRow := ⟨"FRAMES_DISCARDED", 0x5000, 1, 0x1A, 1, .u64, .ro, .num 0, .any, .v⟩

/-- OD 0x5000:1B (R402): requests sent. -/
def Od.SO_SENT : OdRow := ⟨"SO_SENT", 0x5000, 1, 0x1B, 1, .u32, .ro, .num 0, .any, .v⟩

/-- OD 0x5000:1C (R402): OUTPUT answers sent. -/
def Od.SO_SERVED : OdRow := ⟨"SO_SERVED", 0x5000, 1, 0x1C, 1, .u32, .ro, .num 0, .any, .v⟩

/-- OD 0x5000:1D (R402): other answers sent. -/
def Od.SO_DECLINED : OdRow := ⟨"SO_DECLINED", 0x5000, 1, 0x1D, 1, .u32, .ro, .num 0, .any, .v⟩

/-- OD 0x5010:01 (R402): 0 none; 0x001–0xFFE. -/
def Od.MIRROR_TARGET_NODE : OdRow := ⟨"MIRROR_TARGET_NODE", 0x5010, 4, 0x01, 1, .u16, .rw, .num 0, .span 0 4094, .p⟩

/-- OD 0x5010:02 (R402): 0–63. -/
def Od.MIRROR_SUBRING : OdRow := ⟨"MIRROR_SUBRING", 0x5010, 4, 0x02, 1, .u8, .rw, .num 0, .span 0 63, .p⟩

/-- OD 0x5010:03 (R402): bit n for Sn; bits [15:12] 0. -/
def Od.MIRROR_STREAMS : OdRow := ⟨"MIRROR_STREAMS", 0x5010, 4, 0x03, 1, .u16, .rw, .num 0, .mask 4095, .p⟩

/-- OD 0x5010:04 (R402): —. -/
def Od.MIRROR_LOST : OdRow := ⟨"MIRROR_LOST", 0x5010, 4, 0x04, 1, .u32, .ro, .num 0, .any, .v⟩

/-- OD 0x5020:01 (R402): node ID for sub-ring sub − 1; 0 none. -/
def Od.MIRROR_SOURCE : OdRow := ⟨"MIRROR_SOURCE", 0x5020, 1, 0x01, 64, .u16, .rw, .num 0, .span 0 4094, .p⟩

/-- OD 0x5020:41 (R402): —. -/
def Od.MIRROR_GAPS : OdRow := ⟨"MIRROR_GAPS", 0x5020, 1, 0x41, 1, .u32, .ro, .num 0, .any, .v⟩

/-- OD 0x5400:01 (R402): 0 FREE, 1 PTP, 2 PPS_PTP. -/
def Od.TIME_SOURCE : OdRow := ⟨"TIME_SOURCE", 0x5400, 1, 0x01, 1, .u8, .rw, .num 1, .span 0 2, .p⟩

/-- OD 0x5400:02 (R402): 0–127. -/
def Od.PTP_DOMAIN : OdRow := ⟨"PTP_DOMAIN", 0x5400, 1, 0x02, 1, .u8, .rw, .num 0, .span 0 127, .p⟩

/-- OD 0x5400:03 (R402): bits [3:0] FP0–FP3, bit 4 MGMT. -/
def Od.PTP_PORTS : OdRow := ⟨"PTP_PORTS", 0x5400, 1, 0x03, 1, .u8, .rw, .num 31, .mask 31, .p⟩

/-- OD 0x5400:04 (R402): 0 Ethernet, 1 UDP/IPv4. -/
def Od.MGMT_PTP_TRANSPORT : OdRow := ⟨"MGMT_PTP_TRANSPORT", 0x5400, 1, 0x04, 1, .u8, .rw, .num 0, .span 0 1, .p⟩

/-- OD 0x5400:05 (R402): 0 E2E, 1 P2P, 2 off. -/
def Od.TC_MODE : OdRow := ⟨"TC_MODE", 0x5400, 1, 0x05, 1, .u8, .rw, .num 0, .span 0 2, .p⟩

/-- OD 0x5400:06 (R402): 0 BMCA, 1 slave only. -/
def Od.OC_ROLE : OdRow := ⟨"OC_ROLE", 0x5400, 1, 0x06, 1, .u8, .rw, .num 0, .span 0 1, .p⟩

/-- OD 0x5400:07 (R402): 0–255. -/
def Od.PRIORITY1 : OdRow := ⟨"PRIORITY1", 0x5400, 1, 0x07, 1, .u8, .rw, .num 128, .span 0 255, .p⟩

/-- OD 0x5400:08 (R402): 0–255. -/
def Od.PRIORITY2 : OdRow := ⟨"PRIORITY2", 0x5400, 1, 0x08, 1, .u8, .rw, .num 128, .span 0 255, .p⟩

/-- OD 0x5400:09 (R402): −7 to 1. -/
def Od.LOG_SYNC_INTERVAL : OdRow := ⟨"LOG_SYNC_INTERVAL", 0x5400, 1, 0x09, 1, .i8, .rw, .num 253, .signed (-7) 1, .p⟩

/-- OD 0x5400:0A (R402): 1–500. -/
def Od.SLEW_PPM : OdRow := ⟨"SLEW_PPM", 0x5400, 1, 0x0A, 1, .u16, .rws, .num 100, .span 1 500, .p⟩

/-- OD 0x5400:0B (R402): 10–10,000. -/
def Od.LOCK_NS : OdRow := ⟨"LOCK_NS", 0x5400, 1, 0x0B, 1, .u16, .rw, .num 100, .span 10 10000, .p⟩

/-- OD 0x5400:0C (R402): 0 FREERUN, 1 ACQUIRING, 2 LOCKED, 3 HOLDOVER. -/
def Od.SERVO_STATE : OdRow := ⟨"SERVO_STATE", 0x5400, 1, 0x0C, 1, .u8, .ro, .num 0, .any, .v⟩

/-- OD 0x5400:0D (R402): last sample. -/
def Od.OFFSET_NS : OdRow := ⟨"OFFSET_NS", 0x5400, 1, 0x0D, 1, .i64, .ro, .num 0, .any, .v⟩

/-- OD 0x5400:0E (R402): within ±SLEW_PPM × 1,000. -/
def Od.FREQ_ADJ_PPB : OdRow := ⟨"FREQ_ADJ_PPB", 0x5400, 1, 0x0E, 1, .i32, .ro, .num 0, .any, .v⟩

/-- OD 0x5400:0F (R402): refused in RUN (R398). -/
def Od.TIME_STEP_NS : OdRow := ⟨"TIME_STEP_NS", 0x5400, 1, 0x0F, 1, .i64, .wo, .num 0, .any, .v⟩

/-- OD 0x5400:10 (R402): 0 off, 1 while LOCKED, 2 always. -/
def Od.PPS_OUT_MODE : OdRow := ⟨"PPS_OUT_MODE", 0x5400, 1, 0x10, 1, .u8, .rw, .num 1, .span 0 2, .p⟩

/-- OD 0x5400:11 (R402): 1–900,000. -/
def Od.PPS_OUT_WIDTH_US : OdRow := ⟨"PPS_OUT_WIDTH_US", 0x5400, 1, 0x11, 1, .u32, .rw, .num 100000, .span 1 900000, .p⟩

/-- OD 0x5400:12 (R402): −100,000 to 100,000. -/
def Od.PPS_IN_DELAY_NS : OdRow := ⟨"PPS_IN_DELAY_NS", 0x5400, 1, 0x12, 1, .i32, .rw, .num 0, .signed (-100000) 100000, .p⟩

/-- OD 0x5400:13 (R402): 20 bytes: I32 for FP0–FP3, then MGMT. -/
def Od.PORT_ASYMMETRY_NS : OdRow := ⟨"PORT_ASYMMETRY_NS", 0x5400, 1, 0x13, 1, .ostr, .rw, .bytes (List.replicate 20 0), .len 20 20, .p⟩

/-- OD 0x5400:14 (R402): 0–1. -/
def Od.PTM_ENABLE : OdRow := ⟨"PTM_ENABLE", 0x5400, 1, 0x14, 1, .bool, .rw, .num 1, .span 0 1, .p⟩

/-- OD 0x5400:15 (R402): 1–1,000. -/
def Od.PTM_PERIOD_MS : OdRow := ⟨"PTM_PERIOD_MS", 0x5400, 1, 0x15, 1, .u16, .rw, .num 10, .span 1 1000, .p⟩

/-- OD 0x5400:16 (R402): 24 bytes: GTS U64, PTM time U64, delay U32, reserved. -/
def Od.PTM_SAMPLE : OdRow := ⟨"PTM_SAMPLE", 0x5400, 1, 0x16, 1, .ostr, .ro, .bytes (List.replicate 24 0), .len 24 24, .v⟩

/-- OD 0x5400:17 (R402): 8 bytes. -/
def Od.GRANDMASTER_ID : OdRow := ⟨"GRANDMASTER_ID", 0x5400, 1, 0x17, 1, .ostr, .ro, .bytes (List.replicate 8 0), .len 8 8, .v⟩

/-- OD 0x5400:18 (R402): 8 bytes (R395). -/
def Od.CLOCK_IDENTITY : OdRow := ⟨"CLOCK_IDENTITY", 0x5400, 1, 0x18, 1, .ostr, .const, .bytes [], .len 8 8, .none⟩

/-- OD 0x1400:09 (R426): 1–4. -/
def Od.PCIE_MAX_GEN : OdRow := ⟨"PCIE_MAX_GEN", 0x1400, 1, 0x09, 1, .u8, .rw, .num 4, .span 1 4, .p⟩

/-- OD 0x1400:0A (R426): 1, 2, 4, 8. -/
def Od.PCIE_MAX_WIDTH : OdRow := ⟨"PCIE_MAX_WIDTH", 0x1400, 1, 0x0A, 1, .u8, .rw, .num 8, .oneOf [1, 2, 4, 8], .p⟩

/-- OD 0x1400:0B (R426): 0 common, 1 SRNS, 2 SRIS. -/
def Od.PCIE_CLOCKING : OdRow := ⟨"PCIE_CLOCKING", 0x1400, 1, 0x0B, 1, .u8, .rw, .num 0, .span 0 2, .p⟩

/-- OD 0x1400:20 (R426): 0–1. -/
def Od.MEM_INLINE_ECC : OdRow := ⟨"MEM_INLINE_ECC", 0x1400, 1, 0x20, 1, .bool, .rw, .num 1, .span 0 1, .p⟩

/-- OD 0x1400:21 (R426): 6,400, 7,500, 8,533. -/
def Od.MEM_MAX_MTS : OdRow := ⟨"MEM_MAX_MTS", 0x1400, 1, 0x21, 1, .u16, .rw, .num 8533, .oneOf [6400, 7500, 8533], .p⟩

/-- OD 0x2D00:04 (R426): 0–1. -/
def Od.INTAKE_ENABLE : OdRow := ⟨"INTAKE_ENABLE", 0x2D00, 256, 0x04, 1, .bool, .rw, .num 0, .span 0 1, .v⟩

/-- OD 0x2D00:05 (R426): 128–1,024, multiple of 64. -/
def Od.RECORD_BYTES : OdRow := ⟨"RECORD_BYTES", 0x2D00, 256, 0x05, 1, .u16, .rw, .num 256, .mult 128 1024 64, .v⟩

/-- OD 0x2D00:06 (R426): bit n for Sn; bits [15:12] 0. -/
def Od.CONTEXT_STREAMS : OdRow := ⟨"CONTEXT_STREAMS", 0x2D00, 256, 0x06, 1, .u16, .rw, .num 0, .mask 4095, .v⟩

/-- OD 0x2D00:07 (R426): bus address, 4-byte aligned. -/
def Od.CONSUMED_ADDR : OdRow := ⟨"CONSUMED_ADDR", 0x2D00, 256, 0x07, 1, .u64, .rw, .num 0, .align 4, .v⟩

/-- OD 0x2D00:08 (R426): —. -/
def Od.RECORDS_ACCEPTED : OdRow := ⟨"RECORDS_ACCEPTED", 0x2D00, 256, 0x08, 1, .u64, .ro, .num 0, .any, .v⟩

/-- OD 0x2D00:09 (R426): R404, R410, R411. -/
def Od.RECORDS_DISCARDED : OdRow := ⟨"RECORDS_DISCARDED", 0x2D00, 256, 0x09, 1, .u32, .ro, .num 0, .any, .v⟩

/-- OD 0x2D00:0A (R426): —. -/
def Od.RECORDS_ORPHANED : OdRow := ⟨"RECORDS_ORPHANED", 0x2D00, 256, 0x0A, 1, .u32, .ro, .num 0, .any, .v⟩

/-- OD 0x2D00:0B (R426): —. -/
def Od.SLOT_OVERRUNS : OdRow := ⟨"SLOT_OVERRUNS", 0x2D00, 256, 0x0B, 1, .u32, .ro, .num 0, .any, .v⟩

/-- OD 0x2D00:0C (R426): —. -/
def Od.CONSUMED : OdRow := ⟨"CONSUMED", 0x2D00, 256, 0x0C, 1, .u32, .ro, .num 0, .any, .v⟩

/-- OD 0x2D00:0D (R426): R23. -/
def Od.RECORDS_LATE : OdRow := ⟨"RECORDS_LATE", 0x2D00, 256, 0x0D, 1, .u32, .ro, .num 0, .any, .v⟩

/-- OD 0x7000:01 (R426): [7:4] width, [3:0] generation. -/
def Od.PCIE_LINK : OdRow := ⟨"PCIE_LINK", 0x7000, 1, 0x01, 1, .u8, .ro, .num 0, .any, .v⟩

/-- OD 0x7000:02 (R426): —. -/
def Od.AER_CORRECTABLE : OdRow := ⟨"AER_CORRECTABLE", 0x7000, 1, 0x02, 1, .u32, .ro, .num 0, .any, .v⟩

/-- OD 0x7000:03 (R426): —. -/
def Od.AER_UNCORRECTABLE : OdRow := ⟨"AER_UNCORRECTABLE", 0x7000, 1, 0x03, 1, .u32, .ro, .num 0, .any, .v⟩

/-- OD 0x7000:04 (R426): FLR and PERST#. -/
def Od.PCIE_RESETS : OdRow := ⟨"PCIE_RESETS", 0x7000, 1, 0x04, 1, .u32, .ro, .num 0, .any, .v⟩

/-- OD 0x7000:05 (R426): —. -/
def Od.DRAM_CORRECTED : OdRow := ⟨"DRAM_CORRECTED", 0x7000, 1, 0x05, 1, .u64, .ro, .num 0, .any, .v⟩

/-- OD 0x7000:06 (R426): —. -/
def Od.DRAM_UNCORRECTABLE : OdRow := ⟨"DRAM_UNCORRECTABLE", 0x7000, 1, 0x06, 1, .u32, .ro, .num 0, .any, .v⟩

/-- OD 0x7000:07 (R426): weights, packages, sets and maps. -/
def Od.PAGE_CRC_FAILS : OdRow := ⟨"PAGE_CRC_FAILS", 0x7000, 1, 0x07, 1, .u32, .ro, .num 0, .any, .v⟩

/-- OD 0x7000:08 (R426): —. -/
def Od.SRAM_SCRUB_CORRECTED : OdRow := ⟨"SRAM_SCRUB_CORRECTED", 0x7000, 1, 0x08, 1, .u64, .ro, .num 0, .any, .v⟩

/-- OD 0x7000:09 (R426): —. -/
def Od.SRAM_UNCORRECTABLE : OdRow := ⟨"SRAM_UNCORRECTABLE", 0x7000, 1, 0x09, 1, .u32, .ro, .num 0, .any, .v⟩

/-- OD 0x7000:0C (R426): R406, R408. -/
def Od.STRAY_WRITES : OdRow := ⟨"STRAY_WRITES", 0x7000, 1, 0x0C, 1, .u32, .ro, .num 0, .any, .v⟩

/-- OD 0x6000:01 (R452): 0, 2, 3, 4; OPERATOR or higher. -/
def Od.POWER_REQUEST : OdRow := ⟨"POWER_REQUEST", 0x6000, 1, 0x01, 1, .u8, .wo, .num 0, .oneOf [0, 2, 3, 4], .v⟩

/-- OD 0x6000:02 (R452): 0–1. -/
def Od.GATE_AUTO : OdRow := ⟨"GATE_AUTO", 0x6000, 1, 0x02, 1, .bool, .rw, .num 1, .span 0 1, .p⟩

/-- OD 0x6000:03 (R452): 10–10,000. -/
def Od.GATE_IDLE_US : OdRow := ⟨"GATE_IDLE_US", 0x6000, 1, 0x03, 1, .u16, .rw, .num 100, .span 10 10000, .p⟩

/-- OD 0x6000:04 (R452): bits of R433. -/
def Od.WAKE_SOURCES : OdRow := ⟨"WAKE_SOURCES", 0x6000, 1, 0x04, 1, .u8, .rw, .num 15, .mask 15, .p⟩

/-- OD 0x6000:05 (R452): 0 = off; RTC second. -/
def Od.WAKE_RTC_S : OdRow := ⟨"WAKE_RTC_S", 0x6000, 1, 0x05, 1, .u32, .rw, .num 0, .any, .v⟩

/-- OD 0x6000:06 (R452): 1 = reset; SAFETY_OFFICER or SERVICE. -/
def Od.WARM_RESET : OdRow := ⟨"WARM_RESET", 0x6000, 1, 0x06, 1, .u8, .wo, .num 0, .span 1 1, .v⟩

/-- OD 0x6000:07 (R452): 1 = reset; SERVICE. -/
def Od.CHECK_DIE_RESET : OdRow := ⟨"CHECK_DIE_RESET", 0x6000, 1, 0x07, 1, .u8, .wo, .num 0, .span 1 1, .v⟩

/-- OD 0x6000:08 (R452): 0 on command, 1 automatic. -/
def Od.START_MODE : OdRow := ⟨"START_MODE", 0x6000, 1, 0x08, 1, .u8, .rws, .num 0, .span 0 1, .p⟩

/-- OD 0x6000:09 (R452): 1; OPERATOR or higher. -/
def Od.RUN_REQUEST : OdRow := ⟨"RUN_REQUEST", 0x6000, 1, 0x09, 1, .u8, .wo, .num 0, .span 1 1, .v⟩

/-- OD 0x6000:0A (R452): 1 enter, 0 leave; SERVICE. -/
def Od.SERVICE_REQUEST : OdRow := ⟨"SERVICE_REQUEST", 0x6000, 1, 0x0A, 1, .u8, .wo, .num 0, .span 0 1, .v⟩

/-- OD 0x6000:0B (R452): 0–4 (R435). -/
def Od.LAST_RESET : OdRow := ⟨"LAST_RESET", 0x6000, 1, 0x0B, 1, .u8, .ro, .num 0, .any, .g⟩

/-- OD 0x6000:0C (R452): SAFETY index or cause. -/
def Od.LAST_RESET_DETAIL : OdRow := ⟨"LAST_RESET_DETAIL", 0x6000, 1, 0x0C, 1, .u16, .ro, .num 0, .any, .g⟩

/-- OD 0x6000:0D (R452): 20 bytes: U32 for POR, VBAT loss, RESET_N, safety, warm. -/
def Od.RESET_COUNTS : OdRow := ⟨"RESET_COUNTS", 0x6000, 1, 0x0D, 1, .ostr, .ro, .bytes (List.replicate 20 0), .len 20 20, .g⟩

/-- OD 0x6000:0E (R452): 0–2 (R439). -/
def Od.GUEST_BOOK_STATE : OdRow := ⟨"GUEST_BOOK_STATE", 0x6000, 1, 0x0E, 1, .u8, .ro, .num 0, .any, .v⟩

/-- OD 0x6000:30 (R452): step of R442 last completed. -/
def Od.BOOT_STAGE : OdRow := ⟨"BOOT_STAGE", 0x6000, 1, 0x30, 1, .u8, .ro, .num 0, .any, .v⟩

/-- OD 0x6000:31 (R452): 0 none, 1–6 (R444). -/
def Od.BOOT_FAULT : OdRow := ⟨"BOOT_FAULT", 0x6000, 1, 0x31, 1, .u8, .ro, .num 0, .any, .v⟩

/-- OD 0x6000:32 (R452): 0–64. -/
def Od.SEC_VERSION_FLOOR : OdRow := ⟨"SEC_VERSION_FLOOR", 0x6000, 1, 0x32, 1, .u8, .ro, .num 0, .span 0 64, .none⟩

/-- OD 0x6000:33 (R452): R447; SERVICE. -/
def Od.SEC_VERSION_RAISE : OdRow := ⟨"SEC_VERSION_RAISE", 0x6000, 1, 0x33, 1, .u8, .wo, .num 0, .any, .none⟩

/-- OD 0x6000:34 (R452): 32 bytes; any role. -/
def Od.ATTEST_NONCE : OdRow := ⟨"ATTEST_NONCE", 0x6000, 1, 0x34, 1, .ostr, .wo, .num 0, .len 32 32, .v⟩

/-- OD 0x6000:35 (R452): R450. -/
def Od.ATTEST_REPORT : OdRow := ⟨"ATTEST_REPORT", 0x6000, 1, 0x35, 1, .domain, .ro, .bytes [], .any, .v⟩

/-- OD 0x6000:36 (R452): 0 NONE, 1 SIGNING, 2 READY. -/
def Od.ATTEST_STATE : OdRow := ⟨"ATTEST_STATE", 0x6000, 1, 0x36, 1, .u8, .ro, .num 0, .any, .v⟩

/-- OD 0x6001:01 (R452): signed image; INTEGRATOR or SERVICE. -/
def Od.FW_IMAGE : OdRow := ⟨"FW_IMAGE", 0x6001, 1, 0x01, 1, .domain, .wo, .bytes [], .len 0 67108864, .p⟩

/-- OD 0x6001:02 (R452): 0 NONE, 1 LOADING, 2 VERIFYING, 3 PROGRAMMING, 4 STORED, 5 INVALID. -/
def Od.FW_IMAGE_STATE : OdRow := ⟨"FW_IMAGE_STATE", 0x6001, 1, 0x02, 1, .u8, .ro, .num 0, .any, .v⟩

/-- OD 0x6002:01 (R452): 64 bytes. -/
def Od.IDENTITY_PUBLIC_KEY : OdRow := ⟨"IDENTITY_PUBLIC_KEY", 0x6002, 1, 0x01, 1, .ostr, .const, .bytes [], .len 64 64, .none⟩

/-- OD 0x6002:02 (R452): R449; INTEGRATOR or higher. -/
def Od.DEVICE_CERT : OdRow := ⟨"DEVICE_CERT", 0x6002, 1, 0x02, 1, .domain, .rw, .bytes [], .len 0 67108864, .p⟩

/-- OD 0x6002:03 (R452): 0 EMPTY, 1 STORED. -/
def Od.CERT_STATE : OdRow := ⟨"CERT_STATE", 0x6002, 1, 0x03, 1, .u8, .ro, .num 0, .any, .p⟩

/-- OD 0x7000:30 (R452): bits of R443. -/
def Od.SELFTEST_FAILED : OdRow := ⟨"SELFTEST_FAILED", 0x7000, 1, 0x30, 1, .u16, .ro, .num 0, .any, .v⟩

/-- OD 0x7000:31 (R452): —. -/
def Od.SELFTEST_MS : OdRow := ⟨"SELFTEST_MS", 0x7000, 1, 0x31, 1, .u16, .ro, .num 0, .any, .v⟩

/-- OD 0x6800:01 (R466): 0–2. -/
def Od.INJECT_PERMIT : OdRow := ⟨"INJECT_PERMIT", 0x6800, 1, 0x01, 1, .u8, .rws, .num 0, .span 0 2, .v⟩

/-- OD 0x6800:02 (R466): bit j set when injector j is armed. -/
def Od.INJECT_ACTIVE : OdRow := ⟨"INJECT_ACTIVE", 0x6800, 1, 0x02, 1, .u8, .ro, .num 0, .any, .v⟩

/-- OD 0x6800:03 (R466): session slot; 0xFF none. -/
def Od.INJECT_OWNER : OdRow := ⟨"INJECT_OWNER", 0x6800, 1, 0x03, 1, .u8, .ro, .num 255, .any, .v⟩

/-- OD 0x6810:01 (R466): [15:12] kind 1–7; [11:0] instance (R456). -/
def Od.INJ_POINT : OdRow := ⟨"INJ_POINT", 0x6810, 8, 0x01, 1, .u16, .rw, .num 0, .span 4096 32767, .v⟩

/-- OD 0x6810:02 (R466): 1–5 (R457). -/
def Od.INJ_ACTION : OdRow := ⟨"INJ_ACTION", 0x6810, 8, 0x02, 1, .u8, .rw, .num 0, .span 1 5, .v⟩

/-- OD 0x6810:03 (R466): 0–3 (R458). -/
def Od.INJ_SELECT : OdRow := ⟨"INJ_SELECT", 0x6810, 8, 0x03, 1, .u8, .rw, .num 3, .span 0 3, .v⟩

/-- OD 0x6810:04 (R466): NTH 1–0xFFFF_FFFF; RANDOM 1–65,535. -/
def Od.INJ_PERIOD : OdRow := ⟨"INJ_PERIOD", 0x6810, 8, 0x04, 1, .u32, .rw, .num 1, .span 1 4294967295, .v⟩

/-- OD 0x6810:05 (R466): —. -/
def Od.INJ_START : OdRow := ⟨"INJ_START", 0x6810, 8, 0x05, 1, .u32, .rw, .num 0, .any, .v⟩

/-- OD 0x6810:06 (R466): 0 = unlimited. -/
def Od.COUNT_MAX : OdRow := ⟨"COUNT_MAX", 0x6810, 8, 0x06, 1, .u32, .rw, .num 0, .any, .v⟩

/-- OD 0x6810:07 (R466): 1–3,600,000. -/
def Od.DURATION_MS : OdRow := ⟨"DURATION_MS", 0x6810, 8, 0x07, 1, .u32, .rw, .num 10000, .span 1 3600000, .v⟩

/-- OD 0x6810:08 (R466): R456. -/
def Od.INJ_FILTER : OdRow := ⟨"INJ_FILTER", 0x6810, 8, 0x08, 1, .u16, .rw, .num 0, .any, .v⟩

/-- OD 0x6810:09 (R466): R456. -/
def Od.INJ_OFFSET : OdRow := ⟨"INJ_OFFSET", 0x6810, 8, 0x09, 1, .u32, .rw, .num 0, .any, .v⟩

/-- OD 0x6810:0A (R466): nonzero for CORRUPT. -/
def Od.XOR_MASK : OdRow := ⟨"XOR_MASK", 0x6810, 8, 0x0A, 1, .u32, .rw, .num 1, .any, .v⟩

/-- OD 0x6810:0B (R466): 0–1,000,000. -/
def Od.DELAY_NS : OdRow := ⟨"DELAY_NS", 0x6810, 8, 0x0B, 1, .u32, .rw, .num 0, .span 0 1000000, .v⟩

/-- OD 0x6810:0C (R466): 0–1; 0 on corridor points. -/
def Od.RECRC : OdRow := ⟨"RECRC", 0x6810, 8, 0x0C, 1, .bool, .rw, .num 0, .span 0 1, .v⟩

/-- OD 0x6810:0D (R466): reads 1 while armed. -/
def Od.ARM : OdRow := ⟨"ARM", 0x6810, 8, 0x0D, 1, .bool, .rw, .num 0, .span 0 1, .v⟩

/-- OD 0x6810:0E (R466): actions since the last reset. -/
def Od.INJECTED : OdRow := ⟨"INJECTED", 0x6810, 8, 0x0E, 1, .u32, .ro, .num 0, .any, .v⟩

/-- Rows 0 to 24 of the dictionary (R360). -/
def Od.rows0 : List OdRow :=
  [Od.AUDIT_EPOCH_US, Od.AUDIT_HORIZON_MS, Od.TAP_DELIVERY_MS, Od.RESULT_DEADLINE_US,
   Od.STREAM_ENABLE, Od.LANE_BOND, Od.LINE_RATE, Od.FEC_ENABLE,
   Od.FRAME_SLOTS, Od.PAYLOAD_MAX, Od.STRICTNESS, Od.FRAME_GAP_MAX_NS,
   Od.STALL_LIMIT_US, Od.STALL_SAFE_US, Od.RESYNC_RUN, Od.AGE_MAX_US,
   Od.ERR_D, Od.ERR_W, Od.TEST_ALLOW, Od.STREAM_RESTART,
   Od.STREAM_STATE, Od.FRAMES_ACCEPTED, Od.INGRESS_FAULTS, Od.NO_INPUT_SLOTS,
   Od.STRAY_AND_DUPLICATE]

/-- Rows 25 to 49 of the dictionary (R360). -/
def Od.rows1 : List OdRow :=
  [Od.LINK_DELAY_PS, Od.SOURCE_ID, Od.CHECK_KIND, Od.PAYLOAD_FORMAT,
   Od.SAMPLE_PERIOD_FS, Od.GTS_TOL_NS, Od.TIME_PERIOD_US, Od.REDUNDANCY_MODE,
   Od.FENCE_MAP, Od.CLUSTER_FENCED, Od.FENCE_CLEAR, Od.ROW_FENCE_WINDOW_MS,
   Od.ROW_FENCE_LIMIT, Od.WATCH_MAP, Od.RESIDUE_MISMATCHES, Od.SPECTRAL_FAILS,
   Od.PAIR_MISMATCHES, Od.BOUND_SATURATED, Od.BOUND_TEST_PERIOD_MS, Od.SRAM_CORRECTED,
   Od.ARRAY_RETEST, Od.RETEST_PASSED, Od.RETEST_STATE, Od.AUDIT_RESERVE_PM,
   Od.PLAN_SHARE]

/-- Rows 50 to 74 of the dictionary (R360). -/
def Od.rows2 : List OdRow :=
  [Od.PLAN_BUDGET_MAC, Od.PLAN_CLUSTERS, Od.REPLANS, Od.SHED_STREAMS,
   Od.FALLBACK_STREAMS, Od.CYCLE_STOPS, Od.EARLY_FRAMES, Od.SLOT_STATE,
   Od.SLOT_IMAGE, Od.IMAGE_DIGEST, Od.PACKAGE_ID, Od.MAC_PER_FRAME,
   Od.CYCLES, Od.SLOT_EXPECTED_DIGEST, Od.SLOT_LOAD_FAULT, Od.PRIMARY_SLOT,
   Od.FALLBACK_SLOT, Od.SHED_PRIORITY, Od.ACTIVE_SLOT, Od.PLACEMENT,
   Od.SAMPLE_CHANNELS, Od.SAMPLE_POSITIONS, Od.AUDITS_OPEN, Od.AUDIT_EPOCH_NUMBER,
   Od.AUDITED_OK_COUNT]

/-- Rows 75 to 99 of the dictionary (R360). -/
def Od.rows3 : List OdRow :=
  [Od.AUDITED_FAIL_COUNT, Od.AUDIT_SKIPPED_COUNT, Od.SKIP_CAUSES, Od.LATE_DELIVERIES,
   Od.STRAY_LANDING_WRITES, Od.MANIFEST_STATE, Od.MANIFEST_IMAGE, Od.MODEL_ID,
   Od.MANIFEST_DIGEST, Od.MANIFEST_EXPECTED_DIGEST, Od.WEIGHTS_STATE, Od.MANIFEST_LOAD_FAULT,
   Od.DELIVERY_BYTES, Od.AUDIT_MAC, Od.MANIFEST_SLOT, Od.AUDIT_FRACTION,
   Od.MAILBOX_BASE, Od.MAILBOX_ENTRIES, Od.REQUESTER_ID, Od.LANTERN_MODE,
   Od.LANTERN_PERIOD, Od.LANTERN_SET, Od.LANTERN_SET_STATE, Od.EXPECTED_SET_DIGEST,
   Od.STARVED_ACTION]

/-- Rows 100 to 124 of the dictionary (R360). -/
def Od.rows4 : List OdRow :=
  [Od.LANTERNS_PASSED, Od.LANTERNS_FAILED, Od.LANTERNS_MISSING, Od.LANTERN_DEFERRALS,
   Od.LANTERN_STARVED, Od.VERDICT_EPOCH, Od.EPOCH_BOUNDARY_GTS, Od.EPOCH_CAUSES,
   Od.SECOND_OPINION_MS, Od.SECOND_OPINION_ENABLE, Od.MAP_STATE, Od.MAP_IMAGE,
   Od.MAP_DIGEST, Od.MAP_EXPECTED_DIGEST, Od.MAP_LOAD_FAULT, Od.MAP_SLOT,
   Od.ESC_D, Od.ESC_W, Od.ESCALATION_ACTION, Od.FORCED_AUDITS,
   Od.DISAGREE_AUDIT, Od.ESCALATED, Od.DISAGREEMENTS, Od.ESCALATIONS,
   Od.ATTRIBUTIONS]

/-- Rows 125 to 149 of the dictionary (R360). -/
def Od.rows5 : List OdRow :=
  [Od.FALLBACK_MAP_SLOT, Od.HEARTBEAT_PERIOD_US, Od.RELEASE_WAIT_US, Od.RETRACTS_SENT,
   Od.FENCES_SENT, Od.RESULTS_RELEASED, Od.MIRROR_DROPPED, Od.RELEASE_MODE,
   Od.VE_ENABLE, Od.VE_LINE_RATE, Od.VE_FEC, Od.VE_STATE,
   Od.VE_RX_ERRORS, Od.CONSUMER_ENABLE, Od.CONSUMER_LANE, Od.CONSUMER_ID,
   Od.RESULT_STREAMS, Od.VERDICT_STREAMS, Od.CREDIT_TOTAL, Od.CREDIT_GEN,
   Od.RESULTS_SENT, Od.RESULTS_DROPPED, Od.CORE_MODE, Od.CORE_MODE_ACTIVE,
   Od.KEEPER_LAG]

/-- Rows 150 to 174 of the dictionary (R360). -/
def Od.rows6 : List OdRow :=
  [Od.SPLIT_APP_IMAGE, Od.SPLIT_APP_DIGEST, Od.SPLIT_APP_STATE, Od.HEART_LOSS_NS,
   Od.KILL_POWER, Od.CD_RESET_LIMIT, Od.CD_RESET_WINDOW_S, Od.CD_RESET_LOCKED,
   Od.CORRIDOR_ERR_LIMIT, Od.FLIT_CRC_ERRORS, Od.FLITS_REPLAYED, Od.CD_RESETS,
   Od.DELAY_ECC_CORRECTED, Od.INJECTIONS_PASSED, Od.TOKEN_QUEUE_PEAK, Od.PAIR_FUNCTION,
   Od.WIRING, Od.FILTER_US, Od.DISC_TIME, Od.TEST_PULSE,
   Od.PAIR_STATE, Od.RAW_LEVELS, Od.PAIR_FAULTS, Od.TP_WIDTH_US,
   Od.TP_PERIOD_MS]

/-- Rows 175 to 199 of the dictionary (R360). -/
def Od.rows7 : List OdRow :=
  [Od.RESTART_MODE, Od.PULSE_WIDTH_US, Od.PULSE_PERIOD_MS, Od.BFB_ENABLE,
   Od.BFB_TIME_MS, Od.BT_INTERVAL_MIN, Od.BT_GRACE_MIN, Od.BT_DURATION_MS,
   Od.BT_EXPIRY_ACTION, Od.BT_START, Od.BT_STATUS, Od.BT_AGE_S,
   Od.BT_RESULT, Od.HOLD_REQUEST, Od.BRAKE_STATE, Od.SAFE_CAUSES,
   Od.OUTPUT_FAULT, Od.FAULT_CLEAR, Od.GUARD, Od.STOP_VERDICTS,
   Od.STOP_CLASSES, Od.STOP_RUN, Od.STOP_ON_ESCALATED, Od.STOP_ON_LOSS,
   Od.STOP_ON_STARVED]

/-- Rows 200 to 224 of the dictionary (R360). -/
def Od.rows8 : List OdRow :=
  [Od.WDS_MODE, Od.WDS_CLOCK, Od.WDS_TIMEOUT_US, Od.WDS_WOPEN_US,
   Od.WDS_GRACE_US, Od.WDS_RESETS, Od.WDH_MODE, Od.WDH_CLOCK,
   Od.WDH_TIMEOUT_US, Od.WDH_WOPEN_US, Od.WDH_GRACE_US, Od.WDH_START,
   Od.WDH_RESETS, Od.WDH_WARNINGS, Od.WDS_WARNINGS, Od.WD_CLOCK_TRIPS,
   Od.WDH_IGNORED, Od.RC_ENABLE, Od.RC_CYCLE_US, Od.RC_AUTO_SERVE,
   Od.RC_ENTITY_MASK, Od.RC_CYCLES_FAILED, Od.RC_STRAYS, Od.RC_MIN,
   Od.RC_MAX]

/-- Rows 225 to 249 of the dictionary (R360). -/
def Od.rows9 : List OdRow :=
  [Od.RC_SEQ, Od.RC_MIN_FAILS, Od.RC_MAX_FAILS, Od.RC_SEQ_FAILS,
   Od.HOST_MIN_SEVERITY, Od.LOST_COLLECTOR, Od.LOST_CORRIDOR, Od.LOST_HOST_RING,
   Od.COALESCED_TOTAL, Od.RING_WRITTEN, Od.RING_READ_INDEX, Od.RING_READ_DATA,
   Od.SAFETY_LOG, Od.FIRST_FAULTS, Od.LOG_CLEAR, Od.SIG_BATCH_PERIOD_S,
   Od.SIG_BATCH_MAX, Od.SIG_BATCH_SEQ, Od.SIG_BATCH_READ, Od.SIG_BATCHES_DROPPED,
   Od.MARGIN_PERIOD_H, Od.MARGIN_POLICY, Od.MARGIN_START, Od.MARGIN_STATE,
   Od.MARGIN_RUN_MS]

/-- Rows 250 to 274 of the dictionary (R360). -/
def Od.rows10 : List OdRow :=
  [Od.MARGIN_NEXT, Od.MARGIN_LAST, Od.MARGIN_DEFERRED, Od.SESSIONS_OPEN,
   Od.SESSION_IDLE_S, Od.LOCKOUT_STATE, Od.TAG_FAILURES, Od.REPLAYS,
   Od.PASS_SALT, Od.ROLE_KEY, Od.KEY_STATE, Od.OPERATOR_PASSPHRASE,
   Od.OD_TUNNEL_IN, Od.OD_TUNNEL_OUT, Od.CAN_A_NODE_ID, Od.CAN_B_NODE_ID,
   Od.CAN_NOMINAL_KBIT, Od.CAN_DATA_KBIT, Od.MGMT_ENABLE, Od.MGMT_IPV4,
   Od.MGMT_UDP_PORT, Od.FABRIC_OD_RELAY, Od.COMMIT_CRC, Od.STAGE_DISCARD,
   Od.COMMIT_STATUS]

/-- Rows 275 to 299 of the dictionary (R360). -/
def Od.rows11 : List OdRow :=
  [Od.REFUSAL_CODE, Od.REFUSAL_ENTRY, Od.STAGE_OWNER, Od.STAGED_COUNT,
   Od.COMMITS, Od.VENDOR_NAME, Od.DEVICE_NAME, Od.ORDER_CODE,
   Od.DIE_REVISION, Od.DEVICE_UID, Od.TJ_RANGE, Od.BOOT_ROM_VERSION,
   Od.FW_VERSION, Od.FW_DIGEST, Od.OD_LAYOUT, Od.MEMORY_GIB,
   Od.CHECK_DIE_STATE, Od.DEVICE_STATE, Od.POWER_STATE, Od.UPTIME_S,
   Od.BOOT_COUNT, Od.PARTNERS_IN_USE, Od.PARTNER_SELECT, Od.PARTNER_ENTRY,
   Od.FABRIC_ENABLE]

/-- Rows 300 to 324 of the dictionary (R360). -/
def Od.rows12 : List OdRow :=
  [Od.FP_ENABLE, Od.FP_MEDIUM, Od.FABRIC_ETHERTYPE, Od.NODE_ID_CONFIG,
   Od.FABRIC_MODE, Od.MANAGER_ALLOWED, Od.MANAGER_PRIORITY, Od.FABRIC_RESTART,
   Od.SO_MAX_HOPS, Od.RELAY_UDP_PORT, Od.NODE_ID, Od.FABRIC_STATE,
   Od.FABRIC_NODES, Od.MANAGER_NODE, Od.PORT_STATE, Od.ROUTE_TABLE,
   Od.CLAIM_ROUNDS_UNRESOLVED, Od.HOPS_EXCEEDED, Od.RETRANSMITS, Od.PAIRS_BROKEN,
   Od.FRAMES_DISCARDED, Od.SO_SENT, Od.SO_SERVED, Od.SO_DECLINED,
   Od.MIRROR_TARGET_NODE]

/-- Rows 325 to 349 of the dictionary (R360). -/
def Od.rows13 : List OdRow :=
  [Od.MIRROR_SUBRING, Od.MIRROR_STREAMS, Od.MIRROR_LOST, Od.MIRROR_SOURCE,
   Od.MIRROR_GAPS, Od.TIME_SOURCE, Od.PTP_DOMAIN, Od.PTP_PORTS,
   Od.MGMT_PTP_TRANSPORT, Od.TC_MODE, Od.OC_ROLE, Od.PRIORITY1,
   Od.PRIORITY2, Od.LOG_SYNC_INTERVAL, Od.SLEW_PPM, Od.LOCK_NS,
   Od.SERVO_STATE, Od.OFFSET_NS, Od.FREQ_ADJ_PPB, Od.TIME_STEP_NS,
   Od.PPS_OUT_MODE, Od.PPS_OUT_WIDTH_US, Od.PPS_IN_DELAY_NS, Od.PORT_ASYMMETRY_NS,
   Od.PTM_ENABLE]

/-- Rows 350 to 374 of the dictionary (R360). -/
def Od.rows14 : List OdRow :=
  [Od.PTM_PERIOD_MS, Od.PTM_SAMPLE, Od.GRANDMASTER_ID, Od.CLOCK_IDENTITY,
   Od.PCIE_MAX_GEN, Od.PCIE_MAX_WIDTH, Od.PCIE_CLOCKING, Od.MEM_INLINE_ECC,
   Od.MEM_MAX_MTS, Od.INTAKE_ENABLE, Od.RECORD_BYTES, Od.CONTEXT_STREAMS,
   Od.CONSUMED_ADDR, Od.RECORDS_ACCEPTED, Od.RECORDS_DISCARDED, Od.RECORDS_ORPHANED,
   Od.SLOT_OVERRUNS, Od.CONSUMED, Od.RECORDS_LATE, Od.PCIE_LINK,
   Od.AER_CORRECTABLE, Od.AER_UNCORRECTABLE, Od.PCIE_RESETS, Od.DRAM_CORRECTED,
   Od.DRAM_UNCORRECTABLE]

/-- Rows 375 to 399 of the dictionary (R360). -/
def Od.rows15 : List OdRow :=
  [Od.PAGE_CRC_FAILS, Od.SRAM_SCRUB_CORRECTED, Od.SRAM_UNCORRECTABLE, Od.STRAY_WRITES,
   Od.POWER_REQUEST, Od.GATE_AUTO, Od.GATE_IDLE_US, Od.WAKE_SOURCES,
   Od.WAKE_RTC_S, Od.WARM_RESET, Od.CHECK_DIE_RESET, Od.START_MODE,
   Od.RUN_REQUEST, Od.SERVICE_REQUEST, Od.LAST_RESET, Od.LAST_RESET_DETAIL,
   Od.RESET_COUNTS, Od.GUEST_BOOK_STATE, Od.BOOT_STAGE, Od.BOOT_FAULT,
   Od.SEC_VERSION_FLOOR, Od.SEC_VERSION_RAISE, Od.ATTEST_NONCE, Od.ATTEST_REPORT,
   Od.ATTEST_STATE]

/-- Rows 400 to 423 of the dictionary (R360). -/
def Od.rows16 : List OdRow :=
  [Od.FW_IMAGE, Od.FW_IMAGE_STATE, Od.IDENTITY_PUBLIC_KEY, Od.DEVICE_CERT,
   Od.CERT_STATE, Od.SELFTEST_FAILED, Od.SELFTEST_MS, Od.INJECT_PERMIT,
   Od.INJECT_ACTIVE, Od.INJECT_OWNER, Od.INJ_POINT, Od.INJ_ACTION,
   Od.INJ_SELECT, Od.INJ_PERIOD, Od.INJ_START, Od.COUNT_MAX,
   Od.DURATION_MS, Od.INJ_FILTER, Od.INJ_OFFSET, Od.XOR_MASK,
   Od.DELAY_NS, Od.RECRC, Od.ARM, Od.INJECTED]

/-- Every row of the object dictionary, in the order of the chapters (R360). -/
def Od.table : List OdRow :=
  Od.rows0 ++
  Od.rows1 ++
  Od.rows2 ++
  Od.rows3 ++
  Od.rows4 ++
  Od.rows5 ++
  Od.rows6 ++
  Od.rows7 ++
  Od.rows8 ++
  Od.rows9 ++
  Od.rows10 ++
  Od.rows11 ++
  Od.rows12 ++
  Od.rows13 ++
  Od.rows14 ++
  Od.rows15 ++
  Od.rows16

/-- The row covers subindex `sub` of index `idx`. -/
def OdRow.covers (r : OdRow) (idx sub : Nat) : Bool :=
  decide (r.index ≤ idx ∧ idx < r.index + r.count ∧ r.sub ≤ sub ∧ sub < r.sub + r.subs)

/-- The row that defines an entry, if it is allocated (R360, R361). -/
def odFind (idx sub : Nat) : Option OdRow := Od.table.find? (fun r => r.covers idx sub)

/-- The default of the entry with a key (R8). -/
def odDefault (k : Nat) : Val :=
  match odFind (k / 256) (k % 256) with
  | some r => r.dflt
  | none => .num 0

/-- The index is allocated: some row lies in it (R361). -/
def odAllocated (idx : Nat) : Bool := Od.table.any (fun r => decide (r.index ≤ idx ∧ idx < r.index + r.count))

/-- HIGHEST_SUB of an allocated index (R362). -/
def odHighest (idx : Nat) : Nat :=
  (Od.table.filter (fun r => decide (r.index ≤ idx ∧ idx < r.index + r.count))).foldl
    (fun m r => max m (r.sub + r.subs - 1)) 0

/-- The persistence class is V or W. -/
def Pers.volatile : Pers → Bool
  | .v => true | .w => true | .p => false | .g => false | .none => false

/-- R367: the entry is held on the check die. -/
def OdRow.onCheckDie (r : OdRow) (idx sub : Nat) : Bool :=
  let vol := r.pers.volatile
  let inMid := decide (0x2000 ≤ idx ∧ idx ≤ 0x3FFF)
  let exc := decide ((idx = 0x2800 ∧ 1 ≤ sub ∧ sub ≤ 3) ∨ (idx = 0x3000 ∧ 3 ≤ sub ∧ sub ≤ 5))
  ((r.access == .ro || r.type == .domain) && vol && inMid && !exc)
    || (r.access == .ro && vol && (decide (0x5000 ≤ idx ∧ idx ≤ 0x57FF) || decide (idx = 0x7000 ∧ sub ≤ 0x1F)))
    || (decide (idx = 0x4800) && ([0x02, 0x03, 0x04, 0x05, 0x06, 0x07, 0x08, 0x0F, 0x10, 0x23, 0x27, 0x22].contains sub))
    || (r.access == .wo && inMid)

/-- The store with key `k` holding `v` (a value equal to the row's default is not listed). -/
def OdStore.putKey (s : OdStore) (k : Nat) (v : Val) : OdStore := s.put (odDefault k) k v

/-- A set of (key, value) pairs put into a store, in order. -/
def OdStore.putAll (s : OdStore) (l : List (Nat × Val)) : OdStore := l.foldl (fun s e => s.putKey e.1 e.2) s

/-- The entries of a store whose row has a property; the others fall back to their defaults. -/
def OdStore.keep (s : OdStore) (p : OdRow → Bool) : OdStore :=
  s.filter (fun e => match odFind (e.1 / 256) (e.1 % 256) with
    | some r => p r
    | none => false)

/-- The little-endian bytes of a value of a type (R339, R357). -/
def Val.octets (t : OdType) : Val → Octets
  | .num n => le (t.bits / 8) n
  | .bytes b => b

end Sys2Proof.Machine
end

