-- ==== Sys2Proof/Machine/CheckTypes.lean ====
section
/-! DEFINITION. The check die's data path as records: streams, ledger, arrays, plan, audits, composition, toll gate,
host interface, corridor end, event collector, signatures and margin test. Times are ns of the internal clock. -/

namespace Sys2Proof.Machine

/-- Stream states (R68), coded as OD 0x2000+n:11. -/
inductive StreamState where
  | idle | hunt | sync | run | resync | stalled | degraded | faulted
deriving DecidableEq, Repr

/-- The number of a stream state (R70). -/
def StreamState.code : StreamState → Nat
  | .idle => 0 | .hunt => 1 | .sync => 2 | .run => 3 | .resync => 4 | .stalled => 5 | .degraded => 6 | .faulted => 7

/-- A passport as parsed (R43). -/
structure Passport where
  crcOk : Bool := false
  magic : Nat := 0
  version : Nat := 0
  streamId : Nat := 0
  flags : Nat := 0
  counter : Nat := 0
  alive : Nat := 0
  format : Nat := 0
  length : Nat := 0
  source : Nat := 0
  gts : Nat := 0
  samples : Nat := 0
  overlap : Nat := 0
  lanternId : Nat := 0
  echo : Nat := 0
  echoT2 : Nat := 0
  echoT3 : Nat := 0
  octets : Octets := []
deriving DecidableEq, Repr

/-- A call that has been sent (R173), with the copy of its lantern's bands (R201). -/
structure Call where
  lanternId : Nat
  substitute : Bool
  after : Nat
  counter : Nat
  lantern : Lantern
  /-- placed by escalation, outside the schedule (R195) -/
  escalation : Bool := false
deriving DecidableEq, Repr

/-- The item a stream's lanes are receiving, after its 64 passport bytes. -/
structure OpenItem where
  pass : Passport
  started : Nat
  /-- reasons already set (R57, at the passport) -/
  reasons : Nat
  /-- id of its ledger entry; none in HUNT -/
  entry : Option Nat
  pages : Nat
  /-- a duplicate under R60, item 1 -/
  duplicate : Bool := false
  /-- the GTS at its VSTART (R55) -/
  startGts : Nat := 0
  /-- GTS, SAMPLE_COUNT and counter of the previous real frame (R67) -/
  before : Option (Nat × Nat × Nat) := none
deriving DecidableEq, Repr

/-- The lanterns of one stream (R172-R176). -/
structure LanternSt where
  /-- VALID set of the stream -/
  set : Slot LanternSet := {}
  /-- lantern counter, 32 bits -/
  counter : Nat := 0
  /-- real frames still to the scheduled lantern's position; none when not drawn -/
  due : Option Nat := none
  /-- a lantern whose call fell due and was deferred or cancelled -/
  waiting : Bool := false
  /-- the waiting lantern's call had been sent and was cancelled (R176) -/
  cancelled : Bool := false
  /-- an escalation lantern waits to be placed (R195) -/
  escWaiting : Bool := false
  /-- calls sent whose lantern has not arrived (R173) -/
  outstanding : Option Call := none
  /-- a lantern has arrived and has no outcome yet (R174, item 2) -/
  inFlight : Bool := false
  deferrals : Nat := 0
  starved : Bool := false
deriving DecidableEq, Repr

/-- The escalation window of one stream (R194-R196); newest first. -/
structure EscSt where
  flag : Bool := false
  /-- judged frames: entry id and whether it counts as a disagreement -/
  window : List (Nat × Bool) := []
  /-- judged frames without disagreement since the escalation or its restart -/
  clean : Nat := 0
  /-- a lantern placed after the escalation began, or restarted, has passed (R196) -/
  lanternPassed : Bool := false
  /-- the stream's lantern counter when the escalation began or restarted -/
  since : Nat := 0
  /-- frames with a result record still to be forced into audit -/
  forced : Nat := 0
deriving DecidableEq, Repr

/-- One stream of the porter (R34-R70), its lanterns and its escalation. -/
structure Stream where
  state : StreamState := .idle
  /-- block lock on every lane and pair alignment -/
  locked : Bool := false
  creditGen : Nat := 0
  /-- pages granted in this generation; CREDIT carries the count modulo 2^32 (R51) -/
  creditTotal : Nat := 0
  /-- pages sent by the source in this credit generation -/
  sent : Nat := 0
  /-- pages of the ingress buffer held by frames (R52) -/
  held : Nat := 0
  creditAt : Nat := 0
  timeAt : Nat := 0
  /-- last alive counter of an item with a valid header (R50); none: no baseline -/
  alive : Option Nat := none
  baseline : Nat := 0
  /-- NO_INPUT slots since the baseline (R60) -/
  noInputs : Nat := 0
  /-- the last accepted counter (R60, item 1) -/
  accepted : Option Nat := none
  syncGen : Nat := 0
  ref : Nat := 0
  paused : Bool := false
  /-- the last real frame carried PAUSE_NEXT (R174) -/
  realPause : Bool := false
  /-- time of the last non-marker block of a valid item (R66) -/
  lastBlock : Nat := 0
  resyncSince : Nat := 0
  runCount : Nat := 0
  /-- the last real frames, newest first: true where a check failed (R68) -/
  recent : List Bool := []
  goodRun : Nat := 0
  /-- GTS and SAMPLE_COUNT of the previous real frame, with its counter (R67) -/
  prev : Option (Nat × Nat × Nat) := none
  msgSeq : Nat := 0
  timeSeq : Nat := 0
  /-- TIME_SEQ and T1 of the last two TIME messages, newest first: a frame in flight when one leaves still echoes the one
  before (R55) -/
  t1s : List (Nat × Nat) := []
  /-- the open item -/
  item : Option OpenItem := none
  /-- time of the last RESYNC_REQ while its repetition is outstanding (R56) -/
  resyncReq : Option Nat := none
  /-- the CAUSE of that request, which its repetitions carry, and when it was first sent (R56) -/
  resyncCause : Nat := 1
  resyncFirst : Nat := 0
  /-- t0 of the last frame that ran a sentinel (R123) -/
  lastRun : Option Nat := none
  /-- activation buffer B received that frame (R122) -/
  bufferB : Bool := false
  /-- NO_MAP has been recorded (R185) -/
  noMap : Bool := false
  /-- time of the last frame, heartbeat or block lock, for the partner table (R373) -/
  received : Nat := 0
  discarded : Nat := 0
  lastGts : Nat := 0
  /-- with an injector armed on the stream: the passport of the item that arrives, its VSTART time, and whether it is in
  error (R456) -/
  raw : Option (Octets × Nat) := none
  /-- an injected copy is being presented, which uses no credit (R459) -/
  copy : Bool := false
deriving DecidableEq, Repr

/-- A stream that has never been touched. -/
def Stream.init : Stream := {}

/-- The audit state of a ledger entry (R145-R146, R163). -/
inductive AuditMark where
  | none | selected (id : Nat) | closed
deriving DecidableEq, Repr

/-- A result released to a consumer and not yet settled (R217). -/
structure Release where
  entry : Nat
  stream : Nat
  syncGen : Nat
  counter : Nat
  ctx : Nat
  epoch : Nat
  seq : Nat
  unverified : Bool
  /-- unsettled: released, and neither believed nor retracted; false when a fence retracted it or it was dropped -/
  live : Bool := true
deriving DecidableEq, Repr

/-- One portion of a frame's run (R125): its cluster, whether it belongs to the second copy, whether it is its copy's head, and the
tile groups of every MAC layer that it takes. -/
structure Part where
  cluster : Nat
  second : Bool
  head : Bool
  first : Nat
  upto : Nat
deriving DecidableEq, Repr

/-- One entry of the frame ledger (R28, R59). -/
structure Entry where
  id : Nat
  stream : Nat
  syncGen : Nat := 0
  counter : Nat := 0
  lantern : Bool := false
  /-- verdict epoch recorded (R25) -/
  epoch : Nat := 0
  opened : Nat := 0
  t0 : Option Nat := none
  /-- passport GTS; none when the header failed -/
  gts : Option Nat := none
  samples : Nat := 0
  format : Nat := 0
  pages : Nat := 0
  payload : Octets := []
  /-- reason bitmap gathered so far (R187) -/
  reasons : Nat := 0
  /-- SAFE_HOLD or SERVICE at the instant of R25 -/
  safe : Bool := false
  /-- the frame runs a sentinel (R58, R123) -/
  runs : Bool := false
  /-- package and map slots in force at t0, and clusters that hold portions -/
  pkg : Option Nat := none
  map : Option Nat := none
  clusters : List Nat := []
  /-- the portions that run it, and whether its result is compared between two copies (R97, R98, R125) -/
  parts : List Part := []
  full : Bool := false
  /-- clusters whose portion was stopped at t0 + 2 µs (R126) -/
  stopped : List Nat := []
  sentinel : Option SentOut := none
  /-- the run has ended: with an output, stopped or abandoned -/
  sentDone : Bool := false
  result : Option ResultRec := none
  call : Option Call := none
  forced : Bool := false
  audit : AuditMark := .none
  /-- provisional verdict code and reasons, once issued -/
  verdict : Option (Nat × Nat) := none
  /-- a final verdict that falls due with the provisional one (R146, R165) -/
  pendingFinal : Option (Nat × Nat) := none
  /-- the result deadline has passed without a record (R189) -/
  expired : Bool := false
  /-- an armed PCIe injector of its context saw its audit request, delivery or completion record (R461) -/
  tested : Bool := false
deriving DecidableEq, Repr

/-- One entry of the watch list (R101, R336): a row, 0xFF for the cluster, or the model's 0xFE for the cluster by R102. -/
structure Watch where
  row : Nat
  at_ : Nat
  /-- a margin mark (R336): does not expire -/
  margin : Bool := false
  /-- clusters disagreed with in FULL mode, and when (R102); such an entry has row 0xFE -/
  partners : List (Nat × Nat) := []
deriving DecidableEq, Repr

/-- One check cluster. -/
structure Cluster where
  /-- fenced rows, ascending -/
  rows : List Nat := []
  fenced : Bool := false
  watch : List Watch := []
  retestPassed : Bool := false
  /-- out of service for a margin test or re-test (R106) -/
  out : Bool := false
  gated : Bool := false
  /-- last time the cluster did work, for gating (R429) -/
  lastWork : Nat := 0
  /-- fenced rows that the MAC phases leave out: those fenced when the last one began (R104) -/
  rowsOut : List Nat := []
  /-- activation buffers A and B, 64 KiB each: the 16 KiB quarter of each stream hosted (R72, R122) -/
  bufA : Tbl Octets := []
  bufB : Tbl Octets := []
  /-- package region: the slots whose weights and tables it holds (R72, R121) -/
  region : List Nat := []
  /-- audit scratch: the reference-weight rows that the last pass loaded, by audit, segment and channel (R72, R162) -/
  scratch : List (Nat × Nat × Nat × List Operand) := []
  /-- the five accumulator contexts of its lanes (R124), 0–3 for portions and 4 for audit passes: row and accumulator -/
  contexts : Tbl (List (Nat × Int)) := []
  /-- time of the last bound test (R87) -/
  boundAt : Nat := 0
deriving DecidableEq, Repr

/-- A cluster never touched. -/
def Cluster.init : Cluster := {}

/-- One portion of a copy (R119): cluster and share. -/
structure Portion where
  cluster : Nat
  share : Rat
deriving DecidableEq, Repr

/-- How the plan runs one stream. -/
structure Placement where
  stream : Nat
  slot : Nat
  fallback : Bool := false
  first : List Portion := []
  second : List Portion := []
deriving DecidableEq, Repr

/-- The dispatcher (R119-R133). -/
structure Dispatcher where
  share : Rat := 1
  placements : List Placement := []
  shed : List Nat := []
  /-- a re-plan or remap runs; streams whose frames are FENCED until it completes (R105, R129) -/
  fencedStreams : List Nat := []
  /-- streams whose frames are NO_SENTINEL after a commit until the new plan runs (R131) -/
  movedStreams : List Nat := []
  replanning : Bool := false
  /-- the coming plan starts from the primaries (R132) -/
  fresh : Bool := false
  /-- full mode in force -/
  full : Bool := false
  /-- when a row or cluster was last fenced (R337) -/
  fencedAt : Option Nat := none
deriving DecidableEq, Repr

/-- Stages of an open audit. -/
inductive AuditStage where
  | waiting | arrived | checked
deriving DecidableEq, Repr

/-- One open audit (R146-R157). -/
structure Audit where
  id : Nat
  entry : Nat
  stream : Nat
  counter : Nat
  ctx : Nat
  model : Nat
  manifest : Nat
  /-- audit epoch of the frame (R148) -/
  epoch : Nat
  mailSeq : Nat
  mailEntry : Nat
  requester : Nat
  window : Nat
  count : Nat
  deliverBy : Nat
  landed : Nat
  /-- elements of the payload: SAMPLE_COUNT, doubled when complex -/
  samples : Nat := 0
  /-- passport GTS, for the commitment's prefix (R143) -/
  gts : Nat := 0
  commit : Octets
  stage : AuditStage := .waiting
  /-- delivered bytes of the run, sparse -/
  run : Memory := []
  /-- the sampled positions, per segment and channel (R150) -/
  positions : List (Nat × Nat × List Nat) := []
  /-- a pass has taken it; its processing allowance ends then (R164) -/
  inPass : Option Nat := none
  /-- the cluster that the pass runs on (R133, R162) -/
  cluster : Option Nat := none
  /-- the cluster whose residue checks failed in a first pass (R100) -/
  repeated : Option Nat := none
deriving DecidableEq, Repr

/-- An audit epoch that has not closed all its audits: end time and final pass state. -/
structure AuditEpoch where
  number : Nat
  started : Nat
  ended : Option Nat := none
  finalStarted : Bool := false
  /-- settings of the epoch (R148) -/
  tapDelivery : Nat := 0
  samplePositions : Nat := 0
  /-- sampled channels per manifest slot and segment (R149) -/
  channels : List (Nat × Nat × List Nat) := []
deriving DecidableEq, Repr

/-- The tap audit engine. -/
structure AuditEngine where
  manifests : Tbl (Slot Manifest) := []
  /-- WEIGHTS_STATE per slot and verified blobs -/
  weights : Tbl Nat := []
  blobs : List (Nat × Nat) := []
  open_ : List Audit := []
  nextId : Nat := 0
  epochs : List AuditEpoch := []
  epochNumber : Nat := 0
  epochStarted : Nat := 0
  running : Bool := false
  /-- windows freed, with the time plus one (R153) -/
  freed : Tbl Nat := []
  /-- next MAILBOX_SEQ per context (R152) -/
  mailSeq : Tbl Nat := []
  skips : List Nat := [0, 0, 0, 0, 0, 0]
  /-- batch passes started -/
  passes : Nat := 0
  /-- valid completion records of another audit (R155), and deliveries whose DATA_CRC differs (R157) -/
  foreign : Nat := 0
  badCrc : Nat := 0
deriving DecidableEq, Repr

/-- Why an audit closed AUDIT_SKIPPED: the order of SKIP_CAUSES (R168). -/
inductive SkipCause where
  | ledger | resources | allowance | clusters | weights | power
deriving DecidableEq, Repr

/-- The place of a cause in SKIP_CAUSES. -/
def SkipCause.code : SkipCause → Nat
  | .ledger => 0 | .resources => 1 | .allowance => 2 | .clusters => 3 | .weights => 4 | .power => 5

/-- A second-opinion request the GV720 has made (R191, R192). -/
structure Opinion where
  id : Nat
  entry : Nat
  stream : Nat
  peers : List Nat
  asked : Nat
  /-- (node, ACC) votes -/
  votes : List (Nat × Bool) := []
  result : ResultRec
  map : CompatMap
  clusters : List Nat := []
  q : Nat
  /-- further peers asked after a status other than OUTPUT (R391) -/
  further : Nat := 0
  payload : Octets := []
  format : Nat := 0
  package : Nat := 0
  frameGts : Nat := 0
  /-- the frame as its record names it (R193) -/
  syncGen : Nat := 0
  counter : Nat := 0
  epoch : Nat := 0
  /-- SECOND_OPINION_MS of the frame's epoch (R192, R200) -/
  ms : Nat := 0
deriving DecidableEq, Repr

/-- Kinds of egress records (R209). -/
inductive EgKind where
  | result | verdict | retract | fence | heartbeat
deriving DecidableEq, Repr

/-- The KIND byte (R209). -/
def EgKind.code : EgKind → Nat
  | .result => 1 | .verdict => 2 | .retract => 3 | .fence => 4 | .heartbeat => 5

/-- Rank among records due in one cycle (R214). -/
def EgKind.rank : EgKind → Nat
  | .retract => 0 | .fence => 1 | .verdict => 2 | .heartbeat => 3 | .result => 4

/-- A record due on a lane. -/
structure EgItem where
  kind : EgKind
  consumer : Nat
  /-- CONSUMER_ID when the record became due -/
  cid : Nat := 0
  due : Nat
  /-- frame t0, for the order of R214 -/
  t0 : Nat := 0
  stream : Nat := 0
  /-- ledger entry id, 0 for fences and heartbeats -/
  entry : Nat := 0
  epoch : Nat := 0
  /-- body after the 16-byte header, before the CRC (R211) -/
  body : Octets := []
  /-- a VERDICT held directly after its RESULT (R214) -/
  held : Bool := false
  /-- a RESULT sent UNVERIFIED, a VERDICT that is not the frame's last, or a RETRACT with CAUSE PROVISIONAL -/
  unverified : Bool := false
  /-- a RESULT that a pre-emption ended, to be sent again (R215) -/
  resend : Bool := false
deriving DecidableEq, Repr

/-- The item a lane is sending: when it started, when its VEND leaves, its EGRESS_SEQ and its bytes. -/
structure Sending where
  item : EgItem
  start : Nat
  stop : Nat
  seq : Nat
  octets : Octets
deriving DecidableEq, Repr

/-- One VE lane (R207-R215). -/
structure Lane where
  up : Bool := false
  rxLock : Bool := false
  rxLostAt : Nat := 0
  queue : List EgItem := []
  sending : Option Sending := none
  /-- a RESULT's VEND has left: its frame's VERDICT for the same consumer follows directly (R214) -/
  follow : Option (Nat × Nat) := none
  /-- disabled by a commit: stops once its last records have left (R221) -/
  closing : Bool := false
  /-- the next EGRESS_SEQ of each CONSUMER_ID (R209, R210) -/
  seqs : Tbl Nat := []
deriving DecidableEq, Repr

/-- One consumer of the toll gate. -/
structure Consumer where
  enabled : Bool := false
  /-- a valid CREDIT has arrived since the lane came up or regained lock (R213) -/
  credit : Bool := false
  /-- units granted in this generation, past 2^32 as CREDIT_TOTAL wraps (R212) -/
  total : Nat := 0
  gen : Nat := 0
  used : Nat := 0
  lastResultSeq : Option Nat := none
  /-- results released or dropped whose final VERDICT has not been sent (R211, R217) -/
  unsettled : List Release := []
  heartbeatAt : Nat := 0
  /-- time of the last NOTICE of a drop (R224) -/
  dropNoted : Option Nat := none
  received : Nat := 0
  discarded : Nat := 0
  lastGts : Nat := 0
deriving DecidableEq, Repr

/-- A consumer never touched. -/
def Consumer.init : Consumer := {}

/-- One slot of an intake region (R410). -/
structure IntakeSlot where
  octets : Octets := []
  firstWrite : Option Nat := none
  arrived : Bool := false
  /-- held for an entry not yet open (R411, item 3), since -/
  heldSince : Option Nat := none
  /-- records of the slot that are consumed and that CONSUMED has not yet passed -/
  consumed : Nat := 0
deriving DecidableEq, Repr

/-- One accelerator context (R408-R412). -/
structure Context where
  slots : Tbl IntakeSlot := []
  /-- count of consumed slots in sequence -/
  consumed : Nat := 0
  received : Nat := 0
  discarded : Nat := 0
  lastGts : Nat := 0
deriving DecidableEq, Repr

/-- A context never touched. -/
def Context.init : Context := {}

/-- The state of one stream's reaction policy (R276, items 3 and 4). -/
structure PolicyRun where
  run : Nat := 0
  escalated : Bool := false
deriving DecidableEq, Repr

/-- Device states, coded as DEVICE_STATE of the HEARTBEAT record (R211, R427). -/
inductive DevState where
  | boot | bootWait | selftest | ready | run | safeHold | service
deriving DecidableEq, Repr

/-- The number of a device state (R211). -/
def DevState.code : DevState → Nat
  | .boot => 0 | .bootWait => 1 | .selftest => 2 | .ready => 3 | .run => 4 | .safeHold => 5 | .service => 6

/-- Check-die states (R370): the STATUS codes, and OFF. -/
inductive CdState where
  | booting | ready | run | fault | off
deriving DecidableEq, Repr

/-- The number of a check-die state (R370). -/
def CdState.code : CdState → Nat
  | .booting => 0 | .ready => 1 | .run => 2 | .fault => 3 | .off => 4

/-- The check die serves: READY or RUN (R368). -/
def CdState.serves (c : CdState) : Bool := c == .ready || c == .run

/-- Power states (R370). -/
inductive PowerState where
  | active | gated | retain | dark | standby
deriving DecidableEq, Repr

/-- The number of a power state (R370). -/
def PowerState.code : PowerState → Nat
  | .active => 0 | .gated => 1 | .retain => 2 | .dark => 3 | .standby => 4

/-- Streams may run: ACTIVE or GATED (R31, R33). -/
def PowerState.awake (p : PowerState) : Bool := p == .active || p == .gated

/-- One host ring's registers and state (R413-R417). -/
structure Ring where
  base : Nat := 0
  ctrl : Nat := 0
  read : Nat := 0
  wb : Nat := 0
  irq : Nat := 0
  write : Nat := 0
  dropped : Nat := 0
  /-- time of the first entry not covered by a writeback -/
  uncovered : Option Nat := none
  /-- time since which entries are pending unsignalled -/
  pending : Option Nat := none
  /-- a message was sent and RING_READ not written since -/
  signalled : Bool := false
deriving DecidableEq, Repr

/-- The weight-load registers and engine (R420). -/
structure WeightLoad where
  src : Nat := 0
  len : Nat := 0
  target : Nat := 0
  busy : Bool := false
  status : Nat := 0
  moved : Nat := 0
deriving DecidableEq, Repr

/-- A physical flit with its type and payload (R243). -/
structure Flit where
  type : Nat
  payload : Nat
deriving DecidableEq, Repr

/-- The transmitting end of one direction (R248). -/
structure CorTx where
  next : Nat := 0
  /-- unacknowledged flits, oldest first; the last has SEQ next − 1 -/
  unacked : List Flit := []
  waiting : List Flit := []
  lastAck : Nat := 0
  /-- the SEQ that NAKs have asked for, and how often (R249, item 2) -/
  asked : Nat := 0
  askedCount : Nat := 0
deriving DecidableEq, Repr

/-- The receiving end of one direction (R244, R248, R249). -/
structure CorRx where
  up : Bool := false
  train : Nat := 0
  expected : Nat := 0
  /-- times of CRC errors within the last 1 ms -/
  errors : List Nat := []
  nakSeq : Nat := 0
  nakCount : Nat := 0
  nakAt : Option Nat := none
  /-- flits accepted since the last acknowledgement, and its time -/
  sinceAck : Nat := 0
  ackAt : Nat := 0
  /-- items begun and not complete (R246): the type of their first flit, and how many flits have been accepted -/
  parts : List (Nat × Nat) := []
deriving DecidableEq, Repr

/-- The margin test and array re-test on the check die (R335, R107). -/
structure Margin where
  /-- MARGIN_STATE: 0 IDLE, 1 SETTLING, 2 RUNNING, 3 RESTORING -/
  state : Nat := 0
  cluster : Nat := 0
  failedRows : List Nat := []
  clusterFailed : Bool := false
  /-- temperature and voltage extremes sampled in steps 2 to 5: minima and maxima, 1/16 degree and mV -/
  extremes : List Int := []
  aborted : Bool := false
  /-- when the test started, and a start that did not come about: its test is deferred (R334, R337) -/
  startedAt : Nat := 0
  prevented : Bool := false
  /-- clusters still to re-test, ascending; RETEST_STATE of R107 -/
  retest : List Nat := []
  retestState : Nat := 0
deriving DecidableEq, Repr

/-- The signature batches (R329-R332). -/
structure SigStore where
  pending : List Signature := []
  firstAt : Nat := 0
  droppedSince : Nat := 0
  /-- closed batches waiting for their signature: signatures, how many were dropped, and when it closed -/
  closing : List (List Signature × Nat × Nat) := []
  /-- signed batches, oldest first: sequence number and octets -/
  batches : List (Nat × Octets) := []
  bytes : Nat := 0
  dropped : Nat := 0
deriving DecidableEq, Repr

/-- The event side of the check die (R323-R327). -/
structure EventSide where
  collector : Stage := {}
  corridor : Stage := {}
  hostWaiting : List EventRec := []
  hostLost : LostCounts := {}
  hostSince : LostCounts := {}
  windows : List Window := []
  coalesced : Nat := 0
  /-- the event ring, oldest first, and the count of records ever written -/
  ring : List EventRec := []
  written : Nat := 0
deriving DecidableEq, Repr

/-- Everything a die has put out, newest last: the model's record of outputs. -/
inductive Sent where
  /-- a back-channel message of a stream (R51) -/
  | backChannel (stream : Nat) (octets : Octets)
  /-- a complete egress record on a lane (R209) -/
  | egress (lane : Nat) (octets : Octets)
  /-- a RESULT item ended without VEND (R215) -/
  | abandoned (lane consumer : Nat)
  /-- a posted PCIe write -/
  | hostWrite (addr : Nat) (octets : Octets)
  /-- an MSI-X message -/
  | msix (vector : Nat)
  /-- an OD message on a path with its origin -/
  | odMessage (path origin : Nat) (octets : Octets)
  /-- a fabric frame on a port: its 14-byte MAC header, and the bytes from the fabric header on (R376) -/
  | fabric (port : Nat) (mac : Octets) (octets : Octets)
  /-- a PTP message on a port: type, sequence, fields -/
  | ptp (port msgType seq : Nat) (fields : List Int)
  /-- a PTM request -/
  | ptmRequest
  /-- a LINK flit: acknowledged SEQ, NAK, expected SEQ (R245) -/
  | link (ack : Nat) (nak : Bool) (expected : Nat)
  /-- a CANopen FD abort code on a bus -/
  | canAbort (bus code : Nat)
  /-- a plain USDO answer on a bus -/
  | canAnswer (bus : Nat) (octets : Octets)
  /-- a flit sent for the first time with its SEQ (R248) -/
  | flit (seq : Nat) (f : Flit)
  /-- a store leaves the keeper pair: address, byte mask, value (R232) -/
  | keeperStore (addr mask value : Nat)
  /-- a flit resent on a NAK -/
  | replay (seq : Nat) (f : Flit)
deriving DecidableEq, Repr

end Sys2Proof.Machine
end

