-- ==== Sys2Proof/Machine/FabricTypes.lean ====
section
/-! DEFINITION. The fabric switch and the time unit as records (R375-R402). -/

namespace Sys2Proof.Machine

/-- One fabric port (R375-R378). -/
structure FabPort where
  linkUp : Bool := false
  adjacent : Bool := false
  /-- UID last heard on the port and the node ID and port it stated -/
  heard : Octets := []
  heardNode : Nat := 0
  heardPort : Nat := 0
  heardAt : Nat := 0
  helloAt : Nat := 0
deriving DecidableEq, Repr

/-- A link-state advertisement (R379). -/
structure Lsa where
  uid : Octets
  node : Nat := 0
  deviceState : Nat := 0
  settled : Bool := false
  managerAllowed : Bool := false
  manager : Bool := false
  managed : Bool := false
  managerRequest : Bool := false
  locked : Bool := false
  seq : Nat := 0
  priority : Nat := 128
  /-- neighbours: node ID and local port -/
  neighbours : List (Nat × Nat) := []
  packages : List Nat := []
  /-- arrival, for the 3 s limit -/
  at_ : Nat := 0
deriving DecidableEq, Repr

/-- States of OD 0x5000:11 FABRIC_STATE. -/
inductive FabState where
  | down | claiming | autonomous | worker | manager | holding
deriving DecidableEq, Repr

/-- The number of a fabric state (R402). -/
def FabState.code : FabState → Nat
  | .down => 0 | .claiming => 1 | .autonomous => 2 | .worker => 3 | .manager => 4 | .holding => 5

/-- Header of a fabric frame (R376) with its payload. -/
structure FabFrame where
  kind : Nat
  hops : Nat := 32
  sync : Bool := false
  retransmit : Bool := false
  dest : Nat := 0
  src : Nat := 0
  seq : Nat := 0
  ack : Nat := 0
  window : Nat := 0
  status : Nat := 0
  offset : Nat := 0
  tag : Nat := 0
  readLen : Nat := 0
  payload : Octets := []
deriving DecidableEq, Repr

/-- One direction pair with a node (R386). -/
structure Pair where
  /-- next SEQ to send; 0 before the first frame or after a break -/
  next : Nat := 0
  /-- unacknowledged frames, oldest first -/
  unacked : List FabFrame := []
  /-- frames waiting for room among the 64 -/
  waiting : List FabFrame := []
  /-- transmissions of the oldest frame, and when its timer started -/
  sends : Nat := 0
  timerAt : Nat := 0
  /-- expected SEQ from the node; 0: none until SYNC -/
  expected : Nat := 0
  /-- an acknowledgement is owed since -/
  ackOwed : Option Nat := none
deriving DecidableEq, Repr

/-- A pair never used. -/
def Pair.init : Pair := {}

/-- An operation of this node waiting for its RESPONSE (R385). -/
structure PendingOp where
  tag : Nat
  node : Nat
  kind : Nat
  /-- what asked: 0 none, 1 mirror PUT, 2 mirror FETCH_ADD, 3 mirror GET, 4 mirror CMP_SWAP, 5 manager claim,
  6 route push, 7 second opinion, 8 SO answer, 9 OD relay, 10 APPLIED_SEQ -/
  purpose : Nat := 0
  item : Nat := 0
deriving DecidableEq, Repr

/-- A second-opinion request of a peer being gathered or rerun (R390, R391). -/
structure PeerRequest where
  node : Nat
  id : Nat
  chunks : Nat
  got : List Octets := []
  length : Nat
  package : Nat
  format : Nat
  budget : Nat
  at_ : Nat
  running : Bool := false
deriving DecidableEq, Repr

/-- One mirror target k (R392). -/
structure MirrorOut where
  seq : Nat := 0
  /-- WRITE_COUNT has been reset after the last check-die reset -/
  ready : Bool := false
  /-- a GET or CMP_SWAP for that is on its way -/
  asked : Bool := false
  waiting : List (Nat × Octets) := []
deriving DecidableEq, Repr

/-- A datagram relayed for a client (R393): tag of the PUT, client origin, client's tag, destination. -/
structure Relay where
  tag : Nat
  origin : Nat
  clientTag : Nat
  node : Nat
deriving DecidableEq, Repr

/-- An OD request that the check die passed on, by path and by bytes 8–19 that its response echoes (R344), with where the
response goes: a BAR0 window, a MGMT address, or a node and its tag. -/
structure Back where
  path : Nat
  key : Octets
  a : Nat
  b : Nat := 0
deriving DecidableEq, Repr

/-- What the partner table states of a peer's traffic (R373). -/
structure PeerStat where
  received : Nat := 0
  discarded : Nat := 0
  lastGts : Nat := 0
deriving DecidableEq, Repr

/-- The fabric switch of the check die. -/
structure Fabric where
  ports : Tbl FabPort := []
  state : FabState := .down
  node : Nat := 0
  settled : Bool := false
  /-- candidate round index r of h(r) (R380) -/
  round : Nat := 0
  roundAt : Nat := 0
  unresolved : Nat := 0
  managerRequest : Bool := false
  manager : Bool := false
  managed : Bool := false
  managerUid : Octets := []
  holdingAt : Nat := 0
  backoffUntil : Nat := 0
  noManagerNoted : Bool := false
  lsaSeq : Nat := 0
  lsaAt : Nat := 0
  db : List Lsa := []
  /-- contradicted within the current round -/
  contradicted : Bool := false
  /-- route table: node ↦ (port, hops); absent: unreachable -/
  routes : List (Nat × Nat × Nat) := []
  /-- partner entries of peers: node ID at index 0x300 + i, absent since -/
  partners : List (Nat × Nat × Option Nat) := []
  pairs : Tbl Pair := []
  peers : Tbl PeerStat := []
  ops : List PendingOp := []
  nextTag : Nat := 1
  /-- windows 3 (offset 0) and 4 (offset 0x0080_0000) -/
  mem : Memory := []
  requests : List PeerRequest := []
  mirrors : Tbl MirrorOut := []
  /-- read position per sub-ring (R392) -/
  mirrorRead : Tbl Nat := []
  /-- the MIRROR_SEQ after the last entry copied from each sub-ring (R392) -/
  mirrorNext : Tbl Nat := []
  /-- this node's LSA as last flooded, its LSA_SEQ apart (R379) -/
  lastLsa : Option Lsa := none
  relays : List Relay := []
  /-- assignment in progress: MGR_SEQ and parts seen -/
  assignSeq : Nat := 0
  assignParts : List Nat := []
  mgrSeq : Nat := 0
  /-- routes pushed by a manager are in force (R383) -/
  pushed : Bool := false
  /-- MANAGER_UID words of workers as last learnt (R383) -/
  words : Tbl Nat := []
  /-- requests passed across the corridor whose answers come back -/
  backs : List Back := []
  /-- settings latched at the last FABRIC_RESTART or boot (R402) -/
  fpEnable : Nat := 15
  ethertype : Nat := 0x88B5
  nodeConfig : Nat := 0
  modeManaged : Bool := false
  allowed : Bool := true
  priority : Nat := 128
  discarded : Nat := 0
deriving DecidableEq, Repr

/-- Servo states (R397). -/
inductive Servo where
  | freerun | acquiring | locked | holdover
deriving DecidableEq, Repr

/-- The number of a servo state (R402). -/
def Servo.code : Servo → Nat
  | .freerun => 0 | .acquiring => 1 | .locked => 2 | .holdover => 3

/-- An Announce's data set, compared by the default BMCA of IEEE 1588 (R395). -/
structure Master where
  priority1 : Nat
  clockClass : Nat
  accuracy : Nat
  variance : Nat
  priority2 : Nat
  identity : Octets
  steps : Nat := 0
  sender : Octets := []
  port : Nat := 0
deriving DecidableEq, Repr

/-- A Pdelay_Req in flight: its port, sequence and t1, and t2, t4 and correction once a two-step response has come. -/
structure Pdelay where
  port : Nat
  seq : Nat
  t1 : Int
  answered : Bool := false
  t2 : Int := 0
  t4 : Int := 0
  corr : Int := 0
deriving DecidableEq, Repr

/-- The time unit of the check die (R394-R400). -/
structure TimeUnit where
  /-- TIME_SET has arrived since the die's reset (R321) -/
  set : Bool := false
  base : Nat := 0
  since : Nat := 0
  /-- rate correction in ppb -/
  rate : Int := 0
  servo : Servo := .freerun
  /-- the servo has been LOCKED since the last check-die reset (R398) -/
  everLocked : Bool := false
  /-- TIME_STEP_NS was written: no further step (R398, item 2) -/
  noStep : Bool := false
  inBand : Nat := 0
  outBand : Nat := 0
  /-- last offset samples, newest first, for the 16-sample mean -/
  samples : List Int := []
  lastSample : Nat := 0
  lastRate : List Int := []
  master : Option Master := none
  announceAt : Nat := 0
  announceInterval : Nat := 1000000000
  /-- two-step Sync awaiting its Follow_Up: sequence, arrival, correction -/
  sync : Option (Nat × Nat × Int) := none
  /-- last Sync: t1 and t2 corrected, for the delay -/
  lastSync : Option (Int × Int) := none
  /-- Delay_Req sent: sequence and time -/
  delayReq : Option (Nat × Nat) := none
  meanDelay : Int := 0
  /-- Pdelay requests in flight -/
  pdelays : List Pdelay := []
  /-- meanLinkDelay per port (R396) -/
  linkDelay : List (Nat × Int) := []
  syncSeq : Nat := 0
  announceSeq : Nat := 0
  delaySeq : Nat := 0
  syncAt : Nat := 0
  lastPps : Option Nat := none
  ppsIgnored : Nat := 0
  ppsHigh : Bool := false
  ppsRoseAt : Nat := 0
  /-- one more than the second of the last rise -/
  ppsSecond : Nat := 0
  /-- offset from PTP, which supplies only the second count with PPS_PTP (R399) -/
  ptpOffset : Option Int := none
  ptmAt : Nat := 0
  ptmAsked : Option Nat := none
  ptm : Octets := List.replicate 24 0
  gtsHi : Nat := 0
  sampleAt : Nat := 0
deriving DecidableEq, Repr

/-- A PTP message as it arrives (IEEE 1588-2019): times in ns. -/
structure PtpMsg where
  /-- 0 Sync, 1 Delay_Req, 2 Pdelay_Req, 3 Pdelay_Resp, 8 Follow_Up, 9 Delay_Resp, 10 Pdelay_Resp_Follow_Up, 11 Announce,
  13 Management -/
  kind : Nat
  domain : Nat := 0
  seq : Nat := 0
  twoStep : Bool := false
  correction : Int := 0
  /-- sourcePortIdentity: clock identity -/
  source : Octets := []
  /-- origin, receive or response timestamp -/
  stamp : Int := 0
  /-- requestingPortIdentity of a response -/
  requester : Octets := []
  /-- the data set of an Announce, its interval in ns, or the ID of a management GET -/
  master : Option Master := none
  interval : Nat := 2000000000
  managementId : Nat := 0
deriving DecidableEq, Repr

end Sys2Proof.Machine
end

