-- ==== Sys2Proof/Machine/InjectTypes.lean ====
section
/-! DEFINITION. Fault injectors as records (R453-R458, R461): items at a point, held items, armed injectors, marks. -/

namespace Sys2Proof.Machine

/-- One item at a point (R456): its kind and instance, its class as FILTER names it (for the corridor the flit TYPE), the
bytes that OFFSET counts, and what else its arrival carries. -/
structure PointItem where
  kind : Nat
  inst : Nat
  cls : Nat
  octets : Octets := []
  aux : List Nat := []
  ptp : Option PtpMsg := none
  /-- a copy or a held item, which uses no pages of the source's credit (R459) -/
  copy : Bool := false
deriving DecidableEq, Repr

/-- An item that an injector holds (R457). -/
structure HeldItem where
  item : PointItem
  heldAt : Nat
  due : Nat
  /-- REORDER: presented directly after the next item that passes FILTER -/
  reorder : Bool := false
deriving DecidableEq, Repr

/-- An armed injector (R453-R458). -/
structure Injector where
  num : Nat
  kind : Nat
  inst : Nat
  action : Nat
  select : Nat
  period : Nat
  start : Nat
  countMax : Nat
  filter : Nat
  offset : Nat
  mask : Nat
  delay : Nat
  recrc : Bool
  /-- session slot of its owner -/
  owner : Nat
  armedAt : Nat
  /-- end of DURATION_MS -/
  stopAt : Nat
  /-- items that have passed FILTER -/
  seen : Nat := 0
  /-- actions since arming -/
  acted : Nat := 0
  held : List HeldItem := []
deriving DecidableEq, Repr

/-- An interval in which an injector is, or was, armed (R461). -/
structure Mark where
  num : Nat
  kind : Nat
  inst : Nat
  start : Nat
  stop : Option Nat := none
deriving DecidableEq, Repr

end Sys2Proof.Machine
end

