-- ==== Sys2Proof/Machine/SafetyTypes.lean ====
section
/-! DEFINITION. The safety die as records: keeper pair, token sorter, safety inputs, brake, watchdogs, roll call, safety log,
sessions, staging, guest book, resets and boot. Times are ns of the internal clock. -/

namespace Sys2Proof.Machine

/-- One evaluator's view of an input pair (R266-R273). -/
structure Eval where
  a : Bool := false
  b : Bool := false
  on : Bool := false
  /-- the discrepancy timer's start (R269) -/
  lagAt : Option Nat := none
  /-- 0 none, 3 FAULT_DISCREPANCY, 4 FAULT_TEST -/
  fault : Nat := 0
  /-- FAULT_TEST: both channels at OFF without a test fault since (R271) -/
  quiet : Option Nat := none
deriving DecidableEq, Repr

/-- One input pair (R266-R275). -/
structure InputPair where
  rawA : Bool := false
  rawB : Bool := false
  /-- last change of each raw level -/
  edgeA : Nat := 0
  edgeB : Nat := 0
  hbl : Eval := {}
  keeper : Eval := {}
  /-- the evaluators differ since (R273), and this has been recorded -/
  differ : Option Nat := none
  noted : Bool := false
  /-- ON since, for a RESET press (R275) -/
  onAt : Nat := 0
deriving DecidableEq, Repr

/-- The steps of a release under way (R285). -/
inductive ReleaseStep where
  | none | waitReadback | waitB
deriving DecidableEq, Repr

/-- BRAKE_STATE (R285). -/
inductive BrakeState where
  | applied | releasing | released
deriving DecidableEq, Repr

/-- The number of a brake state (R295). -/
def BrakeState.code : BrakeState → Nat
  | .applied => 0 | .releasing => 1 | .released => 2

/-- The brake channels, their readbacks and feedback, and the brake test (R262-R265, R279-R292). -/
structure Brake where
  /-- the HBL's stop latch -/
  latch : Bool := true
  /-- BRK_B_ARM -/
  arm : Bool := false
  /-- RELEASE in the BRK_A channel register -/
  relA : Bool := false
  /-- the keeper-fault gate of BRK_A is open (R235, R265) -/
  gate : Bool := true
  /-- BRK_B is energised by the HBL, pulses aside -/
  onB : Bool := false
  /-- output pulses in progress, since (R287) -/
  pulseA : Option Nat := none
  pulseB : Option Nat := none
  pulsedA : Nat := 0
  pulsedB : Nat := 0
  /-- readbacks and feedback, as last seen -/
  brbA : Bool := false
  brbB : Bool := false
  bfbA : Bool := false
  bfbB : Bool := false
  /-- a readback has differed from its output's commanded state since (R286) -/
  diffA : Option Nat := none
  diffB : Option Nat := none
  state : BrakeState := .applied
  release : ReleaseStep := .none
  /-- the restart event of the release -/
  restartAt : Nat := 0
  /-- last time BRK_B was energised, and either output de-energised (R288) -/
  openAt : Nat := 0
  closeAt : Nat := 0
  /-- no HBL source other than CD_SAFE_DEMAND active since (R283) -/
  calm : Option Nat := none
  /-- recorded bits of SAFE_CAUSES (R281) -/
  causes : Nat := 0
  /-- bits of OUTPUT_FAULT that a pulse test set -/
  pulseFaults : Nat := 0
  /-- since when the readbacks, and the feedback, have matched their commanded states (R289) -/
  okA : Option Nat := none
  okB : Option Nat := none
  okF : Option Nat := none
  /-- a brake test runs, since; TQ_REQ -/
  test : Option Nat := none
  tq : Bool := false
  /-- OVERDUE has been recorded -/
  overdueNoted : Bool := false
  /-- time of the last stop cause, with which a restart event may meet in one cycle (R293) -/
  stopAt : Option Nat := none
  /-- time of the last restart event (R293) -/
  eventAt : Option Nat := none
deriving DecidableEq, Repr

/-- States of a watchdog (R318). -/
inductive DogState where
  | off | running | grace
deriving DecidableEq, Repr

/-- The number of a watchdog's state (R318). -/
def DogState.code : DogState → Nat
  | .off => 0 | .running => 1 | .grace => 2

/-- One watchdog (R296-R305). -/
structure Dog where
  state : DogState := .off
  /-- the time at which the count was 0 -/
  base : Nat := 0
  /-- the held count (R309, R310) -/
  held : Option Nat := none
  /-- the service register is armed since (R299); while the count is held, for how long it has been armed -/
  armed : Option Nat := none
  lastFail : Nat := 0
  window : Bool := false
  timeout : Nat := 2000000
  wopen : Nat := 0
  grace : Nat := 0
  /-- WDS before its first accepted service (R305) -/
  boot : Bool := false
deriving DecidableEq, Repr

/-- WDH's enable, lock and disable sequence (R306, R307). -/
structure DogGate where
  en : Bool := false
  lock : Bool := false
  /-- keys of the sequence received, and when the second came -/
  step : Nat := 0
  stepAt : Nat := 0
deriving DecidableEq, Repr

/-- One roll-call entity (R311-R313). -/
structure RcEntity where
  count : Nat := 0
  pos : Nat := 0
  seqBad : Bool := false
  /-- the checkpoint that last failed SEQ -/
  got : Nat := 0
deriving DecidableEq, Repr

/-- Roll call (R310-R316), with the settings its cycle works from. -/
structure RollCall where
  cfg : OdStore := []
  startAt : Nat := 0
  held : Option Nat := none
  entities : Tbl RcEntity := []
  stray : Bool := false
  cycles : Nat := 0
  failMin : Nat := 0
  failMax : Nat := 0
  failSeq : Nat := 0
  lastStray : Bool := false
  lastFailed : Bool := false
deriving DecidableEq, Repr

/-- The order check of one sync generation (R252): c_max, and the counters within W_ORD of it that have received a provisional
token. -/
structure OrderGen where
  gen : Nat
  cmax : Nat
  got : List Nat := []
deriving DecidableEq, Repr

/-- A stream as the token sorter sees it (R250-R252, R276). -/
structure SortStream where
  /-- order within the latest sync generations, newest first -/
  orders : List OrderGen := []
  lantern : Option Nat := none
  policy : PolicyRun := {}
  /-- the last STREAM_STATE flit -/
  state : Nat := 0
  escalated : Bool := false
  starved : Bool := false
  gen : Nat := 0
deriving DecidableEq, Repr

/-- An entry of the action queue (R250): a token that calls for action (policy trigger 1-4, or an order break), or a
STREAM_STATE change and the triggers it brought. -/
inductive ActionItem where
  | token (stream : Nat) (demand : Bool) (order : Bool)
  | change (stream : Nat) (trigger : Bool)
deriving DecidableEq, Repr

/-- The token sorter (R250-R252). -/
structure Sorter where
  streams : Tbl SortStream := []
  queue : List ActionItem := []
  /-- its interrupt to the keeper firmware is raised -/
  irq : Bool := false
  overflow : Bool := false
  peak : Nat := 0
deriving DecidableEq, Repr

/-- What lies at an address of a keeper core (R232, R241): a TCM, the mailbox shared in SPLIT by its offset, K1's timer, K1's window
onto the dictionary copy, or anything else. -/
inductive KeeperSpace where
  | tcm
  | mailbox (offset : Nat)
  | timer
  | window
  | outside
deriving DecidableEq, Repr, Inhabited

/-- The outcome of the self-tests (R443): the failed ones by their bits, bit 0 aside, and the injected pairs that each comparator
reports wrongly, by their numbers (R236). -/
structure SelftestReport where
  bits : Nat := 0
  wrongX : List Nat := []
  wrongY : List Nat := []
deriving DecidableEq, Repr

/-- The keeper pair (R229-R242). -/
structure Keeper where
  /-- the delay FIFO: K0's compare words that wait for comparison, oldest first (R230) -/
  fifo : List Nat := []
  /-- the input queue of 16: inputs K0 has taken, with the instruction that took each, not yet replayed to K1 (R231) -/
  inputs : List (Nat × Nat) := []
  /-- the store buffer of 32: the words of stores that wait to leave the pair (R232) -/
  stores : List Nat := []
  /-- instructions committed since boot (R229) -/
  done0 : Nat := 0
  done1 : Nat := 0
  /-- the input last replayed to K1 (R231) -/
  replayed : Nat := 0
  /-- the 4 KiB mailbox of SPLIT by word, and K1's timer (R241) -/
  mailbox : Tbl Nat := []
  timer : Nat := 0
  /-- CORE_MODE_ACTIVE is SPLIT -/
  split : Bool := false
  /-- KEEPER_LAG in force -/
  lag : Nat := 16
  halted : Bool := false
  /-- SPLIT_APP_STATE -/
  app : Nat := 0
  /-- the next injection of R237 is a differing pair, and its bit -/
  differ : Bool := false
  bit : Nat := 0
  /-- last injection (R237) -/
  injectedAt : Nat := 0
  /-- last run of the software self-test library (R242) -/
  testedAt : Nat := 0
deriving DecidableEq, Repr

/-- The heartbeat monitor (R253, R254). -/
structure HeartMon where
  armed : Bool := false
  lastEdge : Nat := 0
  /-- an edge has come since it was armed -/
  edge : Bool := false
  /-- a trip, until the monitor is armed again -/
  tripped : Bool := false
deriving DecidableEq, Repr

/-- The kill and power of the check die (R257-R259, R437, R484-R486). -/
structure Kill where
  /-- SD_CD_KILL -/
  on : Bool := true
  since : Nat := 0
  /-- the supplies are to be switched off 10 µs after -/
  power : Bool := false
  /-- CD_PWR_EN and PG_CD -/
  pwrEn : Bool := false
  pwrAt : Nat := 0
  pg : Bool := false
  pgAt : Nat := 0
  /-- a trip, since, after which the check die is killed once BRK_A reads off (R254) -/
  wanted : Option Nat := none
  /-- the kill holds on: a sleep, or CD_RESET_LOCKED -/
  keep : Bool := false
  /-- the check die has not reported READY since (R310) -/
  awaiting : Bool := true
  /-- the self-refresh report has arrived since the kill or request (R437) -/
  report : Bool := false
  /-- times of counted resets (R259) -/
  times : List Nat := []
  /-- the check die has been released from reset, at -/
  released : Option Nat := none
  /-- images and weights are lost at the end of the reset -/
  lost : Bool := false
deriving DecidableEq, Repr

/-- A role's lockout (R351). -/
structure Lock where
  fails : Nat := 0
  until_ : Nat := 0
deriving DecidableEq, Repr

/-- Fences and watch entries as the safety die mirrors them (R245, R441). -/
structure FenceMirror where
  rows : List Nat := []
  whole : Bool := false
  watch : List Nat := []
deriving DecidableEq, Repr

/-- Brake test results in the guest book (R290-R292). -/
inductive BtStatus where
  | valid | overdue | failed | expired
deriving DecidableEq, Repr

/-- The number of a brake-test status (R295). -/
def BtStatus.code : BtStatus → Nat
  | .valid => 0 | .overdue => 1 | .failed => 2 | .expired => 3

/-- The guest book (R439, R440). The default is its loss value. -/
structure GuestBook where
  epoch : Nat := 0
  locks : List Lock := List.replicate 5 { fails := 5, until_ := 60 }
  wdsResets : Nat := 0
  wdhResets : Nat := 0
  clockTrips : Nat := 0
  bt : BtStatus := .expired
  /-- RTC second of the last pass; none: BT_AGE_S reads 0xFFFF_FFFF -/
  btPass : Option Int := none
  btResult : Nat := 0
  outputFault : Nat := 7
  cdLocked : Bool := false
  /-- first-fault table: record and count of later occurrences per SAFETY index -/
  first : List (Nat × EventRec × Nat) := []
  sigSeq : Nat := 0
  marginNext : Nat := 0
  marginLast : Octets := List.replicate 16 0
  commits : Nat := 0
  boots : Nat := 0
  lastReset : Nat := 1
  lastDetail : Nat := 0
  resetCounts : List Nat := [0, 0, 0, 0, 0]
  fences : Tbl FenceMirror := []
  /-- the mirror of the fence map is lost (R441) -/
  fencesLost : Bool := true
deriving DecidableEq, Repr

/-- What the bytes written to an image entry spell (R110, R136, R169, R184, R444, R449). -/
inductive ImageBody where
  | package (x : Package)
  | manifest (x : Manifest)
  | lanterns (x : LanternSet)
  | map (x : CompatMap)
  /-- a firmware image: FW_VERSION, SEC_VERSION, digest, and the first of steps 1-3 of R444 that fails, by its code, 0 for none -/
  | firmware (version sec : Nat) (digest : Octets) (fault : Nat)
  /-- a device certificate: its bytes, and keys 1 and 2 -/
  | cert (bytes uid key : Octets)
deriving DecidableEq, Repr, Inhabited

/-- An OD request (R344). An image entry's bytes may come as what they spell. -/
structure Req where
  kind : Nat
  flags : Nat := 1
  seq : Nat := 0
  index : Nat := 0
  sub : Nat := 0
  offset : Nat := 0
  data : Octets := []
  image : Option ImageBody := none
  /-- a reserved field, kind or flag is set, or the lengths disagree -/
  bad : Bool := false
deriving DecidableEq, Repr

/-- One session (R345-R352). -/
structure Session where
  role : Nat
  path : Nat
  /-- where its requests come from: CAN controller (R355) -/
  origin : Nat := 0
  /-- false: challenged, its PROOF outstanding -/
  opened : Bool := false
  nc : Octets := []
  nd : Octets := []
  since : Nat := 0
  key : Octets := []
  lastSeq : Nat := 0
  lastTag : Octets := []
  response : Octets := []
  heardAt : Nat := 0
  tagFails : Nat := 0
  /-- requests accepted and not answered yet, oldest first (R350) -/
  waiting : List Req := []
  /-- the request that waits for a store or a commit -/
  busy : Option Req := none
  received : Nat := 0
  discarded : Nat := 0
  lastGts : Nat := 0
  partner : Nat := 0
  /-- snapshot of an OFFSET 0 read (R364): entry key, octets, when; number of the batch when it is one -/
  snap : Option (Nat × Octets × Nat × Nat) := none
  /-- a DOMAIN or OSTR write in segments: entry key and the octets so far -/
  writing : Option (Nat × Octets) := none
deriving DecidableEq, Repr

/-- What a QSPI store is for (R341, R352, R449): each acted when its write arrived, with what it replaced. -/
inductive StoreWork where
  /-- an rw entry: key, new value, previous value -/
  | entry (key : Nat) (value previous : Val)
  | roleKey (role : Nat) (previous : Octets)
  | splitApp (previous : Octets)
  | cert (previous : Octets)
deriving DecidableEq, Repr

/-- A store in progress, with the session whose busy request it answers. -/
structure PendingStore where
  slot : Nat
  work : StoreWork
deriving DecidableEq, Repr

/-- Where a commit stands (R357): before its tests, storing, or waiting for its boundary. -/
inductive CommitStep where
  | none | storing | applying
deriving DecidableEq, Repr

/-- The staged set and its commit (R356, R357). -/
structure Staging where
  owner : Option Nat := none
  /-- in ascending (INDEX, SUB) order -/
  entries : List (Nat × Val) := []
  status : Nat := 0
  code : Nat := 0
  entry : Nat := 0
  step : CommitStep := .none
  /-- the epoch that the EPOCH_ADVANCE carrying it starts, and whether it joins a boundary of the same cycle (R199) -/
  epoch : Nat := 0
  joins : Bool := false
  /-- that EPOCH_ADVANCE has been sent -/
  sent : Bool := false
  /-- values that the set replaced, read until the boundary is taken as passed (R366) -/
  earlier : List (Nat × Val) := []
  /-- its owner's session ended during the commit (R358) -/
  orphan : Bool := false
deriving DecidableEq, Repr

/-- The firmware image in QSPI and the one being written (R444-R447). -/
structure Firmware where
  /-- a bootable image is stored -/
  stored : Bool := true
  version : Nat := 0
  secVersion : Nat := 0
  digest : Octets := List.replicate 32 0
  /-- FW_IMAGE_STATE -/
  state : Nat := 0
  /-- the image that runs (R370) -/
  runVersion : Nat := 0
  runSec : Nat := 0
  runDigest : Octets := List.replicate 32 0
  /-- the image being stored: version, SEC_VERSION, digest -/
  next : Option (Nat × Nat × Octets) := none
  /-- the session whose write it answers -/
  asker : Nat := 0
deriving DecidableEq, Repr

/-- Attestation (R450). -/
structure Attest where
  /-- 0 NONE, 1 SIGNING, 2 READY -/
  state : Nat := 0
  nonce : Octets := []
  askedAt : Nat := 0
  report : Octets := []
deriving DecidableEq, Repr

/-- Boot and self-test progress (R442, R443). -/
structure Boot where
  stage : Nat := 0
  fault : Nat := 0
  failed : Nat := 0
  ms : Nat := 0
  startedAt : Nat := 0
  /-- the device left SELFTEST for SAFE_HOLD: no release until SERVICE has been entered and left (R428) -/
  blocked : Bool := false
  /-- the blocking tests of the safety die passed; CONFIG_CRC has matched -/
  crcOk : Bool := false
  tested : Bool := false
  /-- 0 all valid, 1 VBAT loss, 2 repaired or lost items -/
  guestState : Nat := 0
  /-- the safety reset or RESET_N is still held, since -/
  heldSince : Option Nat := none
  /-- FAULT_N low: a safety reset is in progress (R282) -/
  faultN : Bool := false
deriving DecidableEq, Repr

/-- An injector as the safety die armed it (R453-R455). -/
structure ArmedInj where
  num : Nat
  kind : Nat
  inst : Nat
  armedAt : Nat
  stopAt : Nat
deriving DecidableEq, Repr

/-- The margin schedule (R333, R334). -/
structure MarginPlan where
  /-- a test is due; started by MARGIN_START with a cluster, or by the schedule -/
  due : Bool := false
  cluster : Option Nat := none
  deferred : Bool := false
  triedAt : Nat := 0
  /-- the cluster that a MARGIN_START named for the test that runs; none: the schedule started it -/
  running : Option Nat := none
  /-- start of the period, and ns of RUN counted in it -/
  runSince : Option Nat := none
  runNs : Nat := 0
deriving DecidableEq, Repr

end Sys2Proof.Machine
end

