-- ==== Sys2Proof/Machine/CommandTypes.lean ====
section
/-! DEFINITION. What commands bring along beside numbers and bytes: the measurements and outcomes of the engines, and the items that
links carry. -/

namespace Sys2Proof.Machine

/-- What comes before an item on its stream's lanes: when its VSTART arrived and, for an item still open at that moment
(R41, R52, R66), the payload bytes it had brought and when its last non-marker block arrived. -/
structure Lead where
  vstart : Nat := 0
  got : Nat := 0
  last : Nat := 0
deriving DecidableEq, Repr

/-- A heartbeat item (R49) with what comes before it. -/
structure HeartItem where
  octets : Octets
  lead : Lead := {}
deriving DecidableEq, Repr

/-- What the boot ROM finds of the P store's two copies (R441): the newest has a valid tag, only the older one has, or neither. -/
inductive StoreRead where
  | newest | older | neither
deriving DecidableEq, Repr

/-- A stream whose stall timer is read (R66): when the last non-marker block of its open item arrived. -/
structure Quiet where
  stream : Nat
  last : Nat := 0
deriving DecidableEq, Repr

/-- What can go wrong in a MAC lane and its sub-lanes: the happenings that R80 to R87 are there to see. Positions count along
the tile's K steps, blocks are of 32 positions. -/
inductive LaneFault where
  /-- the significand product of a position is off by `err` -/
  | product (k : Nat) (err : Int)
  /-- the alignment amount of a position is off in the lane's own exponent path, or in the duplicate -/
  | align (k : Nat) (duplicate : Bool) (err : Int)
  /-- another value of a block's exponent path differs between its two copies -/
  | path (block : Nat)
  /-- bits of the accumulator register flip after a block's last update; of an integer tile, after the last -/
  | acc (block mask : Nat)
  /-- the parity bit of a block's register flips (R84) -/
  | parity (block : Nat)
  /-- the two running-sum adders differ after a block (R76, item 3) -/
  | adder (block : Nat)
  /-- the predicted residue modulo 255, or modulo 127, is off -/
  | residue (mod127 : Bool) (err : Nat)
  /-- the bound sub-lane delivers this UB24 pattern -/
  | bound (pattern : Nat)
deriving DecidableEq, Repr

/-- One output element of a tile on its lane (R76, R83): the formats and words of its operands along K, weight first, and what
went wrong. -/
structure TileLane where
  row : Nat
  fmtW : Nat
  fmtX : Nat
  pairs : List (Operand × Operand)
  faults : List LaneFault := []
deriving DecidableEq, Repr

/-- The post operations of one element (R111, R136): scale and bias, the element that ADD adds (its value as an FP32
pattern), the activation table, the requantisation's multiplier and zero point. -/
structure PostOps where
  scaleBias : Option (Nat × Nat) := none
  add : Option Nat := none
  act : Option ActTable := none
  requant : Option (Nat × Int) := none
deriving DecidableEq, Repr

/-- One output element of a pair compared in FULL mode (R97, R98): the first cluster's lane, what went wrong in the second
cluster's, the post operations, and the pattern that a failing output unit of a copy delivered in place of its own. -/
structure PairElem where
  lane : TileLane
  faults : List LaneFault := []
  post : PostOps := {}
  wrongFirst : Option Nat := none
  wrongSecond : Option Nat := none
deriving DecidableEq, Repr

/-- What the HEAD layer finds at its input (R113): the class scores, and the source of the anomaly score: one channel through an
activation table of the package, or two tensors and the scale of their squared differences. FP32 patterns. -/
inductive AnomalyIn where
  | channel (x table : Nat)
  | squares (a b : List Nat) (scale : Nat)
deriving DecidableEq, Repr

/-- The input of a package's HEAD (R113). -/
structure HeadIn where
  scores : List Nat
  anomaly : AnomalyIn
deriving DecidableEq, Repr

/-- One element of a pass as the clusters recompute it (R158, R159): where it lies, the row it runs on, its reference weights
along K with their scales, and what went wrong on its lane. -/
structure PassElem where
  segment : Nat
  channel : Nat
  position : Nat
  row : Nat
  weights : List Operand
  faults : List LaneFault := []
deriving DecidableEq, Repr

/-- How a batch pass ended. -/
inductive PassEnd where
  /-- it ran on a cluster: the elements of each audit -/
  | ran (c : Nat) (frames : List (Nat × List PassElem))
  /-- no other cluster could repeat it (R133) -/
  | stopped (audits : List Nat)
  /-- a weight page of a slot failed its CRC (R165) -/
  | weightPage (slot : Nat) (audits : List Nat)
deriving DecidableEq, Repr

/-- The regions that a scrubber reports an uncorrectable error in (R73, R255, R423). -/
inductive SramRegion where
  /-- an activation buffer or the package region of a cluster: the frames that read the word, and the opcode, format and layer
  that did -/
  | cluster (c : Nat) (frames : List Nat) (opDesc : Nat)
  /-- the audit scratch of a cluster -/
  | scratch (c : Nat)
  /-- the composer's or the toll gate's own memories -/
  | composer
  | tollGate
  | ledger
  | ingress
  | tables
deriving DecidableEq, Repr

/-- What CONFIG_BEGIN and CONFIG_END say of a configuration set (R245): its CRC, and the epoch at which it applies. -/
structure SetEnds where
  crc : Nat
  epoch : Nat := 0
deriving DecidableEq, Repr

/-- The regions of LPDDR5X whose uncorrectable error has a reaction (R422). -/
inductive DramRegion where
  | weights (slot : Nat)
  | landing (audit : Nat)
  | package (slot : Nat)
  | other
deriving DecidableEq, Repr

/-- Items of the guest book (R440). -/
inductive GuestItem where
  | epoch | lockout | dogCounts | brakeTest | outputFaults | cdLock | firstFaults | sigSeq | margin | commits | boots
  | resetRecord | fences
deriving DecidableEq, Repr

/-- What an OD message toward the check die carries (R245, R246): a response for its path, or a record of the safety log (R497). -/
inductive OdDown where
  | response (path : Nat) (octets : Octets)
  | record (r : EventRec)
deriving DecidableEq, Repr

end Sys2Proof.Machine
end

