-- ==== Sys2Proof/Syntax.lean ====
section
/-! DEFINITION. The commands of the GV720: one constructor per row of the opcode table. Every command carries first the time `t` at
which it happens, in ns of the model's clock, then what it brings along. A row whose happening is a write by a session names the
session's slot. -/

namespace Sys2Proof

open Machine

/-- A command: a happening that reaches the GV720 or comes due in it. -/
inductive Instr where
  /-- CLOCK_LOSS: A clock is lost (R30): 0 XTAL_25, 1 PLL_KEEP, 2 the AO clock, else one of the check die. -/
  | clockLoss (t which : Nat)
  /-- VI_BLOCK_LOCK_ACQUIRED: A stream's lanes are locked and aligned (R40, R68). -/
  | viBlockLockAcquired (t n : Nat)
  /-- VI_BLOCK_LOCK_LOST: Block lock or alignment is lost (R66) with `got` payload bytes of the open item, the last at `last`. -/
  | viBlockLockLost (t n got last : Nat)
  /-- STRAY_DATA_BLOCK: A data block outside an item (R41). -/
  | strayDataBlock (t n : Nat)
  /-- PASSPORT_COMPLETE: VSTART and the 64 bytes of the passport have arrived (R41, R57). -/
  | passportComplete (t n : Nat) (b : Octets) (lead : Lead)
  /-- FRAME_T0: The last trailer byte of an item arrives: t0 (R20, R57). -/
  | frameT0 (t n : Nat) (payload trailer : Octets) (vend errored : Bool)
  /-- FRAME_GAP_TIMEOUT: FRAME_GAP_MAX_NS without a block of the open item (R61, R62). -/
  | frameGapTimeout (t n got last : Nat)
  /-- HEARTBEAT_ITEM: A heartbeat item of 16 bytes (R49). -/
  | heartbeatItem (t n : Nat) (b : HeartItem)
  /-- CREDIT_PERIOD: CREDIT is due (R52). -/
  | creditPeriod (t n : Nat)
  /-- TIME_PERIOD: TIME is due (R55). -/
  | timePeriod (t n : Nat)
  /-- RESYNC_REQ_REPEAT: RESYNC_REQ is repeated (R56). -/
  | resyncReqRepeat (t n : Nat)
  /-- NO_INPUT_SLOT: A slot ends without a frame (R64). -/
  | noInputSlot (t n : Nat)
  /-- STALL_LIMIT_TIMEOUT: The stall timer reaches STALL_LIMIT_US (R68). -/
  | stallLimitTimeout (t : Nat) (q : Quiet)
  /-- STALL_SAFE_TIMEOUT: STALL_SAFE_US of a STRICT stream (R68). -/
  | stallSafeTimeout (t : Nat) (q : Quiet)
  /-- STREAM_RESTART: A session writes STREAM_RESTART (R56, R68). -/
  | streamRestart (t slot n v : Nat)
  /-- TILE_COMPLETE: A tile of a frame's run ends on a cluster (R83). -/
  | tileComplete (t entry c opDesc : Nat) (lanes : List TileLane)
  /-- SPECTRAL_TRANSFORM_COMPLETE: A transform ends, with its energies and its evaluated bin (R93-R96). -/
  | spectralTransformComplete (t entry c opDesc points : Nat) (window : List Nat) (errs : List (Nat × Int)) (re im : List Nat)
      (faults : List LaneFault) (wrongEnergy : Option Nat)
  /-- SENTINEL_READY: A package epilogue ends with its head's output and, in FULL mode, the pair's elements and heads (R21, R98). -/
  | sentinelReady (t entry : Nat) (out : HeadIn) (headA headB : Nat) (elems : List PairElem)
  /-- RESULT_DEADLINE: The result deadline of a frame (R189, R190). -/
  | resultDeadline (t entry : Nat)
  /-- MAC_PHASE_DEADLINE: t0 + 2 µs with a portion still running on a cluster (R126). -/
  | macPhaseDeadline (t entry c : Nat)
  /-- BOUND_TEST: The bound test of a cluster (R87). -/
  | boundTest (t c : Nat) (measured : TileLane) (stored : Nat)
  /-- WATCH_WINDOW_EXPIRY: ROW_FENCE_WINDOW_MS after a mismatch (R101, R102). -/
  | watchWindowExpiry (t c row : Nat)
  /-- REPLAN_COMPLETE: The plan computed anew takes effect (R128, R132). -/
  | replanComplete (t : Nat)
  /-- FENCE_CLEAR: A session writes FENCE_CLEAR (R106). -/
  | fenceClear (t slot v : Nat)
  /-- ARRAY_RETEST: A session writes ARRAY_RETEST (R107). -/
  | arrayRetest (t slot v : Nat)
  /-- RETEST_CLUSTER_DONE: The re-test of the cluster under test ends (R107). -/
  | retestClusterDone (t : Nat) (rows : List Nat) (failed : Bool) (extremes : List Int)
  /-- SRAM_SCRUB_PASS: A pass of the SRAM scrubber (R423). -/
  | sramScrubPass (t clusterFixed otherFixed : Nat) (bad : List SramRegion)
  /-- LPDDR5X_SCRUB_PASS: A pass of the LPDDR5X scrubber (R422, R423). -/
  | lpddr5xScrubPass (t fixed : Nat) (bad : List DramRegion)
  /-- PACKAGE_IMAGE_WRITE: A session writes SLOT_IMAGE of package slot `k` (R114, R115). -/
  | packageImageWrite (t slot k : Nat) (image : Package) (last : Bool)
  /-- PACKAGE_VERIFY_DONE: The load checks of a package slot end (R114). -/
  | packageVerifyDone (t k : Nat)
  /-- MANIFEST_IMAGE_WRITE: A session writes MANIFEST_IMAGE of manifest slot `k` (R135, R138). -/
  | manifestImageWrite (t slot k : Nat) (image : Manifest) (last : Bool)
  /-- MANIFEST_VERIFY_DONE: The load checks of a manifest slot end (R137). -/
  | manifestVerifyDone (t k : Nat)
  /-- AUDIT_EPOCH_END: An audit epoch ends (R148, R149). -/
  | auditEpochEnd (t : Nat)
  /-- LANDING_ZONE_WRITE: A PCIe write to BAR2 (R153-R156, R406). -/
  | landingZoneWrite (t offset requester : Nat) (b : Octets)
  /-- DELIVERY_CHECKS_DONE: The delivery checks of an audit end (R157). -/
  | deliveryChecksDone (t audit : Nat)
  /-- DELIVER_BY_TIMEOUT: DELIVER_BY of an audit (R156). -/
  | deliverByTimeout (t audit : Nat)
  /-- FINAL_PASS_START: The final pass of an audit epoch starts (R162). -/
  | finalPassStart (t epoch : Nat)
  /-- BATCH_PASS_DONE: A batch pass ends (R158-R165). -/
  | batchPassDone (t : Nat) (p : PassEnd)
  /-- ALLOWANCE_END: The allowance of an epoch's passes ends (R164). -/
  | allowanceEnd (t epoch : Nat)
  /-- LANTERN_SET_WRITE: A session writes LANTERN_SET of a stream (R169, R203). -/
  | lanternSetWrite (t slot n : Nat) (image : LanternSet) (last : Bool)
  /-- LANTERN_SET_VERIFY_DONE: The checks of a lantern set end (R170). -/
  | lanternSetVerifyDone (t n : Nat)
  /-- MAP_IMAGE_WRITE: A session writes MAP_IMAGE of map slot `k` (R184, R203). -/
  | mapImageWrite (t slot k : Nat) (image : CompatMap) (last : Bool)
  /-- MAP_VERIFY_DONE: The checks of a map end (R185). -/
  | mapVerifyDone (t k : Nat)
  /-- SECOND_OPINION_TIMEOUT: SECOND_OPINION_MS after a request (R192, R193). -/
  | secondOpinionTimeout (t opinion : Nat)
  /-- CONSUMER_CREDIT: A CREDIT item of 16 bytes on a VE lane (R208, R212). -/
  | consumerCredit (t l : Nat) (kindOk : Bool) (b : Octets)
  /-- VE_RX_LOCK_REGAINED: A VE lane regains receive lock (R213). -/
  | veRxLockRegained (t l : Nat)
  /-- EGRESS_RECORD_START: The next due record of a lane may start (R214, R215). -/
  | egressRecordStart (t l : Nat)
  /-- VE_HEARTBEAT_PERIOD: A consumer's HEARTBEAT is due (R216). -/
  | veHeartbeatPeriod (t c : Nat)
  /-- RELEASE_WAIT_TIMEOUT: RELEASE_WAIT_US of a RESULT that cannot start (R224). -/
  | releaseWaitTimeout (t c entry : Nat)
  /-- COMPARE_WORD: A compare word of each core reaches the comparators (R230-R235): whether each comparator misreports, the store goes to a TCM, the FIFO found a corrected or an uncorrectable error, firmware declared a trap fatal. -/
  | compareWord (t : Nat) (k0 k1 : Option Nat) (wrongX wrongY : Bool) (input : Option Nat) (corrected uncorrectable fatal : Bool)
  /-- COMPARATOR_INJECTION: An injected pair reaches the comparators (R237): whether each reports wrongly. -/
  | comparatorInjection (t : Nat) (wrongX wrongY : Bool)
  /-- DEBUG_HALT: A debugger halts the keeper pair (R238). -/
  | debugHalt (t : Nat)
  /-- DEBUG_RESUME: The halt ends (R309). -/
  | debugResume (t : Nat)
  /-- SPLIT_APP_TRAP: An access of K1 outside its space traps in SPLIT (R241). -/
  | splitAppTrap (t : Nat)
  /-- CORRUPT_FLIT: A flit whose CRC fails reaches a receiver (R248, R249). -/
  | corruptFlit (t : Nat) (toCheck : Bool)
  /-- VERDICT_TOKEN: A VERDICT_TOKEN flit (R247, R250); `split`: the two sorters disagree over it. -/
  | verdictToken (t seq payload : Nat) (split : Bool)
  /-- STREAM_STATE: A STREAM_STATE flit (R245, R250). -/
  | streamState (t seq n state : Nat) (escalated starved : Bool) (gen : Nat) (split : Bool)
  /-- EVENT_FLITS: The four flits of an event record (R246, R323). -/
  | eventFlits (t seq : Nat) (r : EventRec)
  /-- CONFIG_CRC: A CONFIG_CRC flit (R18). -/
  | configCrc (t seq crc epoch : Nat)
  /-- STATUS: A STATUS flit (R245, R253). -/
  | status (t seq code demands : Nat)
  /-- FENCE_CHANGE: A FENCE_CHANGE flit (R245). -/
  | fenceChange (t seq c row : Nat) (fenced : Bool)
  /-- TIME_SAMPLE: A TIME_SAMPLE flit (R321). -/
  | timeSample (t seq gts : Nat)
  /-- HOST_WRITE: A HOST_WRITE flit (R17, R318). -/
  | hostWrite (t seq offset v : Nat)
  /-- LINK: A LINK flit (R248). -/
  | link (t : Nat) (toCheck : Bool) (acked : Nat) (nak : Bool) (expected : Nat)
  /-- CONFIG_SET_FLITS: The flits of a configuration set (R18, R246). -/
  | configSetFlits (t seq : Nat) (set : List (Nat × Val)) (ends : SetEnds)
  /-- EPOCH_ADVANCE: COMMAND EPOCH_ADVANCE (R199, R245). -/
  | epochAdvance (t seq epoch causes : Nat)
  /-- SAFE_ENTER: COMMAND SAFE_ENTER (R245, R280). -/
  | safeEnter (t seq : Nat)
  /-- SAFE_EXIT: COMMAND SAFE_EXIT (R245, R255). -/
  | safeExit (t seq : Nat)
  /-- FENCE: COMMAND FENCE (R245). -/
  | fence (t seq c row : Nat)
  /-- MARGIN_TEST: COMMAND MARGIN_TEST (R245, R335). -/
  | marginTest (t seq c : Nat)
  /-- INJECT: COMMAND INJECT (R245, R454). -/
  | inject (t seq j : Nat) (arm : Bool)
  /-- TIME_SET: A TIME_SET flit (R321, R394). -/
  | timeSet (t seq gts : Nat)
  /-- OD_RESPONSE_FLITS: The flits of an OD message toward the check die (R246, R354). -/
  | odResponseFlits (t seq : Nat) (m : OdDown)
  /-- TRAIN: A TRAIN flit (R244). -/
  | train (t : Nat) (toCheck crcOk : Bool)
  /-- LINK_UP_TIMEOUT: 100 µs after the check-die reset (R244, R249). -/
  | linkUpTimeout (t : Nat) (atCheck : Bool)
  /-- ACK_TIMEOUT: 2 µs without an acknowledgement (R249). -/
  | ackTimeout (t : Nat) (atCheck : Bool)
  /-- LINK_ACK_PERIOD: A LINK acknowledgement is due (R248). -/
  | linkAckPeriod (t : Nat) (atCheck : Bool)
  /-- KEEPER_ACTION_QUEUE: The keeper firmware serves its queue (R250, R251, R254). -/
  | keeperActionQueue (t : Nat)
  /-- CD_HEART_TOGGLE: The toggle time of CD_HEART, with the units that made progress (R253). -/
  | cdHeartToggle (t : Nat) (porter composer gate tx : Bool)
  /-- CD_HEART_EDGE: An edge of CD_HEART at the monitor (R253). -/
  | cdHeartEdge (t : Nat)
  /-- HEART_LOSS_TIMEOUT: HEART_LOSS_NS without an edge (R253, R254). -/
  | heartLossTimeout (t : Nat)
  /-- CD_SAFE_DEMAND_LOW: CD_SAFE_DEMAND has been low for `ns` (R256). -/
  | cdSafeDemandLow (t ns : Nat)
  /-- CD_SAFE_DEMAND_HIGH: CD_SAFE_DEMAND is high again (R264). -/
  | cdSafeDemandHigh (t : Nat)
  /-- KILL_POWER_DELAY: 10 µs after SD_CD_KILL (R257). -/
  | killPowerDelay (t : Nat)
  /-- KILL_HOLD_END: SD_CD_KILL has been held long enough (R257). -/
  | killHoldEnd (t : Nat)
  /-- CD_RESET_LOCKED_CLEAR: A session writes CD_RESET_LOCKED (R259). -/
  | cdResetLockedClear (t slot v : Nat)
  /-- CHECK_DIE_RESET_END: The check-die reset ends (R199, R437): images found bad by kind and slot, failed cluster self-tests. -/
  | checkDieResetEnd (t : Nat) (bad fails : List (Nat × Nat))
  /-- SAFETY_INPUT_EDGE: A raw level of a pair changes (R267). -/
  | safetyInputEdge (t pair : Nat) (isB level : Bool)
  /-- INPUT_FILTER_ELAPSED: A channel has held its level for FILTER_US at the evaluators named (R267, R273). -/
  | inputFilterElapsed (t pair : Nat) (isB hbl keeper : Bool)
  /-- DISCREPANCY_TIMEOUT: The discrepancy time of a pair (R269, R270). -/
  | discrepancyTimeout (t pair : Nat)
  /-- TEST_PULSE_WINDOW: The sample of a test-pulse window (R271). -/
  | testPulseWindow (t pair : Nat) (sourceB a b before : Bool)
  /-- TEST_PULSE_HOLD_END: The hold around a test pulse ends (R272). -/
  | testPulseHoldEnd (t pair : Nat) (isB : Bool)
  /-- EVALUATOR_DISAGREE_TIMEOUT: The evaluators have differed too long (R273). -/
  | evaluatorDisagreeTimeout (t pair : Nat)
  /-- AUTO_RESTART_TIMEOUT: 100 ms of calm in AUTOMATIC restart (R283). -/
  | autoRestartTimeout (t : Nat)
  /-- READBACK_EDGE: A readback changes (R286). -/
  | readbackEdge (t : Nat) (isB level : Bool)
  /-- RELEASE_LAPSE: 1 ms after a restart event (R285). -/
  | releaseLapse (t : Nat)
  /-- READBACK_MISMATCH_TIMEOUT: A readback has differed for 50 µs (R286). -/
  | readbackMismatchTimeout (t : Nat) (isB : Bool)
  /-- OUTPUT_PULSE_START: An output pulse starts (R287). -/
  | outputPulseStart (t : Nat) (isB : Bool)
  /-- OUTPUT_PULSE_CHECK: 50 µs into an output pulse (R287). -/
  | outputPulseCheck (t : Nat) (isB : Bool)
  /-- BRAKE_FEEDBACK_EDGE: A brake feedback changes (R285, R288). -/
  | brakeFeedbackEdge (t : Nat) (isB level : Bool)
  /-- BFB_TIMEOUT: BFB_TIME_MS after a change of the outputs (R288). -/
  | bfbTimeout (t : Nat)
  /-- FAULT_CLEAR: A session writes FAULT_CLEAR (R289). -/
  | faultClear (t slot v : Nat)
  /-- BT_START: A session writes BT_START (R290, R293). -/
  | btStart (t slot v : Nat)
  /-- BT_TORQUE_END: BT_DURATION_MS of a brake test (R290). -/
  | btTorqueEnd (t : Nat)
  /-- BT_PASS: A brake test's last moment (R290). -/
  | btPass (t : Nat)
  /-- MOTION_EDGE: A motion edge that has held `ns` (R290, R291). -/
  | motionEdge (t ns : Nat)
  /-- BT_OVERDUE: BT_AGE_S reaches the interval (R292). -/
  | btOverdue (t : Nat)
  /-- BT_EXPIRED: BT_AGE_S reaches interval and grace (R292). -/
  | btExpired (t : Nat)
  /-- HOLD_REQUEST: A session writes HOLD_REQUEST (R281, R293). -/
  | holdRequest (t slot v : Nat)
  /-- WDS_SERVICE_STORE: The keeper firmware stores to the WDS service register (R296, R299). -/
  | wdsServiceStore (t v : Nat)
  /-- WDH_SVC: A host write to WDH_SVC arrives at the safety die (R299, R318). -/
  | wdhSvc (t seq v : Nat)
  /-- SERVICE_ARM_LAPSE: The armed service register of a watchdog lapses (R299). -/
  | serviceArmLapse (t : Nat) (host : Bool)
  /-- WATCHDOG_EXPIRY: A watchdog's count reaches TIMEOUT (R300). -/
  | watchdogExpiry (t : Nat) (host : Bool)
  /-- GRACE_EXPIRY: A watchdog's grace time ends (R302). -/
  | graceExpiry (t : Nat) (host : Bool)
  /-- CLOCK_MONITOR_TRIP: The clock monitor of a watchdog trips (R298). -/
  | clockMonitorTrip (t : Nat) (host : Bool)
  /-- WDH_ENABLE: A host write of EN = 1 to WDH_CTRL arrives (R306). -/
  | wdhEnable (t seq : Nat)
  /-- WDH_DISABLE: A host write of EN = 0 to WDH_CTRL arrives (R306). -/
  | wdhDisable (t seq : Nat)
  /-- WDH_LOCK: A host write of LOCK = 1 to WDH_CTRL arrives, with EN as given (R307). -/
  | wdhLock (t seq : Nat) (en : Bool)
  /-- WDH_KEY: A host write to WDH_KEY arrives (R306). -/
  | wdhKey (t seq v : Nat)
  /-- DISABLE_SEQUENCE_LAPSE: 16 ticks after the second key (R306). -/
  | disableSequenceLapse (t : Nat)
  /-- RC_CHECKIN: A host write to RC_CHECKIN arrives (R311). -/
  | rcCheckin (t seq v : Nat)
  /-- ROLL_CALL_CYCLE_END: A roll-call cycle ends (R312). -/
  | rollCallCycleEnd (t : Nat)
  /-- STATUS_IMAGE_REFRESH: The host images of safety-die registers are refreshed (R318, R407). -/
  | statusImageRefresh (t : Nat)
  /-- REGISTER_WRITE: A host write to a BAR0 register (R318, R407). -/
  | registerWrite (t offset size v : Nat)
  /-- COALESCE_WINDOW_CLOSE: A coalescing window ends (R324). -/
  | coalesceWindowClose (t : Nat)
  /-- SAFETY_RECORD_WAIT_END: A stage can take a waiting SAFETY record (R326): 0 collector, 1 corridor queue, 2 host ring. -/
  | safetyRecordWaitEnd (t stage : Nat)
  /-- OVERFLOW: The OVERFLOW record of a stage is due (R327). -/
  | overflow (t stage : Nat)
  /-- SIG_BATCH_PERIOD: SIG_BATCH_PERIOD_S after a batch's first signature (R331). -/
  | sigBatchPeriod (t : Nat)
  /-- BATCH_SIGNED: The signature engine has signed a batch (R331, R332). -/
  | batchSigned (t : Nat)
  /-- SIG_BATCH_READ: A session reads SIG_BATCH_READ (R332, R364, R365). -/
  | sigBatchRead (t slot offset : Nat)
  /-- LOG_CLEAR: A session writes LOG_CLEAR (R338). -/
  | logClear (t slot v : Nat)
  /-- MARGIN_DUE: MARGIN_PERIOD_H hours of RUN (R333). -/
  | marginDue (t : Nat)
  /-- MARGIN_START: A session writes MARGIN_START (R333). -/
  | marginStart (t slot v : Nat)
  /-- MARGIN_RETRY: 60 s after a deferral (R334). -/
  | marginRetry (t : Nat)
  /-- MARGIN_STRESS_READY: A margin test's clock and voltage are set (R335). -/
  | marginStressReady (t : Nat)
  /-- MARGIN_VECTORS_DONE: The margin vectors end (R335, R336). -/
  | marginVectorsDone (t : Nat) (rows : List Nat) (failed : Bool) (extremes : List Int)
  /-- MARGIN_RESTORED: Nominal voltage is back (R335, R336). -/
  | marginRestored (t : Nat)
  /-- HELLO: A HELLO arrives (R345). -/
  | hello (t path origin seq : Nat) (b : Octets)
  /-- PROOF: A PROOF arrives (R346). -/
  | proof (t path origin seq : Nat) (b : Octets)
  /-- READ: A READ arrives (R340, R344). -/
  | read (t path origin seq : Nat) (b : Octets)
  /-- WRITE: A WRITE arrives (R340, R344). -/
  | write (t path origin seq : Nat) (b : Octets)
  /-- CLOSE: A CLOSE arrives (R352). -/
  | close (t path origin seq : Nat) (b : Octets)
  /-- SESSION_IDLE_TIMEOUT: SESSION_IDLE_S without a valid request (R352). -/
  | sessionIdleTimeout (t slot : Nat)
  /-- BAR0_OD_WINDOW: A host write completes a request in a BAR0 window (R354). -/
  | bar0OdWindow (t w : Nat) (b : Octets)
  /-- MGMT_OD_DATAGRAM: A datagram arrives on the management port (R353). -/
  | mgmtOdDatagram (t origin : Nat) (b : Octets)
  /-- CAN_USDO_DOWNLOAD: A USDO download to OD_TUNNEL_IN (R353, R355). -/
  | canUsdoDownload (t bus : Nat) (b : Octets)
  /-- PLAIN_USDO_UPLOAD: A plain USDO upload (R355). -/
  | plainUsdoUpload (t bus idx sub : Nat)
  /-- COMMIT_CRC: A session writes COMMIT_CRC (R357). -/
  | commitCrc (t slot v : Nat)
  /-- COMMIT_STORED: The store of a committed set ends (R357). -/
  | commitStored (t : Nat) (ok : Bool)
  /-- STAGE_DISCARD: A session writes STAGE_DISCARD (R356). -/
  | stageDiscard (t slot v : Nat)
  /-- ROLE_KEY: A session writes ROLE_KEY of a role (R352). -/
  | roleKey (t slot role : Nat) (key : Octets)
  /-- OPERATOR_PASSPHRASE: A session writes OPERATOR_PASSPHRASE (R347). -/
  | operatorPassphrase (t slot : Nat) (pass : Octets)
  /-- PARTNER_SELECT: A session writes PARTNER_SELECT (R372). -/
  | partnerSelect (t slot v : Nat)
  /-- LINK_HELLO: A LINK_HELLO frame (R378). -/
  | linkHello (t p : Nat) (fcsOk : Bool) (b : Octets)
  /-- LINK_HELLO_PERIOD: A hello is due (R378). -/
  | linkHelloPeriod (t p : Nat)
  /-- ADJACENCY_TIMEOUT: 3 ms without a valid hello (R378). -/
  | adjacencyTimeout (t p : Nat)
  /-- LSA: An LSA frame (R379). -/
  | lsa (t p : Nat) (fcsOk : Bool) (b : Octets)
  /-- LSA_REFRESH: An own LSA is due (R379). -/
  | lsaRefresh (t : Nat)
  /-- LSA_EXPIRY: 3 s without a refresh of an LSA (R379). -/
  | lsaExpiry (t : Nat) (uid : Octets)
  /-- CLAIM_ROUND_END: A claim round ends (R380). -/
  | claimRoundEnd (t : Nat)
  /-- ROUTE_COMPUTE_DONE: The routes are computed (R381). -/
  | routeComputeDone (t : Nat)
  /-- FABRIC_PORT_DOWN: A port goes down (R381). -/
  | fabricPortDown (t p : Nat)
  /-- PEER_ABSENCE_TIMEOUT: 60 s without a peer (R381). -/
  | peerAbsenceTimeout (t node : Nat)
  /-- ASSIGN: An ASSIGN frame (R383). -/
  | assign (t p : Nat) (fcsOk : Bool) (b : Octets)
  /-- MANAGER_LOST: The manager is lost (R384). -/
  | managerLost (t : Nat)
  /-- HOLDING_END: 2 s of HOLDING (R384). -/
  | holdingEnd (t : Nat)
  /-- CLAIM_BACKOFF_END: 1 s after a lost claim (R383). -/
  | claimBackoffEnd (t : Nat)
  /-- FABRIC_RESTART: A session writes FABRIC_RESTART (R384). -/
  | fabricRestart (t slot v : Nat)
  /-- PUT: A PUT frame (R385, R387). -/
  | put (t p : Nat) (fcsOk : Bool) (b : Octets)
  /-- GET: A GET frame (R385, R387). -/
  | get (t p : Nat) (fcsOk : Bool) (b : Octets)
  /-- FETCH_ADD: A FETCH_ADD frame (R385, R388). -/
  | fetchAdd (t p : Nat) (fcsOk : Bool) (b : Octets)
  /-- CMP_SWAP: A CMP_SWAP frame (R385, R388). -/
  | cmpSwap (t p : Nat) (fcsOk : Bool) (b : Octets)
  /-- RESPONSE: A RESPONSE frame (R386). -/
  | response (t p : Nat) (fcsOk : Bool) (b : Octets)
  /-- ACK: An ACK frame (R386). -/
  | ack (t p : Nat) (fcsOk : Bool) (b : Octets)
  /-- RETRANSMIT_TIMEOUT: The retransmission timer of a pair (R386). -/
  | retransmitTimeout (t node : Nat)
  /-- STANDALONE_ACK_TIMER: An owed acknowledgement is due (R386). -/
  | standaloneAckTimer (t node : Nat)
  /-- SO_RERUN_DONE: A second-opinion rerun ends: its output, or none with the failing units (R391). -/
  | soRerunDone (t node request : Nat) (out : Option SentOut) (bad : List (Nat × Nat))
  /-- SO_BUDGET_EXPIRY: BUDGET_US of a second opinion (R391). -/
  | soBudgetExpiry (t node request : Nat)
  /-- RELAY_DATAGRAM: A relay datagram from a client on MGMT (R393). -/
  | relayDatagram (t origin : Nat) (b : Octets)
  /-- PTP_SYNC: A Sync arrives on a port, 4 being MGMT (R395). -/
  | ptpSync (t p : Nat) (m : PtpMsg) (residence : Nat)
  /-- PTP_ANNOUNCE: An Announce arrives (R395). -/
  | ptpAnnounce (t p : Nat) (m : PtpMsg) (residence : Nat)
  /-- PTP_SYNC_SEND: A Sync is due (R395). -/
  | ptpSyncSend (t : Nat)
  /-- REFERENCE_TIMEOUT: The time reference is silent (R397). -/
  | referenceTimeout (t : Nat)
  /-- PPS_IN_EDGE: A PPS_IN edge (R399). -/
  | ppsInEdge (t : Nat)
  /-- PPS_OUT_RISE: PPS_OUT rises (R399). -/
  | ppsOutRise (t : Nat)
  /-- PPS_OUT_FALL: PPS_OUT falls (R399). -/
  | ppsOutFall (t : Nat)
  /-- PTM_PERIOD: A PTM dialogue is due (R400). -/
  | ptmPeriod (t : Nat)
  /-- TIME_STEP_NS: A session writes TIME_STEP_NS (R398); `v` is the 64-bit pattern. -/
  | timeStepNs (t slot v : Nat)
  /-- RTC_SET: The RTC is set from GTS (R394). -/
  | rtcSet (t : Nat)
  /-- TIME_SAMPLE_PERIOD: A TIME_SAMPLE is due (R321). -/
  | timeSamplePeriod (t : Nat)
  /-- CONFIG_CRC_PERIOD: A CONFIG_CRC report is due (R18). -/
  | configCrcPeriod (t : Nat)
  /-- FUNCTION_LEVEL_RESET: A function-level reset (R404). -/
  | functionLevelReset (t : Nat)
  /-- PERST: PERST# changes (R404). -/
  | perst (t : Nat) (low : Bool)
  /-- RESULT_INTAKE_WRITE: A PCIe write to BAR4 (R408-R410). -/
  | resultIntakeWrite (t offset requester : Nat) (b : Octets)
  /-- SLOT_INCOMPLETE_TIMEOUT: A slot of a context stays incomplete (R410, R412). -/
  | slotIncompleteTimeout (t c k : Nat)
  /-- ORPHAN_TIMEOUT: A held record finds no entry (R411, R412). -/
  | orphanTimeout (t c k : Nat)
  /-- INTAKE_ENABLE: A session writes INTAKE_ENABLE of a context (R408). -/
  | intakeEnable (t slot c v : Nat)
  /-- RING_ENABLE: A host write to RING_CTRL (R415). -/
  | ringEnable (t r v : Nat)
  /-- RING_READ: A host write to RING_READ (R416). -/
  | ringRead (t r v : Nat)
  /-- RING_WRITEBACK: A ring writeback is due (R415). -/
  | ringWriteback (t r : Nat)
  /-- RING_IRQ_TIMER: The interrupt timer of a ring (R417). -/
  | ringIrqTimer (t r : Nat)
  /-- GTS_LO_READ: A host read of GTS_LO (R407). -/
  | gtsLoRead (t : Nat)
  /-- WEIGHT_LOAD_GO: A host write of GO (R420). -/
  | weightLoadGo (t : Nat)
  /-- WEIGHT_LOAD_DONE: A weight load ends (R420, R137). -/
  | weightLoadDone (t : Nat) (dma digestOk : Bool)
  /-- POR: POR is released (R435, R439, R482): VBAT lost too, guest-book items lost or repaired. -/
  | por (t : Nat) (vbat : Bool) (lost : List GuestItem) (repaired : Bool)
  /-- SUPPLY_MONITOR_TRIP: A safety-die rail leaves its limits (R483). -/
  | supplyMonitorTrip (t : Nat)
  /-- RESET_N: RESET_N has been low for `ns` (R436). -/
  | resetN (t ns : Nat)
  /-- WARM_RESET: A session writes WARM_RESET (R435). -/
  | warmReset (t slot v : Nat)
  /-- CHECK_DIE_RESET: A session writes CHECK_DIE_RESET (R258). -/
  | checkDieReset (t slot v : Nat)
  /-- BOOT_IMAGE_CHECKED: The boot ROM has checked the image, the P store and the SPLIT application (R441, R444). -/
  | bootImageChecked (t fault : Nat) (store : StoreRead) (keys : List Octets)
  /-- SELFTEST_DONE: The self-tests end (R443). -/
  | selftestDone (t : Nat) (report : SelftestReport) (outs ms : Nat)
  /-- FW_IMAGE: A session writes FW_IMAGE (R446). -/
  | fwImage (t slot : Nat) (image : ImageBody) (last : Bool)
  /-- FW_IMAGE_STORED: The firmware image has been programmed (R446). -/
  | fwImageStored (t : Nat) (ok : Bool)
  /-- RUN_REQUEST: A session writes RUN_REQUEST (R427). -/
  | runRequest (t slot v : Nat)
  /-- SERVICE_REQUEST_ENTER: A session writes 1 to SERVICE_REQUEST (R427). -/
  | serviceRequestEnter (t slot : Nat)
  /-- SERVICE_REQUEST_LEAVE: A session writes 0 to SERVICE_REQUEST (R427). -/
  | serviceRequestLeave (t slot : Nat)
  /-- POWER_REQUEST: A session writes POWER_REQUEST (R430). -/
  | powerRequest (t slot v : Nat)
  /-- WAKE_EVENT: A wake event (R433). -/
  | wakeEvent (t source : Nat)
  /-- CLUSTER_GATE_IDLE: A cluster has been idle for GATE_IDLE_US (R429). -/
  | clusterGateIdle (t c : Nat)
  /-- SELF_REFRESH_REPORT: LPDDR5X is in self-refresh (R431, R437). -/
  | selfRefreshReport (t : Nat)
  /-- PG_CD_RISE: PG_CD rises (R484). -/
  | pgCdRise (t : Nat)
  /-- CHECK_DIE_RESET_RELEASE: 1 ms after PG_CD rose (R442, R484). -/
  | checkDieResetRelease (t : Nat)
  /-- PG_CD_TIMEOUT: 20 ms without PG_CD (R484). -/
  | pgCdTimeout (t : Nat)
  /-- PG_CD_FALL: PG_CD falls (R486). -/
  | pgCdFall (t : Nat)
  /-- THERMAL_WARN: A sensor reads at or above Tmax (R493), in 1/16 degree. -/
  | thermalWarn (t sensor : Nat) (reading : Int)
  /-- THERMAL_CLEAR: A sensor's reading falls (R493). -/
  | thermalClear (t sensor : Nat) (reading : Int)
  /-- CHECK_DIE_THERMAL_TRIP: A check-die sensor trips (R493). -/
  | checkDieThermalTrip (t sensor : Nat) (reading : Int)
  /-- SAFETY_DIE_THERMAL_TRIP: A safety-die sensor trips (R493). -/
  | safetyDieThermalTrip (t sensor : Nat) (reading : Int)
  /-- ATTEST_NONCE: A session writes ATTEST_NONCE (R450). -/
  | attestNonce (t slot : Nat) (nonce : Octets)
  /-- ATTEST_SIGNED: The signature engine has signed a report (R450). -/
  | attestSigned (t : Nat)
  /-- SEC_VERSION_RAISE: A session writes SEC_VERSION_RAISE (R447). -/
  | secVersionRaise (t slot v : Nat)
  /-- DEVICE_CERT: A session writes DEVICE_CERT (R449). -/
  | deviceCert (t slot : Nat) (image : ImageBody) (last : Bool)
  /-- ARM: A session writes 1 to ARM of an injector (R453, R454). -/
  | arm (t slot j : Nat)
  /-- DISARM: A session writes 0 to ARM of an injector (R455). -/
  | disarm (t slot j : Nat)
  /-- INJECT_DURATION_END: DURATION_MS after an injector was armed (R455). -/
  | injectDurationEnd (t j : Nat)
  /-- INJECT_HELD_RELEASE: An injector's DELAY_NS ends (R457). -/
  | injectHeldRelease (t j : Nat)
  /-- VE_RX_LOCK_LOST: A VE lane loses receive lock (R213). -/
  | veRxLockLost (t l : Nat)
  /-- OUTPUT_PULSE_END: An output pulse ends (R287). -/
  | outputPulseEnd (t : Nat) (isB : Bool)
  /-- FAULT_TEST_RELEASE: FAULT_TEST may be released (R271). -/
  | faultTestRelease (t pair : Nat)
  /-- RESET_N_RELEASE: RESET_N is released (R436, R442). -/
  | resetNRelease (t : Nat) (lost : List GuestItem) (repaired : Bool)
  /-- SAFETY_RESET_END: A safety reset ends (R435). -/
  | safetyResetEnd (t : Nat) (lost : List GuestItem) (repaired : Bool)
  /-- BOOT_TEMPERATURE_RESUME: Sensors are read again in BOOT (R493). -/
  | bootTemperatureResume (t : Nat) (readings : List (Nat × Int))
  /-- FABRIC_PORT_UP: A port comes up (R378). -/
  | fabricPortUp (t p : Nat)
  /-- PTP_FOLLOW_UP: A Follow_Up arrives (R395). -/
  | ptpFollowUp (t p : Nat) (m : PtpMsg) (residence : Nat)
  /-- PTP_DELAY_REQ: A Delay_Req arrives (R395). -/
  | ptpDelayReq (t p : Nat) (m : PtpMsg) (residence : Nat)
  /-- PTP_DELAY_RESP: A Delay_Resp arrives (R395). -/
  | ptpDelayResp (t p : Nat) (m : PtpMsg) (residence : Nat)
  /-- PTP_PDELAY_REQ: A Pdelay_Req arrives (R396). -/
  | ptpPdelayReq (t p : Nat) (m : PtpMsg) (residence : Nat)
  /-- PTP_PDELAY_RESP: A Pdelay_Resp or its follow-up arrives (R396). -/
  | ptpPdelayResp (t p : Nat) (m : PtpMsg) (residence : Nat) (followUp : Bool)
  /-- PTP_MANAGEMENT_GET: A management GET arrives (R395). -/
  | ptpManagementGet (t p : Nat) (m : PtpMsg) (residence : Nat)
  /-- PTP_ANNOUNCE_SEND: An Announce is due (R395). -/
  | ptpAnnounceSend (t : Nat)
  /-- PTP_DELAY_REQUEST_SEND: A Delay_Req or Pdelay_Req is due (R395). -/
  | ptpDelayRequestSend (t : Nat)
  /-- PTM_RESPONSE: A PTM Response (R400). -/
  | ptmResponse (t master delay : Nat)
  /-- QSPI_STORE_DONE: The oldest QSPI store ends (R341). -/
  | qspiStoreDone (t : Nat) (ok : Bool)
  /-- SOFTWARE_SELF_TEST: The self-test library runs in SPLIT (R242). -/
  | softwareSelfTest (t : Nat)
deriving DecidableEq, Repr

end Sys2Proof
end

