-- ==== Sys2Proof/Machine/Cbor.lean ====
section
/-! DEFINITION. The deterministic CBOR encodings that signatures and attestation reports use (R329, R331; RFC 8949). -/

namespace Sys2Proof.Machine

/-- `n` as `w` bytes, the most significant first. -/
def be (w n : Nat) : Octets := (le w n).reverse

/-- A CBOR head: major type `m`, argument `n`, in its shortest form. -/
def cborHead (m n : Nat) : Octets :=
  if n < 24 then [m * 32 + n]
  else if n < 256 then (m * 32 + 24) :: be 1 n
  else if n < 65536 then (m * 32 + 25) :: be 2 n
  else if n < 2 ^ 32 then (m * 32 + 26) :: be 4 n
  else (m * 32 + 27) :: be 8 n

/-- An unsigned integer. -/
def cborUint (n : Nat) : Octets := cborHead 0 n
/-- An integer. -/
def cborInt (n : Int) : Octets := if 0 ≤ n then cborHead 0 n.toNat else cborHead 1 (-n - 1).toNat
/-- A byte string. -/
def cborBytes (b : Octets) : Octets := cborHead 2 b.length ++ b
/-- An array of encoded items. -/
def cborArray (l : List Octets) : Octets := cborHead 4 l.length ++ l.flatten
/-- A single-precision float, from its FP32 pattern. -/
def cborFloat (bits : Nat) : Octets := 0xFA :: be 4 bits
/-- A map with small unsigned keys, given in rising order. -/
def cborMap (l : List (Nat × Octets)) : Octets := cborHead 5 l.length ++ (l.map (fun e => cborUint e.1 ++ e.2)).flatten

/-- The octets of one signature (R329). -/
def Signature.octets (s : Signature) : Octets :=
  cborMap ((1, cborUint s.kind) :: (2, cborUint s.gts) :: s.keys)

end Sys2Proof.Machine
end

