-- ==== Sys2Proof/Machine/CheckDie.lean ====
section
/-! DEFINITION. The check die as plain data, and its value after a check-die reset. -/

namespace Sys2Proof.Machine

/-- Everything the spec gives the check die, with the model's own clock, draw counter and record of outputs. -/
structure CheckDie where
  /-- the model's own: time of the die's latest event, ns -/
  now : Nat := 0
  /-- the model's own: TRNG draws made -/
  draws : Nat := 0
  /-- the model's own: what the die has put out -/
  sent : List Sent := []
  /-- powered, out of reset -/
  up : Bool := false
  /-- its clocks run (R30) -/
  clock : Bool := true
  state : CdState := .off
  device : DevState := .boot
  power : PowerState := .active
  /-- entry into RETAIN began (R431) -/
  retainAt : Nat := 0
  /-- its copy of the dictionary's settings (R18) -/
  cfg : OdStore := []
  /-- settings of past epochs that still have open entries (R200) -/
  history : List (Nat × OdStore) := []
  /-- a delivered set waiting for EPOCH_ADVANCE, with the epoch at which it applies (R245, R357) -/
  delivered : Option (Nat × List (Nat × Val)) := none
  /-- ro counters and registers it holds (R367) -/
  regs : OdStore := []
  /-- INTEGRITY_REDUCED stated by the safety die (R242) -/
  split : Bool := false
  streams : Tbl Stream := []
  ledger : List Entry := []
  nextEntry : Nat := 1
  /-- frames closed for want of a record: stream, counter, LANTERN flag, GTS (R23, R411) -/
  missed : List (Nat × Nat × Bool × Nat) := []
  /-- runs that a fence or a stop ended, and when: what else happens to them in that cycle still counts (R99, R108, R126) -/
  ended : List Entry := []
  endedAt : Nat := 0
  clusters : Tbl Cluster := []
  disp : Dispatcher := {}
  packages : Tbl (Slot Package) := []
  audit : AuditEngine := {}
  lanterns : Tbl LanternSt := []
  esc : Tbl EscSt := []
  maps : Tbl (Slot CompatMap) := []
  opinions : List Opinion := []
  nextOpinion : Nat := 1
  epoch : Nat := 0
  boundaryGts : Nat := 0
  causes : Nat := 0
  policy : Tbl PolicyRun := []
  lanes : Tbl Lane := []
  consumers : Tbl Consumer := []
  mirrorSeq : Nat := 0
  contexts : Tbl Context := []
  rings : Tbl Ring := []
  wl : WeightLoad := {}
  /-- Bus Master Enable (R404) -/
  busMaster : Bool := true
  perst : Bool := false
  /-- BAR0 writes of another size or alignment (R318) -/
  badWrites : Nat := 0
  /-- images of DEV_STATUS and VERDICT_EPOCH, and of the watchdog and roll-call block (R318, R407) -/
  devStatus : Nat := 0x400
  epochImage : Nat := 0
  safetyImage : List (Nat × Nat) := []
  /-- when the images last came (R318) -/
  imageAt : Nat := 0
  corTx : CorTx := {}
  corRx : CorRx := {}
  corFailed : Bool := false
  /-- the die left reset at (R244) -/
  releasedAt : Nat := 0
  /-- CD_HEART level and its last toggle (R253) -/
  heart : Bool := false
  heartAt : Nat := 0
  /-- CD_SAFE_DEMAND driven low (R255) -/
  demand : Bool := false
  openDemands : Nat := 0
  configCrcAt : Nat := 0
  ev : EventSide := {}
  sig : SigStore := {}
  margin : Margin := {}
  fab : Fabric := {}
  time : TimeUnit := {}
  /-- injectors armed on this die, ascending, and the intervals that mark frames (R454, R461) -/
  injectors : List Injector := []
  marks : List Mark := []
  /-- owner of the injectors, as their descriptors came with it -/
  injectOwner : Nat := 0xFF
  /-- response areas of the BAR0 windows (R354) -/
  windows : Tbl Octets := []
  thermalWarned : Bool := false
deriving DecidableEq, Repr

/-- The stream's record, idle when never touched. -/
def CheckDie.stream (d : CheckDie) (n : Nat) : Stream := d.streams.get Stream.init n
/-- A stream's record replaced. -/
def CheckDie.setStream (d : CheckDie) (n : Nat) (x : Stream) : CheckDie :=
  { d with streams := d.streams.set Stream.init n x }
/-- A stream's record updated. -/
def CheckDie.updStream (d : CheckDie) (n : Nat) (f : Stream → Stream) : CheckDie := d.setStream n (f (d.stream n))

/-- A stream's lantern record. -/
def CheckDie.lant (d : CheckDie) (n : Nat) : LanternSt := d.lanterns.get {} n
/-- A stream's lantern record updated. -/
def CheckDie.updLant (d : CheckDie) (n : Nat) (f : LanternSt → LanternSt) : CheckDie :=
  { d with lanterns := d.lanterns.upd {} n f }

/-- A stream's escalation record. -/
def CheckDie.escOf (d : CheckDie) (n : Nat) : EscSt := d.esc.get {} n
/-- A stream's escalation record updated. -/
def CheckDie.updEsc (d : CheckDie) (n : Nat) (f : EscSt → EscSt) : CheckDie := { d with esc := d.esc.upd {} n f }

/-- A cluster. -/
def CheckDie.cluster (d : CheckDie) (c : Nat) : Cluster := d.clusters.get Cluster.init c
/-- A cluster updated. -/
def CheckDie.updCluster (d : CheckDie) (c : Nat) (f : Cluster → Cluster) : CheckDie :=
  { d with clusters := d.clusters.upd Cluster.init c f }

/-- A package slot. -/
def CheckDie.package (d : CheckDie) (s : Nat) : Slot Package := d.packages.get {} s
/-- A map slot. -/
def CheckDie.mapSlot (d : CheckDie) (k : Nat) : Slot CompatMap := d.maps.get {} k
/-- A manifest slot. -/
def CheckDie.manifest (d : CheckDie) (m : Nat) : Slot Manifest := d.audit.manifests.get {} m

/-- A lane. -/
def CheckDie.lane (d : CheckDie) (l : Nat) : Lane := d.lanes.get {} l
/-- A lane updated. -/
def CheckDie.updLane (d : CheckDie) (l : Nat) (f : Lane → Lane) : CheckDie := { d with lanes := d.lanes.upd {} l f }

/-- A consumer. -/
def CheckDie.consumer (d : CheckDie) (c : Nat) : Consumer := d.consumers.get Consumer.init c
/-- A consumer updated. -/
def CheckDie.updConsumer (d : CheckDie) (c : Nat) (f : Consumer → Consumer) : CheckDie :=
  { d with consumers := d.consumers.upd Consumer.init c f }

/-- An accelerator context. -/
def CheckDie.context (d : CheckDie) (c : Nat) : Context := d.contexts.get Context.init c
/-- A context updated. -/
def CheckDie.updContext (d : CheckDie) (c : Nat) (f : Context → Context) : CheckDie :=
  { d with contexts := d.contexts.upd Context.init c f }

/-- A host ring. -/
def CheckDie.ring (d : CheckDie) (r : Nat) : Ring := d.rings.get {} r
/-- A host ring updated. -/
def CheckDie.updRing (d : CheckDie) (r : Nat) (f : Ring → Ring) : CheckDie := { d with rings := d.rings.upd {} r f }

/-- The ledger entry with an id. -/
def CheckDie.entry? (d : CheckDie) (id : Nat) : Option Entry := d.ledger.find? (fun e => e.id == id)
/-- The ledger entry with an id updated. -/
def CheckDie.updEntry (d : CheckDie) (id : Nat) (f : Entry → Entry) : CheckDie :=
  { d with ledger := d.ledger.map (fun e => if e.id = id then f e else e) }
/-- The ledger entry with an id closed. -/
def CheckDie.closeEntry (d : CheckDie) (id : Nat) : CheckDie :=
  { d with ledger := d.ledger.filter (fun e => e.id != id) }

/-- A setting of the check die's copy. -/
def CheckDie.get (d : CheckDie) (r : OdRow) (i : Nat := 0) : Nat := d.cfg.n r i
/-- A BOOL setting of the check die's copy. -/
def CheckDie.on (d : CheckDie) (r : OdRow) (i : Nat := 0) : Bool := d.cfg.on r i
/-- The settings of an epoch (R200). -/
def CheckDie.cfgAt (d : CheckDie) (epoch : Nat) : OdStore :=
  if epoch = d.epoch then d.cfg
  else match d.history.find? (fun h => h.1 == epoch) with
    | some h => h.2
    | none => d.cfg
/-- A counter of the check die increased. -/
def CheckDie.bump (d : CheckDie) (r : OdRow) (i : Nat := 0) (n : Nat := 1) : CheckDie :=
  { d with regs := d.regs.bump r i n }
/-- A register of the check die set. -/
def CheckDie.setReg (d : CheckDie) (r : OdRow) (n : Nat) (i : Nat := 0) : CheckDie :=
  { d with regs := d.regs.setN r n i }
/-- A register of the check die read. -/
def CheckDie.reg (d : CheckDie) (r : OdRow) (i : Nat := 0) : Nat := d.regs.n r i

/-- An output. -/
def CheckDie.put (d : CheckDie) (x : Sent) : CheckDie := { d with sent := d.sent ++ [x] }

/-- One draw of the TRNG: its value and the die with the draw made. -/
def CheckDie.draw (d : CheckDie) : Nat × CheckDie := (Config.trng d.draws, { d with draws := d.draws + 1 })

/-- A number drawn below `n`. -/
def CheckDie.drawBelow (d : CheckDie) (n : Nat) : Nat × CheckDie := let a := d.draw; (a.1 % n, a.2)

/-- GTS now (R394): from its start, advancing at the servo's rate; before TIME_SET, ns since the die's reset (R321). -/
def CheckDie.gts (d : CheckDie) : Nat :=
  let e := d.now - d.time.since
  ((d.time.base : Int) + e + (e : Int) * d.time.rate / 1000000000).toNat % 2 ^ 64

/-- The model clock of the die at the time of an event; it never runs back. -/
def CheckDie.tick (d : CheckDie) (t : Nat) : CheckDie := { d with now := max d.now t }

/-- The streams S0–S11. -/
def allStreams : List Nat := List.range 12
/-- The clusters CC0–CC15. -/
def allClusters : List Nat := List.range 16

/-- A left fold over die states. -/
def CheckDie.forEach {α : Type} (d : CheckDie) (l : List α) (f : CheckDie → α → CheckDie) : CheckDie := l.foldl f d

/-- An update made only when a condition holds. -/
def CheckDie.when (d : CheckDie) (b : Bool) (f : CheckDie → CheckDie) : CheckDie := if b then f d else d

end Sys2Proof.Machine
end

