-- ==== Sys2Proof/Machine/Corridor.lean ====
section
/-! DEFINITION. The corridor's flits (R243-R248): payloads, sending, acknowledgement, acceptance. Shared by both dies. -/

namespace Sys2Proof.Machine

/-- Flit types (R245). -/
def flitToken (payload : Nat) : Flit := ⟨0x01, payload⟩
/-- STREAM_STATE (R245). -/
def flitStream (stream state : Nat) (esc starved : Bool) (gen : Nat) : Flit :=
  ⟨0x02, stream * 2 ^ 60 + state * 2 ^ 56 + b01 esc * 2 ^ 55 + b01 starved * 2 ^ 54 + gen * 2 ^ 40⟩
/-- EVENT_0 to EVENT_3 of a record (R246). -/
def flitsEvent (r : EventRec) : List Flit :=
  [⟨0x03, field r.octets 0 8⟩, ⟨0x04, field r.octets 8 8⟩, ⟨0x05, field r.octets 16 8⟩, ⟨0x06, field r.octets 24 8⟩]
/-- CONFIG_CRC (R245). -/
def flitConfigCrc (crc epoch : Nat) : Flit := ⟨0x08, crc + epoch * 2 ^ 32⟩
/-- STATUS (R4, R245): more open demands than its field holds read 255 (log entry 86). -/
def flitStatus (state demands : Nat) : Flit := ⟨0x09, state % 256 + min demands 255 * 256⟩
/-- FENCE_CHANGE (R245): row 0xFF for the whole cluster. -/
def flitFence (cluster row : Nat) (fenced : Bool) : Flit := ⟨0x0A, row + cluster * 256 + b01 fenced * 65536⟩
/-- TIME_SAMPLE (R245). -/
def flitTime (gts : Nat) : Flit := ⟨0x0B, gts⟩
/-- HOST_WRITE (R245). -/
def flitHostWrite (offset value : Nat) : Flit := ⟨0x0C, value + offset * 2 ^ 32⟩
/-- COMMAND EPOCH_ADVANCE (R245). -/
def flitEpoch (epoch causes : Nat) : Flit := ⟨0x24, 1 + causes * 256 + epoch * 2 ^ 32⟩
/-- COMMAND SAFE_ENTER (R245). -/
def flitSafeEnter : Flit := ⟨0x24, 2⟩
/-- COMMAND SAFE_EXIT (R245). -/
def flitSafeExit : Flit := ⟨0x24, 3⟩
/-- COMMAND FENCE (R245). -/
def flitFenceCmd (cluster row : Nat) : Flit := ⟨0x24, 4 + cluster * 2 ^ 16 + row * 2 ^ 24⟩
/-- COMMAND MARGIN_TEST (R245). -/
def flitMargin (cluster : Nat) : Flit := ⟨0x24, 5 + cluster * 2 ^ 16⟩
/-- COMMAND INJECT (R245, R454). -/
def flitInject (injector : Nat) (arm : Bool) : Flit := ⟨0x24, 6 + injector * 256 + b01 arm * 65536⟩
/-- TIME_SET (R245). -/
def flitTimeSet (gts : Nat) : Flit := ⟨0x25, gts⟩

/-- The data flits of some bytes, 8 to a flit. -/
def dataFlits (type : Nat) : Nat → Octets → List Flit
  | 0, _ => []
  | n + 1, b => ⟨type, field b 0 8⟩ :: dataFlits type n (b.drop 8)

/-- CONFIG_BEGIN, CONFIG_DATA and CONFIG_END of a configuration set (R245, R246). -/
def flitsConfig (b : Octets) (epoch : Nat) : List Flit :=
  ⟨0x21, b.length + crc32c b * 2 ^ 32⟩ :: (dataFlits 0x20 (ceilDiv b.length 8) b ++ [⟨0x22, epoch⟩])

/-- OD_BEGIN, OD_DATA and OD_END of one OD message (R245, R246). -/
def flitsOd (slot path : Nat) (b : Octets) : List Flit :=
  ⟨0x30, b.length + slot * 65536 + path * 2 ^ 24⟩ :: (dataFlits 0x31 (ceilDiv b.length 8) b ++ [⟨0x32, crc32c b⟩])

/-- The 12 bytes of a sequenced flit (R243). -/
def Flit.octets (f : Flit) (seq : Nat) : Octets :=
  let b := le 1 f.type ++ le 1 seq ++ le 8 f.payload
  b ++ le 2 (crc16 b)

/-- Flits given to the transmitter: sent while fewer than 128 are unacknowledged, else waiting (R248). -/
def CorTx.push (x : CorTx) (fs : List Flit) : CorTx :=
  let all := x.waiting ++ fs
  let room := 128 - x.unacked.length
  { x with unacked := x.unacked ++ all.take room, waiting := all.drop room,
           next := (x.next + min room all.length) % 256 }

/-- An acknowledgement of everything up to SEQ `a` (R248): the flits it covers leave the replay buffer. -/
def CorTx.ack (x : CorTx) (now a : Nat) : CorTx :=
  let left := (x.next + 256 - 1 - a % 256) % 256
  if left < x.unacked.length
  then ({ x with unacked := x.unacked.drop (x.unacked.length - left), lastAck := now } : CorTx).push []
  else x

/-- The flits that an acknowledgement of everything up to SEQ `a` covers (R248). -/
def CorTx.covered (x : CorTx) (a : Nat) : List Flit :=
  let left := (x.next + 256 - 1 - a % 256) % 256
  if left < x.unacked.length then x.unacked.take (x.unacked.length - left) else []

/-- The flits a NAK asks for again, from the expected SEQ on (R248). -/
def CorTx.resend (x : CorTx) (expected : Nat) : List Flit :=
  let n := (x.next + 256 - expected % 256) % 256
  if n ≤ x.unacked.length then x.unacked.drop (x.unacked.length - n) else x.unacked

/-- The receiver takes `n` flits from SEQ on: the link is up and SEQ is the next expected one (R248). -/
def CorRx.takes (r : CorRx) (seq : Nat) : Bool := r.up && r.expected == seq % 256

/-- Flits accepted of an item that is not complete, by the type of its first (R246). -/
def CorRx.part (r : CorRx) (type : Nat) : Nat := ((r.parts.find? (fun x => x.1 == type)).map Prod.snd).getD 0

/-- The partial item of a type replaced; 0 discards it (R246). -/
def CorRx.setPart (r : CorRx) (type n : Nat) : CorRx :=
  let rest := r.parts.filter (fun x => x.1 != type)
  { r with parts := if n = 0 then rest else rest ++ [(type, n)] }

/-- A NAK for a SEQ counted; an acknowledgement that advanced starts the count anew (R249, item 2). -/
def CorTx.nak (x : CorTx) (advanced : Bool) (expected : Nat) : CorTx :=
  { x with asked := expected % 256, askedCount := if !advanced && x.asked == expected % 256 then x.askedCount + 1 else 1 }

/-- The state after accepting `n` flits; true when a LINK acknowledgement is due: every 32 accepted flits (R248). -/
def CorRx.accept (r : CorRx) (n : Nat) : CorRx × Bool :=
  let r1 := { r with expected := (r.expected + n) % 256, sinceAck := r.sinceAck + n, nakCount := 0, nakAt := none }
  (r1, decide (32 ≤ r1.sinceAck))

/-- The acknowledgement has been sent. -/
def CorRx.acked (r : CorRx) (now : Nat) : CorRx := { r with sinceAck := 0, ackAt := now }

/-- The SEQ a LINK acknowledges: the last received in order. -/
def CorRx.last (r : CorRx) : Nat := (r.expected + 255) % 256

/-- One discarded flit (R248): a NAK when none was sent for this SEQ within 200 ns; true when one is sent. -/
def CorRx.discard (r : CorRx) (now : Nat) : CorRx × Bool :=
  let silent := match r.nakAt with
    | some t => r.nakSeq == r.expected && decide (now < t + 200)
    | none => false
  if silent then (r, false)
  else ({ r with nakSeq := r.expected, nakAt := some now,
                 nakCount := (if r.nakSeq = r.expected ∧ r.nakAt.isSome then r.nakCount else 0) + 1 }, true)

/-- One CRC error counted within 1 ms (R249, item 1). -/
def CorRx.crcError (r : CorRx) (now : Nat) : CorRx :=
  { r with errors := (r.errors.filter (fun t => decide (now < t + 1000000))) ++ [now] }

/-- Flits given at a time: the acknowledgement time runs from the first that finds none unacknowledged (R249, item 3). -/
def CorTx.give (x : CorTx) (now : Nat) (fs : List Flit) : CorTx :=
  ({ x with lastAck := if x.unacked = [] then now else x.lastAck } : CorTx).push fs

/-- Flits sent by the check die. -/
def CheckDie.sendFlits (d : CheckDie) (fs : List Flit) : CheckDie := { d with corTx := d.corTx.give d.now fs }

/-- One flit sent by the check die. -/
def CheckDie.sendFlit (d : CheckDie) (f : Flit) : CheckDie := d.sendFlits [f]

/-- CD_SAFE_DEMAND driven low; it stays low until SAFE_EXIT or reset (R255). -/
def CheckDie.demandLow (d : CheckDie) : CheckDie := { d with demand := true, openDemands := d.openDemands + 1 }

/-- A corridor failure seen by the check die: demand, and CD_HEART toggles no more (R249). -/
def CheckDie.corridorFailure (d : CheckDie) : CheckDie := { d.demandLow with corFailed := true }

/-- A LINK acknowledgement sent by the check die (R248). -/
def CheckDie.sendAck (d : CheckDie) : CheckDie :=
  ({ d with corRx := d.corRx.acked d.now } : CheckDie).put (.link d.corRx.last false 0)

/-- A flit is discarded with a NAK; the fourth NAK of one SEQ is a corridor failure (R248, R249). -/
def CheckDie.refuseFlit (d : CheckDie) : CheckDie :=
  if !d.corRx.up then d
  else
    let a := d.corRx.discard d.now
    let d1 := { d with corRx := a.1 }
    let d2 := if a.2 then d1.put (.link d.corRx.last true d.corRx.expected) else d1
    if 4 ≤ a.1.nakCount then d2.corridorFailure else d2

/-- A flit that arrives at the check die with `n` flits from SEQ on: accepted and acted on by `f`, or discarded (R248). -/
def CheckDie.receive (d : CheckDie) (seq n : Nat) (f : CheckDie → CheckDie) : CheckDie :=
  if d.corRx.takes seq then
    let a := d.corRx.accept n
    let d1 := { d with corRx := a.1 }
    f (if a.2 then d1.sendAck else d1)
  else d.refuseFlit

end Sys2Proof.Machine
end

