-- ==== Sys2Proof/Machine/EventOps.lean ====
section
/-! DEFINITION. Recording events on the check die (R323-R327): coalescing, the collector, its consumers, signatures. -/

namespace Sys2Proof.Machine

/-- Entries of the collector, the last 64 kept for SAFETY (R323, R325). -/
def collectorCap : Nat := 2048
/-- Entries kept for SAFETY in the collector. -/
def collectorKept : Nat := 64
/-- Entries of the corridor queue, the last 8 kept for SAFETY. -/
def corridorCap : Nat := 64
/-- Entries kept for SAFETY in the corridor queue. -/
def corridorKept : Nat := 8
/-- A coalescing window's length, 1 ms (R324). -/
def windowNs : Nat := 1000000
/-- Records the event ring holds (R323). -/
def eventRingCap : Nat := 1048576

/-- A record offered to the collector: the OVERFLOW record goes before any other non-SAFETY record (R327). -/
def CheckDie.collect (d : CheckDie) (r : EventRec) : CheckDie :=
  { d with ev := { d.ev with collector :=
      (d.ev.collector.writeOverflow collectorCap collectorKept 0 d.gts).offer collectorCap collectorKept r } }

/-- The COALESCED record of a window that closes (R324, item 3). -/
def Window.closing (w : Window) : EventRec :=
  { w.last with coalesced := true, count := w.counted, gts := w.firstGts }

/-- A window closed: its record follows when an occurrence was counted (R324). -/
def CheckDie.closeWindow (d : CheckDie) (w : Window) : CheckDie :=
  let d1 := { d with ev := { d.ev with windows := d.ev.windows.filter (fun x => !(x.record.same w.record)) } }
  if w.counted = 0 then d1 else d1.collect w.closing

/-- An occurrence (R324): counted in its open window, or recorded at once and a window opened while fewer than 64 are open.
SAFETY records are never coalesced. -/
def CheckDie.occur (d : CheckDie) (r : EventRec) : CheckDie :=
  if r.name.severity = .safety then d.collect r
  else
    let fresh (d : CheckDie) : CheckDie :=
      let d1 := d.collect r
      if d1.ev.windows.length < 64
      then { d1 with ev := { d1.ev with windows := d1.ev.windows ++ [{ record := r, opened := r.gts, last := r }] } }
      else d1
    match d.ev.windows.find? (fun w => w.record.same r) with
    | none => fresh d
    | some w =>
      if w.opened ≤ r.gts ∧ r.gts < w.opened + windowNs then
        { d with ev := { d.ev with
            coalesced := d.ev.coalesced + 1,
            windows := d.ev.windows.map (fun x => if x.record.same r
              then { x with counted := x.counted + 1, last := r, firstGts := if x.counted = 0 then r.gts else x.firstGts }
              else x) } }
      else fresh (d.closeWindow w)

/-- A happening recorded by the check die now (R320, R321). -/
def CheckDie.raise (d : CheckDie) (n : EventName) (ctx : Nat := 0) (inst : Nat := 0) (detail : Nat := 0)
    (opDesc : Nat := 0xFFFF) : CheckDie :=
  d.occur { name := n, inst := inst, ctx := ctx, opDesc := opDesc, detail := detail, gts := d.gts,
            timeLocal := !d.time.set }

/-- INSTANCE of a unit and sub-unit (R320). -/
def instOf (unit sub : Nat) : Nat := unit * 256 + sub

/-- A key put into a signature's keys, which stay in rising order; a key already present stays as it is. -/
def addKey (k : Nat) (v : Octets) : List (Nat × Octets) → List (Nat × Octets)
  | [] => [(k, v)]
  | (j, w) :: t => if k < j then (k, v) :: (j, w) :: t else if k = j then (j, w) :: t else (j, w) :: addKey k v t

/-- A sample in 1/16 degree as a signed number. -/
def signed16 (n : Nat) : Int := if n % 65536 < 32768 then (n % 65536 : Nat) else (n % 65536 : Int) - 65536

/-- The keys a signature takes from its companion record (R329): the unit, the ring index that the record will have, and
the samples. -/
def CheckDie.companionKeys (d : CheckDie) : List (Nat × Octets) :=
  match d.ev.collector.entries.getLast? with
  | some r => if r.gts = d.gts then
      [(8, cborArray [cborUint r.name.block, cborUint r.inst]),
       (10, cborUint (d.ev.written + d.ev.collector.entries.length)),
       (11, cborInt (signed16 (Config.temperature r.name.block r.inst r.gts))),
       (12, cborUint (Config.voltage r.name.block r.inst r.gts))]
    else []
  | none => []

/-- The pending signatures become a closed batch (R331, R332): the surplus beyond what it can hold is dropped. -/
def CheckDie.closeBatch (d : CheckDie) : CheckDie :=
  if d.sig.pending = [] then d
  else
    let m := min (d.get Od.SIG_BATCH_MAX) 65535
    { d with sig := { d.sig with
        pending := [], droppedSince := 0
        closing := d.sig.closing ++
          [(d.sig.pending.take m, d.sig.droppedSince + (d.sig.pending.length - m), d.now)] } }

/-- A batch that holds SIG_BATCH_MAX signatures closes (R331). -/
def CheckDie.batchFull (d : CheckDie) : CheckDie :=
  if d.sig.pending ≠ [] ∧ d.get Od.SIG_BATCH_MAX ≤ d.sig.pending.length then d.closeBatch else d

/-- A failure signature written (R329) beside the record just made; the batch's time runs from its first (R331). -/
def CheckDie.sign (d : CheckDie) (s : Signature) : CheckDie :=
  let x := { s with keys := (s.keys ++ d.companionKeys).foldl (fun l k => addKey k.1 k.2 l) [] }
  ({ d with sig := { d.sig with pending := d.sig.pending ++ [x],
                                firstAt := if d.sig.pending = [] then d.now else d.sig.firstAt } } : CheckDie).batchFull

/-- Entries a ring holds (RING_CTRL SIZE_LOG2, R415). -/
def Ring.size (r : Ring) : Nat := 2 ^ bitsOf r.ctrl 16 5
/-- RING_CTRL EN. -/
def Ring.on (r : Ring) : Bool := r.ctrl.testBit 0
/-- RING_WRITE − RING_READ. -/
def Ring.pendingCount (r : Ring) : Nat := subMod 32 r.write r.read
/-- The ring has room for `n` more entries (R416). -/
def Ring.room (r : Ring) (n : Nat) : Bool := decide (r.pendingCount + n ≤ r.size)

/-- Entry bytes of the rings (R413). -/
def ringEntryBytes (r : Nat) : Nat := if r = 2 then 64 else 32

/-- One entry written to a ring that has room (R415). -/
def CheckDie.ringWriteOne (d : CheckDie) (r : Nat) (b : Octets) : CheckDie :=
  let x := d.ring r
  let at_ := x.base + (x.write % x.size) * ringEntryBytes r
  (d.updRing r (fun y =>
    { y with
      write := (y.write + 1) % 2 ^ 32
      uncovered := some (y.uncovered.getD d.now)
      pending := some (y.pending.getD d.now) })).put (.hostWrite at_ b)

/-- An entry of one or two units pushed to a ring (R414, R416): dropped and counted when it is disabled, full, or bus
mastering is off (R404, item 4); true when written. -/
def CheckDie.ringPush (d : CheckDie) (r : Nat) (units : List Octets) : CheckDie × Bool :=
  let x := d.ring r
  let pad := if units.length = 2 ∧ x.write % x.size = x.size - 1 then 1 else 0
  if x.on && d.busMaster && x.room (units.length + pad) then
    let d1 := if pad = 1 then d.ringWriteOne r (255 :: List.replicate 31 0) else d
    (units.foldl (fun d u => d.ringWriteOne r u) d1, true)
  else (d.updRing r (fun x => { x with dropped := (x.dropped + 1) % 2 ^ 32 }), false)

/-- A verdict record or copy pushed to ring 0; its loss also counts in MIRROR_DROPPED (R416, R227). -/
def CheckDie.mirrorHost (d : CheckDie) (units : List Octets) : CheckDie :=
  let a := d.ringPush 0 units
  if a.2 then a.1 else a.1.bump Od.MIRROR_DROPPED

/-- An event record copied to host ring 1 (R323, R325, R326): a SAFETY record waits, another is dropped and counted. -/
def CheckDie.hostEvent (d : CheckDie) (r : EventRec) : CheckDie :=
  if d.get Od.HOST_MIN_SEVERITY ≤ r.name.severity.code then
    let x := d.ring 1
    let free := x.on && d.busMaster && x.room 1
    if r.name.severity = .safety then
      if free && !(d.ev.hostWaiting.any (fun y => y.name == r.name)) then (d.ringPush 1 [r.octets]).1
      else { d with ev := { d.ev with hostWaiting := waitFor d.ev.hostWaiting r } }
    else if free then
      let d1 := if d.ev.hostSince.any && x.room 16 && d.ev.hostWaiting == [] then
          { (d.ringPush 1 [(overflowRec 2 d.ev.hostSince d.gts).octets]).1 with
            ev := { d.ev with hostSince := {} } }
        else d
      (d1.ringPush 1 [r.octets]).1
    else
      let a := d.ringPush 1 [r.octets]
      { a.1 with ev := { a.1.ev with hostLost := a.1.ev.hostLost.add r.name.severity,
                                     hostSince := a.1.ev.hostSince.add r.name.severity } }
  else d

/-- A record written to the event ring in LPDDR5X (R323, items 3 and 4). -/
def CheckDie.ringRecord (d : CheckDie) (r : EventRec) : CheckDie :=
  let l := d.ev.ring ++ [r]
  { d with ev := { d.ev with ring := l.drop (l.length - eventRingCap), written := (d.ev.written + 1) % 2 ^ 64 } }

/-- One record leaves the collector for its three consumers (R323): the event ring, the host ring, and, for FAULT and
SAFETY records of this die, the corridor queue. -/
def CheckDie.drainOne (d : CheckDie) : CheckDie :=
  match d.ev.collector.entries with
  | [] => d
  | r :: rest =>
    let c := ({ d.ev.collector with entries := rest }).admitWaiting collectorCap
    let d1 := { d with ev := { d.ev with collector := c.writeOverflow collectorCap collectorKept 0 d.gts } }
    let d2 := (d1.ringRecord r).hostEvent r
    if !r.onSafety && decide (3 ≤ r.name.severity.code) then
      { d2 with ev := { d2.ev with corridor :=
        (d2.ev.corridor.writeOverflow corridorCap corridorKept 1 d2.gts).offer corridorCap corridorKept r } }
    else d2

/-- One record of the corridor queue goes out as its four EVENT flits (R246). -/
def CheckDie.corridorOne (d : CheckDie) : CheckDie :=
  match d.ev.corridor.entries with
  | [] => d
  | r :: rest =>
    let c := (({ d.ev.corridor with entries := rest }).admitWaiting corridorCap).writeOverflow
      corridorCap corridorKept 1 d.gts
    ({ d with ev := { d.ev with corridor := c } }).sendFlits (flitsEvent r)

/-- The SAFETY record that waits longest for the host ring enters it when a slot is free (R326). -/
def CheckDie.hostAdmit (d : CheckDie) : CheckDie :=
  match d.ev.hostWaiting with
  | [] => d
  | r :: rest =>
    let x := d.ring 1
    if x.on && d.busMaster && x.room 1
    then { (d.ringPush 1 [r.octets]).1 with ev := { d.ev with hostWaiting := rest } }
    else d

/-- The background work of one idle step (log entry 1): one collector record, else one corridor-queue record. -/
def CheckDie.background (d : CheckDie) : CheckDie :=
  if !d.up then d
  else if d.ev.collector.entries ≠ [] then d.drainOne
  else if d.ev.corridor.entries ≠ [] then d.corridorOne
  else d

end Sys2Proof.Machine
end

