-- ==== Sys2Proof/Machine/Inject.lean ====
section
/-! DEFINITION. What an armed injector does to the items of its point (R456-R463). An item enters the injectors of its
point in ascending order; what leaves the last is presented. -/

namespace Sys2Proof.Machine

/-- `b` with the bytes from `at_` on replaced by `v`, as many as fit. -/
def putBytes (b : Octets) (at_ : Nat) (v : Octets) : Octets :=
  b.take at_ ++ v.take (b.length - at_) ++ b.drop (at_ + v.length)

/-- The 4 bytes at `off` XORed with `mask`, little-endian; bytes beyond the end are unchanged (R457). -/
def corruptAt (b : Octets) (off mask : Nat) : Octets :=
  putBytes b off (le 4 (field b off 4 ^^^ mask))

/-- The CRC-32C of all but the last 4 bytes, put into them: RECORD_CRC. -/
def recrcRecord (b : Octets) : Octets := putBytes b (b.length - 4) (le 4 (crc32c (b.take (b.length - 4))))

/-- The checks of an item recomputed (R457). `kind` is CHECK_KIND of a VI stream. -/
def recrc (kind : Nat) (x : PointItem) : Octets :=
  let b := x.octets
  if x.kind = 1 then
    if x.cls = 2 then putBytes b 14 (le 2 (crc16 (b.take 14)))
    else
      let b1 := putBytes b 62 (le 2 (crc16 (b.take 62)))
      putBytes b1 (b1.length - 16) (le 8 (checkValue kind (b1.take (b1.length - 16))))
  else if x.kind = 5 then
    let n := x.aux.getD 1 0
    let b1 := putBytes b (b.length - 44) (le 4 (crc32c (b.take n)))
    putBytes b1 (b1.length - 4) (le 4 (crc32c ((b1.drop (b1.length - 64)).take 60)))
  else if x.kind = 7 then
    let b1 := putBytes b 30 (le 2 (crc16 (b.take 30)))
    let n := field b1 18 2
    if n = 0 then b1 else putBytes b1 (32 + n) (le 4 (crc32c ((b1.drop 32).take n)))
  else recrcRecord b

/-- A PTP message altered (R457); its bytes are outside the spec. -/
def PtpMsg.altered (m : PtpMsg) (off mask : Nat) : PtpMsg :=
  let a (i : Nat) (v : Int) : Int := Config.ptpAltered off mask i v
  { m with
    domain := (a 0 m.domain).toNat
    seq := (a 1 m.seq).toNat
    correction := a 2 m.correction
    stamp := a 3 m.stamp
    source := m.source.map (fun (b : Nat) => (a 4 b).toNat) }

/-- The injector sits at the item's point and its FILTER selects the item (R456). -/
def Injector.passes (i : Injector) (x : PointItem) : Bool :=
  i.kind == x.kind && i.inst == x.inst
    && (i.filter == 0 || (if x.kind = 3 then i.filter == 0xFFFF || i.filter % 256 == x.cls
        else if x.kind = 5 ∨ x.kind = 6 then true else i.filter.testBit x.cls))

/-- The injector selects the item that is its `k`-th after START (from 1), given a draw (R458). -/
def Injector.selects (i : Injector) (k draw : Nat) : Bool :=
  if i.select = 0 then true
  else if i.select = 1 then decide (i.period ≠ 0) && k % i.period == 0
  else if i.select = 2 then decide (draw % 65536 < i.period)
  else k == 1

/-- What a held item is when it is presented: a PTP message carries the delay in its residence time (R465, C22). -/
def HeldItem.out (h : HeldItem) (now : Nat) : PointItem :=
  if h.item.ptp.isSome then { h.item with aux := [h.item.aux.getD 0 0 + (now - h.heldAt)] } else h.item

/-- An armed injector replaced. -/
def CheckDie.setInjector (d : CheckDie) (i : Injector) : CheckDie :=
  { d with injectors := d.injectors.map (fun x => if x.num = i.num then i else x) }

/-- An armed injector by its number. -/
def CheckDie.injector? (d : CheckDie) (j : Nat) : Option Injector := d.injectors.find? (fun i => i.num == j)

/-- The injector is disarmed by item `cause` of R455 (R462), recorded here unless the safety die ordered it (0) or the point is
on the safety die; its marks end, what it held is answered. -/
def CheckDie.disarm (d : CheckDie) (j cause : Nat) : CheckDie × List PointItem :=
  match d.injector? j with
  | none => (d, [])
  | some i =>
    let d1 := { d with
      injectors := d.injectors.filter (fun x => x.num != j)
      marks := d.marks.map (fun (m : Mark) => if m.num = j ∧ m.stop.isNone then { m with stop := some d.now } else m) }
    (if (i.kind = 3 ∧ i.inst = 0) ∨ cause = 0 then d1
      else d1.raise .injectDisarmed (ctxPartner (0xFC0 + i.owner)) (instOf j 0) cause, i.held.map (fun h => h.out d.now))

/-- One action (R457): the items that go on now, and the one that is held. -/
def CheckDie.act (d : CheckDie) (i : Injector) (x : PointItem) : List PointItem × Option HeldItem :=
  if i.action = 1 then ([], none)
  else if i.action = 2 then
    let y : PointItem := match x.ptp with
      | some m => { x with ptp := some (m.altered i.offset i.mask) }
      | none =>
        let z : PointItem := { x with octets := corruptAt x.octets i.offset i.mask }
        if i.recrc then { z with octets := recrc (d.get Od.CHECK_KIND x.inst) z } else z
    ([y], none)
  else if i.action = 3 then
    ([], some { item := { x with copy := true }, heldAt := d.now, due := d.now + 1000000, reorder := true })
  else if i.action = 4 then
    ([], some { item := { x with copy := true }, heldAt := d.now, due := d.now + i.delay })
  else
    let aux := if x.kind = 4 then [x.aux.getD 0 0, 1] else x.aux
    ([x], some { item := { x with copy := true, aux := aux }, heldAt := d.now, due := d.now + i.delay })

/-- One item through one injector (R457, R458, R463): what goes on now, in order. -/
def CheckDie.through (d : CheckDie) (j : Nat) (x : PointItem) : CheckDie × List PointItem :=
  match d.injector? j with
  | none => (d, [x])
  | some i =>
    if !i.passes x || decide (i.stopAt ≤ d.now) then (d, [x])
    else
      let follow := (i.held.filter HeldItem.reorder).map (fun h => h.out d.now)
      let i1 := { i with seen := i.seen + 1, held := i.held.filter (fun (h : HeldItem) => !h.reorder) }
      let fresh := decide (i.start < i1.seen)
      let dr := if fresh ∧ i.select = 2 then d.draw else (0, d)
      let d1 := dr.2
      if !fresh || !i.selects (i1.seen - i.start) dr.1 || decide (16 ≤ i1.held.length) then
        let a := if i.select = 3 ∧ follow ≠ [] then (d1.setInjector i1).disarm j 3 else (d1.setInjector i1, [])
        (a.1, x :: follow ++ a.2)
      else
        let a := d1.act i x
        let i2 := { i1 with acted := i1.acted + 1, held := i1.held ++ a.2.toList }
        let d2 := (d1.setInjector i2).bump Od.INJECTED j
        let spent := (i.countMax != 0 && decide (i.countMax ≤ i2.acted)) || (i.select == 3 && a.2.isNone)
        let b := if spent then d2.disarm j 3 else (d2, [])
        (b.1, a.1 ++ follow ++ b.2)

/-- Items through the injectors `js`, in order. -/
def CheckDie.chain : List Nat → CheckDie → List PointItem → CheckDie × List PointItem
  | [], d, xs => (d, xs)
  | j :: js, d, xs =>
    let a := xs.foldl (fun (s : CheckDie × List PointItem) x =>
      let r := s.1.through j x
      (r.1, s.2 ++ r.2)) (d, [])
    CheckDie.chain js a.1 a.2

/-- An item reaches its point: what is presented now (R457). -/
def CheckDie.atPoint (d : CheckDie) (x : PointItem) : CheckDie × List PointItem :=
  CheckDie.chain ((d.injectors.filter (fun i => i.kind == x.kind && i.inst == x.inst)).map Injector.num) d [x]

/-- Held items whose time has come leave injector `j` (R457); they go on through the injectors after it. -/
def CheckDie.releaseHeld (d : CheckDie) (j : Nat) : CheckDie × List PointItem :=
  match d.injector? j with
  | none => (d, [])
  | some i =>
    let due := i.held.filter (fun h => decide (h.due ≤ d.now))
    if due = [] then (d, [])
    else
      let d1 := d.setInjector { i with held := i.held.filter (fun (h : HeldItem) => decide (d.now < h.due)) }
      let a := if i.select = 3 then d1.disarm j 3 else (d1, [])
      CheckDie.chain ((d.injectors.filter (fun x =>
        x.kind == i.kind && x.inst == i.inst && decide (j < x.num))).map Injector.num) a.1 (due.map (fun h => h.out d.now) ++ a.2)

/-- An injector is armed at a point. -/
def CheckDie.armedAt (d : CheckDie) (kind inst : Nat) : Bool :=
  d.injectors.any (fun i => i.kind == kind && i.inst == inst)

/-- Stream `n` is affected by an injector of a point (R461). -/
def CheckDie.affected (d : CheckDie) (m : Mark) (n : Nat) : Bool :=
  if m.kind = 1 then m.inst == n
  else if m.kind = 2 then
    (List.range 256).any (fun c => d.on Od.CONSUMER_ENABLE c && d.get Od.CONSUMER_LANE c == m.inst
      && ((d.get Od.RESULT_STREAMS c).testBit n || (d.get Od.VERDICT_STREAMS c).testBit n))
  else if m.kind = 3 ∨ m.kind = 7 then true
  else (d.get Od.CONTEXT_STREAMS m.inst).testBit n

/-- A verdict of stream `n` whose t0 is now carries TEST_MODE (R461). -/
def CheckDie.marked (d : CheckDie) (n : Nat) : Bool :=
  d.marks.any (fun m => d.affected m n && (match m.stop with
    | some t => decide (d.now ≤ t + d.get Od.RESULT_DEADLINE_US * 1000)
    | none => true))

/-- An injector is armed (R454, R461): it acts from now. -/
def CheckDie.armInjector (d : CheckDie) (i : Injector) : CheckDie :=
  let keep := d.injectors.filter (fun x => x.num != i.num)
  { d with
    injectors := keep.filter (fun x => decide (x.num < i.num)) ++ (i :: keep.filter (fun x => decide (i.num < x.num)))
    marks := d.marks ++ [{ num := i.num, kind := i.kind, inst := i.inst, start := d.now }] }

end Sys2Proof.Machine
end

