-- ==== Sys2Proof/Machine/FabOps.lean ====
section
/-! DEFINITION. Sending on the fabric (R376, R386) and the verdict mirror to peers (R392). -/

namespace Sys2Proof.Machine

/-- The 32-byte header of a fabric frame (R376). -/
def FabFrame.header (f : FabFrame) : Octets :=
  let b := le 1 1 ++ le 1 f.kind ++ le 1 f.hops ++ le 1 (b01 f.sync + 2 * b01 f.retransmit) ++ le 2 f.dest ++ le 2 f.src
    ++ le 4 f.seq ++ le 4 f.ack ++ le 1 f.window ++ le 1 f.status ++ le 2 f.payload.length ++ le 4 f.offset
    ++ le 4 f.tag ++ le 2 f.readLen
  b ++ le 2 (crc16 b)

/-- The MAC address of a port of the GV720 with a UID (R376). -/
def portMac (uid : Octets) (p : Nat) : Octets := 2 :: padTo 4 (Config.shake256 4 uid) ++ [p % 256]

/-- The MAC header of a frame sent on a port (R376): to every station for a LINK_HELLO, else to the neighbour's port as learned from
its hello, with FABRIC_ETHERTYPE. -/
def Fabric.macHeader (f : Fabric) (p kind : Nat) : Octets :=
  let x := f.ports.get {} p
  (if kind = 1 then List.replicate 6 0xFF else portMac x.heard x.heardPort) ++ portMac (padTo 16 Config.deviceUid) p
    ++ [f.ethertype / 256 % 256, f.ethertype % 256]

/-- Header, payload and PAYLOAD_CRC of a fabric frame (R376); padding and FCS are IEEE 802.3's. -/
def FabFrame.octets (f : FabFrame) : Octets :=
  f.header ++ (if f.payload = [] then [] else f.payload ++ le 4 (crc32c f.payload))

/-- The port and hop count of a node in the route table (R381). -/
def Fabric.route (f : Fabric) (node : Nat) : Option (Nat × Nat) :=
  (f.routes.find? (fun r => r.1 == node)).map (fun r => r.2)

/-- A node is reachable: this node itself, or it has a route (R381). -/
def Fabric.reachable (f : Fabric) (node : Nat) : Bool := (f.route node).isSome

/-- Reachable nodes, this one included (R381). -/
def Fabric.size (f : Fabric) : Nat := f.routes.length + 1

/-- The pair with a node. -/
def Fabric.pair (f : Fabric) (node : Nat) : Pair := f.pairs.get Pair.init node

/-- The pair with a node updated. -/
def CheckDie.updPair (d : CheckDie) (node : Nat) (f : Pair → Pair) : CheckDie :=
  { d with fab := { d.fab with pairs := d.fab.pairs.upd Pair.init node f } }

/-- A frame put on the port of its route; without a route nothing leaves. -/
def CheckDie.fabEmit (d : CheckDie) (f : FabFrame) : CheckDie :=
  match d.fab.route f.dest with
  | some (port, _) => d.put (.fabric port (d.fab.macHeader port f.kind) f.octets)
  | none => d

/-- A link control frame on a port (R376): HOPS 1, DEST 0xFFF, SEQ 0. -/
def CheckDie.fabControl (d : CheckDie) (port kind : Nat) (payload : Octets) : CheckDie :=
  d.put (.fabric port (d.fab.macHeader port kind)
    ({ kind := kind, hops := 1, dest := 0xFFF, src := if d.fab.settled then d.fab.node else 0,
       payload := payload } : FabFrame).octets)

/-- A sequenced frame to a node (R386): SEQ from the pair, SYNC on the first; at most 64 unacknowledged. -/
def CheckDie.fabSend (d : CheckDie) (f : FabFrame) : CheckDie :=
  let p := d.fab.pair f.dest
  if 64 ≤ p.unacked.length then d.updPair f.dest (fun p => { p with waiting := p.waiting ++ [f] })
  else
    let seq := if p.next = 0 then 1 else p.next
    let g := { f with src := d.fab.node, seq := seq, sync := p.next == 0, ack := p.expected - 1 }
    let d1 := d.updPair f.dest (fun p =>
      { p with
        next := seq + 1
        unacked := p.unacked ++ [g]
        sends := if p.unacked = [] then 1 else p.sends
        timerAt := if p.unacked = [] then d.now else p.timerAt
        ackOwed := none })
    d1.fabEmit g

/-- An operation of this node sent, remembered until its RESPONSE (R385). -/
def CheckDie.fabOp (d : CheckDie) (dest kind window offset : Nat) (payload : Octets) (readLen purpose item : Nat) :
    CheckDie :=
  let tag := d.fab.nextTag
  let d1 := { d with fab := { d.fab with
    nextTag := (tag + 1) % 2 ^ 32
    ops := d.fab.ops ++ [({ tag := tag, node := dest, kind := kind, purpose := purpose, item := item } : PendingOp)] } }
  d1.fabSend { kind := kind, dest := dest, window := window, offset := offset, tag := tag, readLen := readLen,
               payload := payload }

/-- Operation kinds (R376). -/
def opPut : Nat := 0x10
/-- GET. -/
def opGet : Nat := 0x11
/-- FETCH_ADD. -/
def opFetchAdd : Nat := 0x12
/-- CMP_SWAP. -/
def opCmpSwap : Nat := 0x13

/-- A mirror target's state. -/
def Fabric.mirror (f : Fabric) (k : Nat) : MirrorOut := f.mirrors.get {} k

/-- A mirror target's state updated. -/
def CheckDie.updMirror (d : CheckDie) (k : Nat) (f : MirrorOut → MirrorOut) : CheckDie :=
  { d with fab := { d.fab with mirrors := d.fab.mirrors.upd {} k f } }

/-- One 64-byte mirror entry PUT to target k, and WRITE_COUNT raised by FETCH_ADD (R392). -/
def CheckDie.mirrorPut (d : CheckDie) (k kind : Nat) (record : Octets) : CheckDie :=
  let node := d.get Od.MIRROR_TARGET_NODE k
  let sub := d.get Od.MIRROR_SUBRING k
  let n := (d.fab.mirror k).seq
  let entry := le 4 n ++ le 2 d.fab.node ++ le 1 kind ++ [0] ++ padTo 56 record
  let d1 := d.updMirror k (fun m => { m with seq := (m.seq + 1) % 2 ^ 32 })
  let d2 := d1.fabOp node opPut 3 (sub * 131072 + 64 + (n % 1024) * 64) entry 0 1 k
  d2.fabOp node opFetchAdd 3 (sub * 131072) (le 8 1) 0 2 k

/-- A record copied to every mirror target that takes it (R392); before the first entry after a check-die reset the
source GETs WRITE_COUNT and sets it to 0. -/
def CheckDie.mirrorPeers (d : CheckDie) (kind : Nat) (stream : Option Nat) (record : Octets) : CheckDie :=
  d.forEach (List.range 4) (fun d k =>
    let node := d.get Od.MIRROR_TARGET_NODE k
    let wanted := match stream with
      | some n => (d.get Od.MIRROR_STREAMS k).testBit n
      | none => true
    if node = 0 || !wanted then d
    else if (d.fab.mirror k).ready then d.mirrorPut k kind record
    else
      let d1 := d.updMirror k (fun m => { m with waiting := m.waiting ++ [(kind, record)] })
      if (d1.fab.mirror k).asked then d1
      else (d1.updMirror k (fun m => { m with asked := true })).fabOp node opGet 3
        (d.get Od.MIRROR_SUBRING k * 131072) [] 8 3 k)

end Sys2Proof.Machine
end

