-- ==== Sys2Proof/Machine/Verdict.lean ====
section
/-! DEFINITION. Reasons, verdict codes, verdict records and tokens (R187-R189, R197, R247), and the reaction policy as
the check die evaluates it (R255, R276, R277). -/

namespace Sys2Proof.Machine

/-- Reason bits of R187, as bitmaps. -/
def rPASSPORT_CRC : Nat := 2 ^ 0
/-- Bit 1. -/
def rFRAME_FORMAT : Nat := 2 ^ 1
/-- Bit 2. -/
def rOVERRUN : Nat := 2 ^ 2
/-- Bit 3. -/
def rCOUNTER_GAP : Nat := 2 ^ 3
/-- Bit 4. -/
def rALIVE_ERROR : Nat := 2 ^ 4
/-- Bit 5. -/
def rTRAILER_CHECK : Nat := 2 ^ 5
/-- Bit 6. -/
def rTIME_STEP : Nat := 2 ^ 6
/-- Bit 7. -/
def rAGE_EXCEEDED : Nat := 2 ^ 7
/-- Bit 8. -/
def rRESYNC : Nat := 2 ^ 8
/-- Bit 9. -/
def rTEST_MODE : Nat := 2 ^ 9
/-- Bit 10. -/
def rDEGRADED_STREAM : Nat := 2 ^ 10
/-- Bit 11. -/
def rCLASS_MISMATCH : Nat := 2 ^ 11
/-- Bit 12. -/
def rSCORE_BAND : Nat := 2 ^ 12
/-- Bit 13. -/
def rANOMALY_MISMATCH : Nat := 2 ^ 13
/-- Bit 14. -/
def rLATE_RESULT : Nat := 2 ^ 14
/-- Bit 15. -/
def rMODEL_MISMATCH : Nat := 2 ^ 15
/-- Bit 16. -/
def rNO_SENTINEL : Nat := 2 ^ 16
/-- Bit 17. -/
def rARITH_CHECK : Nat := 2 ^ 17
/-- Bit 18. -/
def rPAIR_MISMATCH : Nat := 2 ^ 18
/-- Bit 19. -/
def rFENCED : Nat := 2 ^ 19
/-- Bit 20. -/
def rTAP0_MISMATCH : Nat := 2 ^ 20
/-- Bit 21. -/
def rDIGEST_MISMATCH : Nat := 2 ^ 21
/-- Bit 22. -/
def rTOLERANCE : Nat := 2 ^ 22
/-- Bit 23. -/
def rOUTPUT_MISMATCH : Nat := 2 ^ 23
/-- Bit 24. -/
def rTAP_NOT_DELIVERED : Nat := 2 ^ 24
/-- Bit 25. -/
def rLANTERN_SLOT : Nat := 2 ^ 25
/-- Bit 26. -/
def rLANTERN_STARVED : Nat := 2 ^ 26
/-- Bit 27. -/
def rSAFE_STATE : Nat := 2 ^ 27
/-- Bit 28. -/
def rINTEGRITY_REDUCED : Nat := 2 ^ 28
/-- Bit 29. -/
def rESCALATED : Nat := 2 ^ 29
/-- Bit 30. -/
def rLANTERN_SENTINEL : Nat := 2 ^ 30
/-- Bit 31. -/
def rNO_MAP : Nat := 2 ^ 31

/-- Porter checks with effect NB: bits 0 to 6 and 8 (R57, R187). -/
def porterNb : Nat := 0x17F
/-- Reasons with effect NB whatever the settings (R187): the porter's, 11–13, 15–19, 30 and 31. -/
def alwaysNb : Nat := 0x17F + 0x3800 + 0xF8000 + 2 ^ 30 + 2 ^ 31

/-- Some bit of `m` is set in `r`. -/
def anyBit (r m : Nat) : Bool := r &&& m != 0

/-- NB_MASK of R189: escalation and starvation belong to it by their action settings. -/
def nbMask (cfg : OdStore) (stream : Nat) : Nat :=
  alwaysNb ||| (if cfg.on Od.STARVED_ACTION stream then rLANTERN_STARVED else 0)
    ||| (if cfg.on Od.ESCALATION_ACTION stream then rESCALATED else 0)

/-- Verdict codes (table above R187). -/
def vBELIEVED : Nat := 0
/-- NOT_BELIEVED. -/
def vNOT_BELIEVED : Nat := 1
/-- NO_RESULT. -/
def vNO_RESULT : Nat := 2
/-- NO_INPUT. -/
def vNO_INPUT : Nat := 3
/-- STALE. -/
def vSTALE : Nat := 4
/-- WITHHELD. -/
def vWITHHELD : Nat := 5
/-- AUDITED_OK. -/
def vAUDITED_OK : Nat := 8
/-- AUDITED_FAIL. -/
def vAUDITED_FAIL : Nat := 9
/-- AUDIT_SKIPPED. -/
def vAUDIT_SKIPPED : Nat := 10

/-- The provisional verdict code of a real frame (R189): the first condition that holds decides. -/
def composeCode (nb reasons : Nat) (noFrame resultOnTime : Bool) : Nat :=
  if anyBit reasons (rLANTERN_SLOT ||| rSAFE_STATE) then vWITHHELD
  else if noFrame then vNO_INPUT
  else if anyBit reasons nb then vNOT_BELIEVED
  else if !resultOnTime then vNO_RESULT
  else if anyBit reasons rAGE_EXCEEDED then vSTALE
  else vBELIEVED

/-- One verdict as the composer issues it: the fields of the record of R197. -/
structure VRec where
  stream : Nat
  syncGen : Nat
  code : Nat
  final : Bool
  lantern : Bool
  ctx : Nat := 0xFF
  counter : Nat
  reasons : Nat
  epoch : Nat
  gts : Nat := 0
  accClass : Nat := 0xFFFF
  sentClass : Nat := 0xFFFF
deriving DecidableEq, Repr

/-- The 32 bytes of a verdict record (R197). -/
def VRec.octets (v : VRec) : Octets :=
  let b := le 1 v.stream ++ le 1 v.syncGen ++ le 1 (v.code + 16 * b01 v.final + 32 * b01 v.lantern) ++ le 1 v.ctx
    ++ le 4 v.counter ++ le 4 v.reasons ++ le 4 v.epoch ++ le 8 v.gts ++ le 2 v.accClass ++ le 2 v.sentClass
  b ++ le 4 (crc32c b)

/-- REASON_CLASS of R247. -/
def reasonClass (r : Nat) : Nat :=
  b01 (anyBit r 0x5FF) + 2 * b01 (anyBit r (0x3800 + 2 ^ 15 + 2 ^ 31)) + 4 * b01 (anyBit r (2 ^ 14))
    + 8 * b01 (anyBit r 0xF0000) + 16 * b01 (anyBit r 0x1F00000) + 32 * b01 (anyBit r (2 ^ 25 + 2 ^ 26 + 2 ^ 30))
    + 64 * b01 (anyBit r (2 ^ 27 + 2 ^ 28)) + 128 * b01 (anyBit r (2 ^ 9))

/-- A verdict token (R247). -/
structure Token where
  stream : Nat
  code : Nat
  final : Bool
  lantern : Bool
  demand : Bool
  escalated : Bool
  syncGen : Nat
  counter : Nat
  cls : Nat
deriving DecidableEq, Repr

/-- The token of a verdict (R247). -/
def VRec.token (v : VRec) (demand : Bool) : Token :=
  { stream := v.stream, code := v.code, final := v.final, lantern := v.lantern, demand := demand,
    escalated := v.reasons.testBit 29, syncGen := v.syncGen, counter := v.counter, cls := reasonClass v.reasons }

/-- The 64-bit payload of a token (R247). -/
def Token.payload (t : Token) : Nat :=
  t.stream * 2 ^ 60 + t.code * 2 ^ 56 + b01 t.final * 2 ^ 55 + b01 t.lantern * 2 ^ 54 + b01 t.demand * 2 ^ 53
    + b01 t.escalated * 2 ^ 52 + t.syncGen * 2 ^ 40 + t.counter * 2 ^ 8 + t.cls

/-- A provisional token: codes 0x0–0x5 (R198). -/
def Token.provisional (t : Token) : Bool := decide (t.code ≤ 5)

/-- The token's run of STOP_RUN after it (R276, item 3): codes 0x1–0x4 count, BELIEVED resets, WITHHELD does neither. -/
def Token.nextRun (t : Token) (run : Nat) : Nat :=
  if !t.provisional || t.lantern then run
  else if t.code = 0 then 0
  else if t.code ≤ 4 then run + 1
  else run

/-- Triggers 1 to 4 of R276 for one token of a stream, under its reaction policy. -/
def policyTrigger (cfg : OdStore) (p : PolicyRun) (t : Token) : Bool :=
  let n := t.stream
  cfg.on Od.GUARD n && !t.lantern &&
    ((cfg.n Od.STOP_VERDICTS n &&& 0x063E).testBit t.code
      || (t.code == vNOT_BELIEVED && anyBit t.cls (cfg.n Od.STOP_CLASSES n))
      || (cfg.n Od.STOP_RUN n != 0 && t.provisional && !t.lantern && decide (1 ≤ t.code ∧ t.code ≤ 4)
            && decide (cfg.n Od.STOP_RUN n ≤ t.nextRun p.run))
      || (cfg.on Od.STOP_ON_ESCALATED n && t.escalated && !p.escalated))

/-- The policy state after a token; a lantern's token leaves it ("It never acts on a token with LANTERN set"). -/
def PolicyRun.next (p : PolicyRun) (t : Token) : PolicyRun :=
  if t.lantern then p else { run := t.nextRun p.run, escalated := t.escalated }

/-- A verdict sent its three ways (R197, R247, "The block diagram"): the token across the corridor, with DEMAND when the
reaction policy of the frame's epoch calls for a brake (R200, R255, R277); the host mirror; the peers' mirrors. -/
def CheckDie.issue (d : CheckDie) (v : VRec) : CheckDie :=
  let p := d.policy.get {} v.stream
  let t0 := v.token false
  let demand := policyTrigger (d.cfgAt v.epoch) p t0
  let d1 := { d with policy := d.policy.set {} v.stream (p.next t0) }
  let d2 := if demand then d1.demandLow else d1
  let d3 := d2.sendFlit (flitToken (v.token demand).payload)
  (d3.mirrorHost [v.octets]).mirrorPeers 1 (some v.stream) v.octets

end Sys2Proof.Machine
end

