-- ==== Sys2Proof/Machine/Gate.lean ====
section
/-! DEFINITION. The toll gate (R204-R224): what becomes due, the order on a lane, pre-emption, release, retraction, fences. -/

namespace Sys2Proof.Machine

/-- One block's time in ps at a line rate (R37). -/
def blockPs (rate : Nat) : Nat := if rate = 0 then 6400 else if rate = 1 then 5120 else 2560

/-- ns from VSTART to VEND of an item of `n` bytes, VMARK blocks included (R37, R39). -/
def itemNs (rate n : Nat) : Nat :=
  let blocks := ceilDiv n 8 + 2
  ceilDiv ((blocks + ceilDiv blocks 45) * blockPs rate) 1000

/-- The lane of a consumer entry. -/
def CheckDie.laneOf (d : CheckDie) (c : Nat) : Nat := d.get Od.CONSUMER_LANE c

/-- Enabled consumers on enabled lanes. -/
def CheckDie.enabledConsumers (d : CheckDie) : List Nat :=
  (List.range 256).filter (fun c => d.on Od.CONSUMER_ENABLE c && d.on Od.VE_ENABLE (d.laneOf c))

/-- Enabled consumers that take results of a stream. -/
def CheckDie.resultConsumers (d : CheckDie) (n : Nat) : List Nat :=
  d.enabledConsumers.filter (fun c => (d.get Od.RESULT_STREAMS c).testBit n)

/-- The order of records due on a lane (R214): by time due, then kind, frame t0, stream, CONSUMER_ID. -/
def EgItem.before (a b : EgItem) : Bool :=
  if a.due ≠ b.due then decide (a.due < b.due)
  else if a.kind.rank ≠ b.kind.rank then decide (a.kind.rank < b.kind.rank)
  else if a.t0 ≠ b.t0 then decide (a.t0 < b.t0)
  else if a.stream ≠ b.stream then decide (a.stream < b.stream)
  else decide (a.cid < b.cid)

/-- A record inserted in the order of R214. -/
def insertItem (x : EgItem) : List EgItem → List EgItem
  | [] => [x]
  | y :: ys => if x.before y then x :: y :: ys else y :: insertItem x ys

/-- A record becomes due on its consumer's lane. -/
def CheckDie.enqueue (d : CheckDie) (x : EgItem) : CheckDie :=
  d.updLane (d.laneOf x.consumer) (fun l =>
    { l with queue := insertItem { x with cid := d.get Od.CONSUMER_ID x.consumer } l.queue })

/-- The EGRESS_SEQ that follows the last record completed to a CONSUMER_ID of a lane (R210). -/
def CheckDie.egressSeq (d : CheckDie) (l cid : Nat) : Nat := (d.lane l).seqs.get 0 cid

/-- A complete record (R209): header, body, RECORD_CRC. -/
def egressOctets (kind cid seq gts : Nat) (body : Octets) : Octets :=
  let b := le 2 (body.length + 20) ++ le 1 kind ++ le 1 cid ++ le 4 seq ++ le 8 gts ++ body
  b ++ le 4 (crc32c b)

/-- 64-byte units of a RESULT record (R213). -/
def EgItem.units (x : EgItem) : Nat := ceilDiv (x.body.length + 20) 64

/-- Records leave a lane as its injectors present them (R456). -/
def CheckDie.presentVe (d : CheckDie) (xs : List PointItem) : CheckDie :=
  xs.foldl (fun d x => d.put (.egress x.inst x.octets)) d

/-- A complete record leaves a lane, through the injectors of its point (R456, kind 2). -/
def CheckDie.leaveLane (d : CheckDie) (l : Nat) (kind : EgKind) (b : Octets) : CheckDie :=
  let a := d.atPoint { kind := 2, inst := l, cls := kind.code - 1, octets := b }
  a.1.presentVe a.2

/-- What a record's VEND brings (R210, R213, R217): its number is used, a RESULT is released, a settling record settles. -/
def CheckDie.recordSent (d : CheckDie) (l : Nat) (s : Sending) : CheckDie :=
  let x := s.item
  let d1 := (d.leaveLane l x.kind s.octets).updLane l (fun y =>
    { y with seqs := y.seqs.set 0 x.cid ((s.seq + 1) % 2 ^ 32) })
  match x.kind with
  | .result =>
    let r : Release := { entry := x.entry, stream := x.stream, syncGen := 0, counter := 0, ctx := 0, epoch := x.epoch,
                         seq := s.seq, unverified := x.unverified }
    ((d1.updConsumer x.consumer (fun c =>
        { c with used := c.used + x.units, lastResultSeq := some s.seq, unsettled := c.unsettled ++ [r] })).bump
        Od.RESULTS_SENT x.consumer).bump Od.RESULTS_RELEASED
  | .verdict =>
    if x.unverified then d1  -- a provisional record whose frame is still open
    else d1.updConsumer x.consumer (fun c => { c with unsettled := c.unsettled.filter (fun r => r.entry != x.entry) })
  | .retract => d1.bump Od.RETRACTS_SENT
  | .fence => d1.bump Od.FENCES_SENT
  | .heartbeat => d1

/-- The item on a lane has ended by now: its VEND has left. The VERDICTs held with a RESULT follow it (R214). A lane that a
commit disabled stops after its last record (R221). -/
def CheckDie.laneCatchUp (d : CheckDie) (l : Nat) : CheckDie :=
  match (d.lane l).sending with
  | some s =>
    if s.stop ≤ d.now then
      (d.recordSent l s).updLane l (fun x =>
        { x with sending := none, up := x.up && !(x.closing && x.queue.isEmpty)
                 follow := if s.item.kind = .result then some (s.item.entry, s.item.consumer)
                   else if s.item.kind = .verdict then x.follow else none })
    else d
  | none => d

/-- Every lane brought up to now: what has left it by now is sent. -/
def CheckDie.gateCatchUp (d : CheckDie) : CheckDie := d.forEach (List.range 4) CheckDie.laneCatchUp

/-- A RESULT that is discarded or dropped leaves a mark, by which its frame's VERDICT records are still sent (R214, R224). -/
def EgItem.mark (x : EgItem) : Release :=
  { entry := x.entry, stream := x.stream, syncGen := 0, counter := 0, ctx := 0, epoch := x.epoch, seq := 0,
    unverified := x.unverified, live := false }

/-- A RESULT item in progress ended without VEND (R215). -/
def CheckDie.abandon (d : CheckDie) (l : Nat) : CheckDie :=
  match (d.lane l).sending with
  | some s => (d.updLane l (fun x => { x with sending := none })).put (.abandoned l s.item.consumer)
  | none => d

/-- A VERDICT that was held with a RESULT is free to go alone (R214). -/
def freeHeld (entry consumer : Nat) (q : List EgItem) : List EgItem :=
  q.map (fun x => if x.entry = entry ∧ x.consumer = consumer ∧ x.kind = .verdict then { x with held := false } else x)

/-- The RESULT of a frame for one consumer is discarded, queued or in progress; true when it was there (R218). -/
def CheckDie.discardResult (d : CheckDie) (c entry : Nat) : CheckDie × Bool :=
  let l := d.laneOf c
  let isIt (x : EgItem) : Bool := x.kind == .result && x.entry == entry && x.consumer == c
  let flying := match (d.lane l).sending with
    | some s => if isIt s.item then [s.item] else []
    | none => []
  let gone := flying ++ (d.lane l).queue.filter isIt
  if gone = [] then (d, false)
  else
    let d1 := if flying = [] then d else d.abandon l
    let d2 := d1.updLane l (fun x => { x with queue := freeHeld entry c (x.queue.filter (fun y => !isIt y)) })
    (d2.updConsumer c (fun x => { x with unsettled := x.unsettled ++ (gone.take 1).map EgItem.mark }), true)

/-- The RESULT record's body (R211). -/
def resultBody (e : Entry) (r : ResultRec) (unverified : Bool) : Octets :=
  le 1 e.stream ++ le 1 e.syncGen ++ le 1 (b01 unverified + 2 * b01 (e.audit != .none)) ++ le 1 r.ctx ++ le 4 e.counter
    ++ le 4 e.epoch ++ le 4 0 ++ le 8 (e.gts.getD 0) ++ r.octets ++ le 4 0

/-- The RESULT of a frame becomes releasable to every consumer of its stream (R205, R206). -/
def CheckDie.release (d : CheckDie) (e : Entry) (unverified : Bool) : CheckDie :=
  match e.result with
  | none => d
  | some r =>
    d.forEach (d.resultConsumers e.stream) (fun d c =>
      d.enqueue { kind := .result, consumer := c, due := d.now, t0 := e.t0.getD 0, stream := e.stream, entry := e.id,
                  epoch := e.epoch, body := resultBody e r unverified, unverified := unverified })

/-- The RESULT of an entry is queued or in progress for a consumer. -/
def CheckDie.resultDue (d : CheckDie) (c entry : Nat) : Bool :=
  let l := d.lane (d.laneOf c)
  let isIt (x : EgItem) : Bool := x.kind == .result && x.entry == entry && x.consumer == c
  l.queue.any isIt || (match l.sending with | some s => isIt s.item | none => false)

/-- The VERDICT record becomes due to every consumer it is sent to (R211); held while its RESULT is due (R214).
`closing` says that no later record of the frame follows. -/
def CheckDie.sendVerdict (d0 : CheckDie) (e : Entry) (v : VRec) (closing : Bool) : CheckDie :=
  let d := d0.gateCatchUp
  d.forEach d.enabledConsumers (fun d c =>
    let inResults := (d.get Od.RESULT_STREAMS c).testBit e.stream
    let released := d.resultDue c e.id || (d.consumer c).unsettled.any (fun r => r.entry == e.id)
    if (d.get Od.VERDICT_STREAMS c).testBit e.stream || (inResults && released) then
      d.enqueue { kind := .verdict, consumer := c, due := d.now, t0 := e.t0.getD 0, stream := e.stream, entry := e.id,
                  epoch := e.epoch, body := v.octets ++ le 4 0, held := d.resultDue c e.id, unverified := !closing }
    else d)

/-- The RETRACT record's body (R211). -/
def retractBody (e : Entry) (cause ctx reasons seq code : Nat) : Octets :=
  le 1 e.stream ++ le 1 e.syncGen ++ le 1 cause ++ le 1 ctx ++ le 4 e.counter ++ le 4 e.epoch ++ le 4 reasons
    ++ le 4 seq ++ le 1 code ++ le 7 0

/-- A frame's result is not believed (R218): a result queued or in progress is discarded; a released, unsettled one is
retracted; the mirrors receive a copy of each RETRACT once (R227). -/
def CheckDie.retract (d0 : CheckDie) (e : Entry) (cause reasons code : Nat) : CheckDie :=
  let d := d0.gateCatchUp
  let ctx := (e.result.map (fun r => r.ctx)).getD 0xFF
  d.forEach (List.range 256) (fun d c =>
    let a := d.discardResult c e.id
    match (a.1.consumer c).unsettled.find? (fun r => r.entry == e.id && r.live) with
    | some r =>
      (a.1.updConsumer c (fun x =>
        { x with unsettled := x.unsettled.map (fun y => if y.entry = e.id then { y with live := false } else y) })).enqueue
        { kind := .retract, consumer := c, due := d.now, t0 := e.t0.getD 0, stream := e.stream, entry := e.id,
          epoch := e.epoch, body := retractBody e cause ctx reasons r.seq code, unverified := cause == 1 }
    | none => a.1)

/-- The EPOCH_FENCE record's body (R211). -/
def fenceBody (closing new causes gts lastSeq unsettled : Nat) : Octets :=
  le 4 closing ++ le 4 new ++ le 1 causes ++ le 3 0 ++ le 8 gts ++ le 4 lastSeq ++ le 4 unsettled ++ le 8 0

/-- A record by which a consumer takes a frame's result as settled believed (R217): a VERDICT with FINAL set and code BELIEVED,
AUDITED_OK or AUDIT_SKIPPED. -/
def EgItem.believes (x : EgItem) : Bool :=
  let v := x.body.getD 2 0
  x.kind == .verdict && v.testBit 4 && [vBELIEVED, vAUDITED_OK, vAUDIT_SKIPPED].contains (v % 16)

/-- A settling VERDICT of a frame leaves the lane ahead of a record due now: it is in progress, or it became due before (R214). -/
def Lane.believes (x : Lane) (now consumer entry : Nat) : Bool :=
  let isIt (y : EgItem) : Bool := y.believes && y.consumer == consumer && y.entry == entry
  (match x.sending with | some s => isIt s.item | none => false) || x.queue.any (fun y => isIt y && decide (y.due < now))

/-- An EPOCH_FENCE to each consumer of a list (R221, R222): RESULTs of the closing epoch are never released, unsettled
results of it are settled retracted, one that turned out AUDITED_FAIL at this instant too (R224). -/
def CheckDie.fence (d0 : CheckDie) (cs : List Nat) (closing new causes gts : Nat) : CheckDie :=
  let d := d0.gateCatchUp
  d.forEach cs (fun d c =>
    let l := d.laneOf c
    let old (x : EgItem) : Bool := x.kind == .result && x.consumer == c && x.epoch == closing
    let d1 := match (d.lane l).sending with
      | some s => if old s.item then d.abandon l else d
      | none => d
    let gone := (d1.lane l).queue.filter old
    let fly := match (d.lane l).sending with
      | some s => if old s.item then [s.item] else []
      | none => []
    let late (x : EgItem) : Bool :=
      x.kind == .retract && x.consumer == c && x.epoch == closing && x.due == d.now && !x.unverified
    let settled := (d1.lane l).queue.filter late
    let d2 := d1.updLane l (fun x =>
      { x with queue := (fly ++ gone).foldl (fun q y => freeHeld y.entry c q) (x.queue.filter (fun y => !old y && !late y)) })
    let live := (d2.consumer c).unsettled.filter (fun r =>
      r.epoch == closing && (r.live || settled.any (fun y => y.entry == r.entry)) && !(d2.lane l).believes d.now c r.entry)
    let body := fenceBody closing new causes gts (((d2.consumer c).lastResultSeq).getD 0xFFFFFFFF) live.length
    let d3 := d2.updConsumer c (fun x =>
      { x with lastResultSeq := none,
               unsettled := x.unsettled.map (fun r => if r.epoch = closing then { r with live := false } else r)
                 ++ (fly ++ gone).map EgItem.mark })
    d3.enqueue { kind := .fence, consumer := c, due := d.now, epoch := closing, body := body })

/-- A RETRACT or EPOCH_FENCE, which ends a RESULT in progress (R215). -/
def EgItem.preempts (x : EgItem) : Bool := x.kind == .retract || x.kind == .fence

/-- A RESULT has waited RELEASE_WAIT_US since it became releasable (R224). -/
def CheckDie.waitOver (d : CheckDie) (x : EgItem) : Bool :=
  x.kind == .result && decide (x.due + d.get Od.RELEASE_WAIT_US * 1000 ≤ d.now)

/-- A record may start now (R213, R214, R219, R224): a RESULT needs credit within its wait, one that is sent again comes after every
RETRACT and EPOCH_FENCE that is due, a held VERDICT waits. -/
def CheckDie.startable (d : CheckDie) (q : List EgItem) (x : EgItem) : Bool :=
  match x.kind with
  | .result =>
    let c := d.consumer x.consumer
    c.credit && decide (c.used + x.units ≤ c.total) && !d.waitOver x && !(x.resend && q.any EgItem.preempts)
  | .verdict => !x.held
  | _ => true

/-- The first element with a property, and the list without it. -/
def pickFirst (p : EgItem → Bool) : List EgItem → Option (EgItem × List EgItem)
  | [] => none
  | x :: xs => if p x then some (x, xs) else (pickFirst p xs).map (fun r => (r.1, x :: r.2))

/-- The mirror copy of a RETRACT or EPOCH_FENCE (R227): CONSUMER_ID 0xFF and the mirror's own EGRESS_SEQ, two units. -/
def CheckDie.mirrorCopy (d : CheckDie) (kind : EgKind) (body : Octets) : CheckDie :=
  let o := egressOctets kind.code 0xFF d.mirrorSeq d.gts body
  let d1 := { d with mirrorSeq := (d.mirrorSeq + 1) % 2 ^ 32 }
  (d1.mirrorHost [o.take 32, padTo 32 (o.drop 32)]).mirrorPeers (if kind = .retract then 2 else 3) none o

/-- A record starts on a lane: its EGRESS_SEQ is the next of its consumer (R210). -/
def CheckDie.startItem (d : CheckDie) (l : Nat) (x : EgItem) (rest : List EgItem) : CheckDie :=
  let seq := d.egressSeq l x.cid
  let o := egressOctets x.kind.code x.cid seq d.gts x.body
  let d1 := d.updLane l (fun y =>
    { y with queue := rest,
             follow := if x.kind = .verdict ∧ y.follow = some (x.entry, x.consumer) then y.follow else none
             sending := some { item := x, start := d.now, stop := d.now + itemNs (d.get Od.VE_LINE_RATE l) o.length,
                               seq := seq, octets := o } })
  if x.kind = .retract ∨ x.kind = .fence then d1.mirrorCopy x.kind x.body else d1

/-- A RESULT that could not start in RELEASE_WAIT_US is dropped (R224): counted, a NOTICE once per consumer per 1 ms, its
VERDICT goes alone. -/
def CheckDie.dropResult (d0 : CheckDie) (c entry : Nat) : CheckDie :=
  let d := d0.laneCatchUp (d0.laneOf c)
  let l := d.laneOf c
  match (d.lane l).queue.find? (fun x => x.kind == .result && x.entry == entry && x.consumer == c) with
  | none => d
  | some x =>
    if !d.waitOver x then d
    else
      let d1 := (d.discardResult c entry).1.bump Od.RESULTS_DROPPED c
      let noted := match (d1.consumer c).dropNoted with
        | some t => decide (d1.now < t + 1000000)
        | none => false
      let d2 := d1.updConsumer c (fun y => { y with dropNoted := if noted then y.dropNoted else some d1.now })
      if noted then d2 else d2.raise .resultDropped (ctxPartner (0x200 + c))

/-- The RESULTs of a lane whose wait is over are dropped (R224). -/
def CheckDie.dropOver (d : CheckDie) (l : Nat) : CheckDie :=
  d.forEach ((d.lane l).queue.filter d.waitOver) (fun d x => d.dropResult x.consumer x.entry)

/-- The next due record of a lane starts (R214, R215): the VERDICT that follows its RESULT, else the first that may; a
RETRACT or EPOCH_FENCE that fell due while a RESULT is in progress ends it, and it is sent again later. -/
def CheckDie.egressStart (d0 : CheckDie) (l : Nat) : CheckDie :=
  let d := (d0.laneCatchUp l).dropOver l
  let x := d.lane l
  if !x.up then d
  else match x.sending with
    | some s =>
      if s.item.kind = .result then
        match pickFirst (fun y => y.preempts && decide (s.start ≤ y.due)) x.queue with
        | some (y, rest) => (d.abandon l).startItem l y (insertItem { s.item with resend := true } rest)
        | none => d
      else d
    | none =>
      let follows (y : EgItem) : Bool := y.kind == .verdict && y.held && some (y.entry, y.consumer) == x.follow
      match pickFirst follows x.queue with
      | some (y, rest) => d.startItem l y rest
      | none =>
        match pickFirst (d.startable x.queue) x.queue with
        | some (y, rest) => d.startItem l y rest
        | none => d

/-- The units granted in all after a CREDIT_TOTAL, which counts modulo 2^32 (R212): a smaller one has wrapped when the step up to
it is under half of the count. -/
def grantedBy (granted total : Nat) : Nat :=
  let was := granted % 2 ^ 32
  let step := (total + 2 ^ 32 - was) % 2 ^ 32
  if was ≤ total ∨ step < 2 ^ 31 then granted + step else granted - (was - total)

/-- A consumer's CREDIT message (R208, R212, R213): a new generation, or the first after the lane came up, counts from 0. -/
def CheckDie.takeCredit (d : CheckDie) (l : Nat) (kindOk : Bool) (b : Octets) : CheckDie :=
  let bad := !kindOk || b.length != 16 || field b 12 4 != crc32c (b.take 12) || field b 0 1 != 1 || 63 < field b 1 1
  if bad then d.bump Od.VE_RX_ERRORS l
  else
    match d.enabledConsumers.find? (fun c => d.laneOf c == l && d.get Od.CONSUMER_ID c == field b 1 1) with
    | none => d
    | some c =>
      let total := field b 4 4
      let gen := field b 8 1
      let d1 := d.updConsumer c (fun x =>
        let fresh := !x.credit || x.gen != gen
        { x with credit := true, gen := gen, total := if fresh then total else grantedBy x.total total,
                 used := if fresh then 0 else x.used, received := x.received + 1, lastGts := d.gts })
      (d1.setReg Od.CREDIT_TOTAL total c).setReg Od.CREDIT_GEN gen c

/-- Every consumer of a lane loses its credit until its next valid CREDIT (R213). -/
def CheckDie.loseCredit (d : CheckDie) (l : Nat) : CheckDie :=
  d.forEach (List.range 256) (fun d c =>
    if (d.consumer c).credit && d.laneOf c == l then d.updConsumer c (fun x => { x with credit := false }) else d)

/-- A HEARTBEAT becomes due to a consumer (R211, R216), while the check die runs: not before the fence at the end of a reset (R223). -/
def CheckDie.egressHeartbeat (d : CheckDie) (c : Nat) : CheckDie :=
  let p := d.get Od.HEARTBEAT_PERIOD_US
  let x := d.consumer c
  if d.state.serves && (d.lane (d.laneOf c)).up && d.enabledConsumers.contains c && decide (x.heartbeatAt + p * 1000 ≤ d.now) then
    (d.updConsumer c (fun x => { x with heartbeatAt := d.now })).enqueue
      { kind := .heartbeat, consumer := c, due := d.now, epoch := d.epoch,
        body := le 4 d.epoch ++ le 1 d.device.code ++ [0] ++ le 2 p ++ le 4 0 }
  else d

end Sys2Proof.Machine
end

