-- ==== Sys2Proof/Machine/Arith.lean ====
section
/-! DEFINITION. The arithmetic of a check cluster (R74-R87, R111): operand words, aligned block accumulation, the running sum in
FP32, residues on their own path, the bound sub-lane, post operations, and the conversion to an output format. -/

namespace Sys2Proof.Machine

/-- Round to nearest, ties to even. -/
def roundEven (t : Rat) : Int :=
  let f := t.floor
  let r := t - f
  if r < 1 / 2 then f else if 1 / 2 < r then f + 1 else if f % 2 = 0 then f else f + 1

/-- The magnitude of a value as a power's neighbour: floor(log2 |v|). -/
def expOf (v : Rat) : Int := floorLog2 |v|

/-- A value rounded to `p` significand bits, to nearest even, with least normal exponent `emin` (subnormals honoured, R74). -/
def rneTo (p : Nat) (emin : Int) (v : Rat) : Rat :=
  if v = 0 then 0
  else
    let q := pow2 (max (expOf v) emin - p + 1)
    (roundEven (v / q) : Rat) * q

/-- A value in FP32, rounded to nearest even; above the largest finite value, Inf with its sign (R76, R78). -/
def rne32 (v : Rat) : FpVal :=
  let r := rneTo 24 (-126) v
  if pow2 128 ≤ |r| then .inf (decide (r < 0)) else .fin r

/-- The sign of a value that is not a NaN. -/
def FpVal.neg : FpVal → Bool
  | .fin q => decide (q < 0) | .inf s => s | .nan => false

/-- Two infinities that meet in a sum at position `k` (R78). -/
def addInf (k : Nat) (a b : Bool) : FpVal :=
  if a = b then .inf a
  else
    let c := Config.oppositeInf k
    if c = 0 then .nan else .inf (c != 1)

/-- FP32 addition, rounded to nearest even. -/
def add32 (k : Nat) : FpVal → FpVal → FpVal
  | .fin a, .fin b => rne32 (a + b)
  | .inf s, .fin _ => .inf s
  | .fin _, .inf s => .inf s
  | .inf s, .inf t => addInf k s t
  | _, _ => .nan

/-- FP32 multiplication, rounded to nearest even: NaN for a NaN and for Inf × 0, else Inf with the product's sign (R78). -/
def mul32 : FpVal → FpVal → FpVal
  | .fin a, .fin b => rne32 (a * b)
  | .inf s, .fin b => if b = 0 then .nan else .inf (s != decide (b < 0))
  | .fin a, .inf s => if a = 0 then .nan else .inf (s != decide (a < 0))
  | .inf s, .inf t => .inf (s != t)
  | _, _ => .nan

/-- A value is finite. -/
def FpVal.finite : FpVal → Bool | .fin _ => true | _ => false

/-- Exponent bits, fraction bits and bias of a floating format (R74). -/
def fpLayout (c : Nat) : Nat × Nat × Int :=
  if c = 4 then (2, 1, 1) else if c = 5 then (2, 3, 1) else if c = 6 then (3, 2, 3) else if c = 7 then (4, 3, 7)
  else if c = 8 then (5, 2, 15) else if c = 9 then (8, 7, 127) else if c = 10 then (5, 10, 15) else (8, 23, 127)

/-- The largest finite magnitude of a format (R74). -/
def largestOf (c : Nat) : Rat :=
  if c = 4 then 6 else if c = 5 then 15 / 2 else if c = 6 then 28 else if c = 7 then 448 else if c = 8 then 57344
  else if c = 9 then (2 - pow2 (-7)) * pow2 127 else if c = 10 then 65504 else (2 - pow2 (-23)) * pow2 127

/-- Formats with Inf: FP8 E5M2, BF16, FP16, FP32 (R74, R79). -/
def hasInf (c : Nat) : Bool := decide (8 ≤ c ∧ c ≤ 11)
/-- Formats with NaN (R74). -/
def hasNan (c : Nat) : Bool := decide (7 ≤ c ∧ c ≤ 11)

/-- A magnitude beyond a format: Inf where the format has it, else the largest finite magnitude, with the sign (R79). -/
def beyond (c : Nat) (neg : Bool) : FpVal :=
  if hasInf c then .inf neg else .fin (if neg then -largestOf c else largestOf c)

/-- An integer clamped to a `w`-bit format. -/
def clampInt (w : Nat) (v : Int) : Int := max (-(2 ^ (w - 1) : Nat)) (min ((2 ^ (w - 1) : Nat) - 1) v)

/-- The output unit's conversion of an FP32 result to format `c` (R79). -/
def toFormat (c : Nat) : FpVal → FpVal
  | .nan => if hasNan c then .nan else decodeFormat c (Config.nanConverted c)
  | .inf s => if isIntFormat c then .fin (clampInt (formatBits c) (if s then -(2 ^ 40) else 2 ^ 40)) else beyond c s
  | .fin v =>
    if isIntFormat c then .fin (clampInt (formatBits c) (roundEven v))
    else
      let s := formatShape c
      let r := rneTo s.1 s.2 v
      if largestOf c < |r| then beyond c (decide (v < 0)) else .fin r

/-- The pattern of a value of format `c` (R74); a NaN is the quiet one of its format. -/
def encodeFormat (c : Nat) : FpVal → Nat
  | .fin v =>
    if isIntFormat c then (v.floor % ((2 ^ formatBits c : Nat) : Int)).toNat
    else
      let l := fpLayout c
      let s := b01 (decide (v < 0)) * 2 ^ (l.1 + l.2.1)
      if v = 0 then 0
      else
        let e := expOf v
        if e < 1 - l.2.2 then s + (|v| / pow2 (1 - l.2.2 - l.2.1)).floor.toNat
        else s + (e + l.2.2).toNat * 2 ^ l.2.1 + ((|v| / pow2 (e - l.2.1)).floor.toNat - 2 ^ l.2.1)
  | .inf s => let l := fpLayout c; b01 s * 2 ^ (l.1 + l.2.1) + (2 ^ l.1 - 1) * 2 ^ l.2.1
  | .nan => let l := fpLayout c; if c = 7 then 0x7F else (2 ^ l.1 - 1) * 2 ^ l.2.1 + 2 ^ (l.2.1 - 1)

/-- The signed integer significand of an operand word and the exponent of its least bit (R74, R80). -/
def significand (c b : Nat) : Int × Int :=
  if isIntFormat c then (signedOf (formatBits c) b, 0)
  else
    let l := fpLayout c
    let f := b % 2 ^ l.2.1
    let e := (b / 2 ^ l.2.1) % 2 ^ l.1
    let m : Int := if e = 0 then f else 2 ^ l.2.1 + f
    (if (b / 2 ^ (l.1 + l.2.1)) % 2 = 1 then -m else m, (if e = 0 then 1 else (e : Int)) - l.2.2 - l.2.1)

/-- The kind of an operand: a NaN scale makes every element of its block a NaN (R75). -/
def Operand.kind (o : Operand) (c : Nat) : FpVal := if o.scale = 255 then .nan else decodeFormat c o.word

/-- The significand and the exponent of an operand with its scale (R75). -/
def Operand.parts (o : Operand) (c : Nat) : Int × Int :=
  let p := significand c o.word
  (p.1, p.2 + (o.scale : Int) - 127)

/-- The value of an operand with its scale. -/
def Operand.value (o : Operand) (c : Nat) : FpVal :=
  match o.kind c with
  | .fin _ => let p := o.parts c; .fin (p.1 * pow2 p.2)
  | v => v

/-- 2^(−d) modulo 255: a rotation by d mod 8 (R81). -/
def inv255 (d : Int) : Nat := 2 ^ ((-d) % 8).toNat
/-- 2^(−d) modulo 127: a rotation by d mod 7 (R81). -/
def inv127 (d : Int) : Nat := 2 ^ ((-d) % 7).toNat

/-- A value's residue modulo `m`. -/
def residue (m : Nat) (v : Int) : Nat := (v % (m : Int)).toNat

/-- The parity of bits [63:56] of the 64-bit block accumulator (R84). -/
def topParity (acc : Int) : Bool :=
  ((List.range 8).foldl (fun n i => n + b01 (((acc % 2 ^ 64).toNat).testBit (56 + i))) 0) % 2 == 1

/-- A register of `w` bits after some of its bits flipped, as a two's-complement value. -/
def flipBits (w : Nat) (v : Int) (mask : Nat) : Int := signedOf w (((v % (2 ^ w : Nat)).toNat) ^^^ (mask % 2 ^ w))

/-- A product shifted right by `d`, left where `d` is negative; what is shifted out is cut toward minus infinity (log entry 90). -/
def shiftBy (p d : Int) : Int := if 0 ≤ d then p / (2 ^ d.toNat : Nat) else p * (2 ^ (-d).toNat : Nat)

/-- The part shifted out below the accumulator (R81). -/
def shiftedOut (p d : Int) : Int := if 0 ≤ d then p % (2 ^ d.toNat : Nat) else 0

/-- A magnitude product rounded upward to 8 significant bits (R85). -/
def up8 (v : Rat) : Rat := if v ≤ 0 then 0 else let q := pow2 (floorLog2 v - 7); ((v / q).ceil : Rat) * q

/-- The least UB24 value at or above `v` (R85), past the format's top where `v` is. -/
def upUb24 (v : Rat) : Rat := if v ≤ 0 then 0 else let q := pow2 (max (floorLog2 v - 16) (-142)); ((v / q).ceil : Rat) * q

/-- The largest UB24 value (R85). -/
def ub24Max : Rat := pow2 128 * (2 - pow2 (-16))

/-- The UB24 pattern of a bound, for the records that carry one. -/
def ub24Pattern (v : Rat) : Nat :=
  if ub24Max < v then 0xFFFFFF
  else if v < pow2 (-126) then (v / pow2 (-142)).floor.toNat
  else
    let e := floorLog2 v
    (e + 127).toNat * 65536 + ((v / pow2 (e - 16)).floor.toNat - 65536)

/-- Neighbours summed in pairs, each sum rounded upward. -/
def pairUp : List Rat → List Rat
  | a :: b :: t => upUb24 (a + b) :: pairUp t
  | l => l

/-- The tree that sums the products of one 32-position block in UB24 (R85). -/
def treeUp (l : List Rat) : Rat := ((pairUp (pairUp (pairUp (pairUp (pairUp l))))).headD 0)

/-- A list cut into blocks of 32 (R76). -/
def blocks32 {α : Type} : Nat → List α → List (List α)
  | 0, _ => []
  | fuel + 1, l => if l.isEmpty then [] else l.take 32 :: blocks32 fuel (l.drop 32)

/-- Sum of what some faults add. -/
def faultSum (l : List LaneFault) (f : LaneFault → Option Int) : Int := (l.filterMap f).foldl (· + ·) 0

/-- The error of a position's significand product. -/
def TileLane.productErr (l : TileLane) (k : Nat) : Int :=
  faultSum l.faults (fun f => match f with | .product j e => if j = k then some e else none | _ => none)
/-- The error of a position's alignment amount in one copy of the exponent path. -/
def TileLane.alignErr (l : TileLane) (k : Nat) (dup : Bool) : Int :=
  faultSum l.faults (fun f => match f with | .align j c e => if j = k ∧ c = dup then some e else none | _ => none)
/-- The bits that flip in a block's accumulator register. -/
def TileLane.accMask (l : TileLane) (b : Nat) : Nat :=
  l.faults.foldl (fun m f => match f with | .acc j x => if j = b then m ^^^ x else m | _ => m) 0
/-- The error of a predicted residue. -/
def TileLane.residueErr (l : TileLane) (m127 : Bool) : Nat :=
  l.faults.foldl (fun n f => match f with | .residue c e => if c = m127 then n + e else n | _ => n) 0

/-- The tile is floating: one of its operands is (R77, R150). -/
def TileLane.float (l : TileLane) : Bool := !(isIntFormat l.fmtW && isIntFormat l.fmtX)
/-- Both operands are of one class (R77). -/
def TileLane.oneClass (l : TileLane) : Bool := isIntFormat l.fmtW == isIntFormat l.fmtX

/-- The non-finite product of a pair, when it is one (R78). -/
def TileLane.special (l : TileLane) (p : Operand × Operand) : Option FpVal :=
  let v := mul32 (p.1.kind l.fmtW) (p.2.kind l.fmtX)
  if (p.1.kind l.fmtW).finite && (p.2.kind l.fmtX).finite then none else some v

/-- What one lane holds as a tile runs: predicted and actual residues carried over the blocks, the last accumulator, the FP32
running sum, the non-finite element, the non-finite-operand flag (R91), the bound, and a check that failed. -/
structure LaneRun where
  pred255 : Nat := 0
  pred127 : Nat := 0
  act255 : Nat := 0
  act127 : Nat := 0
  acc : Int := 0
  sum : FpVal := .fin 0
  special : Option FpVal := none
  opFlag : Bool := false
  bound : Rat := 0
  bad : Bool := false
deriving DecidableEq, Repr

/-- The largest product exponent of a block (R76, item 2), of its finite products. -/
def TileLane.blockExp (l : TileLane) (b : List ((Operand × Operand) × Nat)) : Int :=
  match (b.filter (fun p => (l.special p.1).isNone)).map (fun p => (p.1.1.parts l.fmtW).2 + (p.1.2.parts l.fmtX).2) with
  | [] => 0
  | e :: t => t.foldl max e

/-- One product enters the block accumulator (R76, R81): aligned to the block's exponent with 5 guard bits, its bits below the
accumulator removed; the residue sub-lane works with the duplicate's alignment amount. -/
def TileLane.takeProduct (l : TileLane) (top : Int) (r : LaneRun) (p : (Operand × Operand) × Nat) : LaneRun :=
  match l.special p.1 with
  | some v => { r with special := some (match r.special with | none => v | some u => add32 p.2 u v), opFlag := true }
  | none =>
    let w := p.1.1.parts l.fmtW
    let x := p.1.2.parts l.fmtX
    let d := top - (w.2 + x.2) - 5
    let dA := d + l.alignErr p.2 false
    let dB := d + l.alignErr p.2 true
    let q := w.1 * x.1 + l.productErr p.2
    let lo := shiftedOut q dA
    { r with
      acc := r.acc + shiftBy q dA
      pred255 := r.pred255 + (residue 255 w.1 * residue 255 x.1 + 255 - residue 255 lo) * inv255 dB
      pred127 := r.pred127 + (residue 127 w.1 * residue 127 x.1 + 127 - residue 127 lo) * inv127 dB
      bad := r.bad || dA != dB }

/-- The bound sub-lane's sum over one block (R85). -/
def TileLane.blockBound (l : TileLane) (b : List ((Operand × Operand) × Nat)) : Rat :=
  treeUp (b.map (fun p => if (l.special p.1).isSome then 0 else
    let w := p.1.1.parts l.fmtW
    let x := p.1.2.parts l.fmtX
    up8 (((w.1 * x.1).natAbs : Rat) * pow2 (w.2 + x.2))))

/-- One block of a floating tile (R76, R82, R84, R85): its products, the register's parity, the two copies of the exponent path,
the normalised sum added to the running sum by the two adders. -/
def TileLane.takeBlock (l : TileLane) (r : LaneRun) (b : List ((Operand × Operand) × Nat) × Nat) : LaneRun :=
  let top := l.blockExp b.1
  let s := b.1.foldl (l.takeProduct top) { r with acc := 0 }
  let reg := flipBits 64 s.acc (l.accMask b.2)
  let parity := topParity s.acc != l.faults.contains (.parity b.2)
  { s with
    acc := reg
    act255 := s.act255 + residue 255 reg
    act127 := s.act127 + residue 127 reg
    sum := add32 b.2 s.sum (.fin ((reg : Rat) * pow2 (top - 5)))
    bound := upUb24 (s.bound + l.blockBound b.1)
    bad := s.bad || topParity reg != parity || l.faults.contains (.path b.2) || l.faults.contains (.adder b.2) }

/-- The blocks of a tile with the numbers of their positions; the second cluster of a pair takes them in reverse K order (R97). -/
def TileLane.blockList (l : TileLane) (reverse : Bool) : List (List ((Operand × Operand) × Nat) × Nat) :=
  let n := l.pairs.length
  let bs := blocks32 (n / 32 + 1) (l.pairs.zip (List.range n))
  let out := bs.zip (List.range bs.length)
  if reverse then out.reverse else out

/-- One product of an integer tile (R76, item 1). -/
def TileLane.takeInt (l : TileLane) (r : LaneRun) (p : (Operand × Operand) × Nat) : LaneRun :=
  let w := (significand l.fmtW p.1.1.word).1
  let x := (significand l.fmtX p.1.2.word).1
  { r with
    acc := r.acc + w * x + l.productErr p.2
    pred255 := r.pred255 + residue 255 w * residue 255 x
    pred127 := r.pred127 + residue 127 w * residue 127 x }

/-- The run of a tile on one lane: the floating blocks in order, or the integer products into the 48-bit accumulator. -/
def TileLane.run (l : TileLane) (reverse : Bool := false) : LaneRun :=
  if l.float then (l.blockList reverse).foldl l.takeBlock {}
  else
    let s := (l.pairs.zip (List.range l.pairs.length)).foldl l.takeInt {}
    let reg := flipBits 48 s.acc (l.accMask 0)
    { s with acc := reg, act255 := residue 255 reg, act127 := residue 127 reg }

/-- The element's FP32 result before conversion: the running sum, or what its non-finite products make of it (R78). -/
def LaneRun.value (r : LaneRun) : FpVal :=
  match r.special with
  | none => r.sum
  | some v => add32 0 v r.sum

/-- M_b as the bound sub-lane delivers it (R86). -/
def TileLane.bound (l : TileLane) (r : LaneRun) : Rat :=
  match l.faults.findSome? (fun f => match f with | .bound p => some p | _ => none) with
  | some p => ub24 p
  | none => r.bound

/-- BOUND_SATURATED (R86). -/
def TileLane.boundSaturated (l : TileLane) (r : LaneRun) : Bool := decide (ub24Max < l.bound r)

/-- The predicted residues at the end of a tile, modulo 255 and 127 (R83). -/
def TileLane.predicted (l : TileLane) (r : LaneRun) : Nat × Nat :=
  ((r.pred255 + l.residueErr false) % 255, (r.pred127 + l.residueErr true) % 127)

/-- The lane's checks fail (R82-R84, R87): the exponent copies, the parity, the adders, the residues of a finite element, or
|y| above its bound. -/
def TileLane.fails (l : TileLane) (r : LaneRun) : Bool :=
  let y := r.value
  r.bad || (y.finite && (l.predicted r != (r.act255 % 255, r.act127 % 127)))
    || (l.float && !l.boundSaturated r && match y with
          | .fin v => decide (l.bound r < |v|)
          | _ => false)

/-- The lane's comparison at the tile's end disagrees (R83). -/
def TileLane.mismatch (l : TileLane) (reverse : Bool := false) : Bool := l.fails (l.run reverse)

/-- A value clamped to INT32 (R76, R90). -/
def clamp32 (v : Int) : Int := max (-(2 ^ 31)) (min (2 ^ 31 - 1) v)

/-- SATURATED of an integer element (R76). -/
def LaneRun.saturated (r : LaneRun) : Bool := r.acc != clamp32 r.acc

/-- The segment of a PWL table that an input falls into (R111): the last whose breakpoint it reaches, else the first. -/
def pwlSeg (x : FpVal) : List PwlSeg → Option PwlSeg
  | [] => none
  | s :: t => some (t.foldl (fun best u =>
      match fp32 u.breakpoint, x with
      | .fin b, .fin v => if b ≤ v then u else best
      | .fin _, .inf false => u
      | _, _ => best) s)

/-- A PWL table evaluated in FP32 (R111): slope times input, then the intercept, each rounded to nearest even. -/
def ActTable.eval (t : ActTable) (x : FpVal) : FpVal :=
  match t, x with
  | _, .nan => .nan
  | .direct _, v => v
  | .pwl segs, v => match pwlSeg v segs with
    | none => v
    | some s => add32 0 (mul32 (fp32 s.slope) v) (fp32 s.intercept)

/-- A DIRECT table's value at an 8-bit input code, the index clamped to the table (R111, R159). -/
def ActTable.at (t : ActTable) (q : Int) : Option Int :=
  match t with
  | .direct vs => vs[(clampInt 8 q % 256).toNat]?
  | .pwl _ => none

/-- The largest |slope| of a PWL table (R158); 1 without one. -/
def slopeMax : Option ActTable → Rat
  | some (.pwl segs) => segs.foldl (fun m s => match fp32 s.slope with | .fin q => max m |q| | _ => m) 0
  | _ => 1

/-- L_c of R158: |scale| of the channel times the largest slope. -/
def PostOps.lipschitz (p : PostOps) : Rat :=
  (match p.scaleBias with
    | some (s, _) => (match fp32 s with | .fin q => |q| | _ => 1)
    | none => 1) * slopeMax p.act

/-- The operands that a post operation reads beside the element (R91). -/
def PostOps.operands (p : PostOps) (x : FpVal) : List FpVal :=
  (match p.scaleBias with | some (s, b) => [fp32 s, fp32 b] | none => [])
    ++ (match p.add with | some a => [fp32 a] | none => [])
    ++ (match p.act with
        | some (.pwl segs) => (match pwlSeg x segs with | some s => [fp32 s.slope, fp32 s.intercept] | none => [])
        | _ => [])

/-- SCALE_BIAS and ADD in FP32 (R158). -/
def PostOps.linear (p : PostOps) (x : FpVal) : FpVal :=
  let a := match p.scaleBias with
    | some (s, b) => add32 0 (mul32 x (fp32 s)) (fp32 b)
    | none => x
  match p.add with
  | some y => add32 0 a (fp32 y)
  | none => a

/-- The post operations of a floating element in FP32 (R158). -/
def PostOps.eval (p : PostOps) (x : FpVal) : FpVal :=
  match p.act with
  | some t => t.eval (p.linear x)
  | none => p.linear x

/-- The non-finite-operand flag of an element with its post operations (R91). -/
def PostOps.flag (p : PostOps) (r : LaneRun) : Bool :=
  r.opFlag || (p.operands (p.linear r.value)).any (fun v => !v.finite)

/-- An exact accumulation requantised in FP32 with round-to-nearest-even (R159), before the table: times the multiplier, to an
integer, plus the zero point. -/
def PostOps.requantised (p : PostOps) (acc : Int) : Int :=
  match p.requant with
  | none => acc
  | some (m, z) => match mul32 (p.linear (rne32 acc)) (fp32 m) with
    | .fin v => roundEven v + z
    | .inf s => if s then -(2 ^ 40) else 2 ^ 40
    | .nan => z

/-- The exponential of −a for a ≥ 0, to 2^-64: sixteen terms at a/256, squared eight times, each step cut to 2^-80.
DESIGN CHOICE (log entry 7): no rule says how the exponential is computed. -/
def expNeg (a : Rat) : Rat :=
  let cut (v : Rat) : Rat := (((v * pow2 80).floor : Int) : Rat) * pow2 (-80)
  if 90 < a then 0
  else
    let t := cut (a / 256)
    let s := (List.range 16).foldl (fun (acc : Rat × Rat) i => let u := cut (acc.2 * (-t) / (i + 1)); (acc.1 + u, u)) (1, 1)
    (List.range 8).foldl (fun v _ => cut (v * v)) s.1

/-- The largest of some finite values; none where there is none. -/
def largest? : List FpVal → Option Rat
  | [] => none
  | .fin q :: t => some (match largest? t with | some m => max q m | none => q)
  | _ :: t => largest? t

/-- The softmax of one value among some (R113, R161): e^(v − max) over the sum, non-finite values left out of the sum. -/
def softmaxOf (vals : List FpVal) (v : FpVal) : FpVal :=
  match largest? vals, v with
  | some m, .fin q =>
    let s := vals.foldl (fun s x => match x with | .fin y => s + expNeg (m - y) | _ => s) 0
    rne32 (expNeg (m - q) / s)
  | _, .inf true => .fin 0
  | _, _ => .nan

/-- The place of the largest value of some; the first of several. -/
def argmax (vals : List FpVal) : Nat :=
  match largest? vals with
  | none => 0
  | some m => vals.findIdx (fun v => v == .fin m)

end Sys2Proof.Machine
end

