-- ==== Sys2Proof/Machine/Arrays.lean ====
section
/-! DEFINITION. The check arrays: the tile comparison's record (R83), the spectral front unit and its checks (R93-R96), and what
the dispatcher asks of a cluster (R104, R119, R128). -/

namespace Sys2Proof.Machine

/-- Key 32 of a lane's signature (R329): predicted and actual residues. -/
def TileLane.residues (l : TileLane) (reverse : Bool) : Octets :=
  let r := l.run reverse
  let p := l.predicted r
  cborArray [cborUint p.1, cborUint p.2, cborUint (r.act255 % 255), cborUint (r.act127 % 127)]

/-- Rows with a mismatch, each once. -/
def failedRows (ls : List TileLane) (reverse : Bool) : List Nat :=
  ((ls.filter (fun l => l.mismatch reverse)).map TileLane.row).dedup

/-- Element `i` of a payload in format `f` (R45), packed as R142 packs a tap. -/
def packed (f : Nat) (data : Octets) (i : Nat) : Nat :=
  let bits := formatBits f
  if bits = 4 then bitsOf (data.getD (i / 2) 0) (4 * (i % 2)) 4
  else if bits = 6 then bitsOf (field data (i / 4 * 3) 3) (6 * (i % 4)) 6
  else field data (i * (bits / 8)) (bits / 8)

/-- Sample `i` of a payload of PAYLOAD_FORMAT `pf`, real and imaginary part; a real input has zero imaginary parts (R93). -/
def sampleAt (pf : Nat) (data : Octets) (i : Nat) : FpVal × FpVal :=
  let f := pf % 16
  if pf.testBit 4 then (decodeFormat f (packed f data (2 * i)), decodeFormat f (packed f data (2 * i + 1)))
  else (decodeFormat f (packed f data i), .fin 0)

/-- The windowed samples of a transform (R93): each part times its window value in FP32. -/
def windowed (pf : Nat) (data : Octets) (window : List Nat) : List (FpVal × FpVal) :=
  (window.zip (List.range window.length)).map (fun x =>
    let s := sampleAt pf data x.2
    (mul32 s.1 (fp32 x.1), mul32 s.2 (fp32 x.1)))

/-- An energy in FP32, summed in order (R94). -/
def energy32 (l : List (FpVal × FpVal)) : FpVal :=
  l.foldl (fun s x => add32 0 (add32 0 s (mul32 x.1 x.1)) (mul32 x.2 x.2)) (.fin 0)

/-- Parseval's check (R94), false where an energy is not finite. -/
def parsevalHolds (n : Nat) (eIn eOut : FpVal) : Bool :=
  match eIn, eOut with
  | .fin a, .fin b =>
    if a = 0 then decide (b = 0)
    else decide (|b - n * a| ≤ (2 * ((Nat.log2 n : Nat) : Rat) + 4) * pow2 (-23) * n * a)
  | _, _ => false

/-- The lanes that recompute bin `k` (R95): 4N real MACs, 2N for each part, in FP32. -/
def binLanes (k : Nat) (l : List (FpVal × FpVal)) (faults : List LaneFault) : TileLane × TileLane :=
  let n := l.length
  let op (v : FpVal) : Operand := { word := encodeFormat 11 v }
  let tw (i : Nat) : Nat × Nat := Config.twiddle n (k * i % n)
  let idx := l.zip (List.range n)
  let lane (ps : List (Operand × Operand)) (fs : List LaneFault) : TileLane :=
    { row := 0, fmtW := 11, fmtX := 11, pairs := ps, faults := fs }
  (lane (idx.flatMap (fun x =>
      [({ word := (tw x.2).1 }, op x.1.1), ({ word := (tw x.2).2 ^^^ 2 ^ 31 }, op x.1.2)])) faults,
    lane (idx.flatMap (fun x => [({ word := (tw x.2).2 }, op x.1.1), ({ word := (tw x.2).1 }, op x.1.2)])) [])

/-- S of R95: the sum of the magnitudes of both parts; none where one is not finite. -/
def absSum (l : List (FpVal × FpVal)) : Option Rat :=
  l.foldl (fun s x => match s, x.1, x.2 with
    | some t, .fin a, .fin b => some (t + |a| + |b|)
    | _, _, _ => none) (some 0)

/-- The spot-bin check of one bin (R95): the recomputed bin, the unit's own, and S. -/
def spotHolds (n : Nat) (re im : FpVal) (xr xi : FpVal) (s : Option Rat) : Bool :=
  match re, im, xr, xi, s with
  | .fin a, .fin b, .fin c, .fin d, some t =>
    let lim := (2 * ((Nat.log2 n : Nat) : Rat) + ((ceilDiv n 32 : Nat) : Rat) + 8) * pow2 (-23) * t
    decide (|c - a| ≤ lim) && decide (|d - b| ≤ lim)
  | _, _, _, _, _ => false

/-- The window product of a sample came out wrong and its residues disagree (R93): an error that is no multiple of 32,385. -/
def windowFails (errs : List (Nat × Int)) : Bool := errs.any (fun e => e.2 % 32385 != 0)

/-- A cluster's capacity k (The plan). -/
def Cluster.capacity (c : Cluster) : Rat := mkRat (96 - (c.rows.length : Int)) 96
/-- A cluster is available: neither fenced nor out of service for a test (The plan, R106). -/
def Cluster.available (c : Cluster) : Bool := !c.fenced && !c.out

/-- The portions a cluster hosts, with their streams. -/
def Dispatcher.hosted (p : Dispatcher) (c : Nat) : List (Nat × Portion) :=
  p.placements.flatMap (fun x =>
    ((x.first ++ x.second).filter (fun q => q.cluster == c)).map (fun q => (x.stream, q)))

/-- The sum of the shares a cluster hosts. -/
def Dispatcher.load (p : Dispatcher) (c : Nat) : Rat := (p.hosted c).foldl (fun s q => s + q.2.share) 0

/-- The clusters that hold a portion of a stream. -/
def Dispatcher.clustersOf (p : Dispatcher) (n : Nat) : List Nat :=
  (p.placements.filter (fun x => x.stream == n)).flatMap (fun x => (x.first ++ x.second).map Portion.cluster)

/-- The lowest-indexed spare that can take everything cluster `c` holds (R128), among those not yet `taken`. -/
def CheckDie.spareFor (d : CheckDie) (c : Nat) (taken : List Nat) : Option Nat :=
  allClusters.find? (fun s =>
    s != c && (d.cluster s).available && (d.disp.hosted s).isEmpty && !taken.contains s
      && decide (d.disp.share ≤ (d.cluster s).capacity) && decide (d.disp.load c ≤ (d.cluster s).capacity))

/-- A cluster that is needed is ungated (R429); POWER_STATE reads GATED while any is gated. -/
def CheckDie.ungateCluster (d : CheckDie) (c : Nat) : CheckDie :=
  let d1 := d.updCluster c (fun x => { x with gated := false, lastWork := d.now })
  if d1.power = .gated ∧ !allClusters.any (fun k => (d1.cluster k).gated) then { d1 with power := .active } else d1

/-- A running margin test is aborted (R337). -/
def CheckDie.abortMargin (d : CheckDie) : CheckDie :=
  if (d.margin.state = 1 ∨ d.margin.state = 2) ∧ !d.margin.aborted then
    ({ d with margin := { d.margin with aborted := true, state := 3 } } : CheckDie).raise .marginAborted 0 (instOf d.margin.cluster 0xFF)
  else d

end Sys2Proof.Machine
end

