-- ==== Sys2Proof/Machine/Plan.lean ====
section
/-! DEFINITION. The dispatcher's plan (R119-R121), the re-plan procedure (R128-R133), and the load checks of sentinel
packages (R110-R115). -/

namespace Sys2Proof.Machine

/-- A stream as the plan takes it: the slot it runs, on its fallback or not, with its package. -/
structure PlanStream where
  stream : Nat
  slot : Nat
  fallback : Bool
  pkg : Package
  /-- its fallback slot and package, when bound and VALID -/
  alt : Option (Nat × Package)
  priority : Nat
deriving DecidableEq, Repr

/-- A plan: its share and where each stream's copies lie. -/
structure Plan where
  share : Rat
  placements : List Placement
deriving DecidableEq, Repr

/-- An available cluster inserted by fenced rows, then index (R119, item 1). -/
def insertCluster (x : Nat × Nat) : List (Nat × Nat) → List (Nat × Nat)
  | [] => [x]
  | y :: ys => if x.2 < y.2 ∨ (x.2 = y.2 ∧ x.1 < y.1) then x :: y :: ys else y :: insertCluster x ys

/-- The available clusters in the order of R119, item 1, with their fenced rows. -/
def CheckDie.lineOrder (d : CheckDie) : List (Nat × Nat) :=
  (allClusters.filter (fun c => (d.cluster c).available)).foldl
    (fun l c => insertCluster (c, (d.cluster c).rows.length) l) []

/-- Capacity from fenced rows. -/
def capOf (fenced : Nat) : Rat := mkRat (96 - (fenced : Int)) 96

/-- Every second element, from the first. -/
def evenPos {α : Type} : List α → List α
  | [] => []
  | [x] => [x]
  | x :: _ :: t => x :: evenPos t

/-- The sum of some capacities. -/
def sumCap (l : List (Nat × Nat)) : Rat := l.foldl (fun s c => s + capOf c.2) 0
/-- The smallest capacity, 0 of none. -/
def minCap : List (Nat × Nat) → Rat
  | [] => 0
  | c :: t => t.foldl (fun m x => min m (capOf x.2)) (capOf c.2)

/-- `share()` of R119 for a list of clusters. -/
def planShare (l : List (Nat × Nat)) (full : Bool) (n : Nat) (reserve : Rat) : Rat :=
  if n = 0 then 1
  else if !full then min (minCap l) ((sumCap l - reserve) / n)
  else
    let k := l.take (2 * (l.length / 2))
    if k = [] then 0
    else
      let la := sumCap (evenPos k) - reserve / 2
      let lb := sumCap (evenPos (k.drop 1)) - reserve / 2
      min (minCap k) (min la lb / n)

/-- Items 2 and 3 of R119: the kept list and its share; a tie keeps the shorter list. -/
def keepList (l : List (Nat × Nat)) (full : Bool) (n : Nat) (reserve : Rat) : List (Nat × Nat) × Rat :=
  let fenced := (l.filter (fun c => c.2 != 0)).length
  (List.range (fenced + 1)).foldl (fun best j =>
    let k := l.take (l.length - j)
    let f := planShare k full n reserve
    if best.2 ≤ f then (k, f) else best) (l, planShare l full n reserve)

/-- One copy of length `need` taken from the start of a line (R119, item 5). -/
def takeCopy : Rat → List (Nat × Rat) → List Portion × List (Nat × Rat)
  | _, [] => ([], [])
  | need, (c, r) :: t =>
    if need ≤ 0 then ([], (c, r) :: t)
    else if r ≤ 0 then takeCopy need t
    else if need ≤ r then ([⟨c, need⟩], (c, r - need) :: t)
    else
      let a := takeCopy (need - r) t
      (⟨c, r⟩ :: a.1, a.2)

/-- The copies of every stream along one line. -/
def layLine (f : Rat) : List PlanStream → List (Nat × Rat) → List (List Portion)
  | [], _ => []
  | _ :: ss, line => let a := takeCopy f line; a.1 :: layLine f ss a.2

/-- The plan of R119; streams in ascending index. -/
def buildPlan (clusters : List (Nat × Nat)) (full : Bool) (reserve : Rat) (ss : List PlanStream) : Plan :=
  let k := keepList clusters full ss.length reserve
  let lineOf (l : List (Nat × Nat)) : List (Nat × Rat) := l.map (fun c => (c.1, capOf c.2))
  let used := k.1.take (2 * (k.1.length / 2))
  let a := layLine k.2 ss (lineOf (if full then evenPos used else k.1))
  let b := if full then layLine k.2 ss (lineOf (evenPos (used.drop 1))) else ss.map (fun _ => [])
  { share := k.2,
    placements := (ss.zip (a.zip b)).map (fun x =>
      { stream := x.1.stream, slot := x.1.slot, fallback := x.1.fallback, first := x.2.1, second := x.2.2 }) }

/-- B of R120. -/
def planBudget (f : Rat) : Nat := ((f * 1294).floor.toNat) * 10000

/-- round(64 × s1 / f), the tile groups of a split copy's first portion (R125). DESIGN CHOICE (log entry 80): the rule does not
say how a half is rounded; here it is rounded up. -/
def firstGroups (f s1 : Rat) : Nat := (64 * s1 / f + 1 / 2).floor.toNat

/-- Full-row cycles of some tile groups of a package (R121): from its recorded groups, or its MAC_CYCLES shared evenly. -/
def groupCycles (p : Package) (from_ upto : Nat) : Rat :=
  if p.groups = [] then (p.macCycles : Rat) * ((upto - from_ : Nat) : Rat) / 64
  else ((p.groups.foldl (fun s g => s + ((g.drop from_).take (upto - from_)).sum) 0 : Nat) : Rat)

/-- The Cycles condition of R121 for one copy. -/
def copyFits (p : Package) (f : Rat) (c : List Portion) : Bool :=
  match c with
  | [] => true
  | [q] => decide ((p.startOffset : Rat) + groupCycles p 0 64 / q.share ≤ 1800)
  | q :: r :: _ =>
    let n := firstGroups f q.share
    decide ((p.startOffset : Rat) + groupCycles p 0 n / q.share ≤ 1800)
      && decide ((p.startOffset : Rat) + groupCycles p n 64 / r.share ≤ 1800)

/-- Transform cycles of a package's SPECTRAL layer (R93). -/
def Package.spectralCycles (p : Package) : Nat :=
  match p.layers with
  | .spectral n :: _ => n * Nat.log2 n / 64 + 48
  | _ => 0

/-- The head of a copy. -/
def headOf (c : List Portion) : Nat := (c.head?.map Portion.cluster).getD 0xFF

/-- Streams that fail a condition of R121, or hold a portion on a cluster that fails one: `involved` of R128. -/
def Plan.involved (p : Plan) (ss : List PlanStream) : List Nat :=
  if ss = [] then []
  else if p.share < 1 / 3 then ss.map PlanStream.stream
  else
    let rows := ss.zip p.placements
    let own := (rows.filter (fun x =>
      decide (planBudget p.share < x.1.pkg.macPerFrame) || !copyFits x.1.pkg p.share x.2.first
        || !copyFits x.1.pkg p.share x.2.second)).map (fun x => x.1.stream)
    let badCluster (c : Nat) : Bool :=
      let here := rows.filter (fun x => (x.2.first ++ x.2.second).any (fun q => q.cluster == c))
      let portions := (here.flatMap (fun x => (x.2.first ++ x.2.second).filter (fun q => q.cluster == c))).length
      let weights : Nat := ((here.map (fun x => (x.1.slot, x.1.pkg.weightKib))).dedup.map Prod.snd).sum
      let work : Nat := (here.flatMap (fun x =>
        ((x.2.first ++ x.2.second).filter (fun q => q.cluster == c)).map (fun _ => x.1.pkg.workKib))).sum
      let heads := rows.flatMap (fun x =>
        ([x.2.first, x.2.second].filter (fun k => k ≠ [] ∧ headOf k = c)).map (fun _ => x.1.pkg))
      decide (4 < portions) || decide (2688 < weights + work)
        || decide (1800 < (heads.map Package.spectralCycles).sum) || decide (900 < (heads.map Package.epilogueCycles).sum)
    let byCluster := (rows.filter (fun x => (x.2.first ++ x.2.second).any (fun q => badCluster q.cluster))).map
      (fun x => x.1.stream)
    (ss.map PlanStream.stream).filter (fun n => own.contains n || byCluster.contains n)

/-- The stream of lowest priority: highest SHED_PRIORITY, then highest index (R128). -/
def lowestPriority : List PlanStream → Option PlanStream
  | [] => none
  | s :: t => match lowestPriority t with
    | none => some s
    | some r => if r.priority < s.priority ∨ (r.priority = s.priority ∧ r.stream < s.stream) then some s else some r

/-- `replan` of R128 with fuel; answers the plan, the streams as they end, and the streams shed on the way. -/
def replan (clusters : List (Nat × Nat)) (full : Bool) (reserve : Rat) :
    Nat → List PlanStream → List Nat → Plan × List PlanStream × List Nat
  | 0, ss, shed => (buildPlan clusters full reserve ss, ss, shed)
  | fuel + 1, ss, shed =>
    let p := buildPlan clusters full reserve ss
    let inv := p.involved ss
    if inv = [] then (p, ss, shed)
    else
      let cand := ss.filter (fun s => inv.contains s.stream)
      let onPrimary := cand.filter (fun s => !s.fallback && s.alt.isSome)
      match (if 1 / 3 ≤ p.share then lowestPriority onPrimary else none) with
      | some s =>
        let ss' := ss.map (fun x =>
          if x.stream = s.stream then
            match x.alt with
            | some (k, q) => { x with slot := k, pkg := q, fallback := true }
            | none => x
          else x)
        replan clusters full reserve fuel ss' shed
      | none =>
        match lowestPriority cand with
        | some s => replan clusters full reserve fuel (ss.filter (fun x => x.stream != s.stream)) (shed ++ [s.stream])
        | none => (p, ss, shed)

/-- Fuel enough for every switch and every shedding of twelve streams. -/
def replanFuel : Nat := 25

/-- A slot's package when it is VALID. -/
def CheckDie.validPackage (d : CheckDie) (k : Nat) : Option Package := if k < 16 then (d.package k).ok else none

/-- The streams in the plan, each on its primary (or its fallback when the primary is not VALID, R115). `keep` says which
start on their fallback and which are shed (R128). -/
def CheckDie.planStreams (d : CheckDie) (cfg : OdStore) (onFallback shed : List Nat) : List PlanStream :=
  (allStreams.filter (fun n => cfg.on Od.STREAM_ENABLE n && !shed.contains n)).filterMap (fun n =>
    let ps := cfg.n Od.PRIMARY_SLOT n
    let fs := cfg.n Od.FALLBACK_SLOT n
    let alt := (d.validPackage fs).map (fun q => (fs, q))
    match d.validPackage ps, alt with
    | some p, none => some ⟨n, ps, false, p, none, cfg.n Od.SHED_PRIORITY n⟩
    | some p, some (k, q) =>
      if onFallback.contains n then some ⟨n, k, true, q, some (k, q), cfg.n Od.SHED_PRIORITY n⟩
      else some ⟨n, ps, false, p, some (k, q), cfg.n Od.SHED_PRIORITY n⟩
    | none, some (k, q) => some ⟨n, k, true, q, some (k, q), cfg.n Od.SHED_PRIORITY n⟩
    | none, none => none)

/-- AUDIT_RESERVE_PM in clusters. -/
def reserveOf (cfg : OdStore) : Rat := mkRat (cfg.n Od.AUDIT_RESERVE_PM) 1000

/-- The plan from given settings for the clusters available now, starting from given fallbacks and shed streams. -/
def CheckDie.planFrom (d : CheckDie) (cfg : OdStore) (onFallback shed : List Nat) : Plan × List PlanStream × List Nat :=
  replan d.lineOrder (cfg.n Od.REDUNDANCY_MODE == 1) (reserveOf cfg) replanFuel (d.planStreams cfg onFallback shed) shed

/-- Item 5 of R116: the plan from the primaries needs no fallback and sheds no stream. -/
def CheckDie.planHolds (d : CheckDie) (cfg : OdStore) : Bool :=
  let ss := d.planStreams cfg [] []
  ((buildPlan d.lineOrder (cfg.n Od.REDUNDANCY_MODE == 1) (reserveOf cfg) ss).involved ss).isEmpty

/-- The streams on their fallback in the plan. -/
def Dispatcher.onFallback (p : Dispatcher) : List Nat := (p.placements.filter (fun x => x.fallback)).map Placement.stream

/-- The package regions hold what the placements need (R72, R121): the slots hosted on each cluster. -/
def CheckDie.loadRegions (d : CheckDie) : CheckDie :=
  d.forEach allClusters (fun d c =>
    let slots := ((d.disp.placements.filter (fun x => (x.first ++ x.second).any (fun q => q.cluster == c))).map
      Placement.slot).dedup
    if (d.cluster c).region = slots then d else d.updCluster c (fun x => { x with region := slots }))

/-- A plan is in force; each switch to a fallback and each shedding is a WARN event (R129). -/
def CheckDie.installPlan (d : CheckDie) (r : Plan × List PlanStream × List Nat) (full : Bool) : CheckDie :=
  let old := d.disp
  let d1 := ({ d with disp := { d.disp with
    share := r.1.share, placements := r.1.placements, shed := r.2.2, full := full } } : CheckDie).loadRegions
  let newFb := (d1.disp.onFallback).filter (fun n => !old.onFallback.contains n)
  let newShed := r.2.2.filter (fun n => !old.shed.contains n)
  (d1.forEach newFb (fun d n => d.raise .fallbackSwitch (ctxStream n))).forEach newShed
    (fun d n => d.raise .streamShed (ctxStream n))

/-- Every portion of cluster `c` is moved, unchanged, to cluster `s` (R128). -/
def Dispatcher.move (p : Dispatcher) (c s : Nat) : Dispatcher :=
  let mv (l : List Portion) : List Portion := l.map (fun q => if q.cluster = c then { q with cluster := s } else q)
  { p with placements := p.placements.map (fun x => { x with first := mv x.first, second := mv x.second }) }

/-- Clusters whose portions must move: fenced or out of service, or with too little capacity left (R127). -/
def CheckDie.displaced (d : CheckDie) : List Nat :=
  allClusters.filter (fun c =>
    !(d.disp.hosted c).isEmpty && (!(d.cluster c).available || decide ((d.cluster c).capacity < d.disp.load c)))

/-- A cluster for a batch pass, not among `avoid` (R100, R133, R162): one of those available, by a choice the spec leaves
open. -/
def CheckDie.passCluster (d : CheckDie) (avoid : List Nat) : Option Nat :=
  let l := allClusters.filter (fun c => (d.cluster c).available && !avoid.contains c)
  if l = [] then none else l[Config.passCluster d.audit.passes % l.length]?

/-- The audits of a pass that ran on cluster `c` go on on another (R100, R133); where there is none they stand at 0xFF, no
cluster, until they are closed. -/
def CheckDie.movePass (d : CheckDie) (c : Nat) : CheckDie :=
  if d.audit.open_.any (fun a => a.cluster == some c) then
    let next := (d.passCluster [c]).getD 0xFF
    ({ d with audit := { d.audit with
        passes := d.audit.passes + 1
        open_ := d.audit.open_.map (fun (a : Audit) => if a.cluster = some c then { a with cluster := some next } else a) } } :
      CheckDie).ungateCluster next
  else d

/-- Spares for the clusters to be cleared, in ascending order (R130), each freed of the pass that ran on it (R133); none when
some cluster finds none. -/
def CheckDie.remapAll (d : CheckDie) : List Nat → Option CheckDie
  | [] => some d
  | c :: cs => match d.spareFor c cs with
    | some s => CheckDie.remapAll (({ d with disp := d.disp.move c s } : CheckDie).loadRegions.movePass s) cs
    | none => none

/-- The remap or re-plan is complete (R105, R128, R131, R132): from the primaries when it was asked so, else the fenced
clusters' portions move to spares, else the procedure starts from the streams as they stand. -/
def CheckDie.replanComplete (d : CheckDie) : CheckDie :=
  if !d.disp.replanning then d
  else
    let full := d.get Od.REDUNDANCY_MODE == 1
    let d1 :=
      if d.disp.fresh then (d.installPlan (d.planFrom d.cfg [] []) full).bump Od.REPLANS
      else match d.remapAll d.displaced with
        | some x => x
        | none => (d.installPlan (d.planFrom d.cfg d.disp.onFallback d.disp.shed) full).bump Od.REPLANS
    { d1 with disp := { d1.disp with
      replanning := false, fresh := false, fencedStreams := [], movedStreams := [] } }

/-- The dispatcher plans anew from the primaries (R132). -/
def CheckDie.planAnew (d : CheckDie) : CheckDie := { d with disp := { d.disp with replanning := true, fresh := true } }

/-- A stream's placement. -/
def CheckDie.placement (d : CheckDie) (n : Nat) : Option Placement := d.disp.placements.find? (fun x => x.stream == n)

/-- A commit has applied (R131): streams whose package or placement changes wait for the new plan. -/
def CheckDie.planAtCommit (d : CheckDie) : CheckDie :=
  let r := d.planFrom d.cfg [] []
  let moved := allStreams.filter (fun n =>
    d.on Od.STREAM_ENABLE n && d.placement n != r.1.placements.find? (fun x => x.stream == n))
  { d.planAnew with disp := { d.planAnew.disp with movedStreams := moved } }

/-- A MAC layer's limits (R110); `true` for the layers without limits of their own. -/
def Layer.ok : Layer → Bool
  | .spectral n => decide (64 ≤ n ∧ n ≤ 8192) && decide (2 ^ Nat.log2 n = n)
  | .conv1d _ kernel stride dilation _ groups inCh _ =>
    decide (1 ≤ kernel ∧ kernel ≤ 64 ∧ 1 ≤ stride ∧ stride ≤ 16 ∧ 1 ≤ dilation ∧ dilation ≤ 64 ∧ 1 ≤ groups ∧ groups ≤ inCh)
  | .conv2d _ kh kw sh sw dh dw _ _ groups inCh _ =>
    decide (1 ≤ kh ∧ kh ≤ 7 ∧ 1 ≤ kw ∧ kw ≤ 7 ∧ 1 ≤ sh ∧ sh ≤ 4 ∧ 1 ≤ sw ∧ sw ≤ 4 ∧ 1 ≤ dh ∧ dh ≤ 4 ∧ 1 ≤ dw ∧ dw ≤ 4
      ∧ 1 ≤ groups ∧ groups ≤ inCh)
  | .dense _ inputs outputs => decide (inputs ≤ 65536 ∧ outputs ≤ 16384)
  | .pool wh ww => decide (2 ≤ wh ∧ wh ≤ 16 ∧ 2 ≤ ww ∧ ww ≤ 16)
  | .magnitude => true | .scaleBias => true | .act _ => true | .add => true | .concat => true | .head => true
  | .other _ => false

/-- A MAC layer. -/
def Layer.isMac : Layer → Bool
  | .conv1d .. => true | .conv2d .. => true | .dense .. => true | _ => false
/-- A SPECTRAL layer. -/
def Layer.isSpectral : Layer → Bool | .spectral _ => true | _ => false
/-- Reduction length of a MAC layer: the kernel over the input channels of one group. -/
def Layer.k : Layer → Nat
  | .conv1d _ kernel _ _ _ groups inCh _ => kernel * (inCh / groups)
  | .conv2d _ kh kw _ _ _ _ _ _ groups inCh _ => kh * kw * (inCh / groups)
  | .dense _ inputs _ => inputs
  | _ => 0
/-- A floating MAC layer's reduction length; none otherwise. -/
def Layer.floatK (l : Layer) : Option Nat :=
  match l with
  | .conv1d true .. => some l.k
  | .conv2d true .. => some l.k
  | .dense true .. => some l.k
  | _ => none

/-- The order R110 asks: MAGNITUDE stands only directly after SPECTRAL, SPECTRAL only first, nothing after HEAD, and ACT is
fused after a MAC layer, whose SCALE_BIAS and ADD may stand between (`fused`). -/
def layerOrder (before : Option Layer) (fused : Bool) : List Layer → Bool
  | [] => true
  | b :: t =>
    (match b with
      | .magnitude => (before.map Layer.isSpectral).getD false
      | .act _ => fused
      | .spectral _ => before.isNone
      | _ => true)
      && (match before with | some .head => false | _ => true)
      && layerOrder (some b) (b.isMac || (fused && (match b with | .scaleBias => true | .add => true | _ => false))) t

/-- Code 4 of R114. -/
def Package.layersOk (p : Package) : Bool :=
  p.layers.all Layer.ok && layerOrder none false p.layers
    && (match p.layers.getLast? with | some .head => true | _ => false)

/-- Bytes of an activation table: FP32 values, or three of them per segment. -/
def ActTable.bytes : ActTable → Nat
  | .direct vs => 4 * vs.length
  | .pwl segs => 12 * segs.length

/-- Code 5 of R114: the limits of R112. -/
def Package.limitsOk (p : Package) : Bool :=
  decide (p.layers.length ≤ 256 ∧ p.tables.length ≤ 16 ∧ p.inLength ≤ 16384 ∧ p.weightKib + p.workKib ≤ 2688
    ∧ p.macPerFrame ≤ 12940000 ∧ p.startOffset + p.macCycles ≤ 1800 ∧ p.epilogueCycles ≤ 900 ∧ p.classes ≤ 1024)
    && p.tables.all (fun t => decide (t.bytes ≤ 2048)) && p.layers.all (fun l => decide (l.k ≤ 65536))

/-- FP32 values rise strictly. -/
def ascending32 : List Nat → Bool
  | a :: b :: t => (match fp32 a, fp32 b with
      | .fin x, .fin y => decide (x < y)
      | _, _ => false) && ascending32 (b :: t)
  | _ => true

/-- Code 7 of R114: the rules of R111. A PWL table of s segments has s breakpoints here: each segment's lower end. -/
def ActTable.ok : ActTable → Bool
  | .direct vs => decide (vs.length = 256)
  | .pwl segs => decide (1 ≤ segs.length ∧ segs.length ≤ 128) && ascending32 (segs.map PwlSeg.breakpoint)

/-- Codes 1 to 3, shared by every signed image (R114, R137, R170, R185): 0 when they hold. -/
def ImageHead.fault (h : ImageHead) (expected : Octets) : Nat :=
  if !h.formatOk then 1
  else if !h.signed then 2
  else if expected.any (fun b => b != 0) && expected != h.digest then 3
  else 0

/-- The load checks of R114 in order; 0 when the package passes. -/
def Package.fault (p : Package) (expected : Octets) : Nat :=
  let h := p.hd.fault expected
  if h ≠ 0 then h
  else if !p.layersOk then 4
  else if !p.limitsOk then 5
  else if p.layers.any (fun l => match l.floatK with
    | some k => decide (1 / 2 ≤ (refDepth k : Rat) * pow2 (-24))
    | none => false) then 6
  else if !p.tables.all ActTable.ok then 7
  else 0

/-- The image of a package slot arrives (R115): refused by the safety die while a binding names it; here it is LOADING
until its last byte and then VERIFYING. -/
def CheckDie.packageWrite (d : CheckDie) (s : Nat) (p : Package) (last : Bool) : CheckDie :=
  let x : Slot Package :=
    { state := if last then .verifying else .loading, image := some p, emptied := (d.package s).vacant }
  { d with packages := d.packages.set {} s x }

/-- The slot is VALID or INVALID (R114); one that a reset emptied and a stream names is planned in again (R115, R132). -/
def CheckDie.packageVerified (d : CheckDie) (s : Nat) : CheckDie :=
  let x := d.package s
  match x.state, x.image with
  | .verifying, some p =>
    let f := p.fault (d.cfg.get Od.SLOT_EXPECTED_DIGEST s).b
    let y : Slot Package := { x with state := if f = 0 then .valid else .invalid, fault := f, emptied := x.emptied && f != 0 }
    let d1 := { d with packages := d.packages.set {} s y }
    let named := allStreams.any (fun n => d.get Od.PRIMARY_SLOT n == s || d.get Od.FALLBACK_SLOT n == s)
    let d2 := if f = 0 then d1 else d1.raise .packageInvalid (ctxSlot s) 0 f
    if f = 0 && x.emptied && named then d2.planAnew else d2
  | _, _ => d

/-- FENCE_CLEAR arrives (R106, R132): for each named cluster that passed its re-test, fences, watch entries and marks go. -/
def CheckDie.fenceClear (d : CheckDie) (bitmap : Nat) : CheckDie :=
  (d.forEach (allClusters.filter (fun c => bitmap.testBit c && (d.cluster c).retestPassed)) (fun d c =>
    d.updCluster c (fun x => { x with rows := [], fenced := false, watch := [], retestPassed := false }))).planAnew

end Sys2Proof.Machine
end

