-- ==== Sys2Proof/Machine/Fences.lean ====
section
/-! DEFINITION. When a check fails (R99-R108, R126-R130): the watch list and the fences, the plan's reaction to a fence, the frames
in progress, and the comparisons that count against a row or a cluster. -/

namespace Sys2Proof.Machine

/-- Runs that end in this cycle by a fence or a stop are kept until it is over (R99, R108, R126). -/
def CheckDie.noteEnded (d : CheckDie) (es : List Entry) : CheckDie :=
  if es = [] then d
  else { d with ended := (if d.endedAt = d.now then d.ended else []) ++ es, endedAt := d.now }

/-- A run ended in this very cycle. -/
def CheckDie.justEnded (d : CheckDie) (id : Nat) : Bool := d.endedAt == d.now && d.ended.any (fun e => e.id == id)

/-- The entry of a run: the open one, or the one whose run ended in this cycle. -/
def CheckDie.runEntry (d : CheckDie) (id : Nat) : Option Entry :=
  match d.entry? id with
  | some e => some e
  | none => if d.endedAt = d.now then d.ended.find? (fun e => e.id == id) else none

/-- A run goes on: not ended, or ended in this very cycle. -/
def CheckDie.runsStill (d : CheckDie) (e : Entry) : Bool := e.runs && (!e.sentDone || d.justEnded e.id)

/-- Runs end without an output, with a reason (R104, R126, R130). -/
def CheckDie.endRuns (d : CheckDie) (p : Entry → Bool) (reason : Nat) : CheckDie :=
  let gone := d.ledger.filter (fun e => e.runs && !e.sentDone && p e)
  ({ d with ledger := d.ledger.map (fun (e : Entry) =>
    if e.runs ∧ !e.sentDone ∧ p e then { e with reasons := e.reasons ||| reason, sentDone := true, sentinel := none } else e) } :
    CheckDie).noteEnded gone

/-- The streams whose placement a re-plan will change, as the clusters stand (R128, R129). -/
def CheckDie.replanMoves (d : CheckDie) : List Nat :=
  let r := d.planFrom d.cfg d.disp.onFallback d.disp.shed
  allStreams.filter (fun n =>
    (d.placement n).isSome && d.placement n != r.1.placements.find? (fun x => x.stream == n))

/-- The streams of cluster `c` are moved (R105, R129): their frames are FENCED until the plan runs again, and so are those of every
other stream that a re-plan moves. A frame whose t0 falls into this cycle counts as after the fence (R130). Without spares a
margin test is aborted (R337). -/
def CheckDie.displace (d : CheckDie) (c : Nat) : CheckDie :=
  let ns := ((d.disp.hosted c).map Prod.fst).dedup
  if ns = [] then d
  else
    let spares := (d.remapAll d.displaced).isSome
    let all := if spares then ns else ns ++ d.replanMoves
    let d1 := { d with disp := { d.disp with
      replanning := true, fencedStreams := (d.disp.fencedStreams ++ all).dedup } }
    let d2 := d1.endRuns (fun e => e.t0 == some d.now && all.contains e.stream) (2 ^ 19)
    if spares then d2 else d2.abortMargin

/-- A fence happens: a margin test that started in this cycle has not started, and is deferred (R334, R337). -/
def CheckDie.fencing (d : CheckDie) : CheckDie :=
  let d1 := { d with disp := { d.disp with fencedAt := some d.now } }
  if d.margin.state = 1 ∧ d.margin.startedAt = d.now then
    { d1.updCluster d.margin.cluster (fun x => { x with out := false }) with
      margin := { d.margin with state := 0, prevented := true } }
  else d1

/-- A cluster is fenced whole, at once (R103, R104): its frames in progress are abandoned with FENCED, a pass on it moves. -/
def CheckDie.fenceCluster (d : CheckDie) (c : Nat) : CheckDie :=
  if (d.cluster c).fenced then d
  else
    let d1 := d.fencing.updCluster c (fun x => { x with fenced := true, watch := x.watch.filter (fun w => w.row != 0xFF) })
    let d2 := (d1.endRuns (fun e => e.clusters.contains c) (2 ^ 19)).movePass c
    (d2.sendFlit (flitFence c 0xFF true)).displace c

/-- A list of rows with one more, ascending. -/
def insertRow (r : Nat) : List Nat → List Nat
  | [] => [r]
  | x :: xs => if r < x then r :: x :: xs else if r = x then x :: xs else x :: insertRow r xs

/-- A row is fenced (R101, R103, R127). DESIGN CHOICE (log entry 80): a commit that lowers ROW_FENCE_LIMIT below the rows already
fenced fences the cluster when its next row is fenced, not at the commit. -/
def CheckDie.fenceRow (d : CheckDie) (c row : Nat) : CheckDie :=
  if (d.cluster c).rows.contains row then d
  else
    let d1 := (d.fencing.updCluster c (fun x =>
      { x with rows := insertRow row x.rows, watch := x.watch.filter (fun w => w.row != row) })).sendFlit
      (flitFence c row true)
    if d1.get Od.ROW_FENCE_LIMIT < (d1.cluster c).rows.length then d1.fenceCluster c
    else if (d1.cluster c).capacity < d1.disp.load c then d1.displace c
    else d1

/-- A unit (row, or 0xFF for the cluster) is fenced. -/
def CheckDie.fenceUnit (d : CheckDie) (c row : Nat) : CheckDie :=
  if row = 0xFF then d.fenceCluster c else d.fenceRow c row

/-- A mismatch counts against a row or, with 0xFF, against its cluster (R101, R336): the second within the window, or the
first of a unit with a margin mark, fences it. A cluster under test is exempt (R107, R335). -/
def CheckDie.countAgainst (d : CheckDie) (c row : Nat) : CheckDie :=
  let x := d.cluster c
  if x.out then d
  else
    let window := d.get Od.ROW_FENCE_WINDOW_MS * 1000000
    let seen := x.watch.any (fun w => w.row == row && (w.margin || decide (d.now ≤ w.at_ + window)))
    let marked := x.watch.any (fun w => w.row == 0xFF && w.margin)
    if marked then d.fenceCluster c
    else if seen then d.fenceUnit c row
    else (d.updCluster c (fun x =>
      { x with watch := x.watch.filter (fun w => w.row != row) ++ [{ row := row, at_ := d.now }] })).sendFlit
      (flitFence c row false)

/-- A pair disagreement without a residue mismatch puts a cluster on the watch list; a second partner within the window
fences it (R102). -/
def CheckDie.pairWatch (d : CheckDie) (c partner : Nat) : CheckDie :=
  let window := d.get Od.ROW_FENCE_WINDOW_MS * 1000000
  let old := ((d.cluster c).watch.filter (fun w => w.row == 0xFE)).flatMap Watch.partners
  let near := old.filter (fun p => decide (d.now ≤ p.2 + window))
  if near.any (fun p => p.1 != partner) then d.fenceCluster c
  else (d.updCluster c (fun x =>
    { x with watch := x.watch.filter (fun w => w.row != 0xFE) ++
        [{ row := 0xFE, at_ := d.now, partners := (near.filter (fun p => p.1 != partner)) ++ [(partner, d.now)] }] })).sendFlit
    (flitFence c 0xFF false)

/-- The frame keys of a signature (R329): epoch, stream, generation, counter. -/
def Entry.sigKeys (e : Entry) : List (Nat × Octets) :=
  [(3, cborUint e.epoch), (4, cborUint e.stream), (5, cborUint e.syncGen), (6, cborUint e.counter)]

/-- Key 9 of a signature (R329): opcode, format code and layer of an OP_DESC (R319). -/
def opKey (opDesc : Nat) : Octets := cborArray [cborUint (bitsOf opDesc 24 8), cborUint (bitsOf opDesc 20 4), cborUint (bitsOf opDesc 0 16)]

/-- A check of a frame's run failed (R99): ARITH_CHECK for the frame, a FAULT event that names cluster and row and the
package's opcode, format and layer, and a signature. -/
def CheckDie.arithFail (d : CheckDie) (e : Entry) (c row opDesc kind : Nat) (keys : List (Nat × Octets)) : CheckDie :=
  ((d.updEntry e.id (fun e => { e with reasons := e.reasons ||| 2 ^ 17 })).raise .arithCheck (ctxStream e.stream)
    (instOf c row) 0 opDesc).sign
    { kind := kind, gts := d.gts,
      keys := e.sigKeys ++ [(9, opKey opDesc), (30, cborUint c)]
        ++ (if row = 0xFF then [] else [(31, cborUint row)]) ++ keys }

/-- The accumulator context of a run on a cluster (R124): its portion's place among those hosted. -/
def CheckDie.contextIndex (d : CheckDie) (c stream : Nat) : Nat :=
  min 3 (((d.disp.hosted c).map Prod.fst).findIdx (fun n => n == stream))

/-- The lanes of a context hold what a tile left in them (R72, R124). -/
def CheckDie.keepLanes (d : CheckDie) (c ctx : Nat) (lanes : List TileLane) (reverse : Bool) : CheckDie :=
  d.updCluster c (fun x => { x with contexts := x.contexts.set [] ctx (lanes.map (fun l => (l.row, (l.run reverse).acc))) })

/-- One tile of a frame's run ends (R83, R97, R99, R101, R108) on a cluster that holds a portion of it: each mismatching row counts
once. A row that the MAC phase leaves out (R104) has no lane, and a lane's operands are of one class (R77).
DESIGN CHOICE (log entry 80): RESIDUE_MISMATCHES adds one for each failing row of a tile; the spec does not say what it counts. -/
def CheckDie.tileComplete (d : CheckDie) (entry c opDesc : Nat) (tile : List TileLane) : CheckDie :=
  match d.runEntry entry with
  | none => d
  | some e =>
    match e.parts.find? (fun p => p.cluster == c) with
    | none => d
    | some p =>
      if !d.runsStill e then d
      else
        let lanes := tile.filter (fun l => decide (l.row < 96) && l.oneClass && !(d.cluster c).rowsOut.contains l.row)
        (d.keepLanes c (d.contextIndex c e.stream) lanes p.second).forEach (failedRows lanes p.second) (fun d row =>
          let l := lanes.find? (fun l => l.row == row && l.mismatch p.second)
          let keys := match l with
            | some l => [(32, l.residues p.second)]
            | none => []
          ((d.bump Od.RESIDUE_MISMATCHES).arithFail e c row opDesc 1 keys).countAgainst c row)

/-- The difference of two parts as an FP32 pattern; a NaN where one is not finite. -/
def diff32 (a b : FpVal) : Nat :=
  match a, b with
  | .fin x, .fin y => encodeFormat 11 (rne32 (x - y))
  | _, _ => encodeFormat 11 .nan

/-- A transform of a frame's package ends on a copy's head (R93-R96, R99, R101, R125): the windowed samples, their energy, the
outputs' energy, and one bin drawn from the TRNG and recomputed on the MAC lanes.
DESIGN CHOICE (log entry 80): SPECTRAL_FAILS adds one for each transform, also where both of its checks fail. -/
def CheckDie.spectralComplete (d : CheckDie) (entry c opDesc n : Nat) (window : List Nat) (errs : List (Nat × Int))
    (re im : List Nat) (faults : List LaneFault) (wrongEnergy : Option Nat) : CheckDie :=
  match d.runEntry entry with
  | none => d
  | some e =>
    let head := e.parts.any (fun p => p.cluster == c && p.head)
    let layer := ((e.pkg.bind (fun s => (d.package s).image)).map Package.layers).bind List.head?
    if !d.runsStill e || !head || layer != some (.spectral n) then d
    else
      let a := d.drawBelow n
      let x := windowed e.format e.payload (padTo n (window.take n))
      let out := (List.range n).map (fun i => (fp32 (re.getD i 0), fp32 (im.getD i 0)))
      let eOut := match wrongEnergy with
        | some v => fp32 v
        | none => energy32 out
      let lanes := binLanes a.1 x faults
      let xr := lanes.1.run.value
      let xi := lanes.2.run.value
      let got := out.getD a.1 (.nan, .nan)
      let whole := parsevalHolds n (energy32 x) eOut
      let ok := whole && spotHolds n xr xi got.1 got.2 (absSum x)
      let key : Octets := if whole
        then cborArray [cborUint a.1, cborFloat (diff32 got.1 xr), cborFloat (diff32 got.2 xi)]
        else cborArray [cborFloat (encodeFormat 11 (energy32 x)), cborFloat (encodeFormat 11 eOut)]
      let d1 := if windowFails errs || lanes.1.mismatch || lanes.2.mismatch then
          ((a.2.bump Od.RESIDUE_MISMATCHES).arithFail e c 0xFF opDesc 1 []).countAgainst c 0xFF
        else a.2
      if ok then d1
      else ((d1.bump Od.SPECTRAL_FAILS).arithFail e c 0xFF opDesc 4 [(33, key)]).countAgainst c 0xFF

/-- A portion of a frame has not completed its MAC phase at t0 + 2 µs (R126): each such portion is stopped and counted. -/
def CheckDie.cycleStop (d : CheckDie) (entry c : Nat) : CheckDie :=
  match d.runEntry entry with
  | none => d
  | some e =>
    let before := ((d.ended.find? (fun x => d.endedAt == d.now && x.id == entry)).map Entry.stopped).getD []
    if !d.runsStill e || !e.clusters.contains c || before.contains c || !decide (e.t0.getD 0 + 2000 ≤ d.now) then d
    else
      let d1 := d.updEntry entry (fun e => { e with reasons := e.reasons ||| 2 ^ 16, sentDone := true, sentinel := none })
      let kept := { e with stopped := before ++ [c] }
      let d2 := { d1 with ended := ((if d1.endedAt = d1.now then d1.ended else []).filter (fun (x : Entry) => x.id != entry)) ++ [kept],
                          endedAt := d1.now }
      (((d2.bump Od.CYCLE_STOPS).raise .cycleStop (ctxStream e.stream) (instOf c 0xFF)).countAgainst c 0xFF)

/-- The bound test of a cluster, every BOUND_TEST_PERIOD_MS: the known vector on its bound sub-lanes against the vector's stored
bound, UB24 patterns (R87, R101). -/
def CheckDie.boundTest (d : CheckDie) (c : Nat) (vector : TileLane) (stored : Nat) : CheckDie :=
  if d.now < (d.cluster c).boundAt + d.get Od.BOUND_TEST_PERIOD_MS * 1000000 then d
  else
    let d1 := d.updCluster c (fun x => { x with boundAt := d.now })
    if ub24Pattern (vector.bound vector.run) = stored then d1 else d1.countAgainst c 0xFF

/-- A unit's window has passed without a further mismatch (R101, R102, R336); a margin mark does not expire. -/
def CheckDie.watchExpiry (d : CheckDie) (c row : Nat) : CheckDie :=
  let window := d.get Od.ROW_FENCE_WINDOW_MS * 1000000
  d.updCluster c (fun x =>
    { x with watch := x.watch.filter (fun w => w.row != row || w.margin || decide (d.now < w.at_ + window)) })

/-- The floating output of one copy in the package's format (R79, R98), or what a failing output unit delivered. -/
def PairElem.output (x : PairElem) (outFmt : Nat) (r : LaneRun) (wrong : Option Nat) : FpVal :=
  match wrong with
  | some p => decodeFormat outFmt p
  | none => toFormat outFmt (x.post.eval r.value)

/-- The integer output of one copy (R90): the raw INT32 accumulation, or the requantised one with its DIRECT table. -/
def PairElem.integer (x : PairElem) (outFmt : Nat) (r : LaneRun) (wrong : Option Nat) : Int :=
  match wrong, x.post.requant with
  | some p, _ => signedOf 32 p
  | none, none => clamp32 r.acc
  | none, some _ =>
    let q := clampInt (formatBits outFmt) (x.post.requantised r.acc)
    (x.post.act.bind (fun t => t.at q)).getD q

/-- The comparison of R98 with the declaration of the package: FP32, SEQUENTIAL over blocks, k_act = 1. The second copy takes
the blocks in reverse K order (R97). -/
def PairElem.agreement (outFmt : Nat) (x : PairElem) : Agreement :=
  let l2 : TileLane := { x.lane with faults := x.faults }
  let a := x.lane.run
  let b := l2.run true
  if x.lane.float then
    let k := x.lane.pairs.length
    floatAgreement (refDepth k) (pow2 (-24)) k 1 outFmt (x.lane.bound a) (x.lane.boundSaturated a) (x.post.flag a)
      (x.output outFmt b x.wrongSecond) (x.output outFmt a x.wrongFirst)
  else
    let u := x.integer outFmt a x.wrongFirst
    let v := x.integer outFmt b x.wrongSecond
    if a.saturated != b.saturated then .disagrees
    else if x.post.requant.isSome then (if |u - v| ≤ 1 then .agrees else .disagrees)
    else if u = v then .agrees else .disagrees

/-- The pair comparison of a frame (R98, R102): PAIR_MISMATCH, a FAULT event and a signature; without a residue mismatch
both clusters go on the watch list. -/
def CheckDie.pairCompare (d : CheckDie) (e : Entry) (heads : Nat × Nat) (outFmt : Nat) (elems : List PairElem) : CheckDie :=
  let excluded := (elems.filter (fun x => x.agreement outFmt == .excluded)).length
  let d1 := d.bump Od.BOUND_SATURATED 0 excluded
  if elems.all (fun x => x.agreement outFmt != .disagrees) then d1
  else
    let d2 := ((d1.updEntry e.id (fun e => { e with reasons := e.reasons ||| 2 ^ 18 })).bump Od.PAIR_MISMATCHES).raise
      .pairMismatch (ctxStream e.stream) (instOf heads.1 heads.2)
    let d3 := d2.sign { kind := 3, gts := d2.gts,
                        keys := e.sigKeys ++ [(30, cborUint heads.1)] }
    let arith := match d.entry? e.id with
      | some x => x.reasons.testBit 17
      | none => false
    if arith then d3 else (d3.pairWatch heads.1 heads.2).pairWatch heads.2 heads.1

end Sys2Proof.Machine
end

