-- ==== Sys2Proof/Machine/AuditBase.lean ====
section
/-! DEFINITION. Audit selection (R145-R147), the audit request (R152), landing windows (R153), and manifests' load checks
(R135-R138, R92). -/

namespace Sys2Proof.Machine

/-- Elements of a tap. -/
def Tap.elements (t : Tap) : Nat := t.dims.foldl (fun a b => a * b) 1

/-- DATA_BYTES of a tap (R141, R142): its elements, and one scale byte per block of 32 when MX-scaled. DESIGN CHOICE (log entry 80): a
partial group of 4-bit or 6-bit elements takes the bytes that its bits need. -/
def Tap.dataBytes (t : Tap) : Nat :=
  ceilDiv (t.elements * formatBits t.format) 8 + (if t.mx then t.elements / 32 else 0)

/-- Bytes of a serialised tap: header and data, padded to a multiple of 64 (R141, R142). -/
def Tap.serial (t : Tap) : Nat := ceilDiv (16 + t.dataBytes) 64 * 64

/-- S of R153. -/
def Manifest.deliverySize (m : Manifest) : Nat := (m.taps.map Tap.serial).sum

/-- LANDING_COUNT of R153. -/
def Manifest.landingCount (m : Manifest) : Nat := ceilDiv (m.deliverySize + 64) 262144

/-- The manifest slot that a stream's settings name, when VALID. -/
def CheckDie.boundManifest (d : CheckDie) (cfg : OdStore) (n : Nat) : Option (Nat × Manifest) :=
  let m := cfg.n Od.MANIFEST_SLOT n
  if m < 32 then ((d.manifest m).ok).map (fun x => (m, x)) else none

/-- `k` elements of a list drawn without replacement. -/
def CheckDie.drawSet (d : CheckDie) : Nat → List Nat → List Nat × CheckDie
  | 0, _ => ([], d)
  | k + 1, l =>
    if l = [] then ([], d)
    else
      let a := d.drawBelow l.length
      let b := CheckDie.drawSet a.2 k (l.eraseIdx a.1)
      ((l.getD a.1 0) :: b.1, b.2)

/-- An audit by its number. -/
def CheckDie.audit? (d : CheckDie) (id : Nat) : Option Audit := d.audit.open_.find? (fun a => a.id == id)
/-- An audit updated. -/
def CheckDie.updAudit (d : CheckDie) (id : Nat) (f : Audit → Audit) : CheckDie :=
  { d with audit := { d.audit with open_ := d.audit.open_.map (fun a => if a.id = id then f a else a) } }

/-- A landing window may be given to an audit: in no open run, and free for 1 ms (R153). -/
def CheckDie.windowFree (d : CheckDie) (w : Nat) : Bool :=
  d.audit.open_.all (fun a => !(decide (a.window ≤ w ∧ w < a.window + a.count)))
    && (match d.audit.freed.find? (fun f => f.1 == w) with
        | some f => decide (f.2 + 999999 ≤ d.now)
        | none => true)

/-- The lowest-numbered run of `n` free consecutive windows among 4,096 (R153). -/
def CheckDie.findRun (d : CheckDie) (n : Nat) : Option Nat :=
  (List.range (4097 - n)).find? (fun w => (List.range n).all (fun i => d.windowFree (w + i)))

/-- A posted PCIe write of the GV720's own. -/
def CheckDie.hostPut (d : CheckDie) (addr : Nat) (b : Octets) : CheckDie := d.put (.hostWrite addr b)

/-- Audit requests leave as their injectors present them (R456). -/
def CheckDie.presentRequest (d : CheckDie) (xs : List PointItem) : CheckDie :=
  xs.foldl (fun d x => d.hostPut (x.aux.getD 0 0) x.octets) d

/-- An audit request of a context is written, through the injectors of its point (R456, kind 6). -/
def CheckDie.putRequest (d : CheckDie) (ctx addr : Nat) (b : Octets) : CheckDie :=
  let a := d.atPoint { kind := 6, inst := ctx, cls := 0, octets := b, aux := [addr] }
  a.1.presentRequest a.2

/-- The 64-byte audit request (R152). -/
def Audit.request (a : Audit) : Octets :=
  let b := le 2 64 ++ le 1 0x21 ++ [0] ++ le 4 a.id ++ le 4 a.counter ++ le 1 a.stream ++ [0] ++ le 2 a.ctx ++ le 4 a.model
    ++ le 2 a.window ++ le 2 a.count ++ le 8 a.deliverBy ++ padTo 16 a.commit ++ le 4 a.mailSeq ++ le 8 0
  b ++ le 4 (crc32c b)

/-- One cause of SKIP_CAUSES counted (R168). -/
def CheckDie.countSkip (d : CheckDie) (c : SkipCause) : CheckDie :=
  { d with audit := { d.audit with skips := d.audit.skips.set c.code ((d.audit.skips.getD c.code 0) + 1) } }

/-- The frame was selected and cannot be audited: AUDIT_SKIPPED follows with its provisional verdict (R146, R165). -/
def CheckDie.skipAtVerdict (d : CheckDie) (id : Nat) (c : SkipCause) : CheckDie :=
  (d.updEntry id (fun e => { e with audit := .selected 0, pendingFinal := some (vAUDIT_SKIPPED, 0) })).countSkip c

/-- Output channels of a segment: the outermost dimension of its output tap (R136). -/
def Tap.channels (t : Tap) : Nat := t.dims.headD 1
/-- Output positions per channel. -/
def Tap.positions (t : Tap) : Nat := (t.dims.drop 1).foldl (fun a b => a * b) 1

/-- The output channels drawn for an epoch from the manifest of slot `m`, per AUDITED segment (R149). -/
def CheckDie.drawManifest (d : CheckDie) (m : Nat) (man : Manifest) : CheckDie × List (Nat × Nat × List Nat) :=
  (man.segments.zip ((man.taps.drop 1).zip (List.range man.segments.length))).foldl (fun acc x =>
    if x.1.audited then
      let n := min (acc.1.get Od.SAMPLE_CHANNELS) x.2.1.channels
      let a := acc.1.drawSet n (List.range x.2.1.channels)
      (a.2, acc.2 ++ [(m, x.2.2 + 1, a.1)])
    else acc) (d, [])

/-- The output channels drawn for an epoch from every bound manifest (R149). -/
def CheckDie.drawChannels (d : CheckDie) : CheckDie × List (Nat × Nat × List Nat) :=
  let slots := ((allStreams.map (fun n => d.get Od.MANIFEST_SLOT n)).filter (fun m => m < 32)).dedup
  slots.foldl (fun acc m =>
    match (acc.1.manifest m).ok with
    | none => acc
    | some man => let a := acc.1.drawManifest m man; (a.1, acc.2 ++ a.2)) (d, [])

/-- The record of an epoch. -/
def CheckDie.epochRec (d : CheckDie) (n : Nat) : Option AuditEpoch := d.audit.epochs.find? (fun x => x.number == n)

/-- A frame of an earlier configuration may be audited by a manifest that no stream binds any more: its channels are drawn for the
epoch with the first such frame (R149, R200). -/
def CheckDie.ensureChannels (d : CheckDie) (n m : Nat) (man : Manifest) : CheckDie :=
  if ((d.epochRec n).map (fun x => x.channels.any (fun c => c.1 == m))).getD true then d
  else
    let a := d.drawManifest m man
    { a.1 with audit := { a.1.audit with
        epochs := a.1.audit.epochs.map (fun (x : AuditEpoch) => if x.number = n then { x with channels := x.channels ++ a.2 } else x) } }

/-- The RESULT of a frame that is selected for audit carries AUDIT_PENDING when it starts (R211): its queued body, and the one in
progress should it be sent again, say so. -/
def EgItem.pendAudit (entry : Nat) (x : EgItem) : EgItem :=
  if x.kind = .result ∧ x.entry = entry then { x with body := x.body.set 2 (x.body.getD 2 0 ||| 2) } else x

/-- Every RESULT record of a frame, queued or in progress, marked as pending an audit (R211). -/
def CheckDie.pendAudit (d : CheckDie) (entry : Nat) : CheckDie :=
  d.forEach (List.range 4) (fun d l => d.updLane l (fun x =>
    { x with queue := x.queue.map (EgItem.pendAudit entry)
             sending := x.sending.map (fun s => { s with item := s.item.pendAudit entry }) }))

/-- The frame of an entry is selected for audit (R145-R147, R152): its resources are taken and its request written; a
frame without a manifest, with another model's record, or selected already, is left. -/
def CheckDie.selectAudit (d : CheckDie) (id : Nat) : CheckDie :=
  match d.entry? id with
  | none => d
  | some e =>
    let cfg := d.cfgAt e.epoch
    match e.result, d.boundManifest cfg e.stream with
    | some r, some (slot, m) =>
      if e.audit ≠ .none ∨ r.model ≠ m.modelId then d
      else if d.audit.weights.get 0 slot ≠ 2 then d.skipAtVerdict id .weights
      else
        -- the audit epoch in which its record landed (R148)
        let epoch := r.auditEpoch
        let entries := d.get Od.MAILBOX_ENTRIES r.ctx
        let seq := d.audit.mailSeq.get 0 r.ctx
        let slotFree := entries != 0 && d.audit.open_.all (fun a => !(a.ctx == r.ctx && a.mailEntry == seq % entries))
        match d.findRun m.landingCount with
        | some w =>
          if 4096 ≤ d.audit.open_.length ∨ !slotFree then d.skipAtVerdict id .resources
          else
            let wait := (((d.epochRec epoch).map AuditEpoch.tapDelivery).getD (cfg.n Od.TAP_DELIVERY_MS)) * 1000000
            let a : Audit :=
              { id := d.audit.nextId, entry := id, stream := e.stream, counter := e.counter, ctx := r.ctx, model := m.modelId,
                manifest := slot, epoch := epoch, mailSeq := seq, mailEntry := seq % entries,
                requester := d.get Od.REQUESTER_ID r.ctx, window := w, count := m.landingCount,
                deliverBy := d.gts + wait, landed := r.landed,
                samples := e.samples * (if e.format.testBit 4 then 2 else 1), gts := e.gts.getD 0, commit := r.commit }
            let d1 := { d with audit := { d.audit with
              open_ := d.audit.open_ ++ [a], nextId := (a.id + 1) % 2 ^ 32,
              mailSeq := d.audit.mailSeq.set 0 r.ctx ((seq + 1) % 2 ^ 32) } }
            (((d1.ensureChannels epoch slot m).pendAudit id).updEntry id (fun e => { e with audit := .selected a.id, tested := e.tested || d.armedAt 6 r.ctx })).putRequest r.ctx
              (d.get Od.MAILBOX_BASE r.ctx + a.mailEntry * 64)
              a.request
        | none => d.skipAtVerdict id .resources
    | _, _ => d

/-- The draw at a record's landing, or a forced audit that escalation asks for (R24, R145, R195). -/
def CheckDie.drawAudit (d : CheckDie) (id : Nat) : CheckDie :=
  match d.entry? id with
  | none => d
  | some e =>
    let a := d.drawBelow 65536
    let forced := !e.lantern && decide (0 < (a.2.escOf e.stream).forced)
    let d1 := if forced then a.2.updEsc e.stream (fun x => { x with forced := x.forced - 1 }) else a.2
    if forced ∨ a.1 < (d.cfgAt e.epoch).n Od.AUDIT_FRACTION e.stream then d1.selectAudit id else d1

/-- An audit's resources are freed (R146, R153); a cluster that its pass held begins its idle time (R429). -/
def CheckDie.freeAudit (d : CheckDie) (a : Audit) : CheckDie :=
  let d1 := { d with audit := { d.audit with
      open_ := d.audit.open_.filter (fun x => x.id != a.id),
      freed := (List.range a.count).foldl (fun f i => f.set 0 (a.window + i) (d.now + 1)) d.audit.freed } }
  match a.cluster with
  | some c => if c < 16 then d1.updCluster c (fun x => { x with lastWork := d.now }) else d1
  | none => d1

/-- The audit of an entry. -/
def CheckDie.auditOf (d : CheckDie) (entry : Nat) : Option Audit := d.audit.open_.find? (fun a => a.entry == entry)

/-- The output positions of one axis: `n` inputs padded by `p` on both sides, kernel `k`, stride `s`, dilation `e`; none where
the kernel does not fit. -/
def convOut (n p k s e : Nat) : Option Nat := if n + 2 * p < e * (k - 1) + 1 ∨ s = 0 then none else some ((n + 2 * p - e * (k - 1) - 1) / s + 1)

/-- A MAC layer's output shape over an input tap (R136): (C, H, W) of CONV2D, (C, L) of CONV1D, (C) of DENSE, which reads its
input in serialisation order; none where the input does not fit. -/
def Layer.outDims (l : Layer) (input : Tap) : Option (List Nat) :=
  match l, input.dims with
  | .conv1d _ k s e p g ic oc, [c, n] =>
    if c = ic ∧ g ≠ 0 ∧ ic % g = 0 ∧ oc % g = 0 then (convOut n p k s e).map (fun m => [oc, m]) else none
  | .conv2d _ kh kw sh sw eh ew ph pw g ic oc, [c, h, w] =>
    if c = ic ∧ g ≠ 0 ∧ ic % g = 0 ∧ oc % g = 0 then
      match convOut h ph kh sh eh, convOut w pw kw sw ew with
      | some y, some x => some [oc, y, x]
      | _, _ => none
    else none
  | .dense _ ins outs, _ => if input.elements = ins then some [outs] else none
  | _, _ => none

/-- The shape that a segment's layer produces is that of its output tap (R137, code 4). An OPAQUE segment without a MAC layer
produces whatever its tap is. -/
def Segment.shapeOk (s : Segment) (input output : Tap) : Bool :=
  if s.mac.isMac then s.mac.outDims input == some output.dims else !s.audited

/-- Format codes of R74. -/
def formatOk (c : Nat) : Bool := decide (1 ≤ c ∧ c ≤ 11)

/-- The post operations hold a value for every output channel, and a table keeps R111. -/
def Segment.channelsOk (s : Segment) (channels : Nat) : Bool :=
  (match s.scaleBias with | some l => l.length == channels | none => true)
    && (match s.requant with | some (l, _) => l.length == channels | none => true)
    && (match s.act with | some t => t.ok | none => true)

/-- Code 1 of R137 beyond the header: the ranges of R136. -/
def Manifest.rangesOk (m : Manifest) : Bool :=
  decide (m.modelId ≠ 0 ∧ 2 ≤ m.taps.length ∧ m.taps.length ≤ 16 ∧ m.segments.length + 1 = m.taps.length
    ∧ 1 ≤ m.topK ∧ m.topK ≤ 8 ∧ 128 ≤ m.resultBytes ∧ m.resultBytes ≤ 1024 ∧ m.resultBytes % 64 = 0 ∧ m.blobs.length ≤ 64)
    && m.taps.all (fun t => formatOk t.format && decide (1 ≤ t.dims.length ∧ t.dims.length ≤ 4)
        && t.dims.all (fun n => decide (1 ≤ n ∧ n ≤ 65536)))
    && (m.segments.zip (m.taps.drop 1)).all (fun x => decide (x.1.kAct ≤ 255)
        && (!x.1.mac.isMac || (x.1.mac.ok && formatOk x.1.weightFormat)) && x.1.channelsOk x.2.channels)
    && (match m.anomaly with
        | some c => decide (c < (m.taps.getLast?.map Tap.elements).getD 0)
        | none => true)

/-- Code 4 of R137. -/
def Manifest.tapsOk (m : Manifest) : Bool :=
  (m.segments.zip (m.taps.zip (m.taps.drop 1))).all (fun x => x.1.shapeOk x.2.1 x.2.2)
    && m.taps.all (fun t => !t.mx || (t.dims.getLast?.getD 0) % 32 == 0)
    && (match m.taps.getLast? with | some t => decide (t.dims.length = 1 ∧ t.elements ≤ 1024) | none => false)

/-- A segment computes in integers: both its input and its weights are integers. -/
def Segment.integer (s : Segment) (input : Tap) : Bool := isIntFormat input.format && isIntFormat s.weightFormat

/-- Code 5 of R137 for one segment, AUDITED or OPAQUE; an integer input with FP16, BF16 or FP32 weights is the mixing R150
allows. -/
def Segment.ok (s : Segment) (i : Nat) (taps : List Tap) : Bool :=
  match taps[i]?, taps[i + 1]? with
  | some input, some output =>
    decide (s.mac.k ≤ 65536)
      && (match s.addTap with
          | some t => decide (t ≤ i) && (taps[t]?.map Tap.dims == some output.dims)
          | none => true)
      && (!s.mac.isMac ||
        ((s.integer input || !(match s.act with | some (.direct _) => true | _ => false))
          && (!s.integer input || s.requant.isSome)
          && (isIntFormat input.format == isIntFormat s.weightFormat
              || (isIntFormat input.format && decide (9 ≤ s.weightFormat ∧ s.weightFormat ≤ 11)))))
  | _, _ => false

/-- The load checks of R137 in order; 0 when they pass. Code 8 is the blobs' outcome. -/
def Manifest.fault (m : Manifest) (expected : Octets) : Nat :=
  let h := m.hd.fault expected
  if h = 1 ∨ !m.rangesOk then 1
  else if h ≠ 0 then h
  else if !m.tapsOk then 4
  else if !((m.segments.zip (List.range m.segments.length)).all (fun x => x.1.ok x.2 m.taps)) then 5
  else if (m.segments.zip m.taps).any (fun x =>
      x.1.mac.isMac && !x.1.integer x.2 && roundingRefused x.1.acc x.1.reduction x.1.mac.k) then 6
  else if 1048576 < m.deliverySize + 64 then 7
  else 0

end Sys2Proof.Machine
end

