-- ==== Sys2Proof/Machine/Lanterns.lean ====
section
/-! DEFINITION. The back-channel (R51-R56), stream states as they are entered (R59, R68), and the secret lantern schedule
(R169-R176). -/

namespace Sys2Proof.Machine

/-- A back-channel message of stream `n` (R51). -/
def CheckDie.backMessage (d : CheckDie) (n kind : Nat) (body : Octets) : CheckDie :=
  let s := d.stream n
  let b := le 1 kind ++ le 1 n ++ le 2 body.length ++ le 4 s.msgSeq ++ body
  (d.updStream n (fun s => { s with msgSeq := (s.msgSeq + 1) % 2 ^ 32 })).put (.backChannel n (b ++ le 4 (crc32c b) ++ le 4 0))

/-- A CREDIT message (R51, R52). -/
def CheckDie.sendCredit (d : CheckDie) (n : Nat) : CheckDie :=
  let s := d.stream n
  (d.updStream n (fun s => { s with creditAt := d.now })).backMessage n 1 (le 4 s.creditTotal ++ le 1 s.creditGen ++ le 3 0)

/-- Pages of a frame go back to the source (R52); a FAULTED stream's credits are not returned (R68). -/
def CheckDie.returnPages (d : CheckDie) (n pages : Nat) : CheckDie :=
  let s := d.stream n
  let d1 := d.updStream n (fun s =>
    { s with held := s.held - pages,
             creditTotal := if s.state = .faulted then s.creditTotal else s.creditTotal + pages })
  if pages = 0 ∨ s.state = .faulted ∨ s.state = .idle then d1 else d1.sendCredit n

/-- RESYNC_REQ (R51, R56). -/
def CheckDie.resyncReq (d : CheckDie) (n cause : Nat) : CheckDie :=
  (d.updStream n (fun s =>
    { s with resyncReq := some d.now, resyncCause := cause, resyncFirst := if s.resyncReq.isSome then s.resyncFirst else d.now })).backMessage
    n 5 (le 1 cause ++ le 7 0)

/-- The chunks of one lantern's payload (R54). -/
def CheckDie.loadLantern (d : CheckDie) (n : Nat) (l : Lantern) : CheckDie :=
  let chunks := ceilDiv l.payload.length 1016
  d.forEach (List.range chunks) (fun d k =>
    d.backMessage n 3 (le 2 l.id ++ le 2 k ++ le 2 chunks ++ le 2 0 ++ (l.payload.drop (k * 1016)).take 1016))

/-- Every lantern of a stream's VALID set is loaded to the source, unless the stream is IDLE or FAULTED (R170). -/
def CheckDie.loadSet (d : CheckDie) (n : Nat) : CheckDie :=
  let s := (d.stream n).state
  if s = .idle ∨ s = .faulted then d
  else match ((d.lant n).set).ok with
    | some x => d.forEach x.lanterns (fun d l => d.loadLantern n l)
    | none => d

/-- The stream's STREAM_STATE flit (R245). -/
def CheckDie.reportStream (d : CheckDie) (n : Nat) : CheckDie :=
  let s := d.stream n
  d.sendFlit (flitStream n s.state.code (d.escOf n).flag (d.lant n).starved s.syncGen)

/-- A gap of the schedule: uniform from ceil(L/2) to floor(3L/2) (R172). -/
def CheckDie.drawGap (d : CheckDie) (n : Nat) : Nat × CheckDie :=
  let l := d.get Od.LANTERN_PERIOD n
  let lo := ceilDiv l 2
  let a := d.drawBelow (3 * l / 2 - lo + 1)
  (lo + a.1, a.2)

/-- An outstanding call is cancelled; its lantern waits to be placed again (R176). -/
def CheckDie.cancelCall (d : CheckDie) (n : Nat) : CheckDie :=
  match (d.lant n).outstanding with
  | none => d
  | some c => d.updLant n (fun l =>
      if c.escalation then { l with outstanding := none, escWaiting := true }
      else { l with outstanding := none, waiting := true, cancelled := true })

/-- The stream enters RUN: a lantern that waits keeps its claim, another is drawn afresh with its gap counted from this
frame (R172, R176). -/
def CheckDie.scheduleRun (d : CheckDie) (n : Nat) : CheckDie :=
  let l := d.lant n
  if d.get Od.LANTERN_PERIOD n = 0 ∨ l.waiting ∨ l.escWaiting ∨ l.due.isSome ∨ l.outstanding.isSome then d
  else
    let a := d.drawGap n
    a.2.updLant n (fun l => { l with due := some (a.1 - 3) })

/-- The stream moves to a state (R68): what entering and leaving brings (R52, R54, R56, R59, R176), and the report to the
safety die. `carries` says that the frame causing the entry carries RESYNC.
DESIGN CHOICE (log entry 80): entry into HUNT drops the alive baseline, so the first item in HUNT sets a new one. -/
def CheckDie.enterState (d : CheckDie) (n : Nat) (st : StreamState) (carries : Bool := false) (cause : Nat := 1) :
    CheckDie :=
  let old := (d.stream n).state
  if old = st then d
  else
    let running (x : StreamState) : Bool := x == .run || x == .degraded
    let waits (x : StreamState) : Bool := x == .hunt || x == .stalled || x == .resync
    let d1 := d.updStream n (fun s =>
      { s with state := st,
               resyncReq := if waits st then s.resyncReq else none,
               resyncSince := if st = .resync then d.now else s.resyncSince,
               recent := if st = .idle then [] else s.recent,
               goodRun := if st = .degraded then 0 else s.goodRun,
               syncGen := if st = .sync ∨ st = .resync then (s.syncGen + 1) % 256 else s.syncGen })
    let d2 := if running old && !running st then d1.cancelCall n else d1
    let d3 := if st = .sync ∨ st = .resync then d2.updLant n (fun l => { l with due := none }) else d2
    let d4 := if st = .run then d3.scheduleRun n else d3
    let d5 :=
      if st = .hunt then
        let x := d4.updStream n (fun s =>
          { s with creditGen := (s.creditGen + 1) % 256, creditTotal := 256 - s.held, sent := 0, alive := none,
                   accepted := none, paused := false })
        ((x.sendCredit n).resyncReq n cause).loadSet n
      else if st = .stalled then d4.resyncReq n 3
      else if st = .resync ∧ !carries ∧ old ≠ .stalled then d4.resyncReq n 2
      else if st = .resync ∧ !carries then d4.resyncReq n 3
      else d4
    d5.reportStream n

/-- A lantern of the stream's set in force drawn uniformly (R172). -/
def CheckDie.drawLantern (d : CheckDie) (n : Nat) : Option (Lantern × CheckDie) :=
  match ((d.lant n).set).ok with
  | none => none
  | some x =>
    let a := d.drawBelow x.lanterns.length
    (x.lanterns[a.1]?).map (fun l => (l, a.2))

/-- Pages a payload of `len` bytes takes (R52). -/
def pagesOf (len : Nat) : Nat := ceilDiv (len + 80) 1024

/-- A cause of R174 holds for the drawn lantern; a shed stream gets no call either (R129). -/
def CheckDie.mustDefer (d : CheckDie) (n : Nat) (l : Lantern) : Bool :=
  let s := d.stream n
  !(s.state == .run || s.state == .degraded) || d.device != .run
    || (d.lant n).outstanding.isSome || (d.lant n).inFlight || s.realPause
    || decide (256 - s.held < 2 * pagesOf l.payload.length)
    || d.disp.fencedStreams.contains n || d.disp.movedStreams.contains n || d.disp.shed.contains n
    || d.disp.onFallback.contains n

/-- One slot's deferral counted (R174, R175); starvation begins above 32. -/
def CheckDie.deferral (d : CheckDie) (n : Nat) : CheckDie :=
  let s := (d.stream n).state
  if s = .run ∨ s = .degraded then
    let d1 := (d.updLant n (fun l => { l with deferrals := l.deferrals + 1 })).bump Od.LANTERN_DEFERRALS n
    if 32 < (d1.lant n).deferrals && !(d1.lant n).starved then
      ((d1.updLant n (fun l => { l with starved := true })).raise .lanternStarved (ctxStream n)).reportStream n
    else d1
  else d

/-- A LANTERN_CALL is sent for the lantern that follows, or replaces, the real frame `after` (R51, R172, R173). -/
def CheckDie.sendCall (d : CheckDie) (n after : Nat) (l : Lantern) (esc : Bool) : CheckDie :=
  let c := ((d.lant n).counter + 1) % 2 ^ 32
  let sub := d.get Od.LANTERN_MODE n == 1
  let d1 := d.updLant n (fun x =>
    { x with
      counter := c
      outstanding := some { lanternId := l.id, substitute := sub, after := after, counter := c, lantern := l,
                            escalation := esc }
      waiting := if esc then x.waiting else false
      cancelled := if esc then x.cancelled else false
      escWaiting := if esc then false else x.escWaiting })
  let d2 := d1.backMessage n 2 (le 2 l.id ++ le 1 (b01 sub) ++ [0] ++ le 4 after ++ le 4 c ++ le 4 0)
  if (d2.lant n).escWaiting ∨ d2.get Od.LANTERN_PERIOD n = 0 then d2.updLant n (fun x => { x with due := none })
  else let a := d2.drawGap n; a.2.updLant n (fun x => { x with due := some a.1 })

/-- A real slot of counter `c` has closed (R173, R174): the schedule advances; a lantern that is due is called or
deferred. -/
def CheckDie.lanternSlot (d : CheckDie) (n c : Nat) : CheckDie :=
  let s := (d.stream n).state
  let live := s == .run || s == .degraded
  let l0 := d.lant n
  let d1 := if live then
      match l0.due with
      | some 0 => d.updLant n (fun l => { l with due := none, waiting := true })
      | some (k + 1) =>
        if k = 0 then d.updLant n (fun l => { l with due := none, waiting := true })
        else d.updLant n (fun l => { l with due := some k })
      | none =>
        if l0.waiting || l0.escWaiting || l0.inFlight || l0.outstanding.isSome || d.get Od.LANTERN_PERIOD n == 0 then d
        else let a := d.drawGap n; a.2.updLant n (fun l => { l with due := some a.1 })
    else d
  let l := d1.lant n
  if (l.waiting || l.escWaiting) && d1.get Od.LANTERN_PERIOD n != 0 then
    match d1.drawLantern n with
    | none => d1
    | some (x, d2) =>
      if d2.mustDefer n x then d2.deferral n
      else d2.sendCall n ((c + 3) % 2 ^ 32) x (!l.waiting)
  else d1

/-- Some bit of a payload after the first `bits` is set. -/
def padDirty (bits : Nat) (payload : Octets) : Bool :=
  match payload.drop (bits / 8) with
  | [] => false
  | b :: rest => b / 2 ^ (bits % 8) != 0 || rest.any (fun x => x != 0)

/-- A lantern's payload is as a frame's (R43, R45, R169): its samples fill it up to the last 64 bytes, and the rest is zero. -/
def Lantern.payloadOk (l : Lantern) : Bool :=
  let bits := l.samples * formatBits (l.format % 16) * (if l.format.testBit 4 then 2 else 1)
  decide (ceilDiv bits 8 ≤ l.payload.length ∧ l.payload.length < ceilDiv bits 8 + 64) && !padDirty bits l.payload

/-- The load checks of a lantern set (R169, R170); 0 when they pass. -/
def LanternSet.fault (x : LanternSet) (expected : Octets) : Nat :=
  let h := x.hd.fault expected
  if h ≠ 0 then h
  else if decide (1 ≤ x.lanterns.length ∧ x.lanterns.length ≤ 16) && decide ((x.lanterns.map Lantern.id).Nodup)
    && x.lanterns.all (fun l =>
      decide (1 ≤ l.id ∧ l.id ≤ 0xFFFF ∧ 64 ≤ l.payload.length ∧ l.payload.length ≤ 16384 ∧ l.payload.length % 64 = 0
        ∧ 1 ≤ l.accClasses.length ∧ l.accClasses.length ≤ 4)
      && validFormat l.format && l.payloadOk
      && l.sentScore.ok && l.sentAnomaly.ok && l.accScore.ok
      && (match l.accAnomaly with | some b => b.ok | none => true))
  then 0 else 4

end Sys2Proof.Machine
end

