-- ==== Sys2Proof/Machine/Opinions.lean ====
section
/-! DEFINITION. Comparison by the compatibility map (R184-R186), and second opinions as the requester (R191-R193, R389-R390). -/

namespace Sys2Proof.Machine

/-- |x - y| of two FP16 patterns exceeds a third; a value that is not finite exceeds every bound. -/
def fp16Apart (x y delta : Nat) : Bool :=
  match fp16 x, fp16 y, fp16 delta with
  | .fin a, .fin b, .fin c => decide (c < |a - b|)
  | _, _, _ => true

/-- Tests 1 to 3 of R186: the reasons that a judged frame's comparison sets. -/
def CompatMap.compare (m : CompatMap) (s : SentOut) (r : ResultRec) : Nat :=
  let e := m.entries[r.cls]?
  let classOk := decide (r.cls < m.accClasses) && (match e with
    | some x => x.mask.testBit s.cls
    | none => false)
  let scoreBad := match e with
    | some x => fp16Nan r.score || !fp16Le x.floor r.score || fp16Apart r.score s.score x.delta
    | none => true
  let anomalyOn := !fp16Nan m.thrAcc && !fp16Nan m.thrSent
  let anomalyBad := anomalyOn && ((fp16Nan r.anomaly || fp16Le m.thrAcc r.anomaly) != fp16Le m.thrSent s.anomaly)
  (if !classOk then rCLASS_MISMATCH else if scoreBad then rSCORE_BAND else 0)
    ||| (if anomalyBad then rANOMALY_MISMATCH else 0)

/-- Reasons that make a frame a disagreement (R186). -/
def disagreeMask : Nat := rCLASS_MISMATCH ||| rSCORE_BAND ||| rANOMALY_MISMATCH

/-- FP16 in [0, 1]. -/
def fp16Unit (b : Nat) : Bool := match fp16 b with | .fin q => decide (0 ≤ q ∧ q ≤ 1) | _ => false

/-- The load checks of a map (R185); 0 when they pass. -/
def CompatMap.fault (m : CompatMap) (expected : Octets) : Nat :=
  let h := m.hd.fault expected
  if h ≠ 0 then h
  else if decide (1 ≤ m.accClasses ∧ m.accClasses ≤ 1024 ∧ 1 ≤ m.sentClasses ∧ m.sentClasses ≤ 1024
      ∧ m.entries.length = m.accClasses)
    && (fp16Finite m.thrAcc || fp16Nan m.thrAcc) && (fp16Finite m.thrSent || fp16Nan m.thrSent)
    && m.entries.all (fun e => decide (e.mask < 2 ^ m.sentClasses) && fp16Unit e.delta && fp16Unit e.floor)
  then 0 else 4

/-- Q for a fabric of N reachable nodes (R191, R389). -/
def opinionQ (n : Nat) : Nat := if n ≤ 8 then 1 else if n ≤ 64 then 2 else 3

/-- The peers that may be asked for a package (R389). -/
def CheckDie.eligiblePeers (d : CheckDie) (pkg : Nat) : List Nat :=
  (d.fab.db.filter (fun l =>
    l.node != d.fab.node && l.deviceState == DevState.run.code && l.packages.contains pkg
      && (match d.fab.route l.node with
          | some (_, hops) => decide (hops ≤ d.get Od.SO_MAX_HOPS)
          | none => false))).map Lsa.node

/-- One message of a request (R390). -/
def opinionChunk (id chunk chunks len pkg format budget gts : Nat) (payload : Octets) : Octets :=
  le 4 id ++ le 1 chunk ++ le 1 chunks ++ le 2 len ++ le 4 pkg ++ le 1 format ++ le 3 0 ++ le 4 budget ++ le 8 gts ++ le 4 0
    ++ (payload.drop (chunk * 4064)).take 4064

/-- The request of an opinion sent to one peer (R390). -/
def CheckDie.sendOpinion (d : CheckDie) (o : Opinion) (peer : Nat) : CheckDie :=
  let chunks := ceilDiv o.payload.length 4064
  let budget := o.ms * 1000 - (d.now - o.asked) / 1000
  (d.forEach (List.range chunks) (fun d k =>
    d.fabOp peer opPut 1 o.id (opinionChunk o.id k chunks o.payload.length o.package o.format budget o.frameGts o.payload)
      0 7 o.id)).bump Od.SO_SENT

/-- A second opinion is asked on a disagreement (R191, items 2 and 3; R389), by the settings of the frame's epoch (R200): when the
fabric holds at least Q other nodes. -/
def CheckDie.askOpinion (d : CheckDie) (e : Entry) (r : ResultRec) (m : CompatMap) : CheckDie :=
  let cfg := d.cfgAt e.epoch
  let q := opinionQ d.fab.size
  match e.pkg >>= fun s => (d.package s).image with
  | none => d
  | some p =>
    if !cfg.on Od.SECOND_OPINION_ENABLE || decide (d.fab.size < q + 1) then d
    else
      let a := d.drawSet q (d.eligiblePeers p.packageId)
      let o : Opinion :=
        { id := d.nextOpinion, entry := e.id, stream := e.stream, peers := a.1, asked := d.now, result := r, map := m,
          clusters := e.clusters, q := q, payload := e.payload, format := e.format, package := p.packageId,
          frameGts := e.gts.getD 0, syncGen := e.syncGen, counter := e.counter, epoch := e.epoch,
          ms := cfg.n Od.SECOND_OPINION_MS }
      let d1 := { a.2 with opinions := a.2.opinions ++ [o], nextOpinion := (d.nextOpinion + 1) % 2 ^ 32 }
      d1.forEach a.1 (fun d n => d.sendOpinion o n)

/-- One of the U32 counts of an OSTR register increased. -/
def CheckDie.bumpWord (d : CheckDie) (r : OdRow) (i word size : Nat) : CheckDie :=
  let b := padTo size (d.regs.get r i).b
  let v := le 4 (field b (word * 4) 4 + 1)
  { d with regs := d.regs.set r (.bytes (b.take (word * 4) ++ v ++ b.drop (word * 4 + 4))) i }

/-- The attribution of an opinion (R192, R193): 0 SENTINEL, 1 ACCELERATOR, 2 UNDECIDED. -/
def Opinion.outcome (o : Opinion) : Nat :=
  if o.votes.length < o.q then 2
  else if o.votes.all (fun v => v.2) then 0
  else if o.votes.all (fun v => !v.2) then 1
  else 2

/-- Key 60 of an attribution's signature (R329): each peer asked, with its vote. DESIGN CHOICE (log entry 81): a peer that gave no
vote stands alone in its array. -/
def Opinion.votesKey (o : Opinion) : Octets :=
  cborArray (o.peers.map (fun p => match o.votes.find? (fun v => v.1 == p) with
    | some v => cborArray [cborUint p, cborUint (b01 (!v.2))]
    | none => cborArray [cborUint p]))

/-- An attribution is made (R193): the escalation window, the clusters, the event, the count, and the signature, which names the
frame, the peers and their votes. -/
def CheckDie.attribute (d : CheckDie) (o : Opinion) : CheckDie :=
  let k := o.outcome
  let d1 := { d with opinions := d.opinions.filter (fun x => x.id != o.id) }
  let d2 := d1.bumpWord Od.ATTRIBUTIONS o.stream k 12
  let d3 := if k = 0 then
      (d2.updEsc o.stream (fun x => { x with window := x.window.map (fun w => if w.1 = o.entry then (w.1, false) else w) })).forEach
        o.clusters.dedup (fun d c => d.countAgainst c 0xFF)
    else d2
  let d4 := d3.raise (if k = 0 then .attributionSentinel else .attribution) (ctxStream o.stream) 0 k
  d4.sign { kind := 8, gts := d4.gts,
            keys := [(3, cborUint o.epoch), (4, cborUint o.stream), (5, cborUint o.syncGen), (6, cborUint o.counter),
                     (60, o.votesKey)] }

/-- An opinion with all its votes in is attributed at once (R192). -/
def CheckDie.attributeIfFull (d : CheckDie) (id : Nat) : CheckDie :=
  match d.opinions.find? (fun o => o.id == id) with
  | some o => if o.q ≤ o.votes.length then d.attribute o else d
  | none => d

/-- A peer's answer lands in window 2 (R192, R391): OUTPUT is a vote; another status asks a further eligible peer while at
least 1 ms of budget remains, up to Q further peers. -/
def CheckDie.opinionAnswer (d : CheckDie) (node : Nat) (b : Octets) : CheckDie :=
  match d.opinions.find? (fun o => o.id == field b 0 4 && o.peers.contains node && o.votes.all (fun v => v.1 != node)) with
  | none => d
  | some o =>
    let limit := o.asked + o.ms * 1000000
    if limit < d.now then d
    else if field b 4 1 = 0 then
      let out : SentOut := { cls := field b 6 2, score := field b 8 2, anomaly := field b 10 2 }
      let acc := (o.map.compare out o.result &&& disagreeMask) == 0
      ({ d with opinions := d.opinions.map (fun x =>
          if x.id = o.id then { x with votes := x.votes ++ [(node, acc)] } else x) } : CheckDie).attributeIfFull o.id
    else
      let more := (d.eligiblePeers o.package).filter (fun n => !o.peers.contains n)
      if o.further < o.q && decide (d.now + 1000000 ≤ limit) && more != [] then
        let a := d.drawSet 1 more
        let o1 := { o with peers := o.peers ++ a.1, further := o.further + 1 }
        ({ a.2 with opinions := a.2.opinions.map (fun x => if x.id = o.id then o1 else x) } : CheckDie).forEach a.1
          (fun d n => d.sendOpinion o1 n)
      else d

/-- SECOND_OPINION_MS after a request (R192, R193). -/
def CheckDie.opinionTimeout (d : CheckDie) (id : Nat) : CheckDie :=
  match d.opinions.find? (fun o => o.id == id) with
  | some o => if o.asked + o.ms * 1000000 ≤ d.now then d.attribute o else d
  | none => d

end Sys2Proof.Machine
end

