-- ==== Sys2Proof/Machine/Compose.lean ====
section
/-! DEFINITION. Verdict composition (R181-R200): real frames, lanterns, escalation, provisional and final verdicts, and the
closing of ledger entries. -/

namespace Sys2Proof.Machine

/-- The stream becomes escalated, or an escalation under way restarts its conditions (R195, R196), by the settings of the frame's
epoch (R200). -/
def CheckDie.escalate (d : CheckDie) (n : Nat) (cfg : OdStore) : CheckDie :=
  let fresh (x : EscSt) : EscSt := { x with clean := 0, lanternPassed := false, since := (d.lant n).counter }
  if (d.escOf n).flag then d.updEsc n fresh
  else
    let d1 := (d.updEsc n (fun x =>
      { fresh x with flag := true, forced := cfg.n Od.FORCED_AUDITS n })).bump Od.ESCALATIONS n
    let d2 := d1.raise .escalated (ctxStream n)
    let d3 := if cfg.n Od.STRICTNESS n = 1 then d2.raise .escalatedStrict (ctxStream n) else d2
    let d4 := if cfg.n Od.LANTERN_PERIOD n = 0 then d3
      else d3.updLant n (fun l =>
        { l with escWaiting := true, due := none, waiting := l.waiting && l.cancelled })
    d4.reportStream n

/-- The conditions of R196 hold, by the settings of the frame's epoch (R200): the stream returns to normal. -/
def CheckDie.returnCheck (d : CheckDie) (n : Nat) (cfg : OdStore) : CheckDie :=
  let x := d.escOf n
  if x.flag && decide (cfg.n Od.ESC_W n ≤ x.clean) && (cfg.n Od.LANTERN_PERIOD n == 0 || x.lanternPassed) then
    ((d.updEsc n (fun x => { x with flag := false })).raise .returnNormal (ctxStream n)).reportStream n
  else d

/-- A judged frame enters the escalation window at the issue of its provisional verdict (R194, R196). The largest window is kept,
so that a commit that widens ESC_W counts the frames it names (R201). -/
def CheckDie.judge (d : CheckDie) (n entry : Nat) (dis : Bool) (cfg : OdStore) : CheckDie :=
  let d1 := (d.updEsc n (fun x =>
    { x with window := ((entry, dis) :: x.window).take 4096,
             clean := if x.flag ∧ !dis then x.clean + 1 else x.clean })).bump Od.DISAGREEMENTS n (b01 dis)
  let count := (((d1.escOf n).window.take (cfg.n Od.ESC_W n)).filter (fun w => w.2)).length
  if (d1.escOf n).flag then (if dis then d1.escalate n cfg else d1)
  else if cfg.n Od.ESC_D n ≤ count then d1.escalate n cfg
  else d1

/-- The verdict record of an entry (R197). -/
def Entry.record (e : Entry) (code reasons : Nat) (final : Bool) : VRec :=
  { stream := e.stream, syncGen := e.syncGen, code := code, final := final, lantern := e.lantern,
    ctx := (e.result.map ResultRec.ctx).getD 0xFF, counter := e.counter, reasons := reasons, epoch := e.epoch,
    gts := e.gts.getD 0, accClass := (e.result.map ResultRec.cls).getD 0xFFFF,
    sentClass := (e.sentinel.map SentOut.cls).getD 0xFFFF }

/-- A lantern failure (R182): counted, its clusters when the sentinel failed, the signature, and the escalation. `v` is the
lantern's verdict, `sentinel` says that it set LANTERN_SENTINEL. -/
def CheckDie.lanternFailed (d : CheckDie) (v : VRec) (sentinel : Bool) (clusters : List Nat) : CheckDie :=
  let n := v.stream
  let d2 := d.bump Od.LANTERNS_FAILED n
  let d3 := if sentinel then
      (d2.forEach clusters.dedup (fun d c => d.countAgainst c 0xFF)).raise .lanternSentinel (ctxStream n)
    else d2
  (d3.sign { kind := 7, gts := d3.gts,
             keys := [(3, cborUint v.epoch), (4, cborUint n), (5, cborUint v.syncGen), (6, cborUint v.counter)] }).escalate n
    (d.cfgAt v.epoch)

/-- A lantern has reached its outcome (R175, R181, R182, R196): starvation ends; it has passed or failed.
DESIGN CHOICE (log entry 80): the stream's deferral count returns to 0 here, at every outcome. -/
def CheckDie.lanternOutcome (d : CheckDie) (v : VRec) (clusters : List Nat) : CheckDie :=
  let n := v.stream
  let wasStarved := (d.lant n).starved
  let d0 := d.updLant n (fun l => { l with inFlight := false, starved := false, deferrals := 0 })
  let d1 := if wasStarved then d0.reportStream n else d0
  if v.code = vBELIEVED then
    let d2 := d1.bump Od.LANTERNS_PASSED n
    if (d2.escOf n).flag && serialAfter v.counter (d2.escOf n).since then
      (d2.updEsc n (fun x => { x with lanternPassed := true })).returnCheck n (d.cfgAt v.epoch)
    else d2
  else d1.lanternFailed v (v.reasons.testBit 30) clusters

/-- A lantern whose outcome is NO_INPUT (R179): its record opens and closes its ledger entry at once. -/
def CheckDie.lanternMissing (d : CheckDie) (n : Nat) : CheckDie :=
  match (d.lant n).outstanding with
  | none => d
  | some c =>
    let v : VRec := { stream := n, syncGen := (d.stream n).syncGen, code := vNO_INPUT, final := true, lantern := true,
                      counter := c.counter, epoch := d.epoch,
                      reasons := (if d.marked n then rTEST_MODE else 0) ||| (if d.split then rINTEGRITY_REDUCED else 0) }
    (((d.updLant n (fun l => { l with outstanding := none })).issue v).bump Od.LANTERNS_MISSING n).lanternOutcome v []

/-- Items 1 to 4 of R181: the reasons and the code of a lantern's outcome. -/
def Entry.lanternCode (e : Entry) : Nat × Nat :=
  let bands := e.call.map Call.lantern
  let sent := match bands, e.sentinel with
    | some b, some s =>
      if s.cls = b.sentClass ∧ b.sentScore.holds s.score ∧ b.sentAnomaly.holds s.anomaly then 0 else rLANTERN_SENTINEL
    | _, _ => 0
  let acc := match bands, e.result with
    | some b, some r =>
      (if b.accClasses.contains r.cls then 0 else rCLASS_MISMATCH)
        ||| (if b.accScore.holds r.score then 0 else rSCORE_BAND)
        ||| (match b.accAnomaly with
              | some k => if k.holds r.anomaly then 0 else rANOMALY_MISMATCH
              | none => 0)
    | _, none => if e.expired then rLATE_RESULT else 0
    | none, _ => 0
  let r := e.reasons ||| sent ||| acc
  let code := if anyBit r alwaysNb then vNOT_BELIEVED
    else if e.result.isNone then vNO_RESULT
    else if anyBit r rAGE_EXCEEDED ∨ e.sentinel.isNone then vNOT_BELIEVED
    else vBELIEVED
  (code, r)

/-- A frame is in the way of no later release: its epoch is the one in force (R222) and it is not withheld. -/
def CheckDie.releasable (d : CheckDie) (e : Entry) : Bool :=
  !e.lantern && e.epoch == d.epoch && !e.safe && !anyBit e.reasons (rLANTERN_SLOT ||| rSAFE_STATE)

/-- The final verdict of an entry selected for audit (R188, R198): issued once, after the provisional one; a released
result that is AUDITED_FAIL is retracted (R218). The entry closes. -/
def CheckDie.finalVerdict (d : CheckDie) (id code reasons : Nat) : CheckDie :=
  match d.entry? id with
  | none => d
  | some e =>
    match e.verdict with
    | none => d.updEntry id (fun e => { e with pendingFinal := some (code, reasons), audit := .closed })
    | some (_, r0) =>
      let r := r0 ||| reasons ||| (if e.tested then rTEST_MODE else 0)
      let v := e.record code r true
      let d1 := if code = vAUDITED_OK then d.bump Od.AUDITED_OK_COUNT
        else if code = vAUDITED_FAIL then d.bump Od.AUDITED_FAIL_COUNT
        else d.bump Od.AUDIT_SKIPPED_COUNT
      let d2 := d1.issue v
      let d3 := if e.lantern then
          (if code = vAUDITED_FAIL then d2.lanternFailed v false e.clusters else d2)
        else
          (if code = vAUDITED_FAIL then d2.retract e 2 r code else d2).sendVerdict e v true
      d3.closeEntry id

/-- The provisional verdict of an entry is issued (R197, R198, R205, R206, R218) with its pages returned (R52); an entry not
selected for audit closes. -/
def CheckDie.issueProvisional (d : CheckDie) (e : Entry) (code reasons : Nat) : CheckDie :=
  let selected := e.audit ≠ .none
  let v := e.record code reasons (!selected)
  let d1 := (d.returnPages e.stream e.pages).updEntry e.id (fun e => { e with verdict := some (code, reasons), pages := 0 })
  let d2 := d1.issue v
  let d3 := if e.lantern then d2
    else
      let held := d2.get Od.RELEASE_MODE e.stream == 0
      let x := if code = vBELIEVED then (if held && d2.releasable e then d2.release e false else d2)
        else d2.retract e 1 reasons code
      x.sendVerdict e v (!selected)
  match (d3.entry? e.id).bind Entry.pendingFinal with
  | some (c, r) => d3.finalVerdict e.id c r
  | none =>
    if selected then d3
    else if e.expired ∧ e.result.isNone then
      { d3.closeEntry e.id with
        missed := d3.missed.filter (fun m => m != (e.stream, e.counter, e.lantern, e.gts.getD 0)) ++
          [(e.stream, e.counter, e.lantern, e.gts.getD 0)] }
    else d3.closeEntry e.id

/-- The reasons that mark a real frame or slot at its verdict: SAFE_STATE, LANTERN_STARVED, ESCALATED, and
INTEGRITY_REDUCED in SPLIT mode (R175, R187, R189, R195, R242). -/
def CheckDie.notes (d : CheckDie) (n : Nat) (safe frame : Bool) : Nat :=
  (if safe then rSAFE_STATE else 0)
    ||| (if frame ∧ (d.lant n).starved then rLANTERN_STARVED else 0)
    ||| (if (d.escOf n).flag then rESCALATED else 0)
    ||| (if d.split then rINTEGRITY_REDUCED else 0)

/-- The map in force for an entry. -/
def CheckDie.mapOf (d : CheckDie) (e : Entry) : Option CompatMap := e.map.bind (fun k => (d.mapSlot k).image)

/-- The record of an entry names another model than its stream's bound manifest (R140) or, of a real frame, than its map (R186). -/
def CheckDie.wrongModel (d : CheckDie) (e : Entry) : Bool :=
  match e.result with
  | none => false
  | some r =>
    (match d.boundManifest (d.cfgAt e.epoch) e.stream with
      | some (_, m) => r.model != m.modelId
      | none => false)
    || (!e.lantern && match d.mapOf e with
      | some m => m.modelId != 0 && r.model != m.modelId
      | none => false)

/-- A real frame's provisional verdict (R140, R186, R189, R191, R194). -/
def CheckDie.composeReal (d : CheckDie) (e : Entry) : CheckDie :=
  let cfg := d.cfgAt e.epoch
  let n := e.stream
  let r1 := e.reasons ||| (if e.result.isNone ∧ e.expired then rLATE_RESULT else 0)
    ||| (if d.wrongModel e then rMODEL_MISMATCH else 0)
  let judged := e.t0.isSome && !anyBit r1 (porterNb ||| rMODEL_MISMATCH ||| rNO_MAP)
  let step : CheckDie × Nat :=
    match e.sentinel, e.result, d.mapOf e with
    | some s, some r, some m =>
      if judged then
        let c := m.compare s r
        let dis := anyBit c disagreeMask
        let d1 := if dis && cfg.on Od.DISAGREE_AUDIT n then d.selectAudit e.id else d
        let d2 := if dis then d1.askOpinion e r m else d1
        (d2.judge n e.id dis cfg, r1 ||| c)
      else (d, r1)
    | _, _, _ => (d, r1)
  let d1 := step.1
  let r := step.2 ||| d1.notes n e.safe true
  let code := composeCode (nbMask cfg n) r false e.result.isSome
  let e1 := (d1.entry? e.id).getD e
  (d1.issueProvisional e1 code r).returnCheck n cfg

/-- A lantern's outcome (R140, R181-R183, R242). -/
def CheckDie.composeLantern (d : CheckDie) (e : Entry) : CheckDie :=
  let c := ({ e with reasons := e.reasons ||| (if d.wrongModel e then rMODEL_MISMATCH else 0)
    ||| (if d.split then rINTEGRITY_REDUCED else 0) } : Entry).lanternCode
  (d.issueProvisional e c.1 c.2).lanternOutcome (e.record c.1 c.2 true) e.clusters

/-- An entry waits for nothing more (R11): its t0 has passed, its run has ended or never was, and its record has arrived or
its deadline passed. -/
def Entry.ready (e : Entry) : Bool :=
  e.verdict.isNone && e.t0.isSome && (!e.runs || e.sentDone) && (e.result.isSome || e.expired)

/-- The provisional verdict of an entry by its kind. -/
def CheckDie.compose (d : CheckDie) (id : Nat) : CheckDie :=
  match d.entry? id with
  | none => d
  | some e => if e.verdict.isSome then d else if e.lantern then d.composeLantern e else d.composeReal e

/-- Every entry that waits for nothing more receives its verdict, the oldest first. -/
def CheckDie.composeReady (d : CheckDie) : CheckDie :=
  d.forEach ((d.ledger.filter Entry.ready).map Entry.id) CheckDie.compose

/-- Every entry that waits for nothing more receives its verdict (R11); a lantern among them may fence a cluster (R182), and the
frames that this abandons (R104) receive theirs too. -/
def CheckDie.composeDue (d : CheckDie) : CheckDie := d.composeReady.composeReady

/-- The result deadline of an entry has passed without a record (R189, R190); one that lands at the deadline is on time. -/
def CheckDie.resultDeadline (d : CheckDie) (id : Nat) : CheckDie :=
  match d.entry? id with
  | some e =>
    match e.t0 with
    | some t0 =>
      if t0 + (d.cfgAt e.epoch).n Od.RESULT_DEADLINE_US * 1000 < d.now && e.result.isNone
      then (d.updEntry id (fun e => { e with expired := true })).composeDue else d
    | none => d
  | none => d

/-- A result is released early (R206): it has arrived, the porter's checks are done, and no NB reason is known. -/
def CheckDie.earlyRelease (d : CheckDie) (id : Nat) : CheckDie :=
  match d.entry? id with
  | none => d
  | some e =>
    let cfg := d.cfgAt e.epoch
    let known := e.reasons ||| d.notes e.stream e.safe true ||| (if d.wrongModel e then rMODEL_MISMATCH else 0)
    if e.t0.isSome && e.result.isSome && e.verdict.isNone && cfg.n Od.RELEASE_MODE e.stream == 1 && d.releasable e
      && !anyBit known (nbMask cfg e.stream)
    then d.release e true else d

/-- A slot closed without a frame (R64, R189): its entry opens and closes at once; SAFE_HOLD and SERVICE make it
WITHHELD. -/
def CheckDie.slotVerdict (d : CheckDie) (n counter extra : Nat) (noFrame : Bool) : CheckDie :=
  let safe := d.device == .safeHold || d.device == .service
  let r := extra ||| d.notes n safe false ||| (if d.marked n then rTEST_MODE else 0)
  let code := if noFrame then composeCode (nbMask d.cfg n) r true false else vWITHHELD
  let e : Entry := { id := 0, stream := n, syncGen := (d.stream n).syncGen, counter := counter, epoch := d.epoch }
  (d.issue (e.record code r true)).sendVerdict e (e.record code r true) true

/-- The anomaly score of a HEAD (R113), 0 or more: one channel through an activation table, or the scaled sum of squared differences
of two tensors. A value that would fall below 0 is free (log entry 82). -/
def anomalyOf (tables : List ActTable) : AnomalyIn → Nat
  | .channel x table =>
    let v := match tables[table]? with
      | some t => t.eval (fp32 x)
      | none => fp32 x
    if v.neg then Config.anomalyBelow (encodeFormat 11 v) else encodeFormat 10 (toFormat 10 v)
  | .squares a b scale =>
    let d := (a.zip b).map (fun p => add32 0 (fp32 p.1) (match fp32 p.2 with | .fin q => .fin (-q) | .inf s => .inf !s | .nan => .nan))
    let v := mul32 (fp32 scale) (d.foldl (fun s x => add32 0 s (mul32 x x)) (.fin 0))
    if v.neg then Config.anomalyBelow (encodeFormat 11 v) else encodeFormat 10 (toFormat 10 v)

/-- What the HEAD delivers (R113): the top class of at most 1,024, the softmax probability of that class, the anomaly score. -/
def HeadIn.output (tables : List ActTable) (h : HeadIn) : SentOut :=
  let vals := (h.scores.take 1024).map fp32
  let top := argmax vals
  { cls := top, score := encodeFormat 10 (toFormat 10 (softmaxOf vals (vals.getD top .nan))), anomaly := anomalyOf tables h.anomaly }

/-- The heads of both copies of a run. -/
def Entry.heads (e : Entry) : Nat × Nat :=
  (((e.parts.find? (fun p => p.head && !p.second)).map Part.cluster).getD 0xFF,
   ((e.parts.find? (fun p => p.head && p.second)).map Part.cluster).getD 0xFF)

/-- A package epilogue completes (R21, R97, R98, R113, R125): the HEAD's values reach the composer, in FULL mode with the comparison
of the pair's elements on the first copy's head, without which the epilogue is not complete. -/
def CheckDie.sentinelReady (d : CheckDie) (id : Nat) (h : HeadIn) (heads : Nat × Nat) (elems : List PairElem) : CheckDie :=
  match d.entry? id with
  | none => d
  | some e =>
    if !e.runs || e.sentDone || (e.full && (elems == [] || heads != e.heads)) then d
    else
      let p := e.pkg.bind (fun s => (d.package s).image)
      let d1 := if e.full then d.pairCompare e heads ((p.map Package.outFormat).getD 11) elems else d
      (d1.updEntry id (fun e =>
        { e with sentinel := some (h.output ((p.map Package.tables).getD [])), sentDone := true })).composeDue

end Sys2Proof.Machine
end

