-- ==== Sys2Proof/Machine/AuditEngine.lean ====
section
/-! DEFINITION. The tap audit engine (R148-R168): epochs, landing zones, delivery checks, batch passes and closure. -/

namespace Sys2Proof.Machine

/-- An open audit closes: its resources are freed and its frame's final verdict is issued (R156-R164). -/
def CheckDie.closeAudit (d : CheckDie) (a : Audit) (code reasons : Nat) : CheckDie :=
  (d.freeAudit a).finalVerdict a.entry code reasons

/-- An open audit closes AUDIT_SKIPPED for a cause (R168). -/
def CheckDie.skipAudit (d : CheckDie) (a : Audit) (c : SkipCause) : CheckDie :=
  (d.countSkip c).closeAudit a vAUDIT_SKIPPED 0

/-- Every open audit closes AUDIT_SKIPPED before a sleep (R166). -/
def CheckDie.skipAllAudits (d : CheckDie) (c : SkipCause) : CheckDie :=
  d.forEach d.audit.open_ (fun d a => d.skipAudit a c)

/-- The oldest audit-pending entry makes room in a full ledger of 524,288 entries (R28). -/
def CheckDie.ledgerRoom (d : CheckDie) : CheckDie :=
  if d.ledger.length < 524288 then d
  else match d.ledger.find? (fun e => e.verdict.isSome) with
    | some e => match d.auditOf e.id with
      | some a => d.skipAudit a .ledger
      | none => (d.countSkip .ledger).finalVerdict e.id vAUDIT_SKIPPED 0
    | none => d

/-- Audit epochs start with the check die's entry into RUN (R148). -/
def CheckDie.startEpoch (d : CheckDie) (number : Nat) : CheckDie :=
  let a := d.drawChannels
  { a.1 with audit := { a.1.audit with
      running := true, epochNumber := number, epochStarted := d.now,
      epochs := a.1.audit.epochs ++ [{ number := number, started := d.now, tapDelivery := d.get Od.TAP_DELIVERY_MS,
                                       samplePositions := d.get Od.SAMPLE_POSITIONS, channels := a.2 }] } }

/-- The processing allowance, 5 ms (R164). -/
def allowanceNs : Nat := 5000000

/-- A batch pass starts (R162) over the frames of an epoch that have passed their checks and are in no pass yet: it runs on one
cluster, and its allowance ends at `until_`. -/
def CheckDie.startPass (d : CheckDie) (epoch until_ : Nat) : CheckDie :=
  let takes (a : Audit) : Bool := a.epoch == epoch && a.stage == AuditStage.checked && a.inPass.isNone
  if !d.audit.open_.any takes then d
  else
    let c := (d.passCluster []).getD 0xFF
    ({ d with audit := { d.audit with
        passes := d.audit.passes + 1
        open_ := d.audit.open_.map (fun (a : Audit) => if takes a then { a with inPass := some until_, cluster := some c } else a) } } :
      CheckDie).ungateCluster c

/-- The current audit epoch ends and the next begins (R148, R149); the batch pass takes every frame of the closed epoch whose
delivery has passed its checks (R162). -/
def CheckDie.endEpoch (d : CheckDie) : CheckDie :=
  let n := d.audit.epochNumber
  let d1 := { d with audit := { d.audit with
    epochs := d.audit.epochs.map (fun (x : AuditEpoch) => if x.number = n then { x with ended := some d.now } else x) } } |>.startPass n (d.now + allowanceNs)
  let d2 := { d1 with audit := { d1.audit with
    epochs := d1.audit.epochs.filter (fun x => x.number == n || x.ended.isNone
      || d1.audit.open_.any (fun a => a.epoch == x.number)
      || d1.ledger.any (fun e => (e.result.map ResultRec.auditEpoch) == some x.number)) } }
  d2.startEpoch ((n + 1) % 2 ^ 32)

/-- An audit epoch ends by its length (R148). -/
def CheckDie.epochEnd (d : CheckDie) : CheckDie :=
  if d.audit.running && decide (d.audit.epochStarted + d.get Od.AUDIT_EPOCH_US * 1000 ≤ d.now) then d.endEpoch else d

/-- The final pass of an ended epoch starts (R162): every frame has passed its checks, or the delivery time is over. -/
def CheckDie.finalPass (d : CheckDie) (n : Nat) : CheckDie :=
  match d.epochRec n with
  | none => d
  | some x =>
    match x.ended with
    | none => d
    | some stop =>
      let left := d.audit.open_.filter (fun a => a.epoch == n && a.stage != .checked)
      if x.finalStarted || (left != [] && decide (d.now < stop + x.tapDelivery * 1000000)) then d
      else
        { d with audit := { d.audit with
            epochs := d.audit.epochs.map (fun (y : AuditEpoch) => if y.number = n then { y with finalStarted := true } else y) } }
          |>.startPass n (stop + x.tapDelivery * 1000000 + allowanceNs)

/-- The element at index `i` of a tap's data as a lane reads it (R142), with the scale of its MX block (R75). -/
def Tap.operand (t : Tap) (data : Octets) (i : Nat) : Operand :=
  { word := packed t.format data i,
    scale := if t.mx then data.getD (ceilDiv (t.elements * formatBits t.format) 8 + i / 32) 0 else 127 }

/-- The value of an element of a tap, with its MX scale (R75, R142). -/
def Tap.value (t : Tap) (data : Octets) (i : Nat) : FpVal := (t.operand data i).value t.format

/-- The serialised bytes of tap `i` inside a delivery. -/
def Manifest.tapBytes (m : Manifest) (run : Memory) (i : Nat) : Octets :=
  run.read (((m.taps.take i).map Tap.serial).sum) (((m.taps[i]?).map Tap.serial).getD 0)

/-- The header that R141 gives tap `i`. -/
def Tap.header (t : Tap) (i : Nat) : Octets :=
  le 1 i ++ le 1 (t.format + 16 * b01 t.mx) ++ le 1 t.dims.length ++ [0]
    ++ ((List.range 4).flatMap (fun k => le 2 ((t.dims.getD k 1) - 1))) ++ le 4 t.dataBytes

/-- The commitment of R143 over a delivery. -/
def Manifest.commitment (m : Manifest) (a : Audit) : Octets :=
  let pre := [71, 86, 84, 65, 80, 48, 48, 49] ++ le 4 m.modelId ++ le 1 a.stream ++ le 1 m.taps.length ++ le 2 a.ctx
    ++ le 4 a.counter ++ le 8 a.gts ++ le 4 0
  Config.shake256 32 (pre ++ (List.range m.taps.length).flatMap (fun i => Config.shake256 32 (m.tapBytes a.run i)))

/-- x is at or above y − δ. -/
def FpVal.atLeast (x y : FpVal) (δ : Rat) : Bool :=
  match x, y with
  | .fin a, .fin b => decide (b - δ ≤ a)
  | .inf n, .inf m => !n || m
  | .inf n, .fin _ => !n
  | .fin _, .inf m => m
  | _, _ => false

/-- Spacing of a tap's format at a magnitude (R161): 1 in an integer format. -/
def tapUlp (fmt : Nat) (v : Rat) : Rat := if isIntFormat fmt then 1 else ulpOf fmt v

/-- The closure at the output (R161): the reported classes, scores and anomaly score against the last tap. -/
def Manifest.closure (m : Manifest) (a : Audit) (r : ResultRec) : Bool :=
  match m.taps.getLast? with
  | none => false
  | some t =>
    let data := (m.tapBytes a.run (m.taps.length - 1)).drop 16
    let n := t.elements
    let vals := (List.range n).map (fun i => t.value data i)
    let δ := 2 * tapUlp t.format (|(largest? vals).getD 0|)
    let cls := r.classes.take m.topK
    let val (c : Nat) : FpVal := vals.getD c .nan
    let unreported := (List.range n).filter (fun i => !cls.contains i)
    decide (cls.length = m.topK)
      && cls.all (fun c => decide (c < n) && unreported.all (fun u => (val c).atLeast (val u) δ))
      && (cls.zip (cls.drop 1)).all (fun p => (val p.1).atLeast (val p.2) δ)
      && (cls.zip r.scores).all (fun p => match softmaxOf vals (val p.1), fp16 p.2 with
            | .fin x, .fin y => decide (|x - y| ≤ pow2 (-9))
            | _, _ => false)
      && (match m.anomaly with
          | none => true
          | some ch => match val ch, fp16 r.anomaly with
            | .fin x, .fin y => decide (|x - y| ≤ ulpOf 10 (max |x| |y|))
            | .inf x, .inf y => x == y
            | .nan, .nan => true
            | _, _ => false)

/-- A tap header without its reserved bits, which a reader ignores (R4, R141). -/
def headerFields (b : Octets) : Octets := [b.getD 0 0, b.getD 1 0 % 32, b.getD 2 0] ++ (b.take 16).drop 4

/-- Steps 1 to 3 of R157: 0 when they pass, else the reason. -/
def Manifest.digestChecks (m : Manifest) (a : Audit) : Nat :=
  let c := a.run.read (a.count * 262144 - 64) 64
  if field c 3 1 ≠ 0 then rTAP_NOT_DELIVERED
  else if field c 16 4 ≠ m.deliverySize ∨ (c.drop 24).take 32 ≠ a.commit
      ∨ (m.taps.zip (List.range m.taps.length)).any (fun x =>
        headerFields ((m.tapBytes a.run x.2).take 16) != headerFields (x.1.header x.2))
    then rDIGEST_MISMATCH
  else if m.commitment a ≠ a.commit then rDIGEST_MISMATCH
  else 0

/-- Steps 4 and 5 of R157: 0 when they pass, else the reason. `payload` is the copy of R147. -/
def Manifest.closureChecks (m : Manifest) (a : Audit) (r : ResultRec) (payload : Octets) : Nat :=
  let t0 := m.taps.headD { format := 0, dims := [] }
  let data := ((m.tapBytes a.run 0).drop 16).take t0.dataBytes
  if t0.elements ≠ a.samples ∨ data ≠ payload.take t0.dataBytes then rTAP0_MISMATCH
  else if !m.closure a r then rOUTPUT_MISMATCH
  else 0

/-- The digest matches and DATA_CRC does not (R157): counted, with a WARN event. -/
def CheckDie.dataCrc (d : CheckDie) (m : Manifest) (a : Audit) : CheckDie :=
  if field (a.run.read (a.count * 262144 - 64) 64) 20 4 = crc32c (a.run.read 0 m.deliverySize) then d
  else ({ d with audit := { d.audit with badCrc := d.audit.badCrc + 1 } } : CheckDie).raise .deliveryCrc (ctxPartner a.ctx)

/-- Sample positions drawn for each sampled channel of a frame (R150). -/
def CheckDie.drawPositions (d : CheckDie) (m : Manifest) (slot samples : Nat) (chans : List (Nat × Nat × List Nat)) :
    List (Nat × Nat × List Nat) × CheckDie :=
  let mine := (chans.filter (fun x => x.1 == slot)).flatMap (fun x => x.2.2.map (fun c => (x.2.1, c)))
  mine.foldl (fun acc x =>
    let p := ((m.taps[x.1]?).map Tap.positions).getD 1
    let a := acc.2.drawSet (min samples p) (List.range p)
    (acc.1 ++ [(x.1, x.2, a.1)], a.2)) ([], d)

/-- The checks of a delivery are complete (R157): the first that fails closes the frame; else positions are drawn and the
frame waits for its pass, or is judged in a late pass (R162). -/
def CheckDie.deliveryChecks (d : CheckDie) (id : Nat) : CheckDie :=
  match d.audit? id with
  | none => d
  | some a =>
    match (d.manifest a.manifest).image, (d.entry? a.entry).bind Entry.result with
    | some m, some r =>
      if a.stage ≠ .arrived then d
      else
        let form := m.digestChecks a
        if form ≠ 0 then d.closeAudit a vAUDITED_FAIL form
        else
          let d1 := d.dataCrc m a
          let why := m.closureChecks a r (((d.entry? a.entry).map Entry.payload).getD [])
          if why ≠ 0 then d1.closeAudit a vAUDITED_FAIL why
          else
            let ep := d1.epochRec a.epoch
            let p := d1.drawPositions m a.manifest ((ep.map AuditEpoch.samplePositions).getD (d1.get Od.SAMPLE_POSITIONS))
              ((ep.map AuditEpoch.channels).getD [])
            let d2 := p.2.updAudit id (fun a => { a with stage := .checked, positions := p.1 })
            match ep with
            | some x => match x.finalStarted, x.ended with
              | true, some s => d2.startPass a.epoch (s + x.tapDelivery * 1000000 + allowanceNs)
              | _, _ => d2
            | none => d2
    | _, _ => d

/-- DELIVER_BY has passed without a valid completion record (R156); one that lands at DELIVER_BY is on time. -/
def CheckDie.deliverBy (d : CheckDie) (id : Nat) : CheckDie :=
  match d.audit? id with
  | some a =>
    if a.stage = .waiting ∧ a.deliverBy < d.gts
    then (d.bump Od.LATE_DELIVERIES).closeAudit a vAUDITED_FAIL rTAP_NOT_DELIVERED else d
  | none => d

/-- A stray write to the landing zones (R153, R154). -/
def CheckDie.strayLanding (d : CheckDie) (ctx : Nat) : CheckDie :=
  (d.bump Od.STRAY_LANDING_WRITES).raise .strayLanding ctx

/-- A valid completion record is examined: the delivery has arrived (R155, R156). -/
def CheckDie.deliveryArrives (d : CheckDie) (id : Nat) : CheckDie :=
  match d.audit? id with
  | some a => if a.stage = .waiting ∧ d.gts ≤ a.deliverBy then d.updAudit id (fun x => { x with stage := .arrived }) else d
  | none => d

/-- The completion area of a run is examined (R155): a record that counts as arrived is passed on to `next`; one that names another
audit is ignored and counted. -/
def CheckDie.completion (d : CheckDie) (a : Audit) (c : Octets) (next : CheckDie → CheckDie) : CheckDie :=
  if field c 0 2 ≠ 64 ∨ field c 60 4 ≠ crc32c (c.take 60) then d
  else if field c 4 4 ≠ a.id ∨ field c 8 4 ≠ a.counter ∨ field c 12 1 ≠ a.stream ∨ field c 14 2 ≠ a.ctx then
    ({ d with audit := { d.audit with foreign := d.audit.foreign + 1 } } : CheckDie).raise .foreignCompletion (ctxPartner a.ctx)
  else next d

/-- Deliveries arrive as their injectors present them (R456): the run's bytes with the completion record. -/
def CheckDie.presentDelivery (d : CheckDie) (xs : List PointItem) : CheckDie :=
  xs.foldl (fun d x =>
    let id := x.aux.getD 0 0
    match d.audit? id with
    | none => d
    | some a =>
      let size := a.count * 262144
      let c := x.octets.drop (size - 64)
      let d1 := if x.octets = a.run.read 0 size then d
        else d.updAudit id (fun a => { a with run := a.run.write 0 x.octets })
      d1.completion a c (fun d => d.deliveryArrives id)) d

/-- A landing run's completion record arrives, through the injectors of its point (R456, kind 5). -/
def CheckDie.deliver (d : CheckDie) (a : Audit) (run : Memory) : CheckDie :=
  if d.armedAt 5 a.ctx then
    let size := ((d.manifest a.manifest).image.map Manifest.deliverySize).getD 0
    let r := (d.updEntry a.entry (fun e => { e with tested := true })).atPoint
      { kind := 5, inst := a.ctx, cls := 0, octets := run.read 0 (a.count * 262144), aux := [a.id, size] }
    r.1.presentDelivery r.2
  else d.deliveryArrives a.id

/-- A write lands in BAR2 (R153-R156): into the run of an open audit from its own requester, or discarded; after the
completion record it closes the frame; one that ends in the completion area is examined. -/
def CheckDie.landingWrite (d : CheckDie) (offset requester : Nat) (b : Octets) : CheckDie :=
  let w := offset / 262144
  match d.audit.open_.find? (fun a => decide (a.window ≤ w ∧ w < a.window + a.count)) with
  | none => d.strayLanding 0
  | some a =>
    if requester ≠ a.requester then d.strayLanding (ctxPartner a.ctx)
    else if a.stage ≠ .waiting then (d.strayLanding (ctxPartner a.ctx)).closeAudit a vAUDITED_FAIL rDIGEST_MISMATCH
    else
      let rel := offset - a.window * 262144
      let size := a.count * 262144
      let run := a.run.write rel (b.take (size - rel))
      let d1 := d.updAudit a.id (fun x => { x with run := run })
      if rel + b.length ≤ size - 64 then d1
      else d1.completion a (run.read (size - 64) 64) (fun d => d.deliver a run)

/-- The indices in its input tap that a layer reduces over for output channel `ch` and position `pos`, along K: the group's input
channels outermost, then the kernel's rows and columns; none where the kernel lies on the zero padding. -/
def Layer.inputs (l : Layer) (input output : List Nat) (ch pos : Nat) : List (Option Nat) :=
  match l with
  | .conv1d _ k s e p g ic oc =>
    let n := input.getD 1 1
    (List.range (ic / g)).flatMap (fun i => (List.range k).map (fun j =>
      let y := pos * s + j * e
      if y < p ∨ n ≤ y - p then none else some ((ch / (oc / g) * (ic / g) + i) * n + (y - p))))
  | .conv2d _ kh kw sh sw eh ew ph pw g ic oc =>
    let h := input.getD 1 1
    let w := input.getD 2 1
    let wo := output.getD 2 1
    (List.range (ic / g)).flatMap (fun i => (List.range kh).flatMap (fun a => (List.range kw).map (fun b =>
      let y := pos / wo * sh + a * eh
      let x := pos % wo * sw + b * ew
      if y < ph ∨ h ≤ y - ph ∨ x < pw ∨ w ≤ x - pw then none
      else some (((ch / (oc / g) * (ic / g) + i) * h + (y - ph)) * w + (x - pw)))))
  | .dense _ n _ => (List.range n).map some
  | _ => []

/-- The lane that recomputes an element (R158, R159): its reference weights along K against the delivered elements of the tap
before; an integer tap under floating weights is converted exactly, to FP32 (R150). -/
def Manifest.lane (m : Manifest) (a : Audit) (x : PassElem) : Option (Segment × Tap × TileLane) :=
  match m.segments[x.segment - 1]?, m.taps[x.segment - 1]?, m.taps[x.segment]? with
  | some s, some input, some output =>
    let data := (m.tapBytes a.run (x.segment - 1)).drop 16
    let mixed := isIntFormat input.format && !isIntFormat s.weightFormat
    let op (i : Option Nat) : Operand := match i with
      | none => { word := 0 }
      | some i =>
        let o := input.operand data i
        if mixed then { o with word := encodeFormat 11 (decodeFormat input.format o.word) } else o
    some (s, output, { row := x.row, fmtW := s.weightFormat, fmtX := if mixed then 11 else input.format,
                       pairs := x.weights.zip ((s.mac.inputs input.dims output.dims x.channel x.position).map op),
                       faults := x.faults })
  | _, _, _ => none

/-- Element `i` of delivered tap `t` as a value. -/
def Manifest.delivered (m : Manifest) (a : Audit) (t i : Nat) : FpVal :=
  match m.taps[t]? with
  | none => .nan
  | some tap => tap.value ((m.tapBytes a.run t).drop 16) i

/-- The FP32 pattern of a value; Inf past the format. -/
def pattern32 : FpVal → Nat
  | .fin q => encodeFormat 11 (rne32 q)
  | v => encodeFormat 11 v

/-- A segment's post operations for one element (R136): those of its channel, with the delivered element that ADD adds. -/
def Manifest.post (m : Manifest) (a : Audit) (s : Segment) (channel index : Nat) : PostOps :=
  { scaleBias := s.scaleBias.bind (fun l => l[channel]?), add := s.addTap.map (fun t => pattern32 (m.delivered a t index)),
    act := s.act, requant := s.requant.bind (fun q => q.1[channel]?.map (fun k => (k, q.2))) }

/-- One element judged: the outcome with y_a, y_r, tol and M_b, as its signature gives them (R163, R329). -/
structure Judged where
  outcome : Agreement
  ya : FpVal
  yr : FpVal
  tol : Rat := 0
  mb : Option Rat := none
deriving DecidableEq, Repr

/-- The integer comparison of R90 and R159. -/
def judgeInt (s : Segment) (fmt : Nat) (p : PostOps) (r : LaneRun) (ya : FpVal) : Judged :=
  let say (ok : Bool) (q : Int) (tol : Rat) : Judged := { outcome := if ok then .agrees else .disagrees, ya := ya, yr := .fin q, tol := tol }
  match p.requant, s.act with
  | none, _ => let q := clamp32 r.acc; say (ya == .fin q) q 0
  | some _, some (.direct vs) =>
    let q := p.requantised r.acc
    let near := [q - 1, q, q + 1].filterMap (ActTable.direct vs).at
    say (near.any (fun v => ya == .fin v)) (((ActTable.direct vs).at q).getD q) 1
  | some _, _ =>
    let q := clampInt (formatBits fmt) (p.requantised r.acc)
    say (match ya with | .fin v => decide (|v - q| ≤ 1) | _ => false) q 1

/-- The floating comparison of R89, R91 and R158, with L_c × M_b. -/
def judgeFloat (s : Segment) (fmt : Nat) (p : PostOps) (l : TileLane) (r : LaneRun) (ya : FpVal) : Judged :=
  let yr := p.eval r.value
  let mb := p.lipschitz * l.bound r
  let n := s.reduction.depth s.mac.k
  { outcome := floatAgreement n s.acc.u s.mac.k s.kAct fmt mb (l.boundSaturated r) (p.flag r) ya yr
    ya := ya
    yr := yr
    tol := match ya, yr with
      | .fin u, .fin v => tolerance n s.acc.u s.mac.k s.kAct fmt mb u v
      | _, _ => 0
    mb := some mb }

/-- One recomputed element against the delivered one. -/
def Manifest.judged (m : Manifest) (a : Audit) (x : PassElem) : Judged :=
  match m.lane a x with
  | none => { outcome := .disagrees, ya := .nan, yr := .nan }
  | some (s, t, l) =>
    let i := x.channel * t.positions + x.position
    let ya := m.delivered a x.segment i
    let p := m.post a s x.channel i
    if l.float then judgeFloat s t.format p l l.run ya else judgeInt s t.format p l.run ya

/-- An element of the sample (R150): of an AUDITED segment, at a drawn channel and position. -/
def Audit.sampled (a : Audit) (m : Manifest) (x : PassElem) : Bool :=
  a.positions.any (fun p => p.1 == x.segment && p.2.1 == x.channel && p.2.2.contains x.position)
    && ((m.segments[x.segment - 1]?).map Segment.audited).getD false

/-- Every drawn position has been recomputed over its whole reduction. -/
def Audit.covered (a : Audit) (m : Manifest) (l : List PassElem) : Bool :=
  a.positions.all (fun p => p.2.2.all (fun q => l.any (fun x =>
    p.1 == x.segment && p.2.1 == x.channel && q == x.position
      && x.weights.length == ((m.segments[x.segment - 1]?).map (fun s => s.mac.k)).getD 0)))

/-- A disagreeing element is recorded (R163, R329, R330): its channel's epoch has ended when a pass runs. -/
def CheckDie.elementFails (d : CheckDie) (m : Manifest) (a : Audit) (x : PassElem) : CheckDie :=
  let d1 := d.raise .toleranceElement (ctxStream a.stream) 0 x.segment
  let j := m.judged a x
  let who := match d1.entry? a.entry with
    | some e => e.sigKeys
    | none => [(4, cborUint a.stream), (6, cborUint a.counter)]
  d1.sign { kind := 2, gts := d1.gts,
            keys := who ++ [(7, cborUint a.ctx), (20, cborUint a.model), (21, cborUint x.segment), (22, cborUint x.channel),
                     (23, cborUint x.position), (24, cborFloat (pattern32 j.ya)), (25, cborFloat (pattern32 j.yr)),
                     (26, cborFloat (pattern32 (.fin j.tol)))]
                  ++ (match j.mb with | some b => [(27, cborFloat (pattern32 (.fin b)))] | none => [])
                  ++ [(28, cborUint a.epoch)] }

/-- One frame of a pass is judged (R91, R150, R160, R163) by the sampled elements of its AUDITED segments; while one of them has not
been recomputed the frame waits. -/
def CheckDie.judgeAudit (d : CheckDie) (id : Nat) (l : List PassElem) : CheckDie :=
  match d.audit? id with
  | none => d
  | some a =>
    match (d.manifest a.manifest).image with
    | none => d
    | some m =>
      let elems := l.filter (a.sampled m)
      if a.inPass.isNone ∨ !a.covered m elems then d
      else
        let d1 := d.bump Od.BOUND_SATURATED 0 (elems.filter (fun x => (m.judged a x).outcome == .excluded)).length
        let bad := elems.filter (fun x => (m.judged a x).outcome == .disagrees)
        if bad = [] then d1.closeAudit a vAUDITED_OK 0
        else (d1.forEach bad (fun d x => d.elementFails m a x)).closeAudit a vAUDITED_FAIL rTOLERANCE

/-- The audits of a list that a pass holds. -/
def CheckDie.inPass (d : CheckDie) (l : List Nat) : List Audit :=
  d.audit.open_.filter (fun a => l.contains a.id && a.inPass.isSome)

/-- The sampled elements of a pass with their lanes, as they ran on its cluster. -/
def CheckDie.passLanes (d : CheckDie) (fs : List (Nat × List PassElem)) : List (Audit × PassElem × TileLane) :=
  fs.flatMap (fun f => match d.audit? f.1 with
    | none => []
    | some a => match (d.manifest a.manifest).image with
      | none => []
      | some m => (f.2.filter (a.sampled m)).filterMap (fun x => (m.lane a x).map (fun l => (a, x, l.2.2))))

/-- The audits of the pass that some audits belong to: those of their epochs and allowances on cluster `c`. -/
def CheckDie.passOf (d : CheckDie) (c : Nat) (some_ : List Audit) : List Audit :=
  d.audit.open_.filter (fun a => a.cluster == some c && some_.any (fun b => b.epoch == a.epoch && b.inPass == a.inPass))

/-- A pass's residue checks failed on cluster `c` (R100, R87): the pass is repeated on another cluster, or, after a repeat or without
another cluster, its frames close AUDIT_SKIPPED with a FAULT event for each cluster. -/
def CheckDie.passFails (d : CheckDie) (c : Nat) (pass : List Audit) : CheckDie :=
  let firsts := (pass.filterMap Audit.repeated).dedup
  match (if firsts = [] then d.passCluster [c] else none) with
  | some k =>
    ({ d with audit := { d.audit with
        passes := d.audit.passes + 1
        open_ := d.audit.open_.map (fun (a : Audit) =>
          if pass.any (fun b => b.id == a.id) then { a with cluster := some k, repeated := some c } else a) } } : CheckDie).ungateCluster k
  | none =>
    (d.forEach (firsts ++ [c]) (fun d k => d.raise .auditPassMismatch 0 (instOf k 0xFF))).forEach pass
      (fun d a => d.skipAudit a .clusters)

/-- A batch pass ran on cluster `c` (R100, R162, R163): its weight rows lie in the audit scratch and its accumulators in the fifth
context; where every lane's checks hold the frames are judged.
DESIGN CHOICE (log entry 80): RESIDUE_MISMATCHES adds one for each failing row of a pass. -/
def CheckDie.passRan (d : CheckDie) (c : Nat) (fs : List (Nat × List PassElem)) : CheckDie :=
  let mine := fs.filter (fun f => (d.inPass [f.1]).any (fun a => a.cluster == some c))
  let lanes := d.passLanes mine
  let d1 := (d.updCluster c (fun x => { x with
    scratch := lanes.map (fun l => (l.1.id, l.2.1.segment, l.2.1.channel, l.2.1.weights)) })).keepLanes c 4
      (lanes.map (fun l => l.2.2)) false
  let rows := failedRows (lanes.map (fun l => l.2.2)) false
  if mine = [] then d
  else if rows = [] then d1.forEach mine (fun d f => d.judgeAudit f.1 f.2)
  else
    let d2 := d1.forEach rows (fun d row =>
      let res := match lanes.find? (fun l => l.2.2.row == row && l.2.2.mismatch) with
        | some l => [(32, l.2.2.residues false)]
        | none => []
      (d.bump Od.RESIDUE_MISMATCHES).sign
        { kind := 1, gts := d.gts, keys := [(30, cborUint c), (31, cborUint row)] ++ res })
    ((d2.passFails c (d2.passOf c (d2.inPass (mine.map Prod.fst)))).forEach rows (fun d row => d.countAgainst c row)).composeDue

/-- A batch pass is complete (R100, R133, R163, R165). -/
def CheckDie.passDone (d : CheckDie) (p : PassEnd) : CheckDie :=
  match p with
  | .ran c fs => d.passRan c fs
  | .stopped l => d.forEach ((d.inPass l).filter (fun a => a.cluster == some 0xFF)) (fun d a => d.skipAudit a .clusters)
  | .weightPage slot l =>
    let d1 := ({ d with audit := { d.audit with weights := d.audit.weights.set 0 slot 3 } } : CheckDie).raise .weightPage
      (ctxSlot slot)
    (d1.bump Od.PAGE_CRC_FAILS).forEach ((d.inPass l).filter (fun a => a.manifest == slot)) (fun d a => d.skipAudit a .weights)

/-- An uncorrectable error in a cluster's audit scratch (R73): as a residue mismatch of the pass that runs there. -/
def CheckDie.scratchFails (d : CheckDie) (c : Nat) : CheckDie :=
  let pass := d.audit.open_.filter (fun a => a.inPass.isSome && a.cluster == some c)
  let d1 := d.sign { kind := 1, gts := d.gts, keys := [(30, cborUint c)] }
  if pass = [] then d1 else d1.passFails c pass

/-- The processing allowance of an epoch's passes ends (R164, R27): a frame whose recomputation is not complete is
skipped. -/
def CheckDie.allowanceEnd (d : CheckDie) (n : Nat) : CheckDie :=
  let past : Bool := match d.epochRec n with
    | some x => match x.ended with
      | some s => decide (s + x.tapDelivery * 1000000 + allowanceNs ≤ d.now)
      | none => false
    | none => false
  let done (a : Audit) : Bool := a.epoch == n && ((match a.inPass with
      | some t => decide (t ≤ d.now)
      | none => false) || (past && a.stage != .waiting))
  d.forEach (d.audit.open_.filter done) (fun d a => d.skipAudit a (if a.cluster = some 0xFF then .clusters else .allowance))

/-- The image of a manifest slot arrives (R135). -/
def CheckDie.manifestWrite (d : CheckDie) (m : Nat) (x : Manifest) (last : Bool) : CheckDie :=
  let y : Slot Manifest :=
    { state := if last then .verifying else .loading, image := some x, emptied := (d.manifest m).vacant }
  { d with audit := { d.audit with
      manifests := d.audit.manifests.set {} m y, blobs := d.audit.blobs.filter (fun b => b.1 != m),
      weights := d.audit.weights.set 0 m 0 } }

/-- The checks of a manifest are complete (R137): VALID once every weight blob is verified too. -/
def CheckDie.manifestVerified (d : CheckDie) (m : Nat) : CheckDie :=
  let x := d.manifest m
  match x.state, x.image with
  | .verifying, some i =>
    let f := i.fault (d.cfg.get Od.MANIFEST_EXPECTED_DIGEST m).b
    let all := (List.range i.blobs.length).all (fun k => d.audit.blobs.contains (m, k))
    if f ≠ 0 then
      ({ d with audit := { d.audit with manifests := d.audit.manifests.set {} m { x with state := .invalid, fault := f } } } :
        CheckDie).raise .manifestInvalid (ctxSlot m) 0 f
    else if all then
      { d with audit := { d.audit with
          manifests := d.audit.manifests.set {} m { x with state := .valid, fault := 0, emptied := false },
          weights := d.audit.weights.set 0 m 2 } }
    else d
  | _, _ => d

end Sys2Proof.Machine
end

