-- ==== Sys2Proof/Machine/Intake.lean ====
section
/-! DEFINITION. Result intake (R22-R24, R408-R412): landing writes, the record's examination, its attachment to the ledger
entry, held and orphaned records, and CONSUMED. -/

namespace Sys2Proof.Machine

/-- N_c of a context (R408). -/
def CheckDie.slotCount (d : CheckDie) (c : Nat) : Nat := 65536 / d.get Od.RECORD_BYTES c

/-- A record parsed by R409, landed at a time. -/
def parseResult (b : Octets) (now : Nat) : ResultRec :=
  { octets := b, ctx := field b 10 2, stream := field b 8 1, counter := field b 4 4, lantern := (field b 3 1).testBit 0,
    model := field b 12 4, gts := field b 16 8, topK := field b 25 1,
    classes := ((List.range 8).take (field b 25 1)).map (fun i => field b (64 + 2 * i) 2),
    scores := ((List.range 8).take (field b 25 1)).map (fun i => field b (80 + 2 * i) 2),
    anomaly := field b 96 2, commit := (b.drop 32).take 32, landed := now }

/-- A record is malformed in context `c` (R411). -/
def CheckDie.malformed (d : CheckDie) (c : Nat) (b : Octets) : Bool :=
  field b 2 1 != 0x11 || field b 10 2 != c || !((d.get Od.CONTEXT_STREAMS c).testBit (field b 8 1))
    || decide (field b 25 1 = 0 ∨ 8 < field b 25 1) || decide (1 < field b 3 1) || decide (1 < field b 24 1)

/-- A slot of a context. -/
def CheckDie.slot (d : CheckDie) (c s : Nat) : IntakeSlot := (d.context c).slots.get {} s

/-- A slot of a context replaced. -/
def CheckDie.setSlot (d : CheckDie) (c s : Nat) (x : IntakeSlot) : CheckDie :=
  d.updContext c (fun k => { k with slots := k.slots.set {} s x })

/-- CONSUMED advances over the consumed slots in sequence (R412). -/
def advanceSlots (n : Nat) : Nat → Context → Context
  | 0, k => k
  | fuel + 1, k =>
    let x := k.slots.get {} (k.consumed % n)
    if x.consumed ≠ 0 then
      advanceSlots n fuel { k with slots := k.slots.set {} (k.consumed % n) { x with consumed := x.consumed - 1 },
                                   consumed := (k.consumed + 1) % 2 ^ 32 }
    else k

/-- A slot is consumed (R412): the GV720 writes CONSUMED when it changes. -/
def CheckDie.consume (d : CheckDie) (c s : Nat) : CheckDie :=
  let n := d.slotCount c
  let d1 := if s < n then d.setSlot c s { consumed := (d.slot c s).consumed + 1 } else d
  let d2 := d1.updContext c (advanceSlots n n)
  if (d2.context c).consumed = (d1.context c).consumed then d2
  else d2.hostPut (d2.get Od.CONSUMED_ADDR c) (le 4 (d2.context c).consumed)

/-- A record attaches to its entry (R22-R24, R145, R206): the audit draw follows once its commitment is stored, then early
release and composition. -/
def CheckDie.attach (d : CheckDie) (id c : Nat) (r : ResultRec) : CheckDie :=
  let d1 := (d.updEntry id (fun e => { e with result := some { r with landed := d.now, auditEpoch := d.audit.epochNumber } })).bump Od.RECORDS_ACCEPTED c
  ((d1.drawAudit id).earlyRelease id).composeDue

/-- The open entry that a record belongs to (R411). -/
def CheckDie.entryFor (d : CheckDie) (r : ResultRec) : Option Entry :=
  d.ledger.find? (fun e =>
    e.stream == r.stream && e.counter == r.counter && e.lantern == r.lantern && e.gts == some r.gts)

/-- The result deadline of an entry has passed (R190). -/
def CheckDie.pastDeadline (d : CheckDie) (e : Entry) : Bool :=
  e.expired || (match e.t0 with
    | some t => decide (t + (d.cfgAt e.epoch).n Od.RESULT_DEADLINE_US * 1000 < d.now)
    | none => false)

/-- A record landed late (R23). -/
def CheckDie.lateRecord (d : CheckDie) (c : Nat) : CheckDie :=
  (d.bump Od.RECORDS_LATE c).raise .lateRecord (ctxPartner c)

/-- A record in a slot is placed (R411): attached, late, a second one, or held until its entry opens. -/
def CheckDie.placeRecord (d : CheckDie) (c s : Nat) (r : ResultRec) : CheckDie :=
  match d.entryFor r with
  | some e =>
    if e.result.isSome then (d.bump Od.RECORDS_DISCARDED c).consume c s
    else if d.pastDeadline e then (d.lateRecord c).consume c s
    else (d.consume c s).attach e.id c r
  | none =>
    let key := (r.stream, r.counter, r.lantern, r.gts)
    if d.missed.contains key then
      ({ d with missed := d.missed.filter (fun m => m != key) } : CheckDie).lateRecord c |>.consume c s
    else if s < d.slotCount c then d.setSlot c s { d.slot c s with heldSince := some d.now }
    else (d.bump Od.RECORDS_ORPHANED c).raise .orphanRecord (ctxPartner c)

/-- A record that has arrived in a slot is examined (R410, R411). A slot beyond the region stands for none: it is the copy
that an injector makes. -/
def CheckDie.examineRecord (d : CheckDie) (c s : Nat) (b : Octets) : CheckDie :=
  let rb := d.get Od.RECORD_BYTES c
  if field b 0 2 ≠ rb ∨ field b (rb - 4) 4 ≠ crc32c (b.take (rb - 4)) then d
  else
    let d1 := (if s < d.slotCount c then d.setSlot c s { d.slot c s with arrived := true } else d).updContext c (fun k =>
      { k with received := k.received + 1, lastGts := d.gts })
    if d.malformed c b then
      (((d1.bump Od.RECORDS_DISCARDED c).updContext c (fun k => { k with discarded := k.discarded + 1 })).raise
        .malformedRecord (ctxPartner c)).consume c s
    else d1.placeRecord c s (parseResult b d.now)

/-- Records are examined as their injectors present them (R456, R459). -/
def CheckDie.presentResult (d : CheckDie) (xs : List PointItem) : CheckDie :=
  xs.foldl (fun d x =>
    let s := if x.aux.getD 1 0 = 1 then d.slotCount x.inst else x.aux.getD 0 0
    (if s < d.slotCount x.inst then d.setSlot x.inst s { d.slot x.inst s with octets := x.octets } else d).examineRecord
      x.inst s x.octets) d

/-- A record in a slot is examined when its last 4 bytes land (R410), through the injectors of its point (R456, kind 4): the
slot of a dropped record counts as consumed, one that is held waits (R459). -/
def CheckDie.examine (d : CheckDie) (c s : Nat) : CheckDie :=
  let rb := d.get Od.RECORD_BYTES c
  let b := (d.slot c s).octets
  if field b 0 2 ≠ rb ∨ field b (rb - 4) 4 ≠ crc32c (b.take (rb - 4)) then d
  else if d.armedAt 4 c then
    let x : PointItem := { kind := 4, inst := c, cls := field b 3 1 % 2, octets := b, aux := [s, 0] }
    let a := d.atPoint x
    let held := a.1.injectors.any (fun i => i.held.any (fun h => h.item.kind == 4 && h.item.inst == c
      && h.item.aux.getD 0 0 == s))
    let d1 := if a.2.any (fun y => y.aux.getD 0 0 == s) then a.1
      else if held then a.1.setSlot c s { a.1.slot c s with arrived := true }
      else a.1.consume c s
    d1.presentResult a.2
  else d.examineRecord c s b

/-- The part of a write that lands in one slot (R410, R412). -/
def CheckDie.slotWrite (d : CheckDie) (c s at_ : Nat) (b : Octets) : CheckDie :=
  let rb := d.get Od.RECORD_BYTES c
  let x := d.slot c s
  if x.arrived then (d.bump Od.SLOT_OVERRUNS c).raise .slotOverrun (ctxPartner c)
  else
    let old := padTo rb x.octets
    let new := old.take at_ ++ b ++ old.drop (at_ + b.length)
    let d1 := d.setSlot c s { x with octets := new, firstWrite := some (x.firstWrite.getD d.now) }
    if at_ ≤ rb - 4 ∧ rb ≤ at_ + b.length then d1.examine c s else d1

/-- A write over slots `s`, `s + 1`, …, cut at the slots' ends. -/
def CheckDie.slotWrites (d : CheckDie) (c : Nat) : Nat → Nat → Nat → Octets → CheckDie
  | 0, _, _, _ => d
  | fuel + 1, s, at_, b =>
    let rb := d.get Od.RECORD_BYTES c
    if b = [] then d
    else if d.slotCount c ≤ s then d.bump Od.STRAY_WRITES
    else CheckDie.slotWrites (d.slotWrite c s at_ (b.take (rb - at_))) c fuel (s + 1) 0 (b.drop (rb - at_))

/-- A write lands in BAR4 (R406, R408, R410). -/
def CheckDie.intakeWrite (d : CheckDie) (offset requester : Nat) (b : Octets) : CheckDie :=
  let c := offset / 65536
  let rb := d.get Od.RECORD_BYTES c
  if requester ≠ d.get Od.REQUESTER_ID c ∨ !d.on Od.INTAKE_ENABLE c then d.bump Od.STRAY_WRITES
  else d.slotWrites c 513 (offset % 65536 / rb) (offset % 65536 % rb) b

/-- A held record attaches when the passport opens its entry (R22). -/
def CheckDie.attachHeld (d : CheckDie) (id : Nat) : CheckDie :=
  match d.entry? id with
  | none => d
  | some e =>
    let found := (List.range 256).findSome? (fun c =>
      ((d.context c).slots.find? (fun x =>
        x.2.heldSince.isSome &&
          (let r := parseResult x.2.octets d.now
           r.stream == e.stream && r.counter == e.counter && r.lantern == e.lantern && some r.gts == e.gts))).map
        (fun x => (c, x.1, x.2)))
    match found with
    | none => d
    | some (c, s, x) => (d.consume c s).attach id c (parseResult x.octets d.now)

/-- RESULT_DEADLINE_US in ns. -/
def CheckDie.deadlineNs (d : CheckDie) : Nat := d.get Od.RESULT_DEADLINE_US * 1000

/-- A slot with a write but no arrived record is cleared (R410, R412). -/
def CheckDie.slotIncomplete (d : CheckDie) (c s : Nat) : CheckDie :=
  let x := d.slot c s
  match x.firstWrite with
  | some t =>
    if !x.arrived && decide (t + d.deadlineNs ≤ d.now) then (d.bump Od.RECORDS_DISCARDED c).consume c s else d
  | none => d

/-- A held record found no entry (R411, item 3; R412). -/
def CheckDie.orphan (d : CheckDie) (c s : Nat) : CheckDie :=
  match (d.slot c s).heldSince with
  | some t =>
    if t + d.deadlineNs ≤ d.now then ((d.bump Od.RECORDS_ORPHANED c).raise .orphanRecord (ctxPartner c)).consume c s else d
  | none => d

/-- Every slot of a context is cleared (R404, R408): records held, or arrived and not consumed, are discarded. -/
def CheckDie.clearIntake (d : CheckDie) (c : Nat) : CheckDie :=
  let lost := ((d.context c).slots.filter (fun x => x.2.arrived)).length
  (d.bump Od.RECORDS_DISCARDED c lost).updContext c (fun k => { k with slots := [], consumed := 0 })

/-- A write of INTAKE_ENABLE (R408): both edges clear the slots; k and CONSUMED start from 0 at the next enable. -/
def CheckDie.setIntake (d : CheckDie) (c : Nat) (on : Bool) : CheckDie :=
  let d1 := if d.on Od.INTAKE_ENABLE c = on then d else d.clearIntake c
  { d1 with cfg := d1.cfg.setN Od.INTAKE_ENABLE (b01 on) c }

end Sys2Proof.Machine
end

