-- ==== Sys2Proof/Machine/Porter.lean ====
section
/-! DEFINITION. The porter (R34-R70): passports, the checks at arrival, abandonment, missing slots, stalls and stream states. -/

namespace Sys2Proof.Machine

/-- The porter may run streams (R31, R33, R428). -/
def CheckDie.streamsRun (d : CheckDie) : Bool :=
  d.up && d.clock && d.state == .run && d.power.awake
    && (d.device == .run || d.device == .safeHold || d.device == .service)

/-- P in ns (R64). -/
def CheckDie.period (d : CheckDie) (n : Nat) : Nat := d.get Od.FRAME_SLOTS n * 2000

/-- A passport parsed by R43. -/
def parsePassport (b : Octets) : Passport :=
  { crcOk := field b 62 2 == crc16 (b.take 62), magic := field b 0 1, version := field b 1 1, streamId := field b 2 1,
    flags := field b 3 1, counter := field b 4 4, alive := field b 8 1, format := field b 9 1, length := field b 10 2,
    source := field b 12 4, gts := field b 16 8, samples := field b 24 4, overlap := field b 28 4,
    lanternId := field b 32 2, echo := field b 34 2, echoT2 := field b 36 8, echoT3 := field b 44 8, octets := b }

/-- The header check of R57. -/
def Passport.headerOk (p : Passport) : Bool := p.crcOk && p.magic == 0xB5 && p.version == 1
/-- The LANTERN flag. -/
def Passport.lantern (p : Passport) : Bool := p.flags.testBit 0
/-- The RESYNC flag. -/
def Passport.resync (p : Passport) : Bool := p.flags.testBit 1
/-- The PAUSE_NEXT flag. -/
def Passport.pause (p : Passport) : Bool := p.flags.testBit 2
/-- The TEST flag. -/
def Passport.test (p : Passport) : Bool := p.flags.testBit 3

/-- Bits that the samples of a payload take (R45). -/
def Passport.sampleBits (p : Passport) : Nat :=
  p.samples * formatBits (p.format % 16) * (if p.format.testBit 4 then 2 else 1)

/-- Bytes that the samples of a payload take (R45). -/
def Passport.sampleBytes (p : Passport) : Nat := ceilDiv p.sampleBits 8

/-- The identity-and-form check of R57 fails. -/
def Passport.formBad (p : Passport) (cfg : OdStore) (n : Nat) : Bool :=
  p.streamId != n || p.source != cfg.n Od.SOURCE_ID n || p.format != cfg.n Od.PAYLOAD_FORMAT n
    || decide (16 ≤ p.flags) || !validFormat p.format
    || p.length % 64 != 0 || decide (p.length < 64 ∨ cfg.n Od.PAYLOAD_MAX n < p.length)
    || (p.lanternId != 0 && !p.lantern)
    || decide (p.length < p.sampleBytes ∨ p.sampleBytes + 64 ≤ p.length)
    || decide (3 * p.samples / 4 < p.overlap)
    || (p.test && !cfg.on Od.TEST_ALLOW n)

/-- The states in which counters are checked and slots are timed (R60, R64). -/
def StreamState.slotted : StreamState → Bool
  | .sync => true | .run => true | .resync => true | .stalled => true | .degraded => true | _ => false

/-- The counter expected of the next real frame (R60). -/
def Stream.expected (s : Stream) : Nat := (s.baseline + 1 + s.noInputs) % 2 ^ 32

/-- A ledger entry opened (R28, R59). -/
def CheckDie.openEntry (d : CheckDie) (e : Entry) : CheckDie × Nat :=
  let d1 := d.ledgerRoom
  let id := d1.nextEntry
  ({ d1 with
      ledger := d1.ledger ++ [{ e with id := id, opened := d1.now }]
      nextEntry := id + 1
      missed := d1.missed.filter (fun m => m != (e.stream, e.counter, e.lantern, e.gts.getD 0)) }, id)

/-- Pages freed without a CREDIT message of their own: they go with the next one (R60, item 1). -/
def CheckDie.freePages (d : CheckDie) (n pages : Nat) : CheckDie :=
  d.updStream n (fun s =>
    { s with held := s.held - pages,
             creditTotal := if s.state = .faulted then s.creditTotal else s.creditTotal + pages })

/-- The lantern of an item matches the outstanding call in identity, counter and position (R63). -/
def CheckDie.matchesCall (d : CheckDie) (n : Nat) (p : Passport) : Option Call :=
  match (d.lant n).outstanding with
  | none => none
  | some c =>
    let here := (d.stream n).expected
    if p.lanternId = c.lanternId ∧ p.counter = c.counter
        ∧ here = (if c.substitute then c.after else (c.after + 1) % 2 ^ 32)
    then some c else none

/-- The outstanding lantern is missing once a real slot at or past its position has closed, or a real frame of such a
counter has arrived (R179). -/
def CheckDie.checkMissing (d : CheckDie) (n c : Nat) : CheckDie :=
  match (d.lant n).outstanding with
  | none => d
  | some k =>
    let pos := if k.substitute then k.after else (k.after + 1) % 2 ^ 32
    if c = pos ∨ serialAfter c pos then d.lanternMissing n else d

/-- A passport is complete (R57, R59, R60): the checks it decides, the ledger entry, and a held record's attachment. -/
def CheckDie.passport (d : CheckDie) (n : Nat) (b : Octets) (vstart : Nat) : CheckDie :=
  let s := d.stream n
  if !d.streamsRun || s.state == .idle || s.state == .faulted then d
  else
    let p := parsePassport b
    let ok := p.headerOk
    let pages := if ok && !s.copy then pagesOf p.length else 0
    let beyond := ok && decide (s.creditTotal < s.sent + pages)
    let counted := ok && s.state.slotted && !p.lantern
    let dup := counted && !p.resync && s.accepted == some p.counter
    let gap := counted && !p.resync && !dup && p.counter != s.expected
    let aliveBad := ok && !p.resync && (match s.alive with
      | some a => p.alive != (a + 1) % 256
      | none => false)
    let r := (if ok then 0 else rPASSPORT_CRC)
      ||| (if beyond then rOVERRUN else 0) ||| (if gap then rCOUNTER_GAP else 0) ||| (if aliveBad then rALIVE_ERROR else 0)
    let takes := counted && !dup && !gap
    -- a frame without fields takes the expected counter with its slot (R59)
    let blind := !ok && s.state.slotted
    let startGts := d.gts - (d.now - vstart)
    -- R9 (log entry 87): a source that was asked for RESYNC sends its next frame without it, or echoes a TIME that was never its latest
    let delay := d.reg Od.LINK_DELAY_PS n
    let away := if delay = 0xFFFFFFFF then 0 else ceilDiv (2 * delay) 1000
    let breach := ok && !p.lantern && ((match s.resyncReq with
        | some _ => !p.resync && decide (s.resyncFirst + away < vstart)
        | none => false)
      || (p.echo != 0 && !(s.t1s.any (fun x => x.1 == p.echo))))
    let item : OpenItem := { pass := p, started := vstart, reasons := r, entry := none, pages := pages, duplicate := dup,
                             startGts := startGts, before := s.prev }
    let d1 := d.updStream n (fun s =>
      { s with
        sent := s.sent + pages
        held := s.held + pages
        alive := if ok then some p.alive else none
        baseline := if takes then p.counter else if blind then s.expected else s.baseline
        noInputs := if takes || blind then 0 else s.noInputs
        accepted := if takes then some p.counter else if blind then some s.expected else s.accepted
        prev := if counted && !dup then some (p.gts, p.samples, p.counter) else s.prev
        lastBlock := if ok then d.now else s.lastBlock
        received := s.received + 1
        lastGts := d.gts
        resyncReq := if ok && p.resync then none else s.resyncReq
        item := some item }) |>.when breach (fun d => d.raise .sourceBreach (ctxStream n))
    if s.state = .hunt then d1
    else if dup then (d1.freePages n pages).bump Od.STRAY_AND_DUPLICATE n
    else
      let e : Entry := { id := 0, stream := n, syncGen := s.syncGen, counter := if ok then p.counter else s.expected,
                         lantern := ok && p.lantern, gts := if ok then some p.gts else none, samples := p.samples,
                         format := p.format, pages := pages, epoch := d.epoch }
      let a := d1.openEntry e
      (a.1.updStream n (fun s => { s with item := s.item.map (fun i => { i with entry := some a.2 }) })).attachHeld a.2

/-- The continuity rule of R67 is broken. -/
def continuityBad (p : Passport) (before : Option (Nat × Nat × Nat)) (fs tol : Nat) : Bool :=
  match before with
  | none => false
  | some (g, n, c) =>
    if fs = 0 ∨ p.resync ∨ p.counter ≠ (c + 1) % 2 ^ 32 then false
    else
      let step : Rat := ((n : Int) - (p.overlap : Int) : Int) * (fs : Rat) / 1000000
      decide ((tol : Rat) < |(p.gts : Rat) - ((g : Rat) + step)|)

/-- The trailer check of R57 fails for an item whose bytes are `payload` and `trailer`. The passport's fields count only when
its header check passed. -/
def trailerBad (p : Passport) (kind : Nat) (payload trailer : Octets) (vend errored : Bool) : Bool :=
  let v := checkValue kind (p.octets ++ payload)
  !vend || errored || trailer.length != 16 || field trailer 0 8 != v || field trailer 12 4 != 0x9E3C5AF1
    || (p.headerOk && (payload.length != p.length || field trailer 8 1 != p.alive))

/-- The link delay from a passport's echo of a TIME message (R55): T1 is that of the message whose TIME_SEQ it echoes. -/
def CheckDie.linkDelay (d : CheckDie) (n : Nat) (i : OpenItem) : CheckDie :=
  let p := i.pass
  match (d.stream n).t1s.find? (fun x => x.1 == p.echo) with
  | some x =>
    if p.headerOk && p.echo != 0 then
      let ns2 : Int := ((i.startGts : Int) - x.2) - ((p.echoT3 : Int) - p.echoT2)
      d.setReg Od.LINK_DELAY_PS ((ns2 * 500).toNat % 2 ^ 32) n
    else d
  | none => d

/-- What the plan says of every frame of a stream, whatever becomes of it: FENCED of a shed stream (R129), INTEGRITY_REDUCED of
one on its fallback (R129), NO_SENTINEL of one left out of the plan (R115). -/
def CheckDie.planReasons (d : CheckDie) (n : Nat) : Nat :=
  if d.disp.shed.contains n then rFENCED
  else match d.placement n with
    | some p => if p.fallback then rINTEGRITY_REDUCED else 0
    | none => if d.disp.fencedStreams.contains n ∨ d.disp.movedStreams.contains n then 0 else rNO_SENTINEL

/-- A frame's t0 falls under 2 µs after the t0 of its stream's last frame that ran (R123). -/
def CheckDie.early (d : CheckDie) (n : Nat) : Bool :=
  match (d.stream n).lastRun with
  | some t => decide (d.now < t + 2000)
  | none => false

/-- The reasons that a stream's frame takes at its t0 from the plan and the cadence (R115, R123, R129, R131): with FENCED or
NO_SENTINEL among them it runs no sentinel. -/
def CheckDie.runReasons (d : CheckDie) (n : Nat) : Nat :=
  d.planReasons n ||| (if d.disp.fencedStreams.contains n then rFENCED else 0)
    ||| (if d.disp.movedStreams.contains n ∨ d.early n then rNO_SENTINEL else 0)

/-- A frame that never reaches t0 takes what the plan says of every frame of its stream (R115, R129). -/
def CheckDie.runNotes (d : CheckDie) (n id : Nat) : CheckDie :=
  d.updEntry id (fun e => { e with reasons := e.reasons ||| d.planReasons n })

/-- One copy's portions of a run, its first the head (R125): a split copy's first portion takes the groups of firstGroups. -/
def copyParts (second : Bool) (share : Rat) : List Portion → List Part
  | [] => []
  | [p] => [⟨p.cluster, second, true, 0, 64⟩]
  | p :: q :: _ => [⟨p.cluster, second, true, 0, firstGroups share p.share⟩, ⟨q.cluster, second, false, firstGroups share p.share, 64⟩]

/-- The portions that run a frame of a placement (R125). -/
def Placement.parts (p : Placement) (share : Rat) : List Part := copyParts false share p.first ++ copyParts true share p.second

/-- The porter writes a frame's payload, padded with zeros to the package's input, into the stream's quarter of the activation
buffer that its last run left free, on every cluster that holds a portion (R72, R117, R122). -/
def CheckDie.fillBuffers (d : CheckDie) (n : Nat) (p : Placement) (payload : Octets) : CheckDie :=
  let len := (((d.package p.slot).image).map Package.inLength).getD 0
  let b := payload ++ List.replicate (len - payload.length) 0
  let toA := (d.stream n).bufferB
  d.forEach ((p.first ++ p.second).map Portion.cluster).dedup (fun d c => d.updCluster c (fun x =>
    if toA then { x with bufA := x.bufA.set [] n b } else { x with bufB := x.bufB.set [] n b }))

/-- A MAC phase begins on a cluster (R104): the rows fenced by now are left out of it. -/
def CheckDie.macPhase (d : CheckDie) (cs : List Nat) : CheckDie :=
  d.forEach cs (fun d c => d.updCluster c (fun x => { x with lastWork := d.now, rowsOut := x.rows }))

/-- The map slot in force for a stream (R185). -/
def CheckDie.mapInForce (d : CheckDie) (n : Nat) : Nat :=
  if d.disp.onFallback.contains n then d.get Od.FALLBACK_MAP_SLOT n else d.get Od.MAP_SLOT n

/-- Counts of a frame that took a slot (R70). -/
def CheckDie.countFrame (d : CheckDie) (n reasons : Nat) : CheckDie :=
  if anyBit reasons (porterNb ||| rAGE_EXCEEDED) then d.bump Od.INGRESS_FAULTS n else d.bump Od.FRAMES_ACCEPTED n

/-- The first move of R68 that a real frame's t0 or abandonment causes, before its stream-state check: into SYNC, or into
RESYNC. `bad` are its reasons with effect NB. -/
def CheckDie.stateBefore (d : CheckDie) (n : Nat) (p : Passport) (bad : Nat) : CheckDie :=
  let s := d.stream n
  let otherwise := bad &&& (0x17F - rCOUNTER_GAP) == 0
  match s.state with
  | .hunt => if bad = 0 then (d.updStream n (fun s => { s with runCount := 1 })).enterState n .sync else d
  | .stalled =>
    if bad = 0 then (d.updStream n (fun s => { s with runCount := 1 })).enterState n .resync p.resync else d
  | .run | .degraded =>
    if anyBit bad rCOUNTER_GAP || (p.headerOk && p.resync) then
      (d.updStream n (fun s => { s with runCount := b01 otherwise })).enterState n .resync p.resync
    else d
  | _ => d

/-- A real frame joins the window of ERR_W (R68), whatever state it found; the largest window is kept, so that a commit that
widens ERR_W counts the frames it names. -/
def CheckDie.noteFrame (d : CheckDie) (n : Nat) (fails : Bool) : CheckDie :=
  d.updStream n (fun s => { s with recent := (fails :: s.recent).take 65535 })

/-- The rest of R68 at a real frame: run counts, RUN, HUNT after a failure in SYNC, DEGRADED and FAULTED. `was` is the state
in which the frame found the stream. -/
def CheckDie.stateAfter (d0 : CheckDie) (n : Nat) (was : StreamState) (bad : Nat) (fails : Bool) : CheckDie :=
  let d := d0.noteFrame n fails
  let s := d.stream n
  match s.state with
  | .sync | .resync =>
    if s.state ≠ was then d
    else if bad = 0 then
      let d1 := d.updStream n (fun s => { s with runCount := s.runCount + 1 })
      if d1.get Od.RESYNC_RUN n ≤ s.runCount + 1 then d1.enterState n .run else d1
    else if s.state = .sync then d.enterState n .hunt
    else d.updStream n (fun s => { s with runCount := 0 })
  | .run | .degraded =>
    let d1 := d.updStream n (fun s => { s with goodRun := if bad = 0 then s.goodRun + 1 else 0 })
    let x := d1.stream n
    if x.state = .run then
      if d1.get Od.ERR_D n ≤ ((x.recent.take (d1.get Od.ERR_W n)).filter id).length then
        if d1.get Od.STRICTNESS n = 1 then (d1.enterState n .faulted).raise .streamFaulted (ctxStream n)
        else (d1.enterState n .degraded).raise .streamDegraded (ctxStream n)
      else d1
    else if d1.get Od.ERR_W n ≤ x.goodRun then (d1.enterState n .run).raise .streamRecovered (ctxStream n)
    else d1
  | _ => d

/-- The run of an entry at its t0 (R20, R58, R122, R123), with its package, map and the reasons they bring. -/
def CheckDie.startRun (d : CheckDie) (n id : Nat) (overrun : Bool) : CheckDie :=
  let why := d.runReasons n
  let mk := d.mapInForce n
  let mapOk := ((d.mapSlot mk).ok).isSome && decide (mk < 16)
  let lantern := ((d.entry? id).map Entry.lantern).getD false
  let noMap := !mapOk && !lantern
  let d0 := if noMap && !(d.stream n).noMap then
      (d.updStream n (fun s => { s with noMap := true })).raise .noMap (ctxStream n)
    else if mapOk then d.updStream n (fun s => { s with noMap := false }) else d
  let d1 := if d.early n then d0.bump Od.EARLY_FRAMES else d0
  let d2 := d1.updEntry id (fun e =>
    { e with runs := false, map := if mapOk then some mk else none,
             reasons := e.reasons ||| why ||| (if noMap then rNO_MAP else 0) })
  match (if overrun then none else d.placement n) with
  | none => d2
  | some p =>
    let d3 := d2.fillBuffers n p (((d.entry? id).map Entry.payload).getD [])
    if anyBit why (rFENCED ||| rNO_SENTINEL) then d3
    else
      let cs := ((p.first ++ p.second).map Portion.cluster).dedup
      ((d3.macPhase cs).updEntry id (fun e =>
        { e with runs := true, pkg := some p.slot, clusters := cs, parts := p.parts d.disp.share, full := d.disp.full })).updStream n
        (fun s => { s with lastRun := some d.now, bufferB := !s.bufferB })

/-- A lantern that matches no call (R63): discarded without a verdict, counted, a WARN event. -/
def CheckDie.strayLantern (d : CheckDie) (n : Nat) (i : OpenItem) : CheckDie :=
  let d1 := match i.entry with
    | some id => d.closeEntry id
    | none => d
  ((d1.returnPages n i.pages).bump Od.STRAY_AND_DUPLICATE n).raise .strayLantern (ctxStream n)

/-- The reasons known of an item when its epoch is fixed: those found at its passport, and the identity and form check by the
settings of that epoch (R57, R200). -/
def OpenItem.known (i : OpenItem) (cfg : OdStore) (n : Nat) : Nat :=
  i.reasons ||| (if i.pass.headerOk && i.pass.formBad cfg n then rFRAME_FORMAT else 0)

/-- The checks that t0 decides (R57, R58). DESIGN CHOICE (log entry 80): the rate check has no slot reference in HUNT, so it
is not made there. -/
def CheckDie.t0Reasons (d : CheckDie) (n : Nat) (i : OpenItem) (payload trailer : Octets) (vend errored : Bool) : Nat :=
  let s := d.stream n
  let p := i.pass
  let ok := p.headerOk
  let pages := if s.copy then 0 else ceilDiv (64 + payload.length + trailer.length) 1024
  let rate := s.state.slotted && decide (d.now < s.ref + d.period n / 2)
  let credit := !ok && decide (s.creditTotal < s.sent + pages)
  let pad := ok && padDirty p.sampleBits payload
  let time := ok && (decide (d.gts + 1000 < p.gts)
    || (!p.lantern && continuityBad p i.before (d.get Od.SAMPLE_PERIOD_FS n) (d.get Od.GTS_TOL_NS n)))
  let age := ok && decide (p.gts + d.get Od.AGE_MAX_US n * 1000 < d.gts)
  i.known d.cfg n ||| (if rate || credit then rOVERRUN else 0) ||| (if pad then rFRAME_FORMAT else 0)
    ||| (if time then rTIME_STEP else 0) ||| (if age then rAGE_EXCEEDED else 0)
    ||| (if ok && p.test && d.on Od.TEST_ALLOW n then rTEST_MODE else 0)
    ||| (if trailerBad p (d.get Od.CHECK_KIND n) payload trailer vend errored then rTRAILER_CHECK else 0)

/-- The frame's state check adds RESYNC or DEGRADED_STREAM (R57); `was` is the state the frame found. -/
def stateReason (was now : StreamState) : Nat :=
  (if was = .sync ∨ was = .resync ∨ now = .sync ∨ now = .resync then rRESYNC else 0)
    ||| (if was = .degraded ∨ now = .degraded then rDEGRADED_STREAM else 0)

/-- The t0 facts recorded in an entry: the payload kept for its run and audit, which OVERRUN discards (R57), the generation
and epoch of R25 and R59. -/
def CheckDie.stampEntry (d : CheckDie) (n id reasons : Nat) (payload : Octets) (t0 : Option Nat) (call : Option Call) :
    CheckDie :=
  d.updEntry id (fun e =>
    { e with t0 := t0, reasons := e.reasons ||| reasons ||| (if d.marked n then rTEST_MODE else 0),
             payload := if anyBit reasons rOVERRUN then [] else payload, syncGen := (d.stream n).syncGen,
             epoch := d.epoch, safe := d.device == .safeHold || d.device == .service, call := call })

/-- The slot of a real frame is the one that the outstanding SUBSTITUTE lantern was to take (R179). -/
def CheckDie.slotNamed (d : CheckDie) (n counter : Nat) (slotted : Bool) : Bool :=
  slotted && (match (d.lant n).outstanding with
    | some c => c.substitute && c.after == counter
    | none => false)

/-- A SUBSTITUTE lantern takes the slot of the expected real frame (R178), which is WITHHELD: the counter advances as though
that frame had arrived. -/
def CheckDie.substituteSlot (d : CheckDie) (n : Nat) (c : Call) : CheckDie :=
  if c.substitute then
    let k := (d.stream n).expected
    ((d.slotVerdict n k rLANTERN_SLOT false).updStream n (fun s =>
      { s with baseline := k, noInputs := 0, accepted := some k, prev := none })).lanternSlot n k
  else d

/-- A real frame reaches t0 outside HUNT. -/
def CheckDie.realT0 (d : CheckDie) (n id : Nat) (i : OpenItem) (r0 : Nat) (payload : Octets) : CheckDie :=
  let was := (d.stream n).state
  let bad := r0 &&& porterNb
  let counter := ((d.entry? id).map Entry.counter).getD 0
  let slotted := !anyBit r0 rCOUNTER_GAP
  let named := d.slotNamed n counter slotted
  let d1 := (d.checkMissing n counter).stateBefore n i.pass bad
  let r := r0 ||| stateReason was (d1.stream n).state ||| (if named then rLANTERN_SLOT else 0)
  let d2 := d1.stampEntry n id r payload (some d.now) none
  let d3 := (d2.startRun n id (anyBit r rOVERRUN)).updStream n (fun s =>
    { s with ref := d.now, paused := i.pass.headerOk && i.pass.pause, realPause := i.pass.headerOk && i.pass.pause })
  let d4 := d3.lanternSlot n counter
  ((d4.stateAfter n was bad (anyBit r0 (porterNb ||| rAGE_EXCEEDED))).countFrame n r).earlyRelease id |>.composeDue

/-- A lantern that matches its call reaches t0 (R63, R178): in SUBSTITUTE mode the real slot it takes is WITHHELD. -/
def CheckDie.lanternT0 (d : CheckDie) (n id : Nat) (i : OpenItem) (r0 : Nat) (payload : Octets) (c : Call) : CheckDie :=
  let st := (d.stream n).state
  let r := r0 ||| stateReason st st
  let d1 := (d.updLant n (fun l => { l with outstanding := none, inFlight := true })).stampEntry n id r payload
    (some d.now) (some c)
  let d2 := (d1.startRun n id (anyBit r rOVERRUN)).updStream n (fun s =>
    { s with ref := d.now, paused := s.paused || (i.pass.headerOk && i.pass.pause) })
  ((d2.substituteSlot n c).countFrame n r).composeDue

/-- An item that HUNT discards without a ledger entry (R68): a lantern among them matches no call (R63). -/
def CheckDie.huntItem (d : CheckDie) (n : Nat) (i : OpenItem) : CheckDie :=
  if i.pass.headerOk && i.pass.lantern then d.strayLantern n i else d.returnPages n i.pages

/-- The last trailer byte of the open item arrives (R57-R68). -/
def CheckDie.frameT0 (d : CheckDie) (n : Nat) (payload trailer : Octets) (vend errored : Bool) : CheckDie :=
  match (d.stream n).item with
  | none => d
  | some i =>
    let p := i.pass
    let ok := p.headerOk
    let r0 := d.t0Reasons n i payload trailer vend errored
    let late := if ok || (d.stream n).copy then 0 else ceilDiv (64 + payload.length + trailer.length) 1024
    let d1 := (d.updStream n (fun s =>
      { s with item := none, lastBlock := if ok then d.now else s.lastBlock, sent := s.sent + late,
               held := s.held + late })).linkDelay n i
    let i1 := { i with pages := i.pages + late }
    if i.duplicate then d1
    else match i.entry with
      | none =>
        -- HUNT: a good real frame takes the stream into SYNC, another item is discarded (R68)
        if ok && !p.lantern && r0 &&& porterNb == 0 then
          let d2 := (d1.updStream n (fun s =>
            { s with baseline := p.counter, noInputs := 0, accepted := some p.counter,
                     prev := some (p.gts, p.samples, p.counter) })).stateBefore n p 0
          let e : Entry := { id := 0, stream := n, counter := p.counter, gts := some p.gts, samples := p.samples,
                             format := p.format, pages := i1.pages, epoch := d.epoch }
          let a := d2.openEntry e
          let d3 := a.1.stampEntry n a.2 (r0 ||| rRESYNC) payload (some d.now) none
          let d4 := (d3.startRun n a.2 false).updStream n (fun s =>
            { s with ref := d.now, paused := p.pause, realPause := p.pause })
          (((d4.noteFrame n (anyBit r0 rAGE_EXCEEDED)).countFrame n (r0 ||| rRESYNC)).attachHeld a.2).composeDue
        else (d1.when (anyBit r0 (porterNb ||| rAGE_EXCEEDED)) (fun d => d.bump Od.INGRESS_FAULTS n)).huntItem n i1
      | some id =>
        let d2 := d1.updEntry id (fun e => { e with pages := i1.pages })
        if ok && p.lantern then
          match d2.matchesCall n p with
          | some c => d2.lanternT0 n id i1 r0 payload c
          | none => d2.strayLantern n i1
        else d2.realT0 n id i1 r0 payload

/-- The open item is abandoned after `got` of its payload bytes, its last block at `last` (R41, R61, R66): its frame receives
NOT_BELIEVED with TRAILER_CHECK at once, and takes its slot, whose reference becomes REF + P; a lantern that matches no call
takes none (R63). `rows` is false where the stream goes to IDLE, by the first row of R68. -/
def CheckDie.abandonItem (d : CheckDie) (n got last : Nat) (rows : Bool := true) : CheckDie :=
  match (d.stream n).item with
  | none => d
  | some i =>
    let ok := i.pass.headerOk
    let pause := ok && i.pass.pause
    let late := if ok then 0 else ceilDiv (64 + got) 1024
    let s0 := d.stream n
    let beyond := !ok && decide (s0.creditTotal < s0.sent + late)
    let pages := i.pages + late
    let d1 := d.updStream n (fun s =>
      { s with item := none, sent := s.sent + late, held := s.held + late,
               lastBlock := if ok then max s.lastBlock (min last d.now) else s.lastBlock })
    if i.duplicate then d1
    else match i.entry with
      | none => (d1.bump Od.INGRESS_FAULTS n).huntItem n { i with pages := pages }
      | some id =>
        let r := i.known d.cfg n ||| rTRAILER_CHECK ||| (if beyond then rOVERRUN else 0)
        let d2 := d1.updEntry id (fun e => { e with pages := pages })
        let slot (d : CheckDie) (real : Bool) : CheckDie := d.updStream n (fun s =>
          { s with ref := s.ref + d.period n, paused := s.paused || pause, realPause := if real then pause else s.realPause })
        if ok && i.pass.lantern then
          match d2.matchesCall n i.pass with
          | some c =>
            let d3 := ((slot d2 false).updLant n (fun l => { l with outstanding := none, inFlight := true })).stampEntry n id
              r [] none (some c)
            (((d3.runNotes n id).substituteSlot n c).countFrame n r).compose id
          | none => d2.strayLantern n { i with pages := pages }
        else
          let counter := ((d2.entry? id).map Entry.counter).getD 0
          let named := d2.slotNamed n counter (!anyBit r rCOUNTER_GAP)
          let d3 := (slot d2 true).checkMissing n counter
          let d4 := if rows then d3.stateBefore n i.pass (r &&& porterNb) else d3
          let d5 := (d4.stampEntry n id (r ||| (if named then rLANTERN_SLOT else 0)) [] none none).runNotes n id
          let d6 := d5.lanternSlot n counter
          ((if rows then d6.stateAfter n s0.state (r &&& porterNb) true else d6).countFrame n r).compose id

/-- An item whose passport waits beside an armed injector is not that injector's any more: its passport is taken as it
came. -/
def CheckDie.flushRaw (d : CheckDie) (n : Nat) : CheckDie :=
  match (d.stream n).raw with
  | some (b, v) => (d.updStream n (fun s => { s with raw := none })).passport n b v
  | none => d

/-- A stream goes to IDLE (R68): its open item is abandoned, its credits are void. -/
def CheckDie.toIdle (d : CheckDie) (n : Nat) : CheckDie :=
  if (d.stream n).state = .idle then d
  else
    ((d.abandonItem n 0 0 false).enterState n .idle).updStream n (fun s =>
      { s with raw := none, creditTotal := 0, sent := 0, alive := none, accepted := none, prev := none, paused := false,
               realPause := false, recent := [], goodRun := 0 })

/-- An enabled stream in IDLE with its lanes locked enters HUNT (R68). -/
def CheckDie.tryHunt (d : CheckDie) (n : Nat) (cause : Nat := 1) : CheckDie :=
  let s := d.stream n
  if s.state == .idle && s.locked && d.on Od.STREAM_ENABLE n && d.streamsRun then d.enterState n .hunt false cause else d

/-- Every stream that may now run enters HUNT. -/
def CheckDie.startStreams (d : CheckDie) : CheckDie := d.forEach allStreams (fun d n => d.tryHunt n)

/-- Every stream goes to IDLE (R33, R68). -/
def CheckDie.stopStreams (d : CheckDie) : CheckDie := d.forEach allStreams CheckDie.toIdle

/-- Block lock and alignment are acquired (R40, R68). -/
def CheckDie.lockAcquired (d : CheckDie) (n : Nat) : CheckDie :=
  (d.updStream n (fun s => { s with locked := true, received := s.received + 1, lastGts := d.gts })).tryHunt n

/-- Block lock or alignment is lost (R66): the open item is abandoned, the state stays. -/
def CheckDie.lockLost (d : CheckDie) (n got last : Nat) : CheckDie :=
  ((d.flushRaw n).abandonItem n got last).updStream n (fun s => { s with locked := false })

/-- The gap limit of an open item has passed (R61, R62). -/
def CheckDie.gapTimeout (d : CheckDie) (n got last : Nat) : CheckDie :=
  if last + d.get Od.FRAME_GAP_MAX_NS n ≤ d.now then (d.flushRaw n).abandonItem n got last else d

/-- A data block outside an item (R41). -/
def CheckDie.strayBlock (d : CheckDie) (n : Nat) : CheckDie := d.bump Od.STRAY_AND_DUPLICATE n

/-- A frame's VSTART and passport have arrived (R41, R57): an open item is abandoned first. -/
def CheckDie.passportComplete (d : CheckDie) (n : Nat) (b : Octets) (lead : Lead) : CheckDie :=
  let vstart := lead.vstart
  let d1 := (d.flushRaw n).abandonItem n lead.got lead.last
  if d1.armedAt 1 n && d1.streamsRun && (d1.stream n).state != .idle && (d1.stream n).state != .faulted
  then d1.updStream n (fun s => { s with raw := some (b, vstart), lastBlock := if (parsePassport b).headerOk then d.now
                                                                        else s.lastBlock })
  else d1.passport n b vstart

/-- An item's VSTART abandons an open item (R41). -/
def CheckDie.itemStarts (d : CheckDie) (n : Nat) (lead : Lead := {}) : CheckDie :=
  (d.flushRaw n).abandonItem n lead.got lead.last

/-- A heartbeat item is judged (R49, R50, R66). -/
def CheckDie.heartbeatIn (d : CheckDie) (n : Nat) (b : Octets) : CheckDie :=
  let s := d.stream n
  if !d.streamsRun || s.state == .idle || s.state == .faulted then d
  else if field b 14 2 ≠ crc16 (b.take 14) then d.updStream n (fun s => { s with alive := none, discarded := s.discarded + 1 })
  else if field b 0 1 ≠ n then d.updStream n (fun s => { s with discarded := s.discarded + 1 })
  else
    let a := field b 1 1
    let bad := match s.alive with
      | some x => a != (x + 1) % 256
      | none => false
    let d1 := d.updStream n (fun s =>
      { s with alive := some a, lastBlock := d.now, received := s.received + 1, lastGts := d.gts })
    if bad then d1.raise .heartbeatAlive (ctxStream n) else d1

/-- Items of a stream are taken as its injectors present them (R456, R457, R459): a frame's passport and t0 fall together.
A copy uses no pages of the source's credit. -/
def CheckDie.presentVi (d : CheckDie) (xs : List PointItem) : CheckDie :=
  xs.foldl (fun d x =>
    let n := x.inst
    if x.cls = 2 then (d.itemStarts n).heartbeatIn n x.octets
    else
      let b := x.octets
      let d1 := d.itemStarts n
      let d2 := (d1.updStream n (fun s => { s with copy := x.copy })).passport n (b.take 64) (d.now - x.aux.getD 0 0)
      (d2.frameT0 n ((b.drop 64).take (x.aux.getD 3 0)) (b.drop (64 + x.aux.getD 3 0)) (x.aux.getD 1 0 == 1)
        (x.aux.getD 2 0 == 1)).updStream n (fun s => { s with copy := false })) d

/-- The pages of an item that an injector removed or holds go back with the next CREDIT message (R459). -/
def CheckDie.takeBack (d : CheckDie) (n bytes : Nat) : CheckDie :=
  d.updStream n (fun s =>
    { s with sent := s.sent + ceilDiv bytes 1024,
             creditTotal := if s.state = .faulted then s.creditTotal else s.creditTotal + ceilDiv bytes 1024 })

/-- The last trailer byte of an item arrives (R57); an item whose passport waited goes through the injectors of its stream
(R456, kind 1). -/
def CheckDie.frameEnd (d : CheckDie) (n : Nat) (payload trailer : Octets) (vend errored : Bool) : CheckDie :=
  match (d.stream n).raw with
  | none => d.frameT0 n payload trailer vend errored
  | some (b, v) =>
    let x : PointItem := { kind := 1, inst := n, cls := b01 (parsePassport b).lantern, octets := b ++ payload ++ trailer,
                           aux := [d.now - v, b01 vend, b01 errored, payload.length] }
    let a := (d.updStream n (fun s => { s with raw := none })).atPoint x
    let d1 := if a.2.any (fun y => !y.copy) then a.1 else a.1.takeBack n x.octets.length
    d1.presentVi a.2

/-- A heartbeat item arrives (R41, R49), through the injectors of its stream (R456, kind 1). -/
def CheckDie.heartbeatItem (d : CheckDie) (n : Nat) (b : HeartItem) : CheckDie :=
  let a := (d.itemStarts n b.lead).atPoint { kind := 1, inst := n, cls := 2, octets := b.octets }
  a.1.presentVi a.2

/-- CREDIT at least every 10 µs (R52). DESIGN CHOICE (log entry 80): none is sent while the stream is IDLE or FAULTED, where
no credit is in force. -/
def CheckDie.creditPeriod (d : CheckDie) (n : Nat) : CheckDie :=
  let s := d.stream n
  if s.state == .idle || s.state == .faulted || decide (d.now < s.creditAt + 10000) then d else d.sendCredit n

/-- TIME every TIME_PERIOD_US (R55). DESIGN CHOICE (log entry 80): none is sent while the stream is IDLE or FAULTED. -/
def CheckDie.timePeriod (d : CheckDie) (n : Nat) : CheckDie :=
  let s := d.stream n
  if s.state == .idle || s.state == .faulted || decide (d.now < s.timeAt + d.get Od.TIME_PERIOD_US n * 1000) then d
  else
    let q := if s.timeSeq = 0xFFFF then 1 else s.timeSeq + 1
    (d.updStream n (fun s => { s with timeAt := d.now, timeSeq := q, t1s := ((q, d.gts) :: s.t1s).take 2 })).backMessage n 4
      (le 8 d.gts ++ le 4 (d.reg Od.LINK_DELAY_PS n) ++ le 2 q ++ le 2 0)

/-- RESYNC_REQ repeated every 100 µs while it is unanswered (R56). -/
def CheckDie.resyncRepeat (d : CheckDie) (n : Nat) : CheckDie :=
  let s := d.stream n
  match s.resyncReq with
  | some t =>
    if d.now < t + 100000 then d
    else d.resyncReq n s.resyncCause
  | none => d

/-- A slot passes without a frame (R64): NO_INPUT for the expected counter, unless a frame is arriving or the source
paused (R65). -/
def CheckDie.noInputSlot (d : CheckDie) (n : Nat) : CheckDie :=
  let s := d.stream n
  if !s.state.slotted || s.item.isSome || s.raw.isSome || s.paused || decide (d.now < s.ref + d.get Od.FRAME_SLOTS n * 3000) then d
  else
    let c := s.expected
    let d1 := ((d.slotVerdict n c 0 true).bump Od.NO_INPUT_SLOTS n).updStream n (fun s =>
      { s with noInputs := s.noInputs + 1, ref := s.ref + d.period n })
    (d1.checkMissing n c).lanternSlot n c

/-- The time of the last non-marker block of any valid item of a stream (R66), the blocks of an open item included. -/
def CheckDie.lastValid (d : CheckDie) (q : Quiet) : Nat :=
  let s := d.stream q.stream
  let open_ : Bool := match s.item with
    | some i => i.pass.headerOk
    | none => (s.raw.map (fun x => (parsePassport x.1).headerOk)).getD false
  if open_ then max s.lastBlock (min q.last d.now) else s.lastBlock

/-- The stall timer reaches STALL_LIMIT_US (R66, R68). -/
def CheckDie.stallLimit (d : CheckDie) (q : Quiet) : CheckDie :=
  let n := q.stream
  let s := d.stream n
  let may := s.state == .run || s.state == .degraded || s.state == .sync || s.state == .resync
  if may && decide (d.lastValid q + d.get Od.STALL_LIMIT_US n * 1000 ≤ d.now) then d.enterState n .stalled else d

/-- A STRICT stream has stalled, or stayed in RESYNC, for STALL_SAFE_US (R68): FAULTED and a SAFETY event; its open item is
discarded without a verdict. -/
def CheckDie.stallSafe (d : CheckDie) (q : Quiet) : CheckDie :=
  let n := q.stream
  let s := d.stream n
  let lim := d.get Od.STALL_SAFE_US n * 1000
  let stalled := (s.state == .stalled || s.state == .resync) && decide (d.lastValid q + lim ≤ d.now)
  let long := s.state == .resync && decide (s.resyncSince + lim ≤ d.now)
  if d.get Od.STRICTNESS n == 1 && (stalled || long) then
    let d1 := match s.item.bind OpenItem.entry with
      | some id => d.closeEntry id
      | none => d
    ((d1.updStream n (fun s => { s with item := none, raw := none })).enterState n .faulted).raise .streamFaulted (ctxStream n)
  else d

/-- STREAM_RESTART (R56, R68): through IDLE, then as for IDLE, with RESYNC_REQ cause 4; a stream that stays in IDLE sends it once. -/
def CheckDie.streamRestart (d : CheckDie) (n : Nat) : CheckDie :=
  let d1 := (d.toIdle n).tryHunt n 4
  if (d1.stream n).state == .idle && d1.on Od.STREAM_ENABLE n && d1.streamsRun then
    (d1.resyncReq n 4).updStream n (fun s => { s with resyncReq := none })
  else d1

/-- The streams that a commit sends through IDLE, or stops (R68, R69). -/
def CheckDie.streamsAtCommit (d : CheckDie) (old : OdStore) : CheckDie :=
  d.forEach allStreams (fun d n =>
    let off := !d.on Od.STREAM_ENABLE n
    let changed := old.on Od.STREAM_ENABLE n && (old.n Od.LANE_BOND n != d.get Od.LANE_BOND n
      || old.n Od.LINE_RATE n != d.get Od.LINE_RATE n || old.n Od.FEC_ENABLE n != d.get Od.FEC_ENABLE n)
    if off then d.toIdle n
    else if changed then (d.toIdle n).tryHunt n
    else d.tryHunt n)

end Sys2Proof.Machine
end

