-- ==== Sys2Proof/Machine/HostPort.lean ====
section
/-! DEFINITION. The host port of the check die: BAR0 registers (R318, R405-R407), the host rings (R413-R417), weight loads
(R420), memory scrubbing (R421-R424), and the PCIe resets (R404). -/

namespace Sys2Proof.Machine

/-- The low or high half of a 64-bit register replaced. -/
def setLo (v x : Nat) : Nat := v / 2 ^ 32 * 2 ^ 32 + x
/-- The high half replaced. -/
def setHi (v x : Nat) : Nat := x * 2 ^ 32 + v % 2 ^ 32

/-- The message conditions of R417 hold for a ring. -/
def Ring.signalDue (r : Ring) (now : Nat) : Bool :=
  let th := bitsOf r.irq 0 16
  let tm := bitsOf r.irq 16 16
  decide (r.pendingCount ≠ 0) && !r.signalled
    && ((th != 0 && decide (th ≤ r.pendingCount))
        || (tm != 0 && (match r.pending with
            | some t => decide (t + tm * 1000 ≤ now)
            | none => false)))

/-- The ring's MSI-X message when a condition holds (R417, R418). -/
def CheckDie.ringSignal (d : CheckDie) (r : Nat) : CheckDie :=
  if (d.ring r).on && (d.ring r).signalDue d.now
  then (d.updRing r (fun x => { x with signalled := true })).put (.msix (2 + r)) else d

/-- A writeback covers the entries written (R415), and the message conditions are evaluated (R417). -/
def CheckDie.ringWriteback (d : CheckDie) (r : Nat) : CheckDie :=
  let x := d.ring r
  if x.on && x.uncovered.isSome then
    ((d.updRing r (fun x => { x with uncovered := none })).put (.hostWrite x.wb (le 4 x.write ++ le 4 x.dropped))).ringSignal r
  else d

/-- Entries have been pending unsignalled for TIMER_US (R417): a writeback, then the message. -/
def CheckDie.ringTimer (d : CheckDie) (r : Nat) : CheckDie := (d.ringWriteback r).ringSignal r

/-- The host breaks an obligation for which no reaction is stated (R9): a WARN event (log entry 87). -/
def CheckDie.hostBreaks (d : CheckDie) (b : Bool) : CheckDie := d.when b (fun d => d.raise .hostBreach)

/-- A host write of RING_CTRL (R415): EN from 0 to 1 resets the counts; SIZE_LOG2 is kept while EN = 1. A base
that is not aligned to the ring's size is a breach (R9). -/
def CheckDie.ringControl (d : CheckDie) (r v : Nat) : CheckDie :=
  (d.hostBreaks (v.testBit 0 && !(d.ring r).on
    && (d.ring r).base % (2 ^ bitsOf v 16 5 * ringEntryBytes r) != 0)).updRing r (fun x =>
    let en := v.testBit 0
    if x.on then (if en then x else { x with ctrl := x.ctrl - 1, uncovered := none, pending := none })
    else
      let c := bitsOf v 16 5 * 65536 + b01 en
      if en then { x with ctrl := c, write := 0, read := 0, dropped := 0, uncovered := none, pending := none, signalled := false }
      else { x with ctrl := c })

/-- Waiting SAFETY records enter the host ring as slots come free (R326). -/
def CheckDie.hostAdmitAll : Nat → CheckDie → CheckDie
  | 0, d => d
  | k + 1, d => CheckDie.hostAdmitAll k d.hostAdmit

/-- A host write of RING_READ (R416, R417): beyond RING_WRITE it is discarded and recorded. -/
def CheckDie.ringRead (d : CheckDie) (r v : Nat) : CheckDie :=
  let x := d.ring r
  if x.pendingCount < subMod 32 v x.read then d.raise .ringReadBeyond 0 (instOf r 0)
  else
    let d1 := d.updRing r (fun x =>
      { x with read := v % 2 ^ 32, signalled := false, pending := if v % 2 ^ 32 = x.write then none else x.pending })
    let d2 := if r = 1 then CheckDie.hostAdmitAll d1.ev.hostWaiting.length d1 else d1
    d2.ringSignal r

/-- LPDDR5X in GiB: 8, 16 or 32 (R421). -/
def memoryGib : Nat := 8 * 2 ^ (Config.memoryChoice % 3)

/-- MiB of the reference-weight region (R424). -/
def weightMib (ecc : Bool) : Nat :=
  if ecc then memoryGib * 1024 * 7 / 8 - 1584 else memoryGib * 1024 - 1584

/-- Bytes of the blobs held, but for one. -/
def CheckDie.blobBytes (d : CheckDie) (but : Nat × Nat) : Nat :=
  ((d.audit.blobs.filter (fun b => b != but)).map (fun b =>
    (((d.manifest b.1).image.bind (fun m => m.blobs[b.2]?)).map Blob.length).getD 0)).sum

/-- The manifest slot of WL_TARGET. -/
def WeightLoad.slot (w : WeightLoad) : Nat := bitsOf w.target 8 8
/-- The blob index of WL_TARGET. -/
def WeightLoad.blob (w : WeightLoad) : Nat := bitsOf w.target 0 6

/-- A weight load ends with a status (R420); MSI-X 6 (R418). -/
def CheckDie.weightEnd (d : CheckDie) (status : Nat) : CheckDie :=
  ({ d with wl := { d.wl with busy := false, status := status } } : CheckDie).put (.msix 6)

/-- A slot is in use (R138, R420): named by a binding in force or by an open audit, or in the staged set, as `staged` says. -/
def CheckDie.manifestInUse (d : CheckDie) (staged : Nat → Bool) (m : Nat) : Bool :=
  allStreams.any (fun n => d.get Od.MANIFEST_SLOT n == m) || d.audit.open_.any (fun a => a.manifest == m) || staged m

/-- WL_CTRL GO = 1 (R420): discarded while BUSY, else checked and started. A slot whose blob is loaded again is VERIFYING until all
its blobs are verified (R137, R165; log entry 92). -/
def CheckDie.weightGo (d : CheckDie) (staged : Nat → Bool) : CheckDie :=
  if d.wl.busy then d
  else
    let d1 := { d with wl := { d.wl with moved := 0 } }
    let s := d.wl.slot
    match (d.manifest s).image with
    | none => d1.weightEnd 8
    | some m =>
      if (d.manifest s).state = .loading ∨ (d.manifest s).state = .empty ∨ 31 < s ∨ d.manifestInUse staged s then d1.weightEnd 8
      else match m.blobs[d.wl.blob]? with
        | none => d1.weightEnd 9
        | some b =>
          if d.wl.len ≠ b.length then d1.weightEnd 10
          else if weightMib (d.on Od.MEM_INLINE_ECC) * 1048576 < d.blobBytes (s, d.wl.blob) + b.length then
            let x : Slot Manifest := { d.manifest s with state := .invalid, fault := 8 }
            (({ d1 with audit := { d1.audit with manifests := d1.audit.manifests.set {} s x } } : CheckDie).raise
              .manifestInvalid (ctxSlot s) 0 8).weightEnd 12
          else
            let x := d.manifest s
            let again := x.state == .valid || (x.state == .invalid && x.fault == 8)
            { d1 with
              wl := { d1.wl with busy := true, status := 1 }
              audit := { d1.audit with
                manifests := if again then d1.audit.manifests.set {} s { x with state := .verifying, fault := 0 } else d1.audit.manifests
                weights := d1.audit.weights.set 0 s 1
                blobs := d1.audit.blobs.filter (fun x => x != (s, d.wl.blob)) } }

/-- The weight load is over (R420, R137): a completion was bad, or the blob is stored and its digest agrees or not; a load
whose slot's image is written meanwhile ends SLOT (R425). -/
def CheckDie.weightDone (d : CheckDie) (dma digestOk : Bool) : CheckDie :=
  if !d.wl.busy then d
  else
    let s := d.wl.slot
    if (d.manifest s).image = none ∨ (d.manifest s).state = .loading ∨ (d.manifest s).state = .empty then d.weightEnd 8
    else if dma then d.weightEnd 11
    else
      let d1 := { d with wl := { d.wl with moved := ceilDiv d.wl.len 4096 } }
      if digestOk then
        (({ d1 with audit := { d1.audit with blobs := d1.audit.blobs ++ [(s, d.wl.blob)] } } : CheckDie).manifestVerified s).weightEnd 2
      else
        let x : Slot Manifest := { d.manifest s with state := .invalid, fault := 8 }
        ((({ d1 with audit := { d1.audit with
            manifests := d1.audit.manifests.set {} s x, weights := d1.audit.weights.set 0 s 3 } } : CheckDie).raise
          .manifestInvalid (ctxSlot s) 0 8)).weightEnd 2

/-- A host write to a BAR0 register other than RING_CTRL's and RING_READ's own rows (R318, R406, R407, R415): one of another
size or alignment is discarded and counted, a read-only or reserved one discarded; the watchdog and roll-call block goes
across the corridor (R17). -/
def CheckDie.registerWrite (d : CheckDie) (offset size v : Nat) (staged : Nat → Bool) : CheckDie :=
  if size ≠ 4 ∨ offset % 4 ≠ 0 then { d with badWrites := d.badWrites + 1 }
  else if 0x2000 ≤ offset ∧ offset < 0x2100 then d.sendFlit (flitHostWrite offset v)
  else if 0x1000 ≤ offset ∧ offset < 0x10C0 then
    let r := (offset - 0x1000) / 0x40
    let o := (offset - 0x1000) % 0x40
    let idle (f : Ring → Ring) : CheckDie := d.updRing r (fun x => if x.on then x else f x)
    if o = 0x00 then (idle (fun x => { x with base := setLo x.base (v / 4096 * 4096) })).hostBreaks (v % 4096 != 0)
    else if o = 0x04 then idle (fun x => { x with base := setHi x.base v })
    else if o = 0x08 then d.ringControl r v
    else if o = 0x0C then d.ringRead r v
    else if o = 0x10 then (idle (fun x => { x with wb := setLo x.wb (v / 8 * 8) })).hostBreaks (v % 8 != 0)
    else if o = 0x14 then idle (fun x => { x with wb := setHi x.wb v })
    else if o = 0x18 then (d.updRing r (fun x => { x with irq := v })).ringSignal r
    else d
  else if offset = 0x1200 then
    ({ d with wl := { d.wl with src := setLo d.wl.src (v / 4096 * 4096) } } : CheckDie).hostBreaks (v % 4096 != 0)
  else if offset = 0x1204 then { d with wl := { d.wl with src := setHi d.wl.src v } }
  else if offset = 0x1208 then { d with wl := { d.wl with len := v } }
  else if offset = 0x120C then { d with wl := { d.wl with target := bitsOf v 0 6 + bitsOf v 8 8 * 256 } }
  else if offset = 0x1210 then (if v.testBit 0 then d.weightGo staged else d)
  else d

/-- A read of GTS_LO latches the upper half of GTS (R407). -/
def CheckDie.gtsLatch (d : CheckDie) : CheckDie := { d with time := { d.time with gtsHi := d.gts / 2 ^ 32 } }

/-- IMAGE_AGE_US in its place of WDH_STATUS and WDS_STATUS (R318). -/
def CheckDie.imageAge (d : CheckDie) : Nat := if d.safetyImage = [] then 0 else min 255 ((d.now - d.imageAt) / 1000) * 2 ^ 16

/-- What a read of BAR0 below 0x3000 answers (R318, R406, R407): the registers of the check die and the images of the safety
die; write-only and reserved offsets read 0. -/
def CheckDie.barRead (d : CheckDie) (offset : Nat) : Nat :=
  if offset = 0x00 then 0x0720B000
  else if offset = 0x04 then d.devStatus
  else if offset = 0x08 then d.epochImage
  else if offset = 0x10 then d.gts % 2 ^ 32
  else if offset = 0x14 then d.time.gtsHi
  else if 0x1000 ≤ offset ∧ offset < 0x10C0 then
    let x := d.ring ((offset - 0x1000) / 0x40)
    let o := (offset - 0x1000) % 0x40
    if o = 0x00 then x.base % 2 ^ 32
    else if o = 0x04 then x.base / 2 ^ 32
    else if o = 0x08 then x.ctrl
    else if o = 0x0C then x.read
    else if o = 0x10 then x.wb % 2 ^ 32
    else if o = 0x14 then x.wb / 2 ^ 32
    else if o = 0x18 then x.irq
    else if o = 0x1C then x.write
    else if o = 0x20 then x.dropped
    else 0
  else if offset = 0x1200 then d.wl.src % 2 ^ 32
  else if offset = 0x1204 then d.wl.src / 2 ^ 32
  else if offset = 0x1208 then d.wl.len
  else if offset = 0x120C then d.wl.target
  else if offset = 0x1210 then b01 d.wl.busy
  else if offset = 0x1214 then d.wl.status + 256 * (d.wl.moved % 2 ^ 24)
  else if 0x2000 ≤ offset ∧ offset < 0x2100 then
    (((d.safetyImage.find? (fun w => w.1 == offset)).map Prod.snd).getD 0)
      + (if offset = 0x200C ∨ offset = 0x2020 then d.imageAge else 0)
  else 0

/-- One pass of the SRAM scrubber (R73, R99, R101, R255, R423). -/
def CheckDie.sramScrub (d : CheckDie) (clusterFixed otherFixed : Nat) (bad : List SramRegion) : CheckDie :=
  let d1 := (d.bump Od.SRAM_CORRECTED 0 clusterFixed).bump Od.SRAM_SCRUB_CORRECTED 0 (clusterFixed + otherFixed)
  d1.forEach bad (fun d x =>
    let d2 := d.bump Od.SRAM_UNCORRECTABLE
    match x with
    | .cluster c frames opDesc =>
      let d3 := d2.forEach (frames.filterMap d2.runEntry) (fun d e =>
        (d.arithFail e c 0xFF opDesc 1 []).updEntry e.id (fun e =>
          if e.verdict.isSome then e else { e with sentinel := none, sentDone := true }))
      (d3.countAgainst c 0xFF).composeDue
    | .scratch c => ((d2.scratchFails c).countAgainst c 0xFF).composeDue
    | .composer => (d2.raise .checkDieUncorrectable).demandLow
    | .tollGate => (d2.raise .checkDieUncorrectable).demandLow
    | .ledger => (d2.raise .checkDieUncorrectable).demandLow
    | .ingress => d2
    | .tables => d2)

/-- One pass of the LPDDR5X scrubber (R422, R423); without inline ECC no word carries ECC. -/
def CheckDie.dramScrub (d : CheckDie) (fixed : Nat) (bad : List DramRegion) : CheckDie :=
  if !d.on Od.MEM_INLINE_ECC then d else
  let d1 := d.bump Od.DRAM_CORRECTED 0 fixed
  d1.forEach bad (fun d x =>
    let d2 := d.bump Od.DRAM_UNCORRECTABLE
    match x with
    | .weights s => d2.passDone (.weightPage s ((d2.audit.open_.filter (fun a => a.manifest == s)).map Audit.id))
    | .landing a => match d2.audit? a with
      | some a => d2.skipAudit a .resources
      | none => d2
    | .package s =>
      let y : Slot Package := { d2.package s with state := .invalid }
      if (d2.package s).image.isSome then { d2 with packages := d2.packages.set {} s y } else d2
    | .other => d2)

/-- The PCIe core and its windows are reset (R404): an OD message of a BAR0 window that is unanswered gets no answer. -/
def CheckDie.pcieReset (d : CheckDie) : CheckDie :=
  let d1 := { d with rings := [], wl := {}, time := { d.time with gtsHi := 0 }, ev := { d.ev with hostSince := {} }, windows := []
                     fab := { d.fab with backs := d.fab.backs.filter (fun k => k.path != 0) } }
  let d2 := d1.forEach (List.range 256) (fun d c => if d.on Od.INTAKE_ENABLE c then d.setIntake c false else d)
  (d2.skipAllAudits .resources).bump Od.PCIE_RESETS

end Sys2Proof.Machine
end

