-- ==== Sys2Proof/Machine/FieldTest.lean ====
section
/-! DEFINITION. On the check die: lantern-set and map images (R169, R170, R184, R185, R203), the log's timers (R324-R327),
signature batches (R331, R332), the margin test and the array re-test (R107, R333-R337), and cluster gating (R429). -/

namespace Sys2Proof.Machine

/-- A lantern set arrives for a stream (R170, R203). -/
def CheckDie.setWrite (d : CheckDie) (n : Nat) (x : LanternSet) (last : Bool) : CheckDie :=
  d.updLant n (fun l =>
    { l with set := { state := if last then .verifying else .loading, image := some x, emptied := l.set.vacant } })

/-- The checks of a lantern set end (R170): a VALID set is loaded to the source. -/
def CheckDie.setVerified (d : CheckDie) (n : Nat) : CheckDie :=
  let s := (d.lant n).set
  match s.state, s.image with
  | .verifying, some x =>
    let f := x.fault (d.cfg.get Od.EXPECTED_SET_DIGEST n).b
    let d1 := d.updLant n (fun l => { l with set :=
      { l.set with state := if f = 0 then .valid else .invalid, fault := f, emptied := l.set.emptied && f != 0 } })
    if f = 0 then d1.loadSet n else d1.raise .setInvalid (ctxStream n) 0 f
  | _, _ => d

/-- A map image arrives for a slot (R203). -/
def CheckDie.mapWrite (d : CheckDie) (k : Nat) (x : CompatMap) (last : Bool) : CheckDie :=
  let s : Slot CompatMap :=
    { state := if last then .verifying else .loading, image := some x, emptied := (d.mapSlot k).vacant }
  { d with maps := d.maps.set {} k s }

/-- The checks of a map end (R185); a VALID map ends the NO_MAP state of its streams. -/
def CheckDie.mapVerified (d : CheckDie) (k : Nat) : CheckDie :=
  let s := d.mapSlot k
  match s.state, s.image with
  | .verifying, some x =>
    let f := x.fault (d.cfg.get Od.MAP_EXPECTED_DIGEST k).b
    let y : Slot CompatMap :=
      { s with state := if f = 0 then .valid else .invalid, fault := f, emptied := s.emptied && f != 0 }
    let d1 := { d with maps := d.maps.set {} k y }
    if f = 0 then
      d1.forEach (allStreams.filter (fun n => d.get Od.MAP_SLOT n == k || d.get Od.FALLBACK_MAP_SLOT n == k))
        (fun d n => d.updStream n (fun x => { x with noMap := false }))
    else d1.raise .mapInvalid (ctxSlot k) 0 f
  | _, _ => d

/-- A frame or lantern judged with map slot `k` has no provisional verdict yet (R203). -/
def CheckDie.mapPending (d : CheckDie) (k : Nat) : Bool :=
  d.ledger.any (fun e => e.map == some k && e.verdict.isNone)

/-- A lantern of the stream has no provisional verdict yet (R203). -/
def CheckDie.setPending (d : CheckDie) (n : Nat) : Bool :=
  (d.lant n).outstanding.isSome || (d.lant n).inFlight
    || d.ledger.any (fun e => e.stream == n && e.call.isSome && e.verdict.isNone)

/-- The windows of the coalescing table that have reached their end close (R324). -/
def CheckDie.closeWindows (d : CheckDie) : CheckDie :=
  d.forEach (d.ev.windows.filter (fun w => decide (w.opened + windowNs ≤ d.gts))) CheckDie.closeWindow

/-- A waiting SAFETY record takes a freed entry of its stage: 0 collector, 1 corridor queue, 2 host ring (R326). -/
def CheckDie.admitStage (d : CheckDie) (stage : Nat) : CheckDie :=
  if stage = 0 then { d with ev := { d.ev with collector := d.ev.collector.admitWaiting collectorCap } }
  else if stage = 1 then { d with ev := { d.ev with corridor := d.ev.corridor.admitWaiting corridorCap } }
  else if stage = 2 then d.hostAdmit
  else d

/-- The OVERFLOW record of a stage is written when it is due and fits (R327). -/
def CheckDie.overflow (d : CheckDie) (stage : Nat) : CheckDie :=
  if stage = 0 then
    { d with ev := { d.ev with collector := d.ev.collector.writeOverflow collectorCap collectorKept 0 d.gts } }
  else if stage = 1 then
    { d with ev := { d.ev with corridor := d.ev.corridor.writeOverflow corridorCap corridorKept 1 d.gts } }
  else if stage = 2 then
    let x := d.ring 1
    if d.ev.hostSince.any && d.ev.hostWaiting == [] && x.on && d.busMaster && x.room 16 then
      { (d.ringPush 1 [(overflowRec 2 d.ev.hostSince d.gts).octets]).1 with ev := { d.ev with hostSince := {} } }
    else d
  else d

/-- SIG_BATCH_PERIOD_S has passed since the batch's first signature (R331). -/
def CheckDie.batchPeriod (d : CheckDie) : CheckDie :=
  if d.sig.pending ≠ [] ∧ d.sig.firstAt + d.get Od.SIG_BATCH_PERIOD_S * 1000000000 ≤ d.now then d.closeBatch else d

/-- The octets of a batch: the CBOR array [header, signatures, signature] (R331). -/
def batchOctets (sigs : List Signature) (dropped seq : Nat) (fwDigest : Octets) : Octets :=
  let header := cborMap [(1, cborUint 1), (2, cborBytes Config.deviceUid), (3, cborUint seq), (4, cborBytes fwDigest),
    (5, cborUint ((sigs.head?.map Signature.gts).getD 0)), (6, cborUint ((sigs.getLast?.map Signature.gts).getD 0)),
    (7, cborUint sigs.length), (8, cborUint dropped)]
  let body := cborArray (sigs.map Signature.octets)
  let signed := padTo 49856 (Config.slhSign (Config.shake256 64 (cborArray [header, body])))
  cborArray [header, body, cborBytes signed]

/-- Bytes of the signature store, 64 MiB (R332). -/
def sigStoreBytes : Nat := 67108864

/-- The oldest unread batches are discarded until `n` more bytes fit (R332). -/
def CheckDie.makeBatchRoom (n : Nat) : Nat → CheckDie → CheckDie
  | 0, d => d
  | k + 1, d =>
    match d.sig.batches with
    | [] => d
    | b :: rest =>
      if d.sig.bytes + n ≤ sigStoreBytes then d
      else CheckDie.makeBatchRoom n k
        (({ d with sig := { d.sig with batches := rest, bytes := d.sig.bytes - b.2.length,
                                       dropped := d.sig.dropped + 1 } } : CheckDie).raise .batchDropped 0 0 (b.1 % 65536))

/-- The engine has signed the oldest closed batch: it enters the store with its number; MSI-X 7 (R331, R332, R418). -/
def CheckDie.batchSigned (d : CheckDie) (seq : Nat) (fwDigest : Octets) : CheckDie :=
  match d.sig.closing with
  | [] => d
  | (sigs, dropped, _) :: rest =>
    let o := batchOctets sigs dropped seq fwDigest
    let d1 := CheckDie.makeBatchRoom o.length d.sig.batches.length d
    (({ d1 with sig := { d1.sig with closing := rest, batches := d1.sig.batches ++ [(seq, o)],
                                     bytes := d1.sig.bytes + o.length } } : CheckDie).raise .batchSigned 0 0
      (seq % 65536)).put (.msix 7)

/-- The batch with a number leaves the store: the response with its last byte has been sent (R365). -/
def CheckDie.batchTaken (d : CheckDie) (seq : Nat) : CheckDie :=
  let gone := ((d.sig.batches.filter (fun b => b.1 == seq)).map (fun b => b.2.length)).sum
  { d with sig := { d.sig with batches := d.sig.batches.filter (fun b => b.1 != seq), bytes := d.sig.bytes - gone } }

/-- A cluster that a margin test may take: available, no portion, in RUN, SAFE_HOLD or SERVICE (R334). -/
def CheckDie.marginReady (d : CheckDie) (c : Nat) : Bool :=
  d.up && d.state.serves && (d.device == .run || d.device == .safeHold || d.device == .service)
    && decide (c < 16) && (d.cluster c).available && (d.disp.hosted c).isEmpty

/-- No margin test and no re-test runs (R107, R333). -/
def CheckDie.marginIdle (d : CheckDie) : Bool := d.margin.state == 0 && d.margin.retest == []

/-- A deferral of a margin test: counted, and recorded when it is the first (R334). -/
def CheckDie.marginDeferred (d : CheckDie) (first : Bool) : CheckDie :=
  let d1 := d.bump Od.MARGIN_DEFERRED
  if first then d1.raise .marginDeferred else d1

/-- COMMAND MARGIN_TEST arrives (R335, step 1; R337): the cluster leaves service, an audit pass on it moves (R334); SETTLING. A
cluster that no longer qualifies, or a fence in this cycle, defers the test. -/
def CheckDie.marginStart (d : CheckDie) (c : Nat) : CheckDie :=
  if !d.marginIdle then d
  else if d.marginReady c && d.disp.fencedAt != some d.now then
    ({ (d.ungateCluster c).updCluster c (fun x => { x with out := true }) with
      margin := { d.margin with state := 1, cluster := c, startedAt := d.now, prevented := false, failedRows := [],
                                clusterFailed := false, extremes := [], aborted := false } } : CheckDie).movePass c
  else ({ d with margin := { d.margin with prevented := true } } : CheckDie).marginDeferred true

/-- The cluster runs at 972 MHz and 0.7125 V: RUNNING (R335, step 3). -/
def CheckDie.marginStress (d : CheckDie) : CheckDie :=
  if d.margin.state = 1 then { d with margin := { d.margin with state := 2 } } else d

/-- The vector set has run: RESTORING (R335, step 5; R336). -/
def CheckDie.marginVectors (d : CheckDie) (rows : List Nat) (clusterFailed : Bool) (extremes : List Int) : CheckDie :=
  if d.margin.state = 2 then
    { d with margin := { d.margin with state := 3, failedRows := rows.filter (fun r => decide (r < 96)),
                                       clusterFailed := clusterFailed, extremes := extremes } }
  else d

/-- The outcome of a test: 0 pass, 1 rows failed, 2 cluster failed, 3 aborted (key 42 of R329). -/
def Margin.outcome (m : Margin) : Nat :=
  if m.aborted then 3 else if m.clusterFailed then 2 else if m.failedRows ≠ [] then 1 else 0

/-- Twelve bytes with bit r for row r (key 41 of R329). -/
def rowBytes (rows : List Nat) : Octets := le 12 ((rows.map (fun r => 2 ^ r)).sum)

/-- The record and the MARGIN signature of a test of cluster `c` (R107, R336); an aborted test has had its record. -/
def CheckDie.marginRecord (d : CheckDie) (c outcome : Nat) (rows : List Nat) (extremes : List Int) : CheckDie :=
  let d1 := if outcome = 3 then d
    else d.raise (if outcome = 0 then .marginPass else .marginFail) 0 (instOf c 0xFF) outcome
  d1.sign { kind := 5, gts := d1.gts,
            keys := [(30, cborUint c), (40, cborArray ([cborUint 972000, cborUint 712] ++ extremes.map cborInt)),
                     (41, cborBytes (rowBytes rows)), (42, cborUint outcome)] }

/-- A unit fails a margin test (R336): fenced at once under FENCE, or at its second failure; else it takes a margin mark. -/
def CheckDie.marginFails (d : CheckDie) (c row : Nat) : CheckDie :=
  if d.get Od.MARGIN_POLICY = 1 || (d.cluster c).watch.any (fun w => w.row == row && w.margin) then d.fenceUnit c row
  else (d.updCluster c (fun x =>
    { x with watch := x.watch.filter (fun w => w.row != row) ++ [{ row := row, at_ := d.now, margin := true }] })).sendFlit
    (flitFence c row false)

/-- The margin marks of a cluster's units that passed are cleared (R336, item 2); where the whole cluster fails, no row of it has
passed. -/
def CheckDie.marginPasses (d : CheckDie) (c : Nat) (failed : List Nat) : CheckDie :=
  if failed.contains 0xFF then d
  else d.updCluster c (fun x => { x with watch := x.watch.filter (fun w => !w.margin || failed.contains w.row) })

/-- The next cluster of the array re-test goes out of service, first cleared of its portions (R107). -/
def CheckDie.retestNext (d : CheckDie) : CheckDie :=
  match d.margin.retest with
  | [] => d
  | c :: _ =>
    let d1 := { d.displace c with margin := { (d.displace c).margin with retestState := 1 + c * 16 } }
    ((d1.ungateCluster c).updCluster c (fun x => { x with out := true })).movePass c

/-- Nominal voltage is back (R335, step 6): the outcome is applied, the cluster returns, the dispatcher plans anew from the
primaries (R132), and a re-test that waited starts. -/
def CheckDie.marginRestored (d : CheckDie) : CheckDie :=
  if d.margin.state ≠ 3 then d
  else
    let m := d.margin
    let c := m.cluster
    let d1 := { d.updCluster c (fun x => { x with out := false, lastWork := d.now }) with
      margin := { m with state := 0, aborted := false, failedRows := [], clusterFailed := false } }
    let d2 := if m.aborted then d1
      else
        let failed := if m.clusterFailed then m.failedRows ++ [0xFF] else m.failedRows
        (d1.marginPasses c failed).forEach failed (fun d r => d.marginFails c r)
    ((d2.marginRecord c m.outcome m.failedRows m.extremes).planAnew).retestNext

/-- ARRAY_RETEST is written (R107): the named clusters in ascending order, after those already waiting; while a margin test
runs it waits. -/
def CheckDie.arrayRetest (d : CheckDie) (bitmap : Nat) : CheckDie :=
  let cs := allClusters.filter (fun c => bitmap.testBit c && !d.margin.retest.contains c)
  let running := d.margin.retest ≠ []
  let d1 := { d with margin := { d.margin with retest := d.margin.retest ++ cs } }
  if running || d.margin.state ≠ 0 then d1 else d1.retestNext

/-- One cluster's re-test ends (R107): RETEST_PASSED, its record and signature, and the next cluster. -/
def CheckDie.retestDone (d : CheckDie) (rows : List Nat) (clusterFailed : Bool) (extremes : List Int) : CheckDie :=
  match d.margin.retest with
  | [] => d
  | c :: rest =>
    if d.margin.state ≠ 0 then d
    else
      let pass := rows = [] ∧ !clusterFailed
      let d1 := { d.updCluster c (fun x => { x with out := false, retestPassed := decide pass, lastWork := d.now }) with
        margin := { d.margin with retest := rest, retestState := 2 } }
      (d1.marginRecord c (if clusterFailed then 2 else if rows ≠ [] then 1 else 0) rows extremes).retestNext

/-- Leaving SERVICE, or any reset, clears every RETEST_PASSED bit (R107). -/
def CheckDie.clearRetest (d : CheckDie) : CheckDie :=
  d.forEach allClusters (fun d c => d.updCluster c (fun x => { x with retestPassed := false }))

/-- A cluster may be gated: it holds no portion, audit pass, second-opinion run or margin test (R429). -/
def CheckDie.clusterIdle (d : CheckDie) (c : Nat) : Bool :=
  (d.disp.hosted c).isEmpty && !(d.cluster c).out && !(d.fab.requests.any (fun r => r.running))
    && !(d.audit.open_.any (fun a => a.cluster == some c))

/-- Clusters the dispatcher needs are ungated; POWER_STATE follows (R429). -/
def CheckDie.ungate (d : CheckDie) : CheckDie :=
  let d1 := d.forEach allClusters (fun d c =>
    if (d.cluster c).gated && !d.clusterIdle c then d.updCluster c (fun x => { x with gated := false, lastWork := d.now })
    else d)
  if d1.power = .gated ∧ !allClusters.any (fun c => (d1.cluster c).gated) then { d1 with power := .active } else d1

/-- The re-plan completes: clusters left without a portion start their idle time, needed ones are ungated (R128, R429). -/
def CheckDie.replanDone (d : CheckDie) : CheckDie :=
  let d1 := d.replanComplete
  let left := allClusters.filter (fun c => !(d.disp.hosted c).isEmpty && (d1.disp.hosted c).isEmpty)
  (d1.forEach left (fun d c => d.updCluster c (fun x => { x with lastWork := d.now }))).ungate

/-- A cluster idle for GATE_IDLE_US is clock-gated; POWER_STATE reads GATED while any is (R429). -/
def CheckDie.gateIdle (d : CheckDie) (c : Nat) : CheckDie :=
  if d.on Od.GATE_AUTO && decide (c < 16) && d.clusterIdle c
    && decide ((d.cluster c).lastWork + d.get Od.GATE_IDLE_US * 1000 ≤ d.now) && d.power.awake
  then { d.updCluster c (fun x => { x with gated := true }) with power := .gated }
  else d

end Sys2Proof.Machine
end

