-- ==== Sys2Proof/Machine/Fabric.lean ====
section
/-! DEFINITION. The fabric of peers: frames (R376, R377), neighbours and node IDs (R378-R380), routes (R381), the manager
(R382-R384), remote memory operations (R385-R388), peers' second opinions (R390, R391) and the OD relay (R393). -/

namespace Sys2Proof.Machine

/-- This device's UID, 16 bytes. -/
def ownUid : Octets := padTo 16 Config.deviceUid

/-- UIDs compared byte by byte from offset 0 (R380). -/
def uidLt : Octets → Octets → Bool
  | [], [] => false
  | [], _ :: _ => true
  | _ :: _, [] => false
  | a :: s, b :: t => if a = b then uidLt s t else decide (a < b)

/-- h(r) of R380. -/
def candidateId (r : Nat) : Nat := 1 + field (Config.shake256 2 (ownUid ++ [r % 256])) 0 2 % 4094

/-- The fabric kinds of R376. -/
def validKind (k : Nat) : Bool := [1, 2, 3, 0x10, 0x11, 0x12, 0x13, 0x20, 0x21].contains k

/-- The STATUS codes of a RESPONSE (R376); a reserved one makes the frame malformed (R5), which R377 discards (log entry 86). -/
def validStatus (kind status : Nat) : Bool := kind != 0x20 || [0, 1, 2, 3, 4, 5, 7].contains status

/-- A received frame, from the fabric header on, that passes every test of R377; none is discarded. 4,160 bytes of frame with MAC
header and FCS (R375) are 4,142 here. -/
def parseFrame (fcsOk : Bool) (b : Octets) : Option FabFrame :=
  let n := field b 18 2
  if fcsOk && field b 30 2 == crc16 (b.take 30) && field b 0 1 == 1 && validKind (field b 1 1) && validStatus (field b 1 1) (field b 17 1)
    && field b 3 1 / 4 == 0 && decide (n ≤ 4096 ∧ b.length ≤ 4142 ∧ 32 ≤ b.length)
    && (n == 0 || (decide (36 + n ≤ b.length) && field b (32 + n) 4 == crc32c ((b.drop 32).take n)))
  then some
    { kind := field b 1 1, hops := field b 2 1, sync := (field b 3 1).testBit 0, retransmit := (field b 3 1).testBit 1,
      dest := field b 4 2 % 4096, src := field b 6 2 % 4096, seq := field b 8 4, ack := field b 12 4,
      window := field b 16 1, status := field b 17 1, offset := field b 20 4, tag := field b 24 4,
      readLen := field b 28 2, payload := (b.drop 32).take n }
  else none

/-- A fabric port. -/
def Fabric.port (f : Fabric) (p : Nat) : FabPort := f.ports.get {} p

/-- A fabric port updated. -/
def CheckDie.updPort (d : CheckDie) (p : Nat) (f : FabPort → FabPort) : CheckDie :=
  { d with fab := { d.fab with ports := d.fab.ports.upd {} p f } }

/-- The ADJACENT ports, ascending. -/
def Fabric.adjacent (f : Fabric) : List Nat := (List.range 4).filter (fun p => (f.port p).adjacent)

/-- The LSA flags byte (R379). -/
def Lsa.flags (l : Lsa) : Nat :=
  b01 l.settled + 2 * b01 l.managerAllowed + 4 * b01 l.manager + 8 * b01 l.managed + 16 * b01 l.managerRequest
    + 32 * b01 l.locked

/-- The payload of an LSA (R379). -/
def Lsa.octets (l : Lsa) : Octets :=
  padTo 16 l.uid ++ le 2 l.node ++ le 1 l.deviceState ++ le 1 l.flags ++ le 4 l.seq ++ le 1 l.priority
    ++ le 1 (min 4 l.neighbours.length) ++ le 1 (min 16 l.packages.length) ++ [0]
    ++ padTo 16 (l.neighbours.flatMap (fun n => le 2 n.1 ++ le 1 n.2 ++ [0])) ++ le 4 0
    ++ padTo 64 (l.packages.flatMap (fun p => le 4 p))

/-- The DEVICE_STATE codes of an LSA, and its length (R211, R379). -/
def lsaFormed (b : Octets) : Bool := b.length == 112 && decide (field b 18 1 ≤ 6 ∧ field b 25 1 ≤ 4 ∧ field b 26 1 ≤ 16)

/-- A link control payload has the form its KIND has (R378, R379, R383); another is malformed, and discarded (R5, log entry 86). -/
def controlFormed (kind : Nat) (b : Octets) : Bool :=
  if kind = 1 then b.length == 40 && decide (field b 34 1 ≤ 3)
  else if kind = 2 then lsaFormed b
  else decide (8 ≤ b.length) && b.length == 8 + 20 * field b 0 2 && decide (1 ≤ field b 0 2 ∧ field b 0 2 ≤ 200)
    && decide (field b 2 1 < field b 3 1 ∧ field b 3 1 ≤ 17)

/-- An LSA read from a payload (R379). -/
def parseLsa (b : Octets) (now : Nat) : Lsa :=
  let fl := field b 19 1
  { uid := b.take 16, node := field b 16 2 % 4096, deviceState := field b 18 1, settled := fl.testBit 0,
    managerAllowed := fl.testBit 1, manager := fl.testBit 2, managed := fl.testBit 3, managerRequest := fl.testBit 4,
    locked := fl.testBit 5, seq := field b 20 4, priority := field b 24 1,
    neighbours := (List.range (min 4 (field b 25 1))).map (fun i => (field b (28 + 4 * i) 2 % 4096, field b (30 + 4 * i) 1)),
    packages := (List.range (min 16 (field b 26 1))).map (fun i => field b (48 + 4 * i) 4), at_ := now }

/-- PACKAGE_IDs of the VALID slots. -/
def CheckDie.validPackageIds (d : CheckDie) : List Nat :=
  (List.range 16).filterMap (fun s => ((d.package s).ok).map Package.packageId)

/-- This node's LSA as its content stands. -/
def CheckDie.ownLsa (d : CheckDie) : Lsa :=
  { uid := ownUid, node := d.fab.node, deviceState := d.device.code, settled := d.fab.settled,
    managerAllowed := d.fab.allowed, manager := d.fab.manager, managed := d.fab.managed,
    managerRequest := d.fab.managerRequest, locked := d.time.servo == .locked, seq := d.fab.lsaSeq,
    priority := d.fab.priority, neighbours := d.fab.adjacent.map (fun p => ((d.fab.port p).heardNode, p)),
    packages := d.validPackageIds, at_ := d.now }

/-- A link control payload sent on every ADJACENT port but one. -/
def CheckDie.flood (d : CheckDie) (kind : Nat) (payload : Octets) (but : Nat := 4) : CheckDie :=
  d.forEach (d.fab.adjacent.filter (fun p => p != but)) (fun d p => d.fabControl p kind payload)

/-- This node floods its LSA (R379). -/
def CheckDie.floodOwn (d : CheckDie) : CheckDie :=
  let d1 := { d with fab := { d.fab with
    lsaSeq := (d.fab.lsaSeq + 1) % 2 ^ 32, lsaAt := d.now, lastLsa := some { d.ownLsa with seq := 0, at_ := 0 } } }
  d1.flood 2 d1.ownLsa.octets

/-- The fabric runs on a port (R378): enabled, link up, awake. -/
def CheckDie.fabOn (d : CheckDie) (p : Nat) : Bool :=
  d.up && d.on Od.FABRIC_ENABLE && d.power.awake && d.fab.fpEnable.testBit p && (d.fab.port p).linkUp && decide (p < 4)

/-- A LINK_HELLO sent on a port (R378). -/
def CheckDie.sendHello (d : CheckDie) (p : Nat) : CheckDie :=
  let x := d.fab.port p
  (d.updPort p (fun x => { x with helloAt := d.now })).fabControl p 1
    (ownUid ++ padTo 16 x.heard ++ le 2 d.fab.node ++ le 1 p ++ le 1 d.ownLsa.flags ++ le 4 0)

/-- The hello period of a port ends (R378). -/
def CheckDie.helloPeriod (d : CheckDie) (p : Nat) : CheckDie :=
  if d.fabOn p && decide ((d.fab.port p).helloAt + 1000000 ≤ d.now) then d.sendHello p else d

/-- A port's link comes up (R378). -/
def CheckDie.portUp (d : CheckDie) (p : Nat) : CheckDie :=
  if p < 4 then
    let d1 := d.updPort p (fun _ => { linkUp := true })
    if d1.fabOn p then d1.sendHello p else d1
  else d

/-- The candidate contradicted by an LSA received within the round (R380, item 3). -/
def CheckDie.contradictedNow (d : CheckDie) : Bool :=
  d.fab.db.any (fun l => decide (d.fab.roundAt ≤ l.at_) && l.node == d.fab.node && l.uid != ownUid)

/-- A claim begins, or begins again, with a candidate (R380). -/
def CheckDie.claim (d : CheckDie) (node round : Nat) : CheckDie :=
  let d1 := { d with fab := { d.fab with
    state := .claiming, node := node, round := round, settled := false, roundAt := d.now, unresolved := 0,
    contradicted := false } }
  d1.floodOwn

/-- The first adjacency starts the claim (R380, item 1). -/
def CheckDie.firstClaim (d : CheckDie) : CheckDie :=
  if d.fab.state = .down then
    d.claim (if d.fab.nodeConfig ≠ 0 then d.fab.nodeConfig else candidateId 0) 0
  else d.floodOwn

/-- A collision on the candidate or ID (R380, item 2): the lower UID keeps it. -/
def CheckDie.collide (d : CheckDie) (l : Lsa) : CheckDie :=
  if d.fab.node = 0 || l.node != d.fab.node || l.uid == ownUid || d.fab.managed || d.fab.manager || d.fab.state == .holding then d
  else if uidLt ownUid l.uid then { d with fab := { d.fab with contradicted := true } }
  else
    let again (d : CheckDie) (node round : Nat) : CheckDie :=
      if d.fab.settled then d.claim node round
      else
        let d1 := { d with fab := { d.fab with node := node, round := round } }
        ({ d1 with fab := { d1.fab with contradicted := d1.contradictedNow } } : CheckDie).floodOwn
    if d.fab.nodeConfig ≠ 0 then (again d 0 d.fab.round).raise .nodeCollision 0 0 d.fab.node
    else again d (candidateId (d.fab.round + 1)) (d.fab.round + 1)

/-- The nodes that routing counts: SETTLED, with an ID no other LSA or this node bears (R381). -/
def CheckDie.routable (d : CheckDie) (own : Lsa) : List Lsa :=
  let all := own :: d.fab.db
  all.filter (fun l => l.settled && l.node != 0 && (all.filter (fun m => m.node == l.node)).length == 1)

/-- One breadth-first step: the frontier (node, port) in port order, the routes found so far, and the next hop count. -/
def routeStep (nodes : List Lsa) (hop : Nat) (frontier : List (Nat × Nat)) (found : List (Nat × Nat × Nat)) :
    List (Nat × Nat) × List (Nat × Nat × Nat) :=
  frontier.foldl (fun acc f =>
    match nodes.find? (fun l => l.node == f.1) with
    | none => acc
    | some l => l.neighbours.foldl (fun acc n =>
        if acc.2.any (fun r => r.1 == n.1) || !(nodes.any (fun m => m.node == n.1)) then acc
        else (acc.1 ++ [(n.1, f.2)], acc.2 ++ [(n.1, f.2, hop)])) acc) ([], found)

/-- Shortest routes by fuel, from hop `h` on (R381). -/
def routeWalk (nodes : List Lsa) : Nat → Nat → List (Nat × Nat) → List (Nat × Nat × Nat) → List (Nat × Nat × Nat)
  | 0, _, _, found => found
  | k + 1, h, frontier, found =>
    if frontier = [] then found
    else
      let a := routeStep nodes h frontier found
      routeWalk nodes k (h + 1) a.1 a.2

/-- The routes from a node with these neighbours (node, port), at most 32 links long; ties take the lowest port (R381). -/
def routesFrom (nodes : List Lsa) (self : Nat) (neighbours : List (Nat × Nat)) : List (Nat × Nat × Nat) :=
  let first := ((List.range 4).flatMap (fun p => neighbours.filter (fun n => n.2 == p))).filter
    (fun n => n.1 != self && nodes.any (fun m => m.node == n.1))
  let one := first.foldl (fun l n => if l.any (fun r => r.1 == n.1) then l else l ++ [(n.1, n.2, 1)]) [(self, 0xFE, 0)]
  (routeWalk nodes 31 2 ((one.drop 1).map (fun r => (r.1, r.2.1))) one).drop 1

/-- A peer's partner entry, the lowest free one in 0x300–0xFBF (R381). -/
def addPartner (node : Nat) (ps : List (Nat × Nat × Option Nat)) : List (Nat × Nat × Option Nat) :=
  match (List.range 3264).find? (fun i => !(ps.any (fun p => p.1 == 0x300 + i))) with
  | some i => ps ++ [(0x300 + i, node, none)]
  | none => ps

/-- The route table replaced: partner entries follow reachability (R381). -/
def CheckDie.setRoutes (d : CheckDie) (r : List (Nat × Nat × Nat)) : CheckDie :=
  let seen := d.fab.partners.map (fun p =>
    if r.any (fun x => x.1 == p.2.1) then (p.1, p.2.1, none) else (p.1, p.2.1, some (p.2.2.getD d.now)))
  let fresh := (r.map Prod.fst).filter (fun n => !(seen.any (fun p => p.2.1 == n)))
  { d with fab := { d.fab with routes := r, partners := fresh.foldl (fun ps n => addPartner n ps) seen } }

/-- The node's LSA by node ID. -/
def Fabric.lsaOf (f : Fabric) (node : Nat) : Option Lsa := f.db.find? (fun l => l.node == node)

/-- The better of two manager candidates: lower PRIORITY, then lower UID (R382). -/
def betterManager (a b : Lsa) : Lsa :=
  if b.priority < a.priority ∨ (b.priority = a.priority ∧ uidLt b.uid a.uid) then b else a

/-- The election of R382: the fabric is managed, and the best reachable node with MANAGER_ALLOWED is its manager. -/
def CheckDie.elect (d : CheckDie) : CheckDie :=
  let own := d.ownLsa
  let managed := d.fab.modeManaged || own.managerRequest || own.manager || own.managed
    || d.fab.db.any (fun l => l.managerRequest || l.manager || l.managed)
  if !managed || d.fab.state == .holding || d.fab.state == .down then d
  else
    let able := (own :: d.fab.db).filter (fun l => l.managerAllowed && (l.uid == ownUid || d.fab.reachable l.node))
    match able with
    | [] =>
      let d1 := { d with fab := { d.fab with
        manager := false, managed := false, managerUid := [], noManagerNoted := true,
        state := if d.fab.settled then .autonomous else .claiming } }
      if d.fab.noManagerNoted then d1 else d1.raise .managerLost
    | a :: rest =>
      let m := rest.foldl betterManager a
      let mine := m.uid == ownUid
      let d1 := { d with fab := { d.fab with
        manager := mine, managed := !mine, managerUid := m.uid, noManagerNoted := false,
        state := if mine then .manager else .worker } }
      if d.fab.manager = mine ∧ d.fab.managed = !mine then d1 else d1.floodOwn

/-- Bytes 0–3 of a route table for each of the 4,096 IDs (R381). -/
def routeBytes (self : Nat) (r : List (Nat × Nat × Nat)) : Octets :=
  (List.range 4096).flatMap (fun i =>
    if i = self then [0xFE, 0, 0, 0]
    else match r.find? (fun x => x.1 == i) with
      | some (_, p, h) => [p % 256, h % 256, 0, 0]
      | none => [0xFF, 0, 0, 0])

/-- Window 4 of this node starts here in its memory; window 3 starts at 0 (R388). -/
def managerBase : Nat := 0x800000
/-- MANAGER_UID of this node, as a number. -/
def Fabric.managerWord (f : Fabric) : Nat := ofLe (f.mem.read managerBase 8)
/-- Bytes 0–7 of a UID as a number. -/
def uidWord (u : Octets) : Nat := field u 0 8

/-- Nodes inserted by ascending UID. -/
def insertUid (x : Octets × Nat) : List (Octets × Nat) → List (Octets × Nat)
  | [] => [x]
  | y :: t => if uidLt x.1 y.1 then x :: y :: t else y :: insertUid x t

/-- The IDs of an assignment (R383, item 2): settled unique IDs are kept, the lower UID keeps a shared one, the rest take the
lowest free ones. -/
def assignIds (ls : List (Octets × Nat)) : List (Octets × Nat) :=
  let sorted := ls.foldl (fun l x => insertUid x l) []
  let kept := sorted.foldl (fun acc x =>
    if x.2 = 0 ∨ acc.any (fun y => y.2 == x.2) then acc else acc ++ [x]) ([] : List (Octets × Nat))
  (sorted.foldl (fun (acc : List (Octets × Nat) × List Nat) x =>
    if kept.contains x then (acc.1 ++ [x], acc.2)
    else match (List.range 4094).find? (fun i => !acc.2.contains (i + 1)) with
      | some i => (acc.1 ++ [(x.1, i + 1)], (i + 1) :: acc.2)
      | none => (acc.1 ++ [(x.1, 0)], acc.2)) ([], kept.map Prod.snd)).1

/-- The ASSIGN parts of an assignment, 200 entries to a part (R383). -/
def assignParts (ids : List (Octets × Nat)) (mgrSeq : Nat) : List Octets :=
  let parts := ceilDiv ids.length 200
  (List.range parts).map (fun k =>
    let part := (ids.drop (k * 200)).take 200
    le 2 part.length ++ le 1 k ++ le 1 parts ++ le 4 mgrSeq ++ part.flatMap (fun x => padTo 16 x.1 ++ le 2 x.2 ++ le 2 0))

/-- The manager's work after a change (R383): claims, ASSIGN, route tables, commits and the reading of APPLIED_SEQ. -/
def CheckDie.managerWork (d : CheckDie) : CheckDie :=
  if d.fab.state ≠ .manager ∨ d.now < d.fab.backoffUntil then d
  else
    let workers := d.fab.routes.map Prod.fst
    let word := uidWord ownUid
    let unclaimed := workers.filter (fun n => d.fab.words.get 0 n != word)
    let d1 := d.forEach unclaimed (fun d n =>
      d.fabOp n opCmpSwap 4 0 (le 8 (d.fab.words.get (d.fab.managerWord) n) ++ le 8 word) 0 5 n)
    let seq := (d1.fab.mgrSeq + 1) % 2 ^ 32
    let ids := assignIds ((ownUid, d1.fab.node) ::
      (d1.fab.db.filter (fun l => !l.settled || d1.fab.reachable l.node)).map (fun l =>
        (l.uid, if l.settled then l.node else 0)))
    let mine := ((ids.find? (fun x => x.1 == ownUid)).map Prod.snd).getD d1.fab.node
    let d2 := { d1 with fab := { d1.fab with mgrSeq := seq, node := mine, settled := true } }
    let d3 := d2.forEach (assignParts ids seq) (fun d b => d.flood 3 b)
    let nodes := d3.routable d3.ownLsa
    d3.forEach workers (fun d n =>
      match d.fab.lsaOf n with
      | none => d
      | some l =>
        let table := routeBytes n (routesFrom nodes n l.neighbours)
        let d4 := d.forEach (List.range 4) (fun d k =>
          d.fabOp n opPut 4 (64 + k * 4096) ((table.drop (k * 4096)).take 4096) 0 6 n)
        let d5 := d4.fabOp n opPut 4 16448 (le 4 seq ++ le 4 (crc32c table) ++ le 8 0) 0 6 n
        d5.fabOp n opGet 4 8 [] 4 10 n)

/-- The routes are computed (R381): own ones, unless a manager's are in force; then the election and the manager's work. -/
def CheckDie.routesDone (d : CheckDie) : CheckDie :=
  let own := d.ownLsa
  let keeps := (d.fab.state == .worker && d.fab.pushed) || d.fab.state == .holding
  let d1 := if keeps then d
    else d.setRoutes (routesFrom (d.routable own) d.fab.node
      ((d.fab.adjacent.map (fun p => ((d.fab.port p).heardNode, p)))))
  d1.elect.managerWork

/-- A hello arrives on a port (R378). -/
def CheckDie.hello (d : CheckDie) (p : Nat) (b : Octets) : CheckDie :=
  let was := (d.fab.port p).adjacent
  let adj := (b.drop 16).take 16 == ownUid
  let d1 := d.updPort p (fun x =>
    { x with heard := b.take 16, heardNode := field b 32 2 % 4096, heardPort := field b 34 1, heardAt := d.now,
             adjacent := adj })
  if adj && !was then d1.firstClaim
  else if (was && !adj) || (adj && (d.fab.port p).heardNode != (d1.fab.port p).heardNode) then d1.floodOwn
  else d1

/-- No valid hello for more than 3 ms: the port is LINK_UP again (R378). -/
def CheckDie.adjacencyLost (d : CheckDie) (p : Nat) : CheckDie :=
  if (d.fab.port p).adjacent && decide ((d.fab.port p).heardAt + 3000000 < d.now) then
    (d.updPort p (fun x => { x with adjacent := false })).floodOwn
  else d

/-- An LSA arrives on a port (R379, R380). -/
def CheckDie.lsa (d : CheckDie) (p : Nat) (b : Octets) : CheckDie :=
  let l := parseLsa b d.now
  if l.uid = ownUid then
    if d.fab.lsaSeq ≤ l.seq then ({ d with fab := { d.fab with lsaSeq := l.seq } } : CheckDie).floodOwn else d
  else
    let newer := match d.fab.db.find? (fun (x : Lsa) => x.uid == l.uid) with
      | some x => decide (x.seq < l.seq)
      | none => true
    if newer then
      let d1 := { d with fab := { d.fab with db := d.fab.db.filter (fun (x : Lsa) => x.uid != l.uid) ++ [l] } }
      ((d1.flood 2 b p).collide l).elect
    else d

/-- An own LSA is due when its content has changed, and at least every 1 s (R379). A change of the fabric's own floods at once;
one of the device state, the servo or the packages floods here. -/
def CheckDie.lsaRefresh (d : CheckDie) : CheckDie :=
  if d.fab.state ≠ .down ∧ (d.fab.lsaAt + 1000000000 ≤ d.now ∨ d.fab.lastLsa ≠ some { d.ownLsa with seq := 0, at_ := 0 })
  then d.floodOwn else d

/-- An LSA not refreshed for more than 3 s is removed (R379). -/
def CheckDie.lsaExpiry (d : CheckDie) (uid : Octets) : CheckDie :=
  { d with fab := { d.fab with db := d.fab.db.filter (fun l => l.uid != uid || decide (d.now ≤ l.at_ + 3000000000)) } }

/-- A claim round ends (R380, items 3 and 4). -/
def CheckDie.claimRound (d : CheckDie) : CheckDie :=
  if d.fab.state ≠ .claiming ∨ d.now < d.fab.roundAt + 100000000 then d
  else
    let next := { d with fab := { d.fab with roundAt := d.fab.roundAt + 100000000, contradicted := false } }
    if d.fab.node ≠ 0 ∧ !d.fab.contradicted then
      ({ next with fab := { next.fab with settled := true, unresolved := 0, state := .autonomous } } : CheckDie).floodOwn
    else
      let n := d.fab.unresolved + 1
      let d1 := ({ next with fab := { next.fab with unresolved := n } } : CheckDie).bump Od.CLAIM_ROUNDS_UNRESOLVED
      if 3 ≤ n && !d1.fab.managerRequest
      then (({ d1 with fab := { d1.fab with managerRequest := true } } : CheckDie).floodOwn).elect
      else d1

/-- A port goes down (R381): its routes are unreachable at once. -/
def CheckDie.portDown (d : CheckDie) (p : Nat) : CheckDie :=
  let was := (d.fab.port p).adjacent
  let d1 := d.updPort p (fun _ => {})
  let d2 := d1.setRoutes (d1.fab.routes.filter (fun r => r.2.1 != p))
  if was then d2.floodOwn else d2

/-- A peer absent for 60 s loses its partner entry (R381). -/
def CheckDie.peerAbsent (d : CheckDie) (node : Nat) : CheckDie :=
  { d with fab := { d.fab with partners := d.fab.partners.filter (fun p =>
      !(p.2.1 == node && (match p.2.2 with
        | some t => decide (t + 60000000000 ≤ d.now)
        | none => false))) } }

/-- An ASSIGN part arrives (R383, item 2): passed on, and this node takes the ID listed for its UID. -/
def CheckDie.assign (d : CheckDie) (p : Nat) (b : Octets) : CheckDie :=
  let seq := field b 4 4
  let part := field b 2 1
  let new := decide (d.fab.assignSeq < seq)
  if d.fab.state = .manager ∨ seq < d.fab.assignSeq ∨ (!new ∧ d.fab.assignParts.contains part) then d
  else
    let d1 := { d with fab := { d.fab with
      assignSeq := seq, assignParts := if new then [part] else d.fab.assignParts ++ [part] } }
    let d2 := d1.flood 3 b p
    let entries := (List.range (field b 0 2)).map (fun i => ((b.drop (8 + 20 * i)).take 16, field b (24 + 20 * i) 2 % 4096))
    match entries.find? (fun e => e.1 == ownUid) with
    | some (_, id) =>
      if d2.fab.node = id ∧ d2.fab.settled then d2
      else ({ d2 with fab := { d2.fab with node := id, settled := true } } : CheckDie).floodOwn
    | none => d2

/-- The manager is unreachable, or no LSA of it has come for more than 2.5 s (R384): HOLDING. -/
def CheckDie.managerLost (d : CheckDie) : CheckDie :=
  if d.fab.state ≠ .worker then d
  else
    let silent := match d.fab.db.find? (fun l => l.uid == d.fab.managerUid) with
      | some l => !d.fab.reachable l.node || decide (l.at_ + 2500000000 < d.now)
      | none => true
    if silent then { d with fab := { d.fab with state := .holding, holdingAt := d.now } } else d

/-- HOLDING ends after 2 s (R384): the election, or autonomy with own routes. -/
def CheckDie.holdingEnd (d : CheckDie) : CheckDie :=
  if d.fab.state ≠ .holding ∨ d.now < d.fab.holdingAt + 2000000000 then d
  else
    let gone := d.fab.managerUid
    let d1 := { d with fab := { d.fab with
      state := .worker, managed := false, pushed := false, managerUid := [],
      db := d.fab.db.filter (fun l => l.uid != gone || decide (d.now ≤ l.at_ + 2500000000)) } }
    let able := d1.fab.allowed || d1.fab.db.any (fun l => l.managerAllowed && d1.fab.reachable l.node)
    if able then d1.elect
    else
      (({ d1 with fab := { d1.fab with
        state := .autonomous, settled := true, mem := d1.fab.mem.write managerBase (le 8 0) } } : CheckDie).floodOwn).routesDone

/-- A manager that lost a claim goes on claiming after 1 s (R383). -/
def CheckDie.backoffEnd (d : CheckDie) : CheckDie :=
  if d.fab.backoffUntil ≠ 0 ∧ d.fab.backoffUntil ≤ d.now then
    ({ d with fab := { d.fab with backoffUntil := 0 } } : CheckDie).elect.managerWork
  else d

/-- The settings that take effect at FABRIC_RESTART or boot (R402). -/
def CheckDie.fabLatch (d : CheckDie) : CheckDie :=
  { d with fab := { d.fab with
    fpEnable := d.get Od.FP_ENABLE, ethertype := d.get Od.FABRIC_ETHERTYPE, nodeConfig := d.get Od.NODE_ID_CONFIG,
    modeManaged := d.get Od.FABRIC_MODE == 1, allowed := d.on Od.MANAGER_ALLOWED,
    priority := d.get Od.MANAGER_PRIORITY } }

/-- A pair breaks (R386, item 5): its operations complete UNREACHABLE; mirror entries among them are lost (R392). -/
def CheckDie.breakPair (d : CheckDie) (node : Nat) : CheckDie :=
  let gone := d.fab.ops.filter (fun o => o.node == node)
  let d1 := d.updPair node (fun p => { p with next := 0, unacked := [], waiting := [], sends := 0 })
  let d2 := { d1 with fab := { d1.fab with ops := d1.fab.ops.filter (fun o => o.node != node) } }
  let d3 := d2.forEach (gone.filter (fun o => o.purpose == 1)) (fun d o => d.bump Od.MIRROR_LOST o.item)
  (d3.forEach (gone.filter (fun o => o.purpose == 3 || o.purpose == 4)) (fun d o =>
    (d.bump Od.MIRROR_LOST o.item (d.fab.mirror o.item).waiting.length).updMirror o.item (fun m =>
      { m with asked := false, waiting := [] })))

/-- A broken pair is counted and recorded (R386). -/
def CheckDie.pairBroken (d : CheckDie) (node : Nat) : CheckDie :=
  ((d.breakPair node).bump Od.PAIRS_BROKEN).raise .pairBroken (ctxPartner
    (((d.fab.partners.find? (fun p => p.2.1 == node)).map Prod.fst).getD 0))

/-- FABRIC_RESTART (R384): the ID is dropped unless configured, every pair breaks, and the node claims again. -/
def CheckDie.fabRestart (d : CheckDie) : CheckDie :=
  let d1 := d.fabLatch
  let nodes := d1.fab.pairs.map Prod.fst
  let d2 := d1.forEach nodes (fun d n => d.pairBroken n)
  let d3 := { d2 with fab := { d2.fab with
    settled := false, manager := false, managed := false, managerRequest := false, managerUid := [], pushed := false,
    routes := [], state := .down, node := if d2.fab.node = d2.fab.nodeConfig then d2.fab.node else 0, words := [], pairs := [] } }
  let d4 := d3.setRoutes []
  if d4.fab.adjacent ≠ [] then d4.firstClaim else d4

/-- ACK of a frame or of a standalone ACK (R386): everything up to it leaves; waiting frames follow. -/
def CheckDie.fabAck (d : CheckDie) (node ack : Nat) : CheckDie :=
  let p := d.fab.pair node
  let left := p.unacked.filter (fun f => decide (ack < f.seq))
  if left.length = p.unacked.length then d
  else
    let d1 := d.updPair node (fun p => { p with unacked := left, waiting := [], sends := b01 (left != []), timerAt := d.now })
    d1.forEach p.waiting (fun d f => d.fabSend f)

/-- A standalone ACK (R386, item 3). -/
def CheckDie.fabAckNow (d : CheckDie) (node : Nat) : CheckDie :=
  let p := d.fab.pair node
  (d.updPair node (fun p => { p with ackOwed := none })).fabEmit
    { kind := 0x21, dest := node, src := d.fab.node, ack := p.expected - 1 }

/-- RESPONSE statuses (R376). -/
def stOK : Nat := 0
/-- NO_WINDOW. -/
def stNO_WINDOW : Nat := 1
/-- BOUNDS. -/
def stBOUNDS : Nat := 2
/-- DENIED. -/
def stDENIED : Nat := 3
/-- ALIGN. -/
def stALIGN : Nat := 4
/-- BUSY. -/
def stBUSY : Nat := 5
/-- MALFORMED. -/
def stMALFORMED : Nat := 7

/-- Size of a memory window (R388). -/
def windowSize (w : Nat) : Nat := if w = 3 then 8388608 else 32768
/-- Start of a memory window in this node's memory. -/
def windowBase (w : Nat) : Nat := if w = 3 then 0 else managerBase

/-- The bytes that an operation touches (R385). -/
def FabFrame.span (f : FabFrame) : Nat :=
  if f.kind = opPut then f.payload.length else if f.kind = opGet then f.readLen else 8

/-- The operands of an operation have the lengths of R385. -/
def FabFrame.formed (f : FabFrame) : Bool :=
  if f.kind = opPut then f.payload != []
  else if f.kind = opGet then decide (1 ≤ f.readLen ∧ f.readLen ≤ 4096)
  else if f.kind = opFetchAdd then f.payload.length == 8
  else f.payload.length == 16

/-- The source may use the operation on the memory window (R388): every byte it touches lies in a sub-ring of its own. -/
def CheckDie.admitted (d : CheckDie) (f : FabFrame) : Bool :=
  if f.window = 3 then
    let k := f.offset / 131072
    decide ((f.offset + f.span - 1) / 131072 = k) && d.get Od.MIRROR_SOURCE k == f.src && f.src != 0
  else
    let lsa := d.fab.lsaOf f.src
    let named := (lsa.map (fun l => uidWord l.uid == d.fab.managerWord)).getD false
    if f.kind = opCmpSwap then f.offset == 0 && (lsa.map Lsa.manager).getD false
    else if f.kind = opGet then f.offset == 8 && named
    else if f.kind = opPut then decide (64 ≤ f.offset) && named
    else false

/-- Place n of sub-ring `k` (R392, R413): the entry whose MIRROR_SEQ is n is copied to host ring 2, and a gap before it counted; a
place that holds another entry was lost on its way. -/
def CheckDie.mirrorEntry (d : CheckDie) (k n : Nat) : CheckDie :=
  let e := d.fab.mem.read (k * 131072 + 64 + (n % 1024) * 64) 64
  if field e 0 4 ≠ n % 2 ^ 32 then d
  else
    let d1 := if d.fab.mirrorNext.get 0 k = n then d else (d.bump Od.MIRROR_GAPS).raise .mirrorGap
    ({ d1 with fab := { d1.fab with mirrorNext := d1.fab.mirrorNext.set 0 k (n + 1) } } : CheckDie).ringPush 2 [e] |>.1

/-- Entries of a sub-ring below WRITE_COUNT are copied (R392); a WRITE_COUNT below the read position is a restart. -/
def CheckDie.mirrorTake (d : CheckDie) (k : Nat) : CheckDie :=
  let wc := ofLe (d.fab.mem.read (k * 131072) 8)
  let pos := d.fab.mirrorRead.get 0 k
  let d0 := if wc < pos then { d with fab := { d.fab with mirrorNext := d.fab.mirrorNext.set 0 k 0 } } else d
  let start := if wc < pos then 0 else if 1024 < wc - pos then wc - 1024 else pos
  let d1 := d0.forEach (List.range (wc - start)) (fun d i => d.mirrorEntry k (start + i))
  { d1 with fab := { d1.fab with mirrorRead := d1.fab.mirrorRead.set 0 k wc } }

/-- ROUTE_COMMIT has landed (R383, item 3): with a valid CRC the pushed table applies and APPLIED_SEQ is written. -/
def CheckDie.routeCommit (d : CheckDie) : CheckDie :=
  let table := d.fab.mem.read (managerBase + 64) 16384
  let c := d.fab.mem.read (managerBase + 16448) 8
  if field c 4 4 = crc32c table then
    let r := (List.range 4096).filterMap (fun i =>
      let p := field table (4 * i) 1
      if p < 4 then some (i, p, field table (4 * i + 1) 1) else none)
    let d1 := d.setRoutes r
    { d1 with fab := { d1.fab with pushed := true, mem := d1.fab.mem.write (managerBase + 8) (c.take 4) } }
  else d

/-- A peer's answer to a second-opinion request (R391). -/
def CheckDie.soAnswer (d : CheckDie) (node id status : Nat) (o : SentOut) (package : Nat) : CheckDie :=
  let b := le 4 id ++ le 1 status ++ [0] ++ le 2 o.cls ++ le 2 o.score ++ le 2 o.anomaly ++ le 4 package ++ le 8 d.gts
    ++ le 8 0
  let d1 := { d with fab := { d.fab with requests := d.fab.requests.filter (fun (r : PeerRequest) => !(r.node == node && r.id == id)) } }
  (d1.bump (if status = 0 then Od.SO_SERVED else Od.SO_DECLINED)).fabOp node opPut 2 id b 0 8 id

/-- An answer without an output. -/
def CheckDie.soDecline (d : CheckDie) (node id status package : Nat) : CheckDie :=
  d.soAnswer node id status ⟨0xFFFF, 0, 0⟩ package

/-- A cluster qualifies for a rerun: it holds the package already, or holds no portion (R391). -/
def CheckDie.soCluster (d : CheckDie) (package : Nat) : Bool :=
  let slots := (List.range 16).filter (fun s => ((d.package s).ok).any (fun p => p.packageId == package))
  allClusters.any (fun c => (d.cluster c).available
    && ((d.disp.hosted c).isEmpty
      || d.disp.placements.any (fun x => slots.contains x.slot && (x.first ++ x.second).any (fun q => q.cluster == c))))

/-- A request is complete: the rerun starts, or the peer declines (R391). -/
def CheckDie.soRun (d : CheckDie) (node id : Nat) : CheckDie :=
  match d.fab.requests.find? (fun r => r.node == node && r.id == id) with
  | none => d
  | some r =>
    if !(d.validPackageIds.contains r.package) then d.soDecline node id 1 r.package
    else if !d.soCluster r.package then d.soDecline node id 2 r.package
    else { d with fab := { d.fab with requests := d.fab.requests.map (fun (x : PeerRequest) =>
      if x.node = node ∧ x.id = id then { x with running := true } else x) } }

/-- One chunk of a request arrives in window 1 (R390, R391). -/
def CheckDie.soChunk (d : CheckDie) (node : Nat) (b : Octets) : CheckDie :=
  let id := field b 0 4
  let chunks := field b 5 1
  let len := field b 6 2
  let package := field b 8 4
  let body := b.drop 32
  let bad := !(decide (1 ≤ chunks ∧ chunks ≤ 5 ∧ 64 ≤ len ∧ len ≤ 16384)) || chunks != ceilDiv len 4064 || !validFormat (field b 12 1)
  match d.fab.requests.find? (fun r => r.node == node && r.id == id) with
  | none =>
    if 64 ≤ d.fab.requests.length then d.soDecline node id 2 package
    else if bad || field b 4 1 != 0 || body.length != min 4064 len then d.soDecline node id 5 package
    else
      let r : PeerRequest :=
        { node := node, id := id, chunks := chunks, got := [body], length := len, package := package,
          format := field b 12 1, budget := field b 16 4, at_ := d.now }
      let d1 := { d with fab := { d.fab with requests := d.fab.requests ++ [r] } }
      if chunks = 1 then d1.soRun node id else d1
  | some r =>
    let k := r.got.length
    if bad || field b 4 1 != k || chunks != r.chunks || len != r.length || package != r.package
      || field b 12 1 != r.format || field b 16 4 != r.budget || body.length != min 4064 (len - k * 4064)
    then d.soDecline node id 5 package
    else
      let d1 := { d with fab := { d.fab with requests := d.fab.requests.map (fun (x : PeerRequest) =>
        if x.node = node ∧ x.id = id then { x with got := x.got ++ [body] } else x) } }
      if k + 1 = chunks then d1.soRun node id else d1

/-- A rerun ends (R391): its output, or ARITH with the failing units, which count as in a sentinel run. -/
def CheckDie.soDone (d : CheckDie) (node id : Nat) (out : Option SentOut) (bad : List (Nat × Nat)) : CheckDie :=
  match d.fab.requests.find? (fun r => r.node == node && r.id == id && r.running) with
  | none => d
  | some r =>
    match out, bad with
    | some o, [] => d.soAnswer node id 0 o r.package
    | _, _ => (d.forEach bad (fun d u => d.countAgainst u.1 u.2)).soDecline node id 4 r.package

/-- BUDGET_US has passed since the first chunk (R391, item 4): LATE. -/
def CheckDie.soBudget (d : CheckDie) (node id : Nat) : CheckDie :=
  match d.fab.requests.find? (fun r => r.node == node && r.id == id) with
  | none => d
  | some r => if r.at_ + r.budget * 1000 ≤ d.now then d.soDecline node id 3 r.package else d

/-- The echoed part of an OD message (R344): bytes 8–19. -/
def odKey (msg : Octets) : Octets := (msg.drop 8).take 12

/-- An OD message passed across the corridor, with the way back for its response (R355, R393). -/
def CheckDie.forwardOd (d : CheckDie) (path : Nat) (msg : Octets) (a b : Nat) : CheckDie :=
  let k := odKey msg
  ({ d with fab := { d.fab with
      backs := d.fab.backs.filter (fun (x : Back) => !(x.path == path && x.key == k && x.a == a)) ++ [{ path := path, key := k, a := a, b := b }] } } : CheckDie).sendFlits
    (flitsOd (field msg 4 1) path msg)

/-- A message in window 0 (R393): an answer to a relayed datagram, or a request for this node. -/
def CheckDie.odWindow (d : CheckDie) (f : FabFrame) : CheckDie :=
  match d.fab.relays.find? (fun r => r.tag == f.offset && r.node == f.src) with
  | some r =>
    ({ d with fab := { d.fab with relays := d.fab.relays.filter (fun x => x != r) } } : CheckDie).put
      (.odMessage 4 r.origin (le 2 f.src ++ le 2 0 ++ le 4 r.clientTag ++ f.payload))
  | none => d.forwardOd 2 f.payload f.src f.offset

/-- An accepted operation acts and answers (R385, R387, R388): the RESPONSE's status and payload, and the die after it. -/
def CheckDie.perform (d : CheckDie) (f : FabFrame) : Nat × Octets × CheckDie :=
  let put := f.kind == opPut
  let len := f.payload.length
  if 4 < f.window then (stNO_WINDOW, [], d)
  else if f.window = 0 then
    if !put || !d.on Od.FABRIC_OD_RELAY then (stDENIED, [], d)
    else if len < 64 then (stMALFORMED, [], d)
    else (stOK, [], d.odWindow f)
  else if f.window = 1 then
    if !put then (stDENIED, [], d) else if len < 33 then (stMALFORMED, [], d) else (stOK, [], d.soChunk f.src f.payload)
  else if f.window = 2 then
    if !put || !(d.opinions.any (fun o => o.peers.contains f.src)) then (stDENIED, [], d)
    else if len ≠ 32 || decide (5 < field f.payload 4 1) then (stMALFORMED, [], d)
    else (stOK, [], (d.opinionAnswer f.src f.payload).composeDue)
  else if !f.formed then (stMALFORMED, [], d)
  else if windowSize f.window < f.offset + f.span then (stBOUNDS, [], d)
  else if !d.admitted f then (stDENIED, [], d)
  else
    let a := windowBase f.window + f.offset
    if f.kind = opPut then
      let d1 := { d with fab := { d.fab with mem := d.fab.mem.write a f.payload } }
      (stOK, [], if f.window = 4 ∧ f.offset ≤ 16448 ∧ 16456 ≤ f.offset + len then d1.routeCommit else d1)
    else if f.kind = opGet then (stOK, d.fab.mem.read a f.readLen, d)
    else if f.offset % 8 ≠ 0 then (stALIGN, [], d)
    else
      let old := d.fab.mem.read a 8
      if f.kind = opFetchAdd then
        let d1 := { d with fab := { d.fab with
          mem := d.fab.mem.write a (le 8 ((ofLe old + ofLe f.payload) % 2 ^ 64)) } }
        (stOK, old, if f.window = 3 ∧ f.offset % 131072 = 0 then d1.mirrorTake (f.offset / 131072) else d1)
      else if ofLe old = field f.payload 0 8 then
        let d1 := { d with fab := { d.fab with mem := d.fab.mem.write a (f.payload.drop 8) } }
        (stOK, old, if f.window = 3 ∧ f.offset % 131072 = 0 then d1.mirrorTake (f.offset / 131072) else d1)
      else (stOK, old, d)

/-- The operation is answered by one RESPONSE (R385). -/
def CheckDie.respond (d : CheckDie) (f : FabFrame) : CheckDie :=
  let r := d.perform f
  r.2.2.fabSend { kind := 0x20, dest := f.src, window := f.window, status := r.1, offset := f.offset, tag := f.tag,
                  payload := r.2.1 }

/-- A RESPONSE completes an operation of this node (R383, R385, R392). -/
def CheckDie.complete (d : CheckDie) (f : FabFrame) : CheckDie :=
  match d.fab.ops.find? (fun o => o.tag == f.tag && o.node == f.src) with
  | none => d
  | some o =>
    let d1 := { d with fab := { d.fab with ops := d.fab.ops.filter (fun x => x != o) } }
    let old := ofLe (f.payload.take 8)
    if o.purpose = 3 ∧ f.status = 0 then
      d1.fabOp o.node opCmpSwap 3 (d.get Od.MIRROR_SUBRING o.item * 131072) (le 8 old ++ le 8 0) 0 4 o.item
    else if o.purpose = 4 ∧ f.status = 0 then
      let w := (d1.fab.mirror o.item).waiting
      let d2 := d1.updMirror o.item (fun m => { m with ready := true, asked := false, waiting := [] })
      d2.forEach w (fun d e => d.mirrorPut o.item e.1 e.2)
    else if o.purpose = 3 ∨ o.purpose = 4 then
      (d1.bump Od.MIRROR_LOST o.item (d1.fab.mirror o.item).waiting.length).updMirror o.item (fun m =>
        { m with asked := false, waiting := [] })
    else if o.purpose = 5 ∧ f.status = 0 then
      let mine := uidWord ownUid
      let expected := d1.fab.words.get d1.fab.managerWord o.node
      if old = expected ∨ old = mine then { d1 with fab := { d1.fab with words := d1.fab.words.set 0 o.node mine } }
      else ({ d1 with fab := { d1.fab with words := d1.fab.words.set 0 o.node old, backoffUntil := d1.now + 1000000000 } } : CheckDie).elect
    else d1

/-- A frame for another node goes on by the route table while hops remain (R377). -/
def CheckDie.forwardFrame (d : CheckDie) (f : FabFrame) : CheckDie :=
  if f.hops ≤ 1 then d.bump Od.HOPS_EXCEEDED else d.fabEmit { f with hops := f.hops - 1 }

/-- A sequenced frame for this node (R386): accepted when its SEQ is the expected one; one below is acknowledged again. -/
def CheckDie.sequenced (d : CheckDie) (f : FabFrame) : CheckDie :=
  let d0 := d.fabAck f.src f.ack
  let note (ok : Bool) (d : CheckDie) : CheckDie := { d with fab := { d.fab with peers := d.fab.peers.upd {} f.src (fun s =>
    if ok then { s with received := s.received + 1, lastGts := d.gts } else { s with discarded := s.discarded + 1 }) } }
  let d1 := if f.sync then d0.updPair f.src (fun p => { p with expected := 1 }) else d0
  let e := (d1.fab.pair f.src).expected
  if e ≠ 0 ∧ f.seq = e then
    let d2 := d1.updPair f.src (fun p => { p with expected := e + 1, ackOwed := some (p.ackOwed.getD d1.now) })
    if f.kind = 0x20 then (note true d2).complete f else (note true d2).respond f
  else if f.seq < e then (note false d1).fabAckNow f.src
  else note false d1

/-- A frame that passed its FCS check is taken by its port (R377). -/
def CheckDie.frameIn (d : CheckDie) (p : Nat) (b : Octets) : CheckDie :=
  if !d.fabOn p then d
  else match parseFrame true b with
    | none => d.bump Od.FRAMES_DISCARDED
    | some f =>
      if f.kind ≤ 3 ∧ !controlFormed f.kind f.payload then d.bump Od.FRAMES_DISCARDED
      else if f.kind = 1 then d.hello p f.payload
      else if f.kind = 2 then d.lsa p f.payload
      else if f.kind = 3 then d.assign p f.payload
      else if f.dest ≠ d.fab.node ∨ d.fab.node = 0 then d.forwardFrame f
      else if f.kind = 0x21 then d.fabAck f.src f.ack
      else d.sequenced f

/-- FILTER's class of a frame at a FABRIC point (R456). -/
def frameClass (kind : Nat) : Nat := if kind < 0x10 then 0 else if kind < 0x20 then 1 else 2

/-- The retransmission timer of a pair expires (R386, items 4 and 5). -/
def CheckDie.retransmit (d : CheckDie) (node : Nat) : CheckDie :=
  let p := d.fab.pair node
  if p.unacked = [] ∨ d.now < p.timerAt + min (200 * 2 ^ (p.sends - 1)) 1600 * 1000 then d
  else if 8 ≤ p.sends then d.pairBroken node
  else
    let d1 := d.updPair node (fun p => { p with sends := p.sends + 1, timerAt := d.now })
    (d1.forEach p.unacked (fun d f => d.fabEmit { f with retransmit := true })).bump Od.RETRANSMITS 0 p.unacked.length

/-- An owed acknowledgement goes out by itself (R386, item 3). -/
def CheckDie.ackTimer (d : CheckDie) (node : Nat) : CheckDie :=
  if (d.fab.pair node).ackOwed.isSome then d.fabAckNow node else d

/-- A relay datagram from a client on MGMT (R393). -/
def CheckDie.relay (d : CheckDie) (origin : Nat) (b : Octets) : CheckDie :=
  let node := field b 0 2 % 4096
  if !d.on Od.FABRIC_OD_RELAY || decide (4104 < b.length) || node == d.fab.node || !d.fab.reachable node then
    { d with fab := { d.fab with discarded := d.fab.discarded + 1 } }
  else
    let tag := d.fab.nextTag
    ({ d with fab := { d.fab with
        relays := d.fab.relays ++ [{ tag := tag, origin := origin, clientTag := field b 4 4, node := node }] } } : CheckDie).fabOp
      node opPut 0 tag (b.drop 8) 0 9 0

end Sys2Proof.Machine
end

