-- ==== Sys2Proof/Machine/Time.lean ====
section
/-! DEFINITION. The time unit (R394), PTP (R395, R396), the servo (R397, R398), PPS (R399) and PTM (R400). -/

namespace Sys2Proof.Machine

/-- The clock identity of a UID (R395). -/
def clockIdentity (uid : Octets) : Octets :=
  let h := Config.shake256 7 ([71, 86, 67, 76, 75] ++ uid)
  padTo 7 ((match h with
    | [] => []
    | b :: t => (b % 256 ||| 2) :: t)) ++ [0]

/-- The time unit updated. -/
def CheckDie.updTime (d : CheckDie) (f : TimeUnit → TimeUnit) : CheckDie := { d with time := f d.time }

/-- GTS continues from a value at a rate (R394). -/
def CheckDie.rebase (d : CheckDie) (gts : Nat) (rate : Int) : CheckDie :=
  d.updTime (fun x => { x with base := gts % 2 ^ 64, since := d.now, rate := rate })

/-- GTS stepped by an amount. -/
def CheckDie.stepGts (d : CheckDie) (by_ : Int) : CheckDie :=
  d.rebase (((d.gts : Int) + by_).toNat) d.time.rate

/-- TIME_SET arrives (R321, R394): the time unit starts from the value. -/
def CheckDie.timeSet (d : CheckDie) (gts : Nat) : CheckDie :=
  (d.rebase gts 0).updTime (fun x => { x with set := true })

/-- The rate kept within ±SLEW_PPM of nominal (R398). -/
def CheckDie.slew (d : CheckDie) (ppb : Int) : Int :=
  let m : Int := (d.get Od.SLEW_PPM * 1000 : Nat)
  max (-m) (min m ppb)

/-- The port's delay asymmetry, a signed 32-bit number (R396). -/
def CheckDie.asymmetry (d : CheckDie) (p : Nat) : Int :=
  let v := field (d.cfg.get Od.PORT_ASYMMETRY_NS 0).b (4 * p) 4
  if v < 2 ^ 31 then v else (v : Int) - 2 ^ 32

/-- One offset sample (R397, R398): the only step, the servo's state, and its new rate. -/
def CheckDie.sample (d : CheckDie) (offset : Int) : CheckDie :=
  let lock : Int := d.get Od.LOCK_NS
  let t := d.time
  let d1 := d.updTime (fun x => { x with lastSample := d.now, samples := (offset :: x.samples).take 16 })
  if !t.everLocked && !t.noStep && d.device != .run && decide (10000 < offset.natAbs) then
    (d1.stepGts (-offset)).updTime (fun x => { x with servo := .acquiring, inBand := 0, outBand := 0 })
  else
    let rate := d.slew (Config.servoRate d1.time.samples)
    let d2 := (d1.rebase d1.gts rate).updTime (fun x => { x with lastRate := (rate :: x.lastRate).take 16 })
    match t.servo with
    | .locked =>
      let n := if 4 * lock < offset.natAbs then t.outBand + 1 else 0
      d2.updTime (fun x => { x with outBand := if 4 ≤ n then 0 else n, inBand := 0,
                                    servo := if 4 ≤ n then .acquiring else .locked })
    | .acquiring =>
      let n := if offset.natAbs ≤ lock then t.inBand + 1 else 0
      d2.updTime (fun x => { x with inBand := if 16 ≤ n then 0 else n, outBand := 0,
                                    servo := if 16 ≤ n then .locked else .acquiring,
                                    everLocked := x.everLocked || decide (16 ≤ n) })
    | _ =>
      d2.updTime (fun x => { x with servo := .acquiring, inBand := b01 (decide (offset.natAbs ≤ lock)), outBand := 0 })

/-- The frequency is frozen at its last 16-sample mean: HOLDOVER (R397). -/
def CheckDie.holdover (d : CheckDie) : CheckDie :=
  let l := d.time.lastRate
  let mean : Int := if l = [] then d.time.rate else l.sum / (l.length : Int)
  (d.rebase d.gts (d.slew mean)).updTime (fun x => { x with servo := .holdover, inBand := 0, outBand := 0 })

/-- A write to 0x5400:01–09 or 0x5400:13 (R397): HOLDOVER, or FREERUN with TIME_SOURCE FREE. -/
def CheckDie.timeWritten (d : CheckDie) : CheckDie :=
  if d.get Od.TIME_SOURCE = 0 then d.updTime (fun x => { x with servo := .freerun, inBand := 0, outBand := 0 })
  else d.holdover

/-- No sample for 3 Announce intervals (PTP) or 3 s (PPS): HOLDOVER (R397). -/
def CheckDie.referenceTimeout (d : CheckDie) : CheckDie :=
  let limit := if d.get Od.TIME_SOURCE = 1 then 3 * d.time.announceInterval else 3000000000
  if (d.time.servo = .acquiring ∨ d.time.servo = .locked) ∧ d.time.lastSample + limit ≤ d.now then d.holdover else d

/-- A write of TIME_STEP_NS (R398, item 2). -/
def CheckDie.timeStep (d : CheckDie) (v : Int) : CheckDie :=
  (d.stepGts v).updTime (fun x =>
    { x with noStep := true, inBand := 0, outBand := 0, servo := if d.get Od.TIME_SOURCE = 0 then .freerun else .acquiring })

/-- Ports 0–3 are FP0–FP3, 4 is MGMT; the OC listens on those of PTP_PORTS in its domain (R395). -/
def CheckDie.ptpTakes (d : CheckDie) (p : Nat) (m : PtpMsg) : Bool :=
  d.up && d.power.awake && (d.get Od.PTP_PORTS).testBit p && m.domain == d.get Od.PTP_DOMAIN

/-- The default BMCA's order of data sets (R395): lower is better. -/
def Master.key (m : Master) : List Nat := [m.priority1, m.clockClass, m.accuracy, m.variance, m.priority2] ++ m.identity

/-- One data set is better than another. -/
def Master.better (a b : Master) : Bool := uidLt a.key b.key || (a.key == b.key && decide (a.steps < b.steps))

/-- This clock's own data set (log entry 10: class, accuracy and variance are IEEE 1588's defaults). -/
def CheckDie.ownMaster (d : CheckDie) : Master :=
  { priority1 := d.get Od.PRIORITY1, clockClass := 248, accuracy := 0xFE, variance := 0xFFFF,
    priority2 := d.get Od.PRIORITY2, identity := clockIdentity ownUid }

/-- The ordinary clock is master: no better Announce for 3 intervals, and not slave only (R395). -/
def CheckDie.ocMaster (d : CheckDie) : Bool :=
  d.get Od.OC_ROLE == 0 && decide (d.time.announceAt + 3 * d.time.announceInterval ≤ d.now)

/-- The fabric ports that take part in transparent forwarding. -/
def CheckDie.tcPorts (d : CheckDie) : List Nat :=
  (List.range 4).filter (fun p => (d.get Od.PTP_PORTS).testBit p && (d.fab.port p).linkUp)

/-- The port is the route toward the node whose clock identity originated the message (R396). -/
def CheckDie.fromRoute (d : CheckDie) (p : Nat) (m : PtpMsg) : Bool :=
  d.fab.db.any (fun l => clockIdentity l.uid == m.source
    && (match d.fab.route l.node with
      | some (q, _) => q == p
      | none => false))

/-- The transparent clock passes a message on with what it adds to the correctionField (R396). -/
def CheckDie.tcForward (d : CheckDie) (p : Nat) (m : PtpMsg) (residence : Nat) : CheckDie :=
  if d.get Od.TC_MODE = 2 || !(d.tcPorts.contains p) || !d.fromRoute p m then d
  else
    let event := m.kind == 0 || m.kind == 1
    let link : Int := if d.get Od.TC_MODE = 1 ∧ m.kind = 0 then
        ((d.time.linkDelay.find? (fun x => x.1 == p)).map Prod.snd).getD 0 else 0
    let c := if event then m.correction + residence + link else m.correction
    d.forEach (d.tcPorts.filter (fun q => q != p)) (fun d q => d.put (.ptp q m.kind m.seq [c, m.stamp]))

/-- The path delay that the mode measures: end to end, or the port's link delay (R395, R396). -/
def CheckDie.pathDelay (d : CheckDie) (p : Nat) : Int :=
  if d.get Od.TC_MODE = 1 then ((d.time.linkDelay.find? (fun x => x.1 == p)).map Prod.snd).getD 0 else d.time.meanDelay

/-- The message is the best master's, on the port its Announce arrives on (R395). -/
def CheckDie.fromMaster (d : CheckDie) (p : Nat) (m : PtpMsg) : Bool :=
  match d.time.master with
  | some x => x.sender == m.source && x.port == p
  | none => false

/-- A Sync's times are complete: t1 with its corrections, t2 (R395, R397, R399). -/
def CheckDie.syncComplete (d : CheckDie) (p : Nat) (t1 t2 : Int) : CheckDie :=
  let offset := t2 - t1 - d.pathDelay p
  let d1 := d.updTime (fun x => { x with lastSync := some (t1, t2), sync := none })
  if d.get Od.TIME_SOURCE = 1 then d1.sample offset
  else if d.get Od.TIME_SOURCE = 2 then d1.updTime (fun x => { x with ptpOffset := some offset })
  else d1

/-- A Sync arrives (R395-R397). -/
def CheckDie.ptpSync (d0 : CheckDie) (p : Nat) (m : PtpMsg) (residence : Nat) : CheckDie :=
  let d := d0.tcForward p m residence
  if !d.ptpTakes p m || !d.fromMaster p m || d.ocMaster then d
  else
    let t2 := (d.gts : Int) - d.asymmetry p
    if m.twoStep then d.updTime (fun x => { x with sync := some (m.seq, t2.toNat, m.correction) })
    else d.syncComplete p (m.stamp + m.correction) t2

/-- A Follow_Up arrives (R395). -/
def CheckDie.ptpFollowUp (d0 : CheckDie) (p : Nat) (m : PtpMsg) : CheckDie :=
  let d := d0.tcForward p m 0
  match d.time.sync with
  | some (s, t2, c) =>
    if d.ptpTakes p m && d.fromMaster p m && s == m.seq then d.syncComplete p (m.stamp + m.correction + c) t2 else d
  | none => d

/-- A Delay_Req arrives (R395, R396): answered while master, or passed on. -/
def CheckDie.ptpDelayReq (d0 : CheckDie) (p : Nat) (m : PtpMsg) (residence : Nat) : CheckDie :=
  let d := d0.tcForward p m residence
  if d.ptpTakes p m && d.ocMaster then d.put (.ptp p 9 m.seq [m.correction, (d.gts : Int)]) else d

/-- A Delay_Resp arrives (R395): the slave's path delay. -/
def CheckDie.ptpDelayResp (d0 : CheckDie) (p : Nat) (m : PtpMsg) : CheckDie :=
  let d := d0.tcForward p m 0
  match d.time.delayReq, d.time.lastSync with
  | some (s, t3), some (t1, t2) =>
    if d.ptpTakes p m && d.fromMaster p m && m.requester == clockIdentity ownUid && s == m.seq then
      d.updTime (fun x => { x with delayReq := none, meanDelay := ((t2 - t1) + (m.stamp - m.correction - (t3 : Int))) / 2 })
    else d
  | _, _ => d

/-- A Pdelay_Req arrives and is answered on its link (R396). -/
def CheckDie.ptpPdelayReq (d : CheckDie) (p : Nat) (m : PtpMsg) : CheckDie :=
  if d.ptpTakes p m && d.get Od.TC_MODE == 1 then d.put (.ptp p 3 m.seq [m.correction, (d.gts : Int)]) else d

/-- A Pdelay_Resp, or its follow-up, arrives (R396): the link's meanLinkDelay. -/
def CheckDie.ptpPdelayResp (d : CheckDie) (p : Nat) (m : PtpMsg) : CheckDie :=
  match d.time.pdelays.find? (fun x => x.port == p && x.seq == m.seq) with
  | none => d
  | some y =>
    if !d.ptpTakes p m then d
    else
      let store (delay : Int) : CheckDie := d.updTime (fun x =>
        { x with linkDelay := x.linkDelay.filter (fun z => z.1 != p) ++ [(p, delay)],
                 pdelays := x.pdelays.filter (fun z => z.port != p) })
      let t4 : Int := d.gts
      if m.kind = 3 then
        if m.twoStep then d.updTime (fun x =>
          { x with pdelays := x.pdelays.filter (fun z => z.port != p) ++
              [{ y with answered := true, t2 := m.stamp, t4 := t4, corr := m.correction }] })
        else store ((t4 - y.t1 - m.correction) / 2)
      else if y.answered then store ((y.t4 - y.t1 - (m.stamp - y.t2) - y.corr - m.correction) / 2)
      else d

/-- An Announce arrives (R395): taken into the best-master choice. -/
def CheckDie.ptpAnnounce (d0 : CheckDie) (p : Nat) (m : PtpMsg) : CheckDie :=
  let d := d0.tcForward p m 0
  match m.master with
  | none => d
  | some a =>
    let x : Master := { a with sender := m.source, port := p }
    if !d.ptpTakes p m || (d.get Od.OC_ROLE == 0 && !x.better d.ownMaster) then d
    else
      let take := match d.time.master with
        | none => true
        | some y => (y.sender == x.sender && y.port == p) || x.better y
            || decide (d.time.announceAt + 3 * d.time.announceInterval ≤ d.now)
      if take then d.updTime (fun t => { t with master := some x, announceAt := d.now, announceInterval := m.interval })
      else d

/-- A management message (R395): a GET is answered. -/
def CheckDie.ptpManagement (d : CheckDie) (p : Nat) (m : PtpMsg) : CheckDie :=
  if d.ptpTakes p m then d.put (.ptp p 13 m.seq (Config.ptpManagement m.managementId)) else d

/-- A PTP message is taken by its port, by its kind (R395, R396). -/
def CheckDie.ptpIn (d : CheckDie) (p : Nat) (m : PtpMsg) (residence : Nat) : CheckDie :=
  if m.kind = 0 then d.ptpSync p m residence
  else if m.kind = 1 then d.ptpDelayReq p m residence
  else if m.kind = 2 then d.ptpPdelayReq p m
  else if m.kind = 3 ∨ m.kind = 10 then d.ptpPdelayResp p m
  else if m.kind = 8 then d.ptpFollowUp p m
  else if m.kind = 9 then d.ptpDelayResp p m
  else if m.kind = 11 then d.ptpAnnounce p m
  else if m.kind = 13 then d.ptpManagement p m
  else d

/-- Frames and PTP messages of a port are taken as its injectors present them (R456, R465 C22). -/
def CheckDie.presentFabric (d : CheckDie) (xs : List PointItem) : CheckDie :=
  xs.foldl (fun d x => match x.ptp with
    | some m => d.ptpIn x.inst m (x.aux.getD 0 0)
    | none => d.frameIn x.inst x.octets) d

/-- A frame arrives on a port (R377), through the injectors of the port (R456, kind 7); one of another kind than the command
names is not that command's and changes nothing. -/
def CheckDie.fabFrame (d : CheckDie) (kinds : List Nat) (p : Nat) (fcsOk : Bool) (b : Octets) : CheckDie :=
  if !d.fabOn p then d
  else if !fcsOk then d.bump Od.FRAMES_DISCARDED
  else if validKind (field b 1 1) && !(kinds.contains (field b 1 1)) then d
  else
    let a := d.atPoint { kind := 7, inst := p, cls := frameClass (field b 1 1), octets := b }
    a.1.presentFabric a.2

/-- A PTP message arrives; on a fabric port it passes the injectors of the port (R456, kind 7). -/
def CheckDie.ptpArrives (d : CheckDie) (p : Nat) (m : PtpMsg) (residence : Nat) : CheckDie :=
  if p < 4 then
    let a := d.atPoint { kind := 7, inst := p, cls := 3, aux := [residence], ptp := some m }
    a.1.presentFabric a.2
  else d.ptpIn p m residence

/-- 2^LOG_SYNC_INTERVAL s in ns; the entry is a signed byte (R395). -/
def syncInterval (v : Nat) : Nat := if v < 128 then 1000000000 * 2 ^ v else 1000000000 / 2 ^ (256 - v)

/-- Every PTP port with a link, MGMT included. -/
def CheckDie.ocPorts (d : CheckDie) : List Nat := d.tcPorts ++ (if (d.get Od.PTP_PORTS).testBit 4 then [4] else [])

/-- A Sync is sent while master (R395). -/
def CheckDie.ptpSyncSend (d : CheckDie) : CheckDie :=
  if d.up && d.power.awake && d.ocMaster
    && decide (d.time.syncAt + syncInterval (d.get Od.LOG_SYNC_INTERVAL) ≤ d.now) then
    (d.forEach d.ocPorts (fun d p => d.put (.ptp p 0 d.time.syncSeq [0, (d.gts : Int)]))).updTime (fun x =>
      { x with syncAt := d.now, syncSeq := (x.syncSeq + 1) % 65536 })
  else d

/-- An Announce is sent while master (R395). -/
def CheckDie.ptpAnnounceSend (d : CheckDie) : CheckDie :=
  if d.up && d.power.awake && d.ocMaster then
    (d.forEach d.ocPorts (fun d p => d.put (.ptp p 11 d.time.announceSeq (d.ownMaster.key.map (fun n => (n : Int)))))).updTime
      (fun x => { x with announceSeq := (x.announceSeq + 1) % 65536 })
  else d

/-- Delay_Req as a slave, or Pdelay_Req on every port in P2P (R395). -/
def CheckDie.ptpDelaySend (d : CheckDie) : CheckDie :=
  let s := d.time.delaySeq
  let d1 := d.updTime (fun x => { x with delaySeq := (x.delaySeq + 1) % 65536 })
  if !d.up || !d.power.awake then d
  else if d.get Od.TC_MODE = 1 then
    d1.forEach d.ocPorts (fun d p => (d.put (.ptp p 2 s [0, (d.gts : Int)])).updTime (fun x =>
      { x with pdelays := x.pdelays.filter (fun y => y.port != p) ++ [{ port := p, seq := s, t1 := (d.gts : Int) }] }))
  else match d.time.master with
    | some m => if d.ocMaster then d
        else (d1.put (.ptp m.port 1 s [0, (d.gts : Int)])).updTime (fun x => { x with delayReq := some (s, d.gts) })
    | none => d

/-- PPS_IN_DELAY_NS as a signed number. -/
def CheckDie.ppsDelay (d : CheckDie) : Int :=
  let v := d.get Od.PPS_IN_DELAY_NS
  if v < 2 ^ 31 then v else (v : Int) - 2 ^ 32

/-- A PPS_IN edge (R397, R399): it marks a whole second plus PPS_IN_DELAY_NS; PTP supplies only the second count. -/
def CheckDie.ppsEdge (d : CheckDie) : CheckDie :=
  if d.get Od.TIME_SOURCE ≠ 2 then d
  else
    let g : Int := d.gts
    let off := match d.time.lastPps with
      | some t => decide (1000000 < ((d.now : Int) - (t : Int) - 1000000000).natAbs)
      | none => false
    let d1 := d.updTime (fun x => { x with lastPps := some d.now })
    if off then d1.updTime (fun x => { x with ppsIgnored := x.ppsIgnored + 1 })
    else
      let second := (g - d.time.ptpOffset.getD 0 - d.ppsDelay + 500000000) / 1000000000
      d1.sample (g - d.ppsDelay - second * 1000000000)

/-- PPS_OUT rises where GTS mod 10^9 is 0, by its mode (R399). -/
def CheckDie.ppsRise (d : CheckDie) : CheckDie :=
  let mode := d.get Od.PPS_OUT_MODE
  let second := (d.gts + 4) / 1000000000 + 1
  if d.up && (mode == 2 || (mode == 1 && d.time.servo == .locked)) && decide ((d.gts + 4) % 1000000000 ≤ 8)
    && d.time.ppsSecond != second
  then d.updTime (fun x => { x with ppsHigh := true, ppsRoseAt := d.now, ppsSecond := second })
  else d

/-- PPS_OUT falls after PPS_OUT_WIDTH_US (R399). -/
def CheckDie.ppsFall (d : CheckDie) : CheckDie :=
  if d.time.ppsHigh && decide (d.time.ppsRoseAt + d.get Od.PPS_OUT_WIDTH_US * 1000 ≤ d.now)
  then d.updTime (fun x => { x with ppsHigh := false }) else d

/-- A PTM dialogue starts every PTM_PERIOD_MS (R400). -/
def CheckDie.ptmPeriod (d : CheckDie) : CheckDie :=
  if d.up && d.on Od.PTM_ENABLE && !d.perst && decide (d.time.ptmAt + d.get Od.PTM_PERIOD_MS * 1000000 ≤ d.now)
  then (d.updTime (fun x => { x with ptmAt := d.now, ptmAsked := some d.now })).put .ptmRequest
  else d

/-- The PTM Response of a dialogue: PTM_SAMPLE is published (R400, R402). -/
def CheckDie.ptmResponse (d : CheckDie) (master delay : Nat) : CheckDie :=
  if d.time.ptmAsked.isSome
  then d.updTime (fun x => { x with ptmAsked := none, ptm := le 8 d.gts ++ le 8 master ++ le 4 delay ++ le 4 0 })
  else d

/-- A TIME_SAMPLE every 100 µs (R321). -/
def CheckDie.timeSamplePeriod (d : CheckDie) : CheckDie :=
  if d.up && d.corRx.up && decide (d.time.sampleAt + 100000 ≤ d.now)
  then (d.updTime (fun x => { x with sampleAt := d.now })).sendFlit (flitTime d.gts) else d

end Sys2Proof.Machine
end

