-- ==== Sys2Proof/Machine/CheckLink.lean ====
section
/-! DEFINITION. The check die's end of the corridor (R243-R249, R253, R255): the epoch boundary (R199, R200), commands from
the safety die, configuration sets, OD messages, training, acknowledgement, CD_HEART. -/

namespace Sys2Proof.Machine

/-- INJECT_PERMIT admits a device state (R453). -/
def permits (permit : Nat) (s : DevState) : Bool :=
  match s with
  | .ready | .safeHold | .service => decide (1 ≤ permit)
  | .run => decide (2 ≤ permit)
  | _ => false

/-- Items that leave injectors are presented, corridor flits aside (R457). -/
def CheckDie.presentItem (d : CheckDie) (x : PointItem) : CheckDie :=
  if x.kind = 1 then d.presentVi [x]
  else if x.kind = 2 then d.presentVe [x]
  else if x.kind = 4 then d.presentResult [x]
  else if x.kind = 5 then d.presentDelivery [x]
  else if x.kind = 6 then d.presentRequest [x]
  else if x.kind = 7 then d.presentFabric [x]
  else d.refuseFlit

/-- An injector is disarmed and what it held is presented (R455, R463). -/
def CheckDie.disarmNow (d : CheckDie) (j cause : Nat) : CheckDie :=
  let a := d.disarm j cause
  a.2.foldl CheckDie.presentItem a.1

/-- Every injector is disarmed and every entry of 0x6800–0x6FFF returns to its default (R438, R455): at each reset kind and change of
power state. -/
def CheckDie.dropInjectors (d : CheckDie) : CheckDie :=
  let d1 := d.forEach (d.injectors.map Injector.num) (fun d j => d.disarmNow j 0)
  { d1 with cfg := d1.cfg.filter (fun e => decide (e.1 / 256 < 0x6800 ∨ 0x6FFF < e.1 / 256))
            regs := d1.regs.filter (fun e => decide (e.1 / 256 < 0x6800 ∨ 0x6FFF < e.1 / 256)) }

/-- Every injector is disarmed when INJECT_PERMIT does not allow the device state (R455, items 5 and 6). -/
def CheckDie.checkPermit (d : CheckDie) (cause : Nat) : CheckDie :=
  if permits (d.get Od.INJECT_PERMIT) d.device then d
  else d.forEach (d.injectors.map Injector.num) (fun d j => d.disarmNow j cause)

/-- The check die reports RUN (R428): streams may leave IDLE, and audit epochs start (R148, R465 C17). -/
def CheckDie.enterRun (d : CheckDie) : CheckDie :=
  let n := if d.audit.epochs = [] ∧ d.audit.epochNumber = 0 then 0 else (d.audit.epochNumber + 1) % 2 ^ 32
  ((({ d with state := .run } : CheckDie).sendFlit (flitStatus 2 d.openDemands)).startStreams).startEpoch n

/-- A device state in which the porter lets streams run (R428). -/
def DevState.streams (s : DevState) : Bool := s == .run || s == .safeHold || s == .service

/-- The check die's view of the device state (log entry 11). -/
def CheckDie.setDevice (d : CheckDie) (st : DevState) : CheckDie :=
  let d1 := if d.device = .service ∧ st ≠ .service then d.clearRetest else d
  let d2 := ({ d1 with device := st } : CheckDie).checkPermit 5
  if st.streams && d2.up && d2.clock && d2.state == .ready && d2.power.awake then d2.enterRun else d2

/-- The bytes of a configuration set: each entry in ascending (INDEX, SUB) order (R357). -/
def setOctets (l : List (Nat × Val)) : Octets :=
  l.flatMap (fun e => match odFind (e.1 / 256) (e.1 % 256) with
    | some r =>
      let v := e.2.octets r.type
      le 2 (e.1 / 256) ++ le 1 (e.1 % 256) ++ le 1 r.type.code ++ le 4 v.length ++ v
    | none => [])

/-- CRC-32C of a copy of the configuration (R18): of its rws entries that differ from their defaults (log entry 12). -/
def configCrc (s : OdStore) : Nat := crc32c (setOctets (s.keep (fun r => r.access == .rws)))

/-- CONFIG_CRC (R18, R245). -/
def CheckDie.reportConfig (d : CheckDie) : CheckDie :=
  ({ d with configCrcAt := d.now } : CheckDie).sendFlit (flitConfigCrc (configCrc d.cfg) d.epoch)

/-- VE lanes follow their enables (R221): an enabled lane is up, a disabled one closes once its records have left. -/
def CheckDie.lanesFollow (d : CheckDie) : CheckDie :=
  d.forEach (List.range 4) (fun d l =>
    let x := d.lane l
    if d.on Od.VE_ENABLE l then
      if x.up && !x.closing then d
      else (d.updLane l (fun x => { x with up := true, rxLock := true, closing := false })).loseCredit l
    else if x.up then d.updLane l (fun x => { x with closing := true, up := !(x.queue.isEmpty && x.sending.isNone) })
    else d)

/-- An audit setting of OD 0x2C00–0x2DFF changes: the commit ends the audit epoch (R148). -/
def auditChanged (a b : OdStore) : Bool :=
  let f (s : OdStore) : OdStore := s.filter (fun e => decide (0x2C00 ≤ e.1 / 256 ∧ e.1 / 256 ≤ 0x2DFF))
  f a != f b

/-- The committed set applies (R200, R357), with what a commit sends through IDLE, plans anew and ends. -/
def CheckDie.applySet (d : CheckDie) (old : OdStore) : CheckDie :=
  let d1 := d.lanesFollow.streamsAtCommit old
  let d2 := if d.audit.running && auditChanged old d.cfg then d1.endEpoch else d1
  (d2.planAtCommit).checkPermit 6

/-- The lane and CONSUMER_ID of a consumer entry, which name the consumer on the wire (R209). -/
def CheckDie.pairOf (d : CheckDie) (c : Nat) : Nat × Nat := (d.laneOf c, d.get Od.CONSUMER_ID c)

/-- A consumer that a commit disables, or gives another lane or CONSUMER_ID, gets nothing that falls due at the boundary but its fence
(R221). -/
def CheckDie.endConsumers (d : CheckDie) (cs : List Nat) : CheckDie :=
  d.forEach cs (fun d c => d.updLane (d.laneOf c) (fun x =>
    { x with queue := x.queue.filter (fun y => y.consumer != c || y.preempts || decide (y.due < d.now)) }))

/-- The device state that the causes of a boundary bring to the check die (R201). -/
def CheckDie.causeState (d : CheckDie) (causes : Nat) : CheckDie :=
  if causes.testBit 1 then d.setDevice .safeHold else if causes.testBit 2 then d.setDevice .run else d

/-- The delivered set, when CONFIG_END named this epoch (R245). -/
def CheckDie.setFor (d : CheckDie) (epoch : Nat) : Option (List (Nat × Val)) :=
  match d.delivered with
  | some (e, set) => if e = epoch then some set else none
  | none => none

/-- A cause that falls into the boundary just passed (R199, item 3; R201, R358): the epoch stays, its causes join, the set that came
with it applies. -/
def CheckDie.boundaryJoins (d : CheckDie) (causes : Nat) : CheckDie :=
  let old := d.cfg
  match (if causes.testBit 0 then d.setFor d.epoch else none) with
  | some set => ((({ d with cfg := old.putAll set, delivered := none, causes := d.causes ||| causes } : CheckDie).applySet old).causeState
      causes).reportConfig
  | none => (({ d with causes := d.causes ||| causes } : CheckDie).causeState causes).reportConfig

/-- The epoch boundary (R199, R200, R221): EPOCH_ADVANCE arrives with the new epoch and its causes. A consumer entry that the
set gives another lane or CONSUMER_ID is another consumer, and has a fence of its own and no credit. -/
def CheckDie.boundary (d : CheckDie) (epoch causes : Nat) : CheckDie :=
  let old := d.cfg
  let was := d.enabledConsumers
  let g := d.gts
  let commit := causes.testBit 0
  let next : CheckDie := { d with cfg := if commit then old.putAll ((d.setFor epoch).getD []) else old }
  let now_ := next.enabledConsumers
  let d1 := (d.fence was d.epoch epoch causes g).endConsumers
    (was.filter (fun c => !now_.contains c || d.pairOf c != next.pairOf c))
  let d2 := { d1 with
    history := ((d.epoch, old) :: d.history).filter (fun h => d1.ledger.any (fun e => e.epoch == h.1))
    cfg := next.cfg
    delivered := if commit then none else d.delivered
    epoch := epoch
    boundaryGts := g
    causes := causes
    epochImage := epoch }
  let fresh := now_.filter (fun c => !was.contains c || d.pairOf c != d2.pairOf c)
  let d3 := (d2.forEach fresh (fun y c => if d.pairOf c = d2.pairOf c then y else y.updConsumer c (fun x => { x with credit := false }))).fence
    fresh d.epoch epoch causes g
  let d4 := if commit then d3.applySet old else d3
  (d4.causeState causes).reportConfig

/-- COMMAND INJECT (R454): the injector acts from its arrival, with the descriptor that came before it; or is disarmed. -/
def CheckDie.injectCommand (d : CheckDie) (j : Nat) (arm : Bool) : CheckDie :=
  if arm then
    let p := d.get Od.INJ_POINT j
    d.armInjector
      { num := j, kind := p / 4096, inst := p % 4096, action := d.get Od.INJ_ACTION j, select := d.get Od.INJ_SELECT j,
        period := d.get Od.INJ_PERIOD j, start := d.get Od.INJ_START j, countMax := d.get Od.COUNT_MAX j,
        filter := d.get Od.INJ_FILTER j, offset := d.get Od.INJ_OFFSET j, mask := d.get Od.XOR_MASK j,
        delay := d.get Od.DELAY_NS j, recrc := d.on Od.RECRC j, owner := d.injectOwner, armedAt := d.now,
        stopAt := d.now + d.get Od.DURATION_MS j * 1000000 }
  else d.disarmNow j 0

/-- SAFE_EXIT: CD_SAFE_DEMAND is released (R199, R255). -/
def CheckDie.safeExit (d : CheckDie) : CheckDie := { d with demand := false, openDemands := 0 }

/-- A flit whose CRC failed (R248, R249): counted, and a NAK; too many in 1 ms are a corridor failure. -/
def CheckDie.flitCrcError (d : CheckDie) : CheckDie :=
  if !d.corRx.up then { d with corRx := { d.corRx with train := 0 } }
  else
    let r := d.corRx.crcError d.now
    let d1 := (({ d with corRx := r } : CheckDie).bump Od.FLIT_CRC_ERRORS).refuseFlit
    if d.get Od.CORRIDOR_ERR_LIMIT < r.errors.length then d1.corridorFailure else d1

/-- What one accepted sequenced flit does (R245). A flit of a set or of an OD message that comes alone breaks their order
(R246). A COMMAND with a reserved opcode is malformed, and taken as the case of R245 (R5, R249, item 5; log entry 86). -/
def CheckDie.flitEffect (f : Flit) (d : CheckDie) : CheckDie :=
  let p := f.payload
  if f.type = 0x24 then
    let op := bitsOf p 0 8
    if op = 1 then (if bitsOf p 32 32 = d.epoch then d.boundaryJoins (bitsOf p 8 8) else d.boundary (bitsOf p 32 32) (bitsOf p 8 8))
    else if op = 2 then d.setDevice .safeHold
    else if op = 3 then d.safeExit
    else if op = 4 then d.fenceUnit (bitsOf p 16 8) (bitsOf p 24 8)
    else if op = 5 then d.marginStart (bitsOf p 16 8)
    else if op = 6 then d.injectCommand (bitsOf p 8 8) (p.testBit 16)
    else d.corridorFailure
  else if f.type = 0x25 then d.timeSet p
  else if f.type = 0x20 ∨ f.type = 0x21 ∨ f.type = 0x22 ∨ f.type = 0x30 ∨ f.type = 0x31 ∨ f.type = 0x32 then d.flitCrcError
  else d

/-- Sequenced types toward the check die (R245). -/
def toCheckSequenced (type : Nat) : Bool := [0x20, 0x21, 0x22, 0x24, 0x25, 0x30, 0x31, 0x32].contains type

/-- An acknowledgement arrives, with a NAK when its sender waits for a SEQ (R248); the fourth for one SEQ is a corridor failure
(R249, item 2). -/
def CheckDie.linkIn (d : CheckDie) (ack : Nat) (nak : Bool) (expected : Nat) : CheckDie :=
  let d1 := { d with corTx := d.corTx.ack d.now ack }
  if nak then
    let fs := d1.corTx.resend expected
    let d2 := { d1 with corTx := d1.corTx.nak (d.corTx.covered ack != []) expected }
    if 4 ≤ d2.corTx.askedCount then d2.corridorFailure
    else (d2.forEach (fs.zip (List.range fs.length)) (fun d x => d.put (.replay ((expected + x.2) % 256) x.1))).bump
      Od.FLITS_REPLAYED 0 fs.length
  else d1

/-- Twelve bytes at the check-die receiver (R245, R248, R249). -/
def CheckDie.takeFlit (d : CheckDie) (b : Octets) : CheckDie :=
  let f : Flit := ⟨field b 0 1, field b 2 8⟩
  if field b 10 2 ≠ crc16 (b.take 10) then d.flitCrcError
  else if toCheckSequenced f.type then d.receive (field b 1 1) 1 (CheckDie.flitEffect f)
  else if f.type = 0x0F then d.linkIn (field b 1 1) (f.payload.testBit 0) (bitsOf f.payload 8 8)
  else if f.type = 0 ∨ f.type = 0xF0 then d
  else d.corridorFailure

/-- One flit reaches the check-die receiver, through the injectors of its point (R456, kind 3, instance 1). -/
def CheckDie.flitArrives (d : CheckDie) (seq : Nat) (f : Flit) : CheckDie :=
  if d.armedAt 3 1 then
    let a := d.atPoint { kind := 3, inst := 1, cls := f.type, octets := f.octets seq }
    a.2.foldl (fun d x => d.takeFlit x.octets) a.1
  else d.receive seq 1 (CheckDie.flitEffect f)

/-- Flits of one item, each through the injectors of the point: how many of them the receiver took as they were sent. The first that
does not pass as it came ends the item here, for those after it are out of sequence (R248, R457). -/
def CheckDie.itemFlits : List Flit → Nat → CheckDie → CheckDie × Nat
  | [], _, d => (d, 0)
  | f :: fs, seq, d =>
    let b := f.octets seq
    let a := d.atPoint { kind := 3, inst := 1, cls := f.type, octets := b }
    if a.2.head?.map PointItem.octets = some b then
      let r := CheckDie.itemFlits fs (seq + 1) (a.2.tail.foldl (fun d x => d.takeFlit x.octets) (a.1.receive seq 1 id))
      (r.1, r.2 + 1)
    else (a.2.foldl (fun d x => d.takeFlit x.octets) a.1, 0)

/-- The flits of one set or message reach the receiver, from SEQ `seq` on (R246). What an item lacks follows by a replay from the SEQ
that the NAK asked for. Another item of the kind before that breaks the order: the partial one is discarded and counts as a CRC
error. -/
def CheckDie.groupArrives (d : CheckDie) (seq : Nat) (fs : List Flit) (f : CheckDie → CheckDie) : CheckDie :=
  let type := (fs.headD ⟨0, 0⟩).type
  let k := d.corRx.part type
  if k = 0 ∧ !d.armedAt 3 1 then d.receive seq fs.length f
  else if d.corRx.takes (seq + k) then
    let a := CheckDie.itemFlits (fs.drop k) (seq + k) d
    if k + a.2 = fs.length then f { a.1 with corRx := a.1.corRx.setPart type 0 }
    else { a.1 with corRx := a.1.corRx.setPart type (k + a.2) }
  else if d.corRx.takes seq then ({ d with corRx := d.corRx.setPart type 0 } : CheckDie).flitCrcError
  else d.refuseFlit

/-- CONFIG_BEGIN, CONFIG_DATA and CONFIG_END arrive (R18, R246): the set waits for the EPOCH_ADVANCE of its epoch
when its CRC agrees. -/
def CheckDie.configSet (d : CheckDie) (seq : Nat) (set : List (Nat × Val)) (ends : SetEnds) : CheckDie :=
  d.groupArrives seq (flitsConfig (setOctets set) ends.epoch) (fun d =>
    if ends.crc = crc32c (setOctets set) then { d with delivered := some (ends.epoch, set) } else d.flitCrcError)

/-- The flits of an OD message toward the check die (R246). -/
def OdDown.flits : OdDown → List Flit
  | .response path b => flitsOd (field b 4 1) path b
  | .record r => flitsOd 0xFF 0 r.octets

/-- A response goes to where its request came from (R344, R353, R354, R393): the BAR0 window with its CRC and MSI-X 1, the
MGMT address, or window 0 of the node that relayed it. -/
def CheckDie.answer (d : CheckDie) (path : Nat) (b : Octets) : CheckDie :=
  let key := (b.drop 8).take 12
  match d.fab.backs.find? (fun k => k.path == path && k.key == key) with
  | none => d
  | some k =>
    let d1 := { d with fab := { d.fab with backs := d.fab.backs.filter (fun x => x != k) } }
    if path = 0 then
      (({ d1 with windows := d1.windows.set [] k.a (b ++ le 4 (crc32c b)) } : CheckDie).put (.odMessage 0 k.a b)).put (.msix 1)
    else if path = 1 then d1.put (.odMessage 1 k.a b)
    else d1.fabOp k.a opPut 0 k.b b 0 8 0

/-- A record of the safety log enters the collector as any other (R497). -/
def CheckDie.takeRecord (d : CheckDie) (r : EventRec) : CheckDie := d.collect r

/-- OD_BEGIN, OD_DATA and OD_END arrive (R246). -/
def CheckDie.odArrives (d : CheckDie) (seq : Nat) (x : OdDown) : CheckDie :=
  d.groupArrives seq (x.flits) (fun d => match x with
    | .response path b => d.answer path b
    | .record r => d.takeRecord r)

/-- A TRAIN flit at the check-die receiver (R244): 64 good ones in a row bring the link up, and it is acknowledged. -/
def CheckDie.trainIn (d : CheckDie) (crcOk : Bool) : CheckDie :=
  if !d.up || d.corRx.up then d
  else
    let n := if crcOk then d.corRx.train + 1 else 0
    if 64 ≤ n then
      ({ d with corRx := { d.corRx with up := true, train := n, expected := 0, ackAt := d.now } } : CheckDie).put
        (.link 255 false 0)
    else { d with corRx := { d.corRx with train := n } }

/-- Unacknowledged flits have waited more than 2 µs without an advance (R249, item 3). -/
def CheckDie.ackTimeout (d : CheckDie) : CheckDie :=
  if d.up && d.corTx.unacked ≠ [] && decide (d.corTx.lastAck + 2000 < d.now) then d.corridorFailure else d

/-- A LINK acknowledgement is due every 0.5 µs (R248). -/
def CheckDie.ackPeriod (d : CheckDie) : CheckDie :=
  if d.up && d.corRx.up && decide (d.corRx.ackAt + 500 ≤ d.now) then d.sendAck else d

/-- The link is not up by 100 µs after the check-die reset (R244, R249, item 4). -/
def CheckDie.linkTimeout (d : CheckDie) : CheckDie :=
  if d.up && !d.corRx.up && decide (d.releasedAt + 100000 < d.now) then d.corridorFailure else d

/-- CD_HEART toggles each microsecond in which the porter, the composer, the toll gate and the corridor transmitter made
progress (R253); not after a corridor failure (R249). -/
def CheckDie.heartToggle (d : CheckDie) (porter composer gate tx : Bool) : CheckDie :=
  if d.up && d.clock && !d.corFailed && porter && composer && gate && tx && decide (d.heartAt + 1000 ≤ d.now)
  then { d with heart := !d.heart, heartAt := d.now } else d

/-- The check die's copy is reported every 100 ms (R18). -/
def CheckDie.configPeriod (d : CheckDie) : CheckDie :=
  if d.up && d.corRx.up && decide (d.configCrcAt + 100000000 ≤ d.now) then d.reportConfig else d

/-- A VE lane loses receive lock (R213): it goes on sending, and its consumers keep their credit until lock is back. -/
def CheckDie.veLockLost (d : CheckDie) (l : Nat) : CheckDie :=
  if l < 4 then d.updLane l (fun x => { x with rxLock := false, rxLostAt := d.now }) else d

/-- A VE lane regains receive lock (R213): its consumers have no credit until their next CREDIT. -/
def CheckDie.veLockRegained (d : CheckDie) (l : Nat) : CheckDie :=
  if l < 4 then (d.updLane l (fun x => { x with rxLock := true })).loseCredit l else d

/-- Held items of injector `j` whose time has come are presented (R457); a held flit meets the receiver then. -/
def CheckDie.releaseNow (d : CheckDie) (j : Nat) : CheckDie :=
  let a := d.releaseHeld j
  a.2.foldl (fun d x => if x.kind = 3 then d.takeFlit x.octets else d.presentItem x) a.1

end Sys2Proof.Machine
end

