-- ==== Sys2Proof/Machine/CheckPower.lean ====
section
/-! DEFINITION. The check die through resets and power states (R31-R33, R107, R166, R223, R404, R431, R434, R437, R438). -/

namespace Sys2Proof.Machine

/-- A slot after a reset: an image still loading is lost. -/
def Slot.afterReset {α : Type} (s : Slot α) : Slot α :=
  if s.state = .loading then { emptied := true } else s

/-- The check die in reset (R438): the fence map, watch map and margin marks stay; images and weights wait for R437; the
rest is at its defaults. `cfg` is the set it will work from. -/
def CheckDie.reset (d : CheckDie) : CheckDie :=
  { now := d.now
    draws := d.draws
    sent := d.sent
    up := false
    clock := d.clock
    state := .off
    device := d.device
    power := d.power
    cfg := d.cfg
    split := d.split
    clusters := d.clusters.filterMap (fun (e : Nat × Cluster) =>
      let c : Cluster := { rows := e.2.rows, fenced := e.2.fenced, watch := e.2.watch }
      if c = Cluster.init then none else some (e.1, c))
    packages := d.packages.map (fun (e : Nat × Slot Package) => (e.1, e.2.afterReset))
    audit := { manifests := d.audit.manifests.map (fun (e : Nat × Slot Manifest) => (e.1, e.2.afterReset))
               weights := d.audit.weights
               blobs := d.audit.blobs }
    lanterns := d.lanterns.map (fun (e : Nat × LanternSt) => (e.1, ({ set := e.2.set.afterReset } : LanternSt)))
    maps := d.maps.map (fun (e : Nat × Slot CompatMap) => (e.1, e.2.afterReset))
    epoch := d.epoch
    epochImage := d.epochImage
    perst := d.perst
    time := { since := d.now } }

/-- Every image slot of LPDDR5X is emptied, and every weight is absent (R437, R438). -/
def CheckDie.emptySlots (d : CheckDie) : CheckDie :=
  { d with
    packages := d.packages.map (fun (e : Nat × Slot Package) => (e.1, ({ emptied := true } : Slot Package)))
    audit := { d.audit with
      manifests := d.audit.manifests.map (fun (e : Nat × Slot Manifest) => (e.1, ({ emptied := true } : Slot Manifest)))
      weights := []
      blobs := [] }
    lanterns := d.lanterns.map (fun (e : Nat × LanternSt) =>
      (e.1, { e.2 with set := ({ emptied := true } : Slot LanternSet) }))
    maps := d.maps.map (fun (e : Nat × Slot CompatMap) => (e.1, ({ emptied := true } : Slot CompatMap))) }

/-- An image found bad after a reset (R437): its kind (1 package, 2 manifest, 3 map, 4 lantern set) and slot. DESIGN CHOICE (log entry
80): the slot becomes INVALID, not EMPTY, and counts as one that no reset emptied, so a bound one is not reloaded (R115). -/
def CheckDie.spoil (d : CheckDie) (k s : Nat) : CheckDie :=
  if k = 1 then { d with packages := d.packages.upd {} s (fun x => { x with state := .invalid }) }
  else if k = 2 then { d with audit := { d.audit with
    manifests := d.audit.manifests.upd {} s (fun x => { x with state := .invalid }) } }
  else if k = 3 then { d with maps := d.maps.upd {} s (fun x => { x with state := .invalid }) }
  else if k = 4 then d.updLant s (fun x => { x with set := { x.set with state := .invalid } })
  else d

/-- The reset of the check die is released (R442, step 8; R484): it boots. -/
def CheckDie.releaseReset (d : CheckDie) : CheckDie :=
  { d with up := true, clock := true, releasedAt := d.now, state := .booting, power := .active, corTx := {}, corRx := {}, time := { d.time with since := d.now },
           demand := false }

/-- The link is up and the die is BOOTING: STATUS says so (R245). -/
def CheckDie.booting (d : CheckDie) : CheckDie := d.sendFlit (flitStatus 0 d.openDemands)

/-- Self-tests of the clusters: each failing row, or 0xFF for the cluster, is fenced at once (R443, bit 9). -/
def CheckDie.clusterTests (d : CheckDie) (fails : List (Nat × Nat)) : CheckDie :=
  d.forEach (fails.filter (fun f => decide (f.1 < 16))) (fun d f => d.fenceUnit f.1 f.2)

/-- The fences at the end of a check-die reset (R223): EGRESS_SEQ 0, cause bit 3, LAST_RESULT_SEQ and UNSETTLED unknown. -/
def CheckDie.resetFences (d : CheckDie) (closing causes : Nat) : CheckDie :=
  d.forEach d.enabledConsumers (fun d c =>
    d.enqueue { kind := .fence, consumer := c, due := d.now, epoch := closing,
                body := fenceBody closing d.epoch causes d.gts 0xFFFFFFFF 0xFFFFFFFF })

/-- The end of the reset (R199, R223, R437, R438, R442 step 14): the configuration set has arrived, the boundary lies here,
the fences are due before any other record, and the die reports READY, then RUN where the device state lets streams run. -/
def CheckDie.resetEnd (d : CheckDie) (cfg : OdStore) (epoch causes : Nat) (device : DevState)
    (bad fails : List (Nat × Nat)) : CheckDie :=
  let d1 := { d with
    cfg := cfg, delivered := none, epoch := epoch, epochImage := epoch, causes := causes, boundaryGts := d.gts,
    device := device, state := .ready }
  let d2 := ((d1.forEach bad (fun d b => d.spoil b.1 b.2)).clusterTests fails).fabLatch
  let d3 := (d2.lanesFollow.resetFences ((epoch + 2 ^ 32 - 1) % 2 ^ 32) causes).planAnew
  let d4 := (d3.sendFlit (flitStatus 1 d3.openDemands)).reportConfig
  if device.streams && d4.power.awake then d4.enterRun else d4

/-- Entry into RETAIN, DARK or STANDBY on the check die (R29, R33, R166, R431): streams go IDLE, open audits close, a margin test
ends, the fabric ports go down (R465 C11), and the lanes lose the lock that their PLLs held. -/
def CheckDie.sleep (d : CheckDie) (p : PowerState) : CheckDie :=
  let d1 := ((d.stopStreams.skipAllAudits .power).abortMargin).forEach (List.range 4) CheckDie.portDown
  let d2 := (d1.forEach allStreams (fun d n => d.updStream n (fun x => { x with locked := false }))).forEach (List.range 4) (fun d l =>
    d.updLane l (fun x => { x with rxLock := false, rxLostAt := if x.rxLock then d.now else x.rxLostAt }))
  { d2 with
    power := p
    retainAt := d2.now
    audit := { d2.audit with running := false }
    state := if d2.state = .run then .ready else d2.state }

/-- Wake from RETAIN (R434): the fence that settles nothing, and streams restart from IDLE. -/
def CheckDie.wakeRetain (d : CheckDie) : CheckDie :=
  let d1 := { d with power := .active }
  let d2 := d1.forEach d1.enabledConsumers (fun d c =>
    d.enqueue { kind := .fence, consumer := c, due := d.now, epoch := d.epoch,
                body := fenceBody d.epoch d.epoch 0 d.gts 0xFFFFFFFF 0 })
  let d3 := d2.forEach allClusters (fun d c => d.updCluster c (fun x => { x with gated := false, lastWork := d.now }))
  if d3.device.streams && d3.state == .ready then d3.enterRun else d3

/-- A function-level reset (R404, R438): what an injector held goes on before it. -/
def CheckDie.functionReset (d : CheckDie) : CheckDie := if d.up then d.dropInjectors.pcieReset else d

/-- PERST# asserted resets the PCIe core; its release ends the reset (R404, R438). -/
def CheckDie.perstLevel (d : CheckDie) (low : Bool) : CheckDie :=
  if low && !d.perst && d.up then { d.dropInjectors.pcieReset with perst := true } else { d with perst := low }

/-- A clock of the check die stops (R30): CD_HEART stops with it. -/
def CheckDie.clockStops (d : CheckDie) : CheckDie := { d with clock := false }

end Sys2Proof.Machine
end

