-- ==== Sys2Proof/Machine/SafetyDie.lean ====
section
/-! DEFINITION. The safety die as plain data, its clocks, its event records (R321, R326, R327, R497) and its end of the
corridor (R243-R249). -/

namespace Sys2Proof.Machine

/-- Everything the spec gives the safety die, with the model's own clock, draw counter and record of outputs. -/
structure SafetyDie where
  /-- the model's own: time of the die's latest event, ns -/
  now : Nat := 0
  /-- the model's own: TRNG draws made -/
  draws : Nat := 0
  /-- the model's own: what the die has put out -/
  sent : List Sent := []
  device : DevState := .boot
  power : PowerState := .active
  /-- settings in force, and the V entries it holds (R18, R367) -/
  values : OdStore := []
  /-- the newest copy of the P store in QSPI (R441) -/
  flash : OdStore := []
  /-- the copy with the older sequence number: what the store held before its last write (R441) -/
  older : OdStore := []
  olderKeys : Tbl Octets := []
  /-- its ro counters and registers of class V -/
  regs : OdStore := []
  /-- values that took effect at the last boot: entries marked "next boot", and 0x1400 (R342) -/
  bootCfg : OdStore := []
  keys : Tbl Octets := []
  splitApp : Octets := []
  cert : Octets := []
  /-- raised SEC_VERSION floor, above the per-device one -/
  floor : Nat := 0
  guest : GuestBook := {}
  /-- RTC: its second at a time (R394) -/
  rtc : Nat := 0
  rtcAt : Nat := 0
  rtcSet : Nat := 0
  /-- its copy of GTS (R321): value at a time, and whether it has been set since the reset -/
  gtsBase : Nat := 0
  gtsAt : Nat := 0
  gtsSet : Bool := false
  /-- time of the last end of reset -/
  resetEnd : Nat := 0
  /-- the first-fault index last filled by a check-die record, and when (R328) -/
  firstFrom : Option (Nat × Nat) := none
  keeper : Keeper := {}
  corTx : CorTx := {}
  corRx : CorRx := {}
  /-- the check-die state as last reported; 4 when unavailable (R370) -/
  cdState : CdState := .off
  sorter : Sorter := {}
  heart : HeartMon := {}
  /-- CD_SAFE_DEMAND is low at the pin -/
  demand : Bool := true
  kill : Kill := {}
  pairs : Tbl InputPair := []
  /-- start of the test-pulse period (R271) -/
  pulseAt : Nat := 0
  brake : Brake := {}
  wds : Dog := {}
  wdh : Dog := {}
  gate : DogGate := {}
  rc : RollCall := {}
  /-- the safety log: ring oldest first, how many of its records were sent to the check die, a loss before the next one -/
  log : List EventRec := []
  logSent : Nat := 0
  logLost : LostCounts := {}
  sessions : Tbl (Option Session) := []
  staging : Staging := {}
  stores : List PendingStore := []
  /-- EPOCH_BOUNDARY_GTS and EPOCH_CAUSES (R202, R367), and the epoch that the boundary started -/
  boundaryGts : Nat := 0
  boundaryCauses : Nat := 0
  boundaryEpoch : Nat := 0
  /-- when the verdict epoch last advanced: what happens in the same cycle falls into the same boundary (R199) -/
  advancedAt : Option Nat := none
  /-- the epoch that the last committed set holds from, and what it replaced (R18, R200) -/
  prior : Option (Nat × List (Nat × Val)) := none
  /-- causes of a boundary that lies at the end of a check-die reset (R199, R260) -/
  pending : Nat := 0
  fw : Firmware := {}
  attest : Attest := {}
  boot : Boot := {}
  /-- THERM_N low, per sensor the last reading in 1/16 degree (R493) -/
  thermLow : Bool := false
  temps : List (Nat × Int) := []
  injectOwner : Nat := 0xFF
  armed : List ArmedInj := []
  /-- the injectors of the corridor point on this die (R456, kind 3, instance 0) -/
  injectors : List Injector := []
  margin : MarginPlan := {}
  /-- watch for the wake source of RETAIN, DARK, STANDBY: entry complete at (R431, R451), a wake that waits for it -/
  sleepAt : Nat := 0
  wakeWaits : Bool := false
  /-- the partner table as last refreshed by the check die (R372) -/
  partners : Tbl Octets := []
  /-- the session that entered SERVICE (R427) -/
  serviceOwner : Option Nat := none
  /-- responses held in OD_TUNNEL_OUT per bus (R353) -/
  tunnel : Tbl Octets := []
deriving DecidableEq, Repr

/-- The model clock of the die at the time of an event. -/
def SafetyDie.tick (s : SafetyDie) (t : Nat) : SafetyDie := { s with now := max s.now t }

/-- An update made only when a condition holds. -/
def SafetyDie.when (s : SafetyDie) (b : Bool) (f : SafetyDie → SafetyDie) : SafetyDie := if b then f s else s

/-- A left fold over die states. -/
def SafetyDie.forEach {α : Type} (s : SafetyDie) (l : List α) (f : SafetyDie → α → SafetyDie) : SafetyDie := l.foldl f s

/-- A setting in force. -/
def SafetyDie.get (s : SafetyDie) (r : OdRow) (i : Nat := 0) : Nat := s.values.n r i
/-- A BOOL setting in force. -/
def SafetyDie.on (s : SafetyDie) (r : OdRow) (i : Nat := 0) : Bool := s.values.on r i
/-- A counter increased. -/
def SafetyDie.bump (s : SafetyDie) (r : OdRow) (i : Nat := 0) (n : Nat := 1) : SafetyDie :=
  { s with regs := s.regs.bump r i n }
/-- An output. -/
def SafetyDie.put (s : SafetyDie) (x : Sent) : SafetyDie := { s with sent := s.sent ++ [x] }
/-- One draw of the TRNG. -/
def SafetyDie.draw (s : SafetyDie) : Nat × SafetyDie := (Config.trngSafety s.draws, { s with draws := s.draws + 1 })

/-- The RTC's second (R291, R351, R394). -/
def SafetyDie.rtcNow (s : SafetyDie) : Nat := s.rtc + (s.now - s.rtcAt) / 1000000000

/-- The die's copy of GTS (R321): from its last alignment, or ns since the end of its reset. -/
def SafetyDie.gts (s : SafetyDie) : Nat := s.gtsBase + (s.now - s.gtsAt)

/-- The check die serves (R368): it reports READY or RUN, which it cannot in RETAIN, and SD_CD_KILL is not asserted. -/
def SafetyDie.cdServes (s : SafetyDie) : Bool := s.cdState.serves && !s.kill.on && s.power != .retain

/-- Flits sent by the safety die; none while the check die is in reset. -/
def SafetyDie.sendFlits (s : SafetyDie) (fs : List Flit) : SafetyDie :=
  if s.kill.released.isNone then s else { s with corTx := s.corTx.give s.now fs }
/-- One flit sent by the safety die. -/
def SafetyDie.sendFlit (s : SafetyDie) (f : Flit) : SafetyDie := s.sendFlits [f]

/-- The safety log with one more record (R326): in a full ring of 256 the oldest record goes, but a record of another
severity never takes the place of a SAFETY record, which are kept while others remain. Answers the ring, how many records
already sent left it, and the loss of one not yet sent (R497). -/
def logPush (log : List EventRec) (sentCount : Nat) (r : EventRec) : List EventRec × Nat × Option Severity :=
  if log.length < 256 then (log ++ [r], sentCount, none)
  else
    match log.findIdx? (fun x => x.name.severity != Severity.safety) with
    | some i =>
      let gone := (log[i]?).map (fun x => x.name.severity)
      ((log.eraseIdx i) ++ [r], if i < sentCount then sentCount - 1 else sentCount, if i < sentCount then none else gone)
    | none => (log, sentCount, some r.name.severity)

/-- A SAFETY record in the first-fault table (R326, R328): the first fills its entry, later ones count. -/
def firstFault (t : List (Nat × EventRec × Nat)) (i : Nat) (r : EventRec) : List (Nat × EventRec × Nat) :=
  if t.any (fun e => e.1 == i)
  then t.map (fun e => if e.1 = i then (e.1, e.2.1, e.2.2 + r.count) else e)
  else t ++ [(i, { r with first := true }, 0)]

/-- The safety die's own record in the first-fault table: it takes the place of a check-die record of the same cycle, which is
counted (R328). -/
def firstOwn (t : List (Nat × EventRec × Nat)) (i : Nat) (r : EventRec) : List (Nat × EventRec × Nat) :=
  t.map (fun e => if e.1 = i then (i, { r with first := true }, e.2.2 + e.2.1.count) else e)

/-- A record stored in the safety log and, a SAFETY record, in the first-fault table (R323, R326, R328). -/
def SafetyDie.store (s : SafetyDie) (r : EventRec) : SafetyDie :=
  let a := logPush s.log s.logSent r
  { s with
    log := a.1
    logSent := a.2.1
    logLost := match a.2.2 with
      | some v => s.logLost.add v
      | none => s.logLost
    firstFrom := match r.name.safetyIndex with
      | some i => if !r.onSafety && !(s.guest.first.any (fun e => e.1 == i)) then some (i, s.now) else s.firstFrom
      | none => s.firstFrom
    guest := match r.name.safetyIndex with
      | some i => { s.guest with
          first := if r.onSafety && s.firstFrom == some (i, s.now) then firstOwn s.guest.first i r else firstFault s.guest.first i r }
      | none => s.guest }

/-- A record as an OD message on path 0 (R245, R323, R497). -/
def SafetyDie.sendRecord (s : SafetyDie) (r : EventRec) : SafetyDie := s.sendFlits (flitsOd 0xFF 0 r.octets)

/-- Records of the safety log that have not been sent go to the check die, oldest first; after a loss an OVERFLOW record of
stage 3 goes before them (R497). Records forwarded from the check die do not go back. -/
def SafetyDie.flushLog (s : SafetyDie) : SafetyDie :=
  if !s.cdServes then s
  else
    let due := (s.log.drop s.logSent).filter (fun r => r.onSafety)
    let s1 := if s.logLost.any && due != [] then
        ({ s with logLost := {} } : SafetyDie).sendRecord (overflowRec 3 s.logLost s.gts)
      else s
    ({ s1 with logSent := s.log.length } : SafetyDie).forEach due (fun s r => s.sendRecord r)

/-- A happening recorded by the safety die now (R320, R321, R323). -/
def SafetyDie.raise (s : SafetyDie) (n : EventName) (ctx : Nat := 0) (inst : Nat := 0) (detail : Nat := 0)
    (opDesc : Nat := 0xFFFF) : SafetyDie :=
  (s.store { name := n, onSafety := true, inst := inst, ctx := ctx, opDesc := opDesc, detail := detail, gts := s.gts,
             timeLocal := !s.gtsSet }).flushLog

/-- The first-fault table that the die's own records of this cycle make. -/
def SafetyDie.firstNow (s : SafetyDie) : List (Nat × EventRec × Nat) :=
  (s.log.filter (fun r => r.onSafety && r.gts == s.gts)).foldl (fun t r => match r.name.safetyIndex with
    | some i => firstFault t i r
    | none => t) []

/-- LOG_CLEAR (R338): 1 the ring, 2 the first-fault table, 3 both; it is recorded after it acts. A new record of the same cycle
is kept (R328). -/
def SafetyDie.logClear (s : SafetyDie) (v : Nat) : SafetyDie :=
  let kept (l : List EventRec) := l.filter (fun r => r.onSafety && r.gts == s.gts)
  let s1 := if v = 1 ∨ v = 3 then
      { s with log := kept s.log, logSent := (kept (s.log.take s.logSent)).length, logLost := {} }
    else s
  let s2 := if v = 2 ∨ v = 3 then { s1 with guest := { s1.guest with first := s.firstNow } } else s1
  s2.raise .logCleared 0 0 v

/-- A LINK acknowledgement sent by the safety die (R248). -/
def SafetyDie.sendAck (s : SafetyDie) : SafetyDie :=
  ({ s with corRx := s.corRx.acked s.now } : SafetyDie).put (.link s.corRx.last false 0)

/-- A configuration set and the EPOCH_ADVANCE that applies it, or the advance alone (R199, R357). -/
def SafetyDie.sendEpoch (s : SafetyDie) (causes : Nat) : SafetyDie := s.sendFlit (flitEpoch s.guest.epoch causes)

/-- The verdict epoch one further (R199), once in a cycle. -/
def SafetyDie.stepEpoch (s : SafetyDie) : SafetyDie :=
  if s.advancedAt = some s.now then s
  else { s with guest := { s.guest with epoch := (s.guest.epoch + 1) % 2 ^ 32 }, advancedAt := some s.now }

/-- The verdict epoch advances by 1 for the causes of one boundary (R199): at the check die by EPOCH_ADVANCE, or, when it is
in reset or about to be, at the end of that reset. A cause of the cycle in which the epoch already advanced falls into that
boundary (item 3, R358; log entry 85). -/
def SafetyDie.advance (s : SafetyDie) (causes : Nat) : SafetyDie :=
  if s.kill.on || s.kill.wanted.isSome || !s.cdState.serves then { s with pending := s.pending ||| causes }
  else s.stepEpoch.sendEpoch causes

end Sys2Proof.Machine
end

