-- ==== Sys2Proof/Machine/Brake.lean ====
section
/-! DEFINITION. The brake channels (R262-R265), stop causes (R279-R282), restart and release (R283-R285), readback, pulse
tests and feedback (R286-R289), the brake test (R290-R292). -/

namespace Sys2Proof.Machine

/-- An input pair. -/
def SafetyDie.pair (s : SafetyDie) (i : Nat) : InputPair := s.pairs.get {} i
/-- The STOP pairs. -/
def SafetyDie.stopPairs (s : SafetyDie) : List Nat := (List.range 8).filter (fun i => s.get Od.PAIR_FUNCTION i == 1)
/-- OFF or fault-latched (R274). -/
def Eval.stops (e : Eval) : Bool := !e.on || e.fault != 0

/-- A field of the brake replaced. -/
def SafetyDie.setBrake (s : SafetyDie) (f : Brake → Brake) : SafetyDie := { s with brake := f s.brake }

/-- The guest book updated. -/
def SafetyDie.setGuest (s : SafetyDie) (f : GuestBook → GuestBook) : SafetyDie := { s with guest := f s.guest }

/-- An HBL source other than CD_SAFE_DEMAND is active (R264). A stop request of the firmware acts at its write alone. -/
def SafetyDie.hblSource (s : SafetyDie) : Bool :=
  s.stopPairs.any (fun i => (s.pair i).hbl.stops) || s.heart.tripped || !s.brake.gate || s.keeper.halted
    || s.guest.outputFault.testBit 1

/-- Streams run and both channels may be energised (R32, R263). -/
def SafetyDie.mayDrive (s : SafetyDie) : Bool := s.device == .run && s.power.awake

/-- BRK_A's driver output, a pulse in progress aside (R265). -/
def SafetyDie.driveA (s : SafetyDie) : Bool := s.brake.relA && s.brake.gate && s.mayDrive

/-- BRK_B may be energised by the HBL (R264). -/
def SafetyDie.mayB (s : SafetyDie) : Bool :=
  !s.brake.latch && !s.hblSource && !s.demand && s.brake.arm && s.mayDrive

/-- The pin BRK_A. -/
def SafetyDie.pinA (s : SafetyDie) : Bool := s.driveA && s.brake.pulseA.isNone
/-- The pin BRK_B. -/
def SafetyDie.pinB (s : SafetyDie) : Bool := s.brake.onB && s.brake.pulseB.isNone

/-- SAFE_STATE_N: driven low while either output is de-energised, other than by a pulse (R282). -/
def SafetyDie.safeStateN (s : SafetyDie) : Bool := s.driveA && s.brake.onB

/-- Seconds since the last pass of the brake test (R291). -/
def SafetyDie.btAge (s : SafetyDie) : Nat :=
  match s.guest.btPass with
  | some p => ((s.rtcNow : Int) - p).toNat
  | none => 0xFFFFFFFF

/-- FAULT_N: driven low while an input pair or output fault is latched, the brake test has FAILED or EXPIRED, or a safety
reset is in progress (R282). -/
def SafetyDie.faultN (s : SafetyDie) : Bool :=
  !((List.range 8).any (fun i => s.get Od.PAIR_FUNCTION i != 0
      && ((s.pair i).hbl.fault != 0 || (s.pair i).keeper.fault != 0))
    || s.guest.outputFault != 0 || s.guest.bt == .failed || s.guest.bt == .expired || s.boot.faultN)

/-- The guarding streams: enabled, with GUARD = 1 (R276; log entry 16). -/
def SafetyDie.guarding (s : SafetyDie) : List Nat :=
  (List.range 12).filter (fun n => s.on Od.STREAM_ENABLE n && s.on Od.GUARD n)

/-- What triggers 5 and 6 ask of a stream with GUARD = 1 (R276, R278). -/
def SafetyDie.streamTrigger (s : SafetyDie) (n : Nat) : Bool :=
  let x := s.sorter.streams.get {} n
  s.on Od.GUARD n && ((s.on Od.STOP_ON_LOSS n && (x.state == 0 || x.state == 1 || x.state == 7))
    || (s.on Od.STOP_ON_STARVED n && x.starved))

/-- The bits of SAFE_CAUSES whose condition is active or latched (R281). Bits 5, 6, 11 and 13 last no longer than their
happening (log entry 14). -/
def SafetyDie.activeCauses (s : SafetyDie) : Nat :=
  let stops (f : InputPair → Bool) : Bool := s.stopPairs.any (fun i => f (s.pair i))
  b01 (stops (fun p => !p.hbl.on || !p.keeper.on))
    + 2 * b01 (stops (fun p => p.hbl.fault != 0 || p.keeper.fault != 0))
    + 4 * b01 s.demand
    + 8 * b01 s.heart.tripped
    + 16 * b01 (s.guarding.any (fun n => s.streamTrigger n))
    + 128 * b01 ((s.guest.outputFault &&& 3) - (s.brake.pulseFaults &&& 3) != 0)
    + 256 * b01 (s.brake.pulseFaults &&& s.guest.outputFault &&& 3 != 0)
    + 512 * b01 (s.guest.outputFault.testBit 2)
    + 1024 * b01 (s.guest.bt == .expired && s.get Od.BT_EXPIRY_ACTION == 1)
    + 4096 * b01 s.keeper.halted

/-- SAFE_CAUSES as it reads (R295). -/
def SafetyDie.safeCauses (s : SafetyDie) : Nat := s.brake.causes ||| s.activeCauses

/-- A time since which a condition holds. -/
def sinceWhen (b : Bool) (old : Option Nat) (now : Nat) : Option Nat := if b then some (old.getD now) else none

/-- The outputs and what watches them follow the conditions (R264, R283, R285, R286, R289): the HBL's output, BRAKE_STATE, the
calm time, and the times of matching and differing signals. -/
def SafetyDie.settle (s : SafetyDie) : SafetyDie :=
  let b := s.brake
  let onB := s.mayB
  let rises := onB && !b.onB
  let falls := !onB && b.onB
  let state : BrakeState :=
    if rises && !s.on Od.BFB_ENABLE then .released
    else if b.state = .released && (falls || !s.driveA) then .applied
    else b.state
  let s1 := s.setBrake (fun b =>
    { b with
      onB := onB
      openAt := if rises then s.now else b.openAt
      closeAt := if falls then s.now else b.closeAt
      release := if rises then .none else b.release
      state := state
      pulsedA := if rises && !s.on Od.BFB_ENABLE then s.now else b.pulsedA
      pulsedB := if rises && !s.on Od.BFB_ENABLE then s.now else b.pulsedB
      calm := sinceWhen (!s.hblSource) b.calm s.now })
  let wantA := s1.driveA
  let wantB := onB
  let openB := wantA && wantB
  s1.setBrake (fun b =>
    { b with
      diffA := sinceWhen (b.pulseA.isNone && b.brbA != wantA) b.diffA s.now
      diffB := sinceWhen (b.pulseB.isNone && b.brbB != wantB) b.diffB s.now
      okA := sinceWhen (b.brbA == wantA) b.okA s.now
      okB := sinceWhen (b.brbB == wantB) b.okB s.now
      okF := sinceWhen (b.bfbA == openB && b.bfbB == openB) b.okF s.now })

/-- Both channels off and the stop latch set: a stop request of the firmware, an HBL source at its write (R264), after which the calm
of R283 starts anew. -/
def SafetyDie.channelsOff (s : SafetyDie) : SafetyDie :=
  let was := s.driveA || s.brake.onB
  (s.setBrake (fun b =>
    { b with latch := true, relA := false, arm := false, onB := false, release := .none, state := .applied,
             pulseA := none, pulseB := none, closeAt := if was then s.now else b.closeAt, calm := none })).settle

/-- BT_DURATION_MS in ns. -/
def SafetyDie.btDuration (s : SafetyDie) : Nat := s.get Od.BT_DURATION_MS * 1000000

/-- The test passes at BT_DURATION_MS + 100 ms (R290, R291). -/
def SafetyDie.btPass (s : SafetyDie) : SafetyDie :=
  match s.brake.test with
  | some t =>
    if t + s.btDuration + 100000000 ≤ s.now then
      (s.setBrake (fun b => { b with test := none, tq := false, overdueNoted := false })).setGuest (fun g =>
        { g with bt := .valid, btPass := some s.rtcNow, btResult := 1 })
    else s
  | none => s

/-- A running brake test ends without a pass, with BT_RESULT 3 ABORTED or 4 REFUSED. -/
def SafetyDie.endTest (s : SafetyDie) (result : Nat) : SafetyDie :=
  if s.brake.test.isSome
  then (s.setBrake (fun b => { b with test := none, tq := false })).setGuest (fun g => { g with btResult := result })
  else s

/-- A running brake test is aborted (R290, item 5), unless it passes now (R293). -/
def SafetyDie.abortTest (s : SafetyDie) : SafetyDie := s.btPass.endTest 3

/-- A restart event and the brake test (R290, item 5; R293): a test that started in the same cycle is refused, another is aborted. -/
def SafetyDie.eventTest (s : SafetyDie) : SafetyDie :=
  (if s.brake.test = some s.now then s.endTest 4 else s.abortTest).setBrake (fun b => { b with eventAt := some s.now })

/-- A release that started in this same cycle gives way to the stop cause, and is refused for it (R16, R284, R293). -/
def SafetyDie.refuseRestart (s : SafetyDie) : SafetyDie :=
  if s.brake.release ≠ .none ∧ s.brake.restartAt = s.now then s.raise .restartRefused 0 0 2 else s

/-- A stop cause (R278, R280, R281): recorded; in RUN both channels are de-energised, the device enters SAFE_HOLD, SAFE_ENTER is
sent and the verdict epoch advances. `merge` says that a check-die reset follows, whose end holds the one boundary (R260). -/
def SafetyDie.stop (s : SafetyDie) (bit : Nat) (merge : Bool := false) : SafetyDie :=
  let s1 := (s.refuseRestart.setBrake (fun b => { b with causes := b.causes ||| 2 ^ bit, stopAt := some s.now })).abortTest
  if s1.device ≠ .run then s1.settle
  else
    let s3 := ({ s1.channelsOff with device := .safeHold } : SafetyDie).sendFlit flitSafeEnter
    if merge then { s3 with pending := s3.pending ||| 2 } else s3.advance 2

/-- An HBL source other than CD_SAFE_DEMAND is activated: the latch is set (R264), and the cause acts. -/
def SafetyDie.hblStop (s : SafetyDie) (bit : Nat) (merge : Bool := false) : SafetyDie :=
  ((s.setBrake (fun b => { b with latch := true, calm := none })).settle).stop bit merge

/-- The BT_STATUS that counts now: the age decides before its own event is taken (R292, R293). -/
def SafetyDie.btNow (s : SafetyDie) : BtStatus :=
  let lim := s.get Od.BT_INTERVAL_MIN * 60
  match s.guest.bt with
  | .failed => .failed
  | .expired => .expired
  | _ =>
    if lim + s.get Od.BT_GRACE_MIN * 60 ≤ s.btAge then .expired
    else if lim ≤ s.btAge then .overdue
    else .valid

/-- The first condition of R284 that fails, by its number; 0 for the hold of R428; none when all hold. A stop cause of the same cycle
fails the second (R293). -/
def SafetyDie.releaseFails (s : SafetyDie) : Option Nat :=
  let b := s.brake
  let bad (x : SortStream) (n : Nat) : Bool :=
    !(x.state == 3 || x.state == 6) || (s.on Od.STOP_ON_ESCALATED n && x.escalated)
      || (s.on Od.STOP_ON_STARVED n && x.starved)
  if s.boot.blocked then some 0
  else if !(s.device == .safeHold || (s.device == .run && b.state == .applied && !b.relA)) then some 1
  else if s.safeCauses &&& (0xFFFF - 4) ≠ 0 || s.guest.outputFault != 0
      || (List.range 8).any (fun i => s.get Od.PAIR_FUNCTION i != 0
          && ((s.pair i).hbl.fault != 0 || (s.pair i).keeper.fault != 0)) || b.stopAt == some s.now then some 2
  else if !(s.cdState == .run && s.heart.armed) then some 3
  else if s.guarding.any (fun n => bad (s.sorter.streams.get {} n) n) then some 4
  else if !(s.btNow == .valid || s.btNow == .overdue) then some 5
  else if b.brbA || b.brbB || b.bfbA || b.bfbB then some 6
  else none

/-- A release starts (R285, steps 1 and 2). -/
def SafetyDie.release (s : SafetyDie) : SafetyDie :=
  let s1 := if s.device = .safeHold then
      (({ s with device := .run } : SafetyDie).sendFlit flitSafeExit).advance 4
    else s
  (s1.setBrake (fun b =>
    { b with relA := true, arm := false, state := .releasing, release := .waitReadback, restartAt := s.now })).settle

/-- A restart event (R283, R284): the HBL clears its latch when no source other than CD_SAFE_DEMAND is active; the firmware
releases, or sets the latch again and names the first condition that failed. -/
def SafetyDie.restart (s0 : SafetyDie) : SafetyDie :=
  let s := s0.eventTest
  if s.hblSource then s.raise .restartRefused 0 0 2
  else
    let s1 := s.setBrake (fun b => { b with latch := false, causes := s.activeCauses })
    match s1.releaseFails with
    | none => s1.release
    | some k => ((s1.setBrake (fun b => { b with latch := true, calm := none })).settle).raise .restartRefused 0 0 k

/-- AUTOMATIC restart (R283): no HBL source other than CD_SAFE_DEMAND active for 100 ms. -/
def SafetyDie.autoRestart (s : SafetyDie) : SafetyDie :=
  match s.brake.calm with
  | some t =>
    if s.get Od.RESTART_MODE = 1 ∧ s.brake.latch ∧ t + 100000000 ≤ s.now
    then (s.setBrake (fun b => { b with calm := some s.now })).restart else s
  | none => s

/-- Both outputs are not energised 1 ms after the restart event (R285): the restart lapses. -/
def SafetyDie.releaseLapse (s : SafetyDie) : SafetyDie :=
  if s.brake.release ≠ .none ∧ s.brake.restartAt + 1000000 ≤ s.now then s.channelsOff.raise .restartLapsed else s

/-- A readback changes (R285, step 3; R286). `isB` names the channel. -/
def SafetyDie.readback (s : SafetyDie) (isB level : Bool) : SafetyDie :=
  if isB then (s.setBrake (fun b => { b with brbB := level })).settle
  else
    let s1 := s.setBrake (fun b => { b with brbA := level })
    if level && s1.brake.release == .waitReadback
    then (s1.setBrake (fun b => { b with arm := true, release := .waitB })).settle else s1.settle

/-- An output fault latches (R289) and is a stop cause. -/
def SafetyDie.outputFault (s : SafetyDie) (channel bit : Nat) : SafetyDie :=
  let s1 := s.setGuest (fun g => { g with outputFault := g.outputFault ||| 2 ^ channel })
  if channel = 1 then s1.hblStop bit else s1.stop bit

/-- A readback has differed for more than 50 µs (R286). -/
def SafetyDie.readbackTimeout (s : SafetyDie) (isB : Bool) : SafetyDie :=
  match (if isB then s.brake.diffB else s.brake.diffA) with
  | some t => if t + 50000 < s.now then s.outputFault (b01 isB) 7 else s
  | none => s

/-- An output pulse starts in RELEASED (R287): BRK_B's fall half a period after BRK_A's. -/
def SafetyDie.pulseStart (s : SafetyDie) (isB : Bool) : SafetyDie :=
  let b := s.brake
  let period := s.get Od.PULSE_PERIOD_MS * 1000000
  if b.state ≠ .released then s
  else if isB then
    let from_ := max (b.pulsedB + period) (b.pulsedA + period / 2)
    if b.pulseB.isNone && decide (from_ ≤ s.now)
    then (s.setBrake (fun b => { b with pulseB := some s.now, pulsedB := s.now })).settle else s
  else if b.pulseA.isNone && decide (b.pulsedA + period ≤ s.now)
    then (s.setBrake (fun b => { b with pulseA := some s.now, pulsedA := s.now })).settle else s

/-- The readback must show off 50 µs after a pulse starts (R287). -/
def SafetyDie.pulseCheck (s : SafetyDie) (isB : Bool) : SafetyDie :=
  let b := s.brake
  match (if isB then b.pulseB else b.pulseA) with
  | some t =>
    if t + 50000 ≤ s.now && (if isB then b.brbB else b.brbA) then
      (s.setBrake (fun b => { b with pulseFaults := b.pulseFaults ||| 2 ^ b01 isB })).outputFault (b01 isB) 8
    else s
  | none => s

/-- An output pulse ends after PULSE_WIDTH_US (R287). -/
def SafetyDie.pulseEnd (s : SafetyDie) (isB : Bool) : SafetyDie :=
  let w := s.get Od.PULSE_WIDTH_US * 1000
  match (if isB then s.brake.pulseB else s.brake.pulseA) with
  | some t =>
    if t + w ≤ s.now then
      (s.setBrake (fun b => if isB then { b with pulseB := none } else { b with pulseA := none })).settle
    else s
  | none => s

/-- The brake is commanded open: both outputs energised, pulses aside. -/
def SafetyDie.commandedOpen (s : SafetyDie) : Bool := s.driveA && s.brake.onB

/-- A brake feedback fault (R288). -/
def SafetyDie.feedbackFault (s : SafetyDie) : SafetyDie :=
  if s.guest.outputFault.testBit 2 then s else s.outputFault 2 9

/-- A feedback input changes (R285, R288): both open end a release; outside the allowed times they must agree with each other
and with the commanded state. -/
def SafetyDie.feedback (s : SafetyDie) (isB level : Bool) : SafetyDie :=
  let s1 := (s.setBrake (fun b => if isB then { b with bfbB := level } else { b with bfbA := level })).settle
  if !s1.on Od.BFB_ENABLE then s1
  else
    let b := s1.brake
    let w := s1.get Od.BFB_TIME_MS * 1000000
    let s2 := if b.state = .releasing && b.onB && b.bfbA && b.bfbB
      then s1.setBrake (fun b => { b with state := .released, pulsedA := s1.now, pulsedB := s1.now }) else s1
    let moving := if s1.commandedOpen then decide (s1.now ≤ b.openAt + w) else decide (s1.now ≤ b.closeAt + w)
    if !moving && (b.bfbA != s1.commandedOpen || b.bfbB != s1.commandedOpen) then s2.feedbackFault else s2

/-- BFB_TIME_MS has passed without the feedback showing what is commanded (R288). -/
def SafetyDie.feedbackTimeout (s : SafetyDie) : SafetyDie :=
  let b := s.brake
  let w := s.get Od.BFB_TIME_MS * 1000000
  if !s.on Od.BFB_ENABLE then s
  else if s.commandedOpen then
    (if b.openAt + w ≤ s.now && !(b.bfbA && b.bfbB) then s.feedbackFault else s)
  else if b.closeAt + w ≤ s.now && (b.bfbA || b.bfbB) then s.feedbackFault
  else s

/-- FAULT_CLEAR (R289): each named fault whose signals have matched for 100 ms. -/
def SafetyDie.faultClear (s : SafetyDie) (bits : Nat) : SafetyDie :=
  let long (t : Option Nat) : Bool := match t with
    | some t => decide (t + 100000000 ≤ s.now)
    | none => false
  let ok := b01 (bits.testBit 0 && long s.brake.okA) + 2 * b01 (bits.testBit 1 && long s.brake.okB)
    + 4 * b01 (bits.testBit 2 && long s.brake.okF)
  let cleared := s.guest.outputFault &&& ok
  if cleared = 0 then s
  else
    ((s.setGuest (fun g => { g with outputFault := g.outputFault - cleared })).setBrake (fun b =>
      { b with pulseFaults := b.pulseFaults - (b.pulseFaults &&& cleared) })).settle

/-- BT_START (R290): starts the brake test, or REFUSED; true when it starts. -/
def SafetyDie.btStart (s : SafetyDie) : SafetyDie × Bool :=
  let b := s.brake
  if b.state = .applied && !s.driveA && !b.onB && !b.brbA && !b.brbB && !b.bfbA && !b.bfbB && b.test.isNone && b.eventAt != some s.now
  then (s.setBrake (fun b => { b with test := some s.now, tq := true }), true)
  else (s.setGuest (fun g => { g with btResult := 4 }), false)

/-- TQ_REQ goes low at BT_DURATION_MS (R290). -/
def SafetyDie.btTorqueEnd (s : SafetyDie) : SafetyDie :=
  match s.brake.test with
  | some t => if t + s.btDuration ≤ s.now then s.setBrake (fun b => { b with tq := false }) else s
  | none => s

/-- A motion edge that has held `ns` (R290, R291): 1 µs or longer fails the test. -/
def SafetyDie.motion (s : SafetyDie) (ns : Nat) : SafetyDie :=
  match s.brake.test with
  | some t =>
    if 1000 ≤ ns ∧ s.now ≤ t + s.btDuration + 100000000 then
      ((s.setBrake (fun b => { b with test := none, tq := false })).setGuest (fun g =>
        { g with bt := .failed, btResult := 2 })).raise .brakeTestFailed
    else s
  | none => s

/-- BT_AGE_S reaches the interval (R292): OVERDUE, with one WARN event. -/
def SafetyDie.btOverdue (s : SafetyDie) : SafetyDie :=
  if s.guest.bt = .valid && s.btNow == .overdue then
    let s1 := s.setGuest (fun g => { g with bt := .overdue })
    if s.brake.overdueNoted then s1 else (s1.setBrake (fun b => { b with overdueNoted := true })).raise .brakeTestOverdue
  else s

/-- BT_AGE_S reaches interval and grace (R292): EXPIRED, a SAFETY event, and a stop cause with BT_EXPIRY_ACTION = 1. -/
def SafetyDie.btExpired (s : SafetyDie) : SafetyDie :=
  if (s.guest.bt = .valid || s.guest.bt = .overdue) && s.btNow == .expired then
    let s1 := (s.setGuest (fun g => { g with bt := .expired })).raise .brakeTestExpired
    if s1.get Od.BT_EXPIRY_ACTION = 1 then s1.stop 10 else s1
  else s

/-- HOLD_REQUEST (R281, R369): a stop cause; outside RUN it is only recorded. -/
def SafetyDie.holdRequest (s : SafetyDie) : SafetyDie := s.stop 6

/-- CD_SAFE_DEMAND has been low for 130 ns (R256, R264): its falling edge sets the latch, and BRK_B goes off; the token brings
BRK_A off (R281, bit 2). A restart event of the same cycle is discarded (R16, R293). -/
def SafetyDie.demandLow (s : SafetyDie) (ns : Nat) : SafetyDie :=
  if ns < 130 ∨ s.demand then s
  else
    let s1 := (({ s with demand := true } : SafetyDie).setBrake (fun b =>
      { b with latch := true, causes := b.causes ||| 4, stopAt := some s.now })).settle
    if s.brake.release ≠ .none ∧ s.brake.restartAt = s.now then s1.stop 2 else s1

/-- CD_SAFE_DEMAND is high: the HBL may energise BRK_B (R285, step 4). -/
def SafetyDie.demandHigh (s : SafetyDie) : SafetyDie := ({ s with demand := false } : SafetyDie).settle

end Sys2Proof.Machine
end

