-- ==== Sys2Proof/Machine/Inputs.lean ====
section
/-! DEFINITION. The safety inputs (R266-R275): filter, pair state, discrepancy, test pulses, the two evaluators. -/

namespace Sys2Proof.Machine

/-- WIRING of a pair is ANTIVALENT (R266). -/
def SafetyDie.anti (s : SafetyDie) (i : Nat) : Bool := s.get Od.WIRING i == 1

/-- Both channels show their OFF levels (R266). -/
def Eval.bothOff (e : Eval) (anti : Bool) : Bool := !e.a && e.b == anti

/-- Both channels show their ON levels (R266). -/
def Eval.bothOn (e : Eval) (anti : Bool) : Bool := e.a && e.b != anti

/-- The pair's state follows its filtered levels (R268-R271): OFF from either channel's OFF level and while latched, ON only
from both ON levels; a discrepancy latch falls at a full OFF, and a test latch starts its wait there. -/
def Eval.follow (e : Eval) (anti : Bool) (now : Nat) : Eval :=
  let off := e.bothOff anti
  let full := e.bothOn anti
  let fault := if e.fault = 3 ∧ off then 0 else e.fault
  { e with
    fault := fault
    on := full && fault == 0
    lagAt := if off || full then none else some (e.lagAt.getD now)
    quiet := if fault = 4 ∧ off then some (e.quiet.getD now) else none }

/-- A filtered level taken (R267). -/
def Eval.take (e : Eval) (isB level anti : Bool) (now : Nat) : Eval :=
  (if isB then { e with b := level } else { e with a := level }).follow anti now

/-- A fault latched; the pair is OFF (R268, R270, R271). The discrepancy timer runs on beside FAULT_TEST. -/
def Eval.latch (e : Eval) (fault : Nat) (anti : Bool) (now : Nat) : Eval :=
  { e with fault := fault, on := false, lagAt := if fault = 4 then e.lagAt else none,
           quiet := if fault = 4 ∧ e.bothOff anti then some now else none }

/-- The evaluation restarted (R267, R295): filtered values at their OFF levels, a latched fault kept until the channels are
next seen at OFF. -/
def Eval.restart (e : Eval) (anti : Bool) (now : Nat) : Eval :=
  { a := false, b := anti, fault := e.fault, quiet := if e.fault = 4 then some now else none }

/-- PAIR_STATE of an evaluator (R295): 0 OFF, 1 ON, 2 WAIT, 3 and 4 the faults. -/
def Eval.code (e : Eval) : Nat :=
  if e.fault ≠ 0 then e.fault else if e.lagAt.isSome then 2 else b01 e.on

/-- A test-pulse period in ns (R271). -/
def SafetyDie.pulsePeriod (s : SafetyDie) : Nat := s.get Od.TP_PERIOD_MS * 1000000

/-- Place in the test-pulse period of a channel's own source, TPB half a period after TPA (R271). -/
def SafetyDie.pulsePhase (s : SafetyDie) (isB : Bool) : Nat :=
  let p := s.pulsePeriod
  (s.now - s.pulseAt + (if isB then p - p / 2 else 0)) % p

/-- The hold of R272: during a channel's own pulse and for 50 µs after it. -/
def SafetyDie.pulseHold (s : SafetyDie) (i : Nat) (isB : Bool) : Bool :=
  s.on Od.TEST_PULSE i && decide (s.pulsePhase isB < s.get Od.TP_WIDTH_US * 1000 + 50000)

/-- A pair after its evaluators changed: when they began to disagree (R273), and when a press began (R275). -/
def InputPair.settle (old new : InputPair) (now : Nat) : InputPair :=
  { new with
    differ := if new.hbl.on == new.keeper.on && new.hbl.fault == new.keeper.fault then none else some (old.differ.getD now)
    noted := new.noted && !(new.hbl.on == new.keeper.on && new.hbl.fault == new.keeper.fault)
    onAt := if new.hbl.on && !old.hbl.on then now else old.onAt }

/-- What an input pair's change brings (R274, R275, R281, R283): a STOP pair that comes to stop acts through the HBL and
through the firmware; a RESET pair that turns OFF without a fault of either evaluator gives a restart event or counts an ignored press. -/
def SafetyDie.pairEffect (s : SafetyDie) (i : Nat) (old new : InputPair) : SafetyDie :=
  if s.get Od.PAIR_FUNCTION i = 1 then
    let bit (e : Eval) : Nat := b01 (e.fault != 0)
    (s.when (new.hbl.stops && !old.hbl.stops) (fun s => s.hblStop (bit new.hbl))).when
      (new.keeper.stops && !old.keeper.stops) (fun s => s.stop (bit new.keeper))
  else if s.get Od.PAIR_FUNCTION i = 2 && old.hbl.on && !new.hbl.on && new.hbl.fault == 0
      && old.keeper.fault == 0 && new.keeper.fault == 0 then
    let d := s.now - old.onAt
    if 50000000 ≤ d ∧ d ≤ 5000000000
    then s.when (s.get Od.RESTART_MODE == 0) (fun s => s.restart)
    else s.bump Od.PAIR_FAULTS i
  else s

/-- The evaluators of a used pair changed by `f` (R273, R274). -/
def SafetyDie.evaluate (s : SafetyDie) (i : Nat) (f : InputPair → InputPair) : SafetyDie :=
  if s.get Od.PAIR_FUNCTION i = 0 ∨ 8 ≤ i then s
  else
    let old := s.pair i
    let new := old.settle (f old) s.now
    (({ s with pairs := s.pairs.set {} i new } : SafetyDie).settle).pairEffect i old new

/-- A raw level changes at its pin (R267, R274). -/
def SafetyDie.inputEdge (s : SafetyDie) (i : Nat) (isB level : Bool) : SafetyDie :=
  if 8 ≤ i then s
  else { s with pairs := s.pairs.upd {} i (fun p =>
    if isB then (if p.rawB = level then p else { p with rawB := level, edgeB := s.now })
    else (if p.rawA = level then p else { p with rawA := level, edgeA := s.now })) }

/-- The raw level of a channel is taken by the evaluators named (R267, R272, R273): it has held FILTER_US on the AO clock,
whose tick may be 3 % short. -/
def SafetyDie.filterElapsed (s : SafetyDie) (i : Nat) (isB hbl keeper : Bool) : SafetyDie :=
  let p := s.pair i
  let level := if isB then p.rawB else p.rawA
  let edge := if isB then p.edgeB else p.edgeA
  if s.now < edge + s.get Od.FILTER_US i * 970 ∨ s.pulseHold i isB then s
  else s.evaluate i (fun p =>
    { p with hbl := if hbl then p.hbl.take isB level (s.anti i) s.now else p.hbl
             keeper := if keeper then p.keeper.take isB level (s.anti i) s.now else p.keeper })

/-- The hold of R272 ends: an OFF edge that fell in it is taken. -/
def SafetyDie.pulseHoldEnd (s : SafetyDie) (i : Nat) (isB : Bool) : SafetyDie :=
  let p := s.pair i
  let level := if isB then p.rawB else p.rawA
  if level == (if isB then s.anti i else false) then s.filterElapsed i isB true true else s

/-- An input fault recorded in FAULTS and by its event (R293, R295). -/
def SafetyDie.pairFault (s : SafetyDie) (i : Nat) (n : EventName) (f : InputPair → InputPair) : SafetyDie :=
  ((s.bump Od.PAIR_FAULTS i).raise n 0 (instOf i 0xFF)).evaluate i f

/-- The channels not yet at OFF reach it in this cycle: their raw levels are there and have held FILTER_US, within its ±3 % (R267). -/
def SafetyDie.reachesOff (s : SafetyDie) (i : Nat) (e : Eval) : Bool :=
  let p := s.pair i
  let f := s.get Od.FILTER_US i
  let due (raw : Bool) (level : Bool) (edge : Nat) : Bool := raw == level && decide (edge + f * 970 ≤ s.now ∧ s.now ≤ edge + f * 1030)
  (!e.a || due p.rawA false p.edgeA) && (e.b == s.anti i || due p.rawB (s.anti i) p.edgeB) && (e.a || e.b != s.anti i)

/-- The discrepancy timer (R269, R270): a lag at or below T - 10 µs never faults, nor one that ends with both channels at OFF in the same
cycle (R293). -/
def SafetyDie.discrepancy (s : SafetyDie) (i : Nat) : SafetyDie :=
  let late (e : Eval) : Bool := match e.lagAt with
    | some t => decide (t + s.get Od.DISC_TIME i * 10000 < s.now + 10000) && e.fault != 3 && !s.reachesOff i e
    | none => false
  -- beside FAULT_TEST, whose release asks for more, the fault is recorded and the timer stops
  let set (e : Eval) : Eval := if e.fault = 4 then { e with lagAt := none } else e.latch 3 (s.anti i) s.now
  let p := s.pair i
  if (late p.hbl || late p.keeper) && s.get Od.PAIR_FUNCTION i != 0 then
    s.pairFault i .pairDiscrepancy (fun p =>
      { p with hbl := if late p.hbl then set p.hbl else p.hbl
               keeper := if late p.keeper then set p.keeper else p.keeper })
  else s

/-- The sample of a test-pulse window (R271): the source that pulses, both channels as sampled in its last 10 µs, and the
other channel just before the pulse. -/
def SafetyDie.pulseWindow (s : SafetyDie) (i : Nat) (sourceB a b before : Bool) : SafetyDie :=
  let w := s.get Od.TP_WIDTH_US * 1000
  let at_ := s.pulsePhase sourceB
  let own := if sourceB then b else a
  let other := if sourceB then a else b
  if s.on Od.TEST_PULSE i && s.get Od.PAIR_FUNCTION i != 0 && decide (w ≤ at_ + 10000 ∧ at_ ≤ w)
      && (own || (!other && before)) then
    s.pairFault i .pairTestFault (fun p =>
      { p with hbl := p.hbl.latch 4 (s.anti i) s.now, keeper := p.keeper.latch 4 (s.anti i) s.now })
  else s

/-- FAULT_TEST is released (R271): both channels at OFF, without a test fault, for TP_PERIOD_MS. -/
def SafetyDie.testRelease (s : SafetyDie) (i : Nat) : SafetyDie :=
  let ready (e : Eval) : Bool := match e.quiet with
    | some t => e.fault == 4 && decide (t + s.pulsePeriod ≤ s.now)
    | none => false
  let free (e : Eval) : Eval := if ready e then ({ e with fault := 0 } : Eval).follow (s.anti i) s.now else e
  s.evaluate i (fun p => { p with hbl := free p.hbl, keeper := free p.keeper })

/-- The evaluators have disagreed for more than 1 ms (R273): the firmware records an input fault of the pair, once for one disagreement,
whatever fault its own evaluation holds. -/
def SafetyDie.disagree (s : SafetyDie) (i : Nat) : SafetyDie :=
  let p := s.pair i
  match p.differ with
  | some t =>
    if t + 1000000 < s.now ∧ !p.noted ∧ s.get Od.PAIR_FUNCTION i ≠ 0 then
      s.pairFault i .pairDisagree (fun p => { p with keeper := p.keeper.latch 4 (s.anti i) s.now, noted := true })
    else s
  | none => s

/-- The evaluation of pairs restarts (R267, R295): a STOP pair is OFF, a stop cause even where the pair was OFF under its old
function. -/
def SafetyDie.restartPairs (s : SafetyDie) (is : List Nat) : SafetyDie :=
  s.forEach is (fun s i =>
    let was := (s.pair i).hbl.stops
    (s.evaluate i (fun p =>
      { p with hbl := p.hbl.restart (s.anti i) s.now, keeper := p.keeper.restart (s.anti i) s.now,
               edgeA := s.now, edgeB := s.now })).when
      (was && s.get Od.PAIR_FUNCTION i == 1) (fun y => y.hblStop (b01 ((y.pair i).hbl.fault != 0))))

/-- Every pair after a reset of the safety die (R267): filtered values at OFF, no fault, the raw levels as they stand. -/
def SafetyDie.resetPairs (s : SafetyDie) : SafetyDie :=
  { s with
    pulseAt := s.now
    pairs := (List.range 8).foldl (fun (t : Tbl InputPair) i =>
      let p := t.get {} i
      t.set {} i { rawA := p.rawA, rawB := p.rawB, edgeA := s.now, edgeB := s.now,
                   hbl := ({} : Eval).restart (s.anti i) s.now, keeper := ({} : Eval).restart (s.anti i) s.now }) s.pairs }

end Sys2Proof.Machine
end

