-- ==== Sys2Proof/Machine/Kill.lean ====
section
/-! DEFINITION. The end of sessions (R352, R455), SD_CD_KILL (R257-R260, R437), and the resets of the safety die (R435-R440). -/

namespace Sys2Proof.Machine

/-- A session by its slot. -/
def SafetyDie.session (s : SafetyDie) (i : Nat) : Option Session := s.sessions.get none i

/-- A session's slot replaced. -/
def SafetyDie.setSession (s : SafetyDie) (i : Nat) (x : Option Session) : SafetyDie :=
  { s with sessions := s.sessions.set none i x }

/-- A session updated. -/
def SafetyDie.updSession (s : SafetyDie) (i : Nat) (f : Session → Session) : SafetyDie :=
  s.setSession i ((s.session i).map f)

/-- One armed injector disarmed by item `cause` of R455, as the safety die orders it (R462); its held flits are dropped into
the NAK that the broken sequence brings. -/
def SafetyDie.disarmOne (s : SafetyDie) (cause : Nat) (x : ArmedInj) : SafetyDie :=
  (({ s with armed := s.armed.filter (fun y => y.num != x.num)
             injectors := s.injectors.filter (fun (i : Injector) => i.num != x.num) } : SafetyDie).sendFlit
    (flitInject x.num false)).raise .injectDisarmed (ctxPartner (0xFC0 + s.injectOwner)) (instOf x.num 0) cause

/-- Injector `j` disarmed, if the safety die holds it armed. With the last one the owner is released (R453). -/
def SafetyDie.disarmInjector (s : SafetyDie) (j cause : Nat) : SafetyDie :=
  let s1 := match s.armed.find? (fun x => x.num == j) with
    | some x => s.disarmOne cause x
    | none => s
  if s1.armed = [] then { s1 with injectOwner := 0xFF } else s1

/-- Every injector disarmed with its record, and every entry of 0x6800–0x6FFF at its default (R438, R455, R462). No item of R455 is the
cause: DETAIL is 0. -/
def SafetyDie.dropInjectors (s0 : SafetyDie) : SafetyDie :=
  let s := s0.forEach s0.armed (fun s x => s.raise .injectDisarmed (ctxPartner (0xFC0 + s.injectOwner)) (instOf x.num 0) 0)
  { s with
    armed := [], injectors := [], injectOwner := 0xFF
    values := s.values.filter (fun e => decide (e.1 / 256 < 0x6800 ∨ 0x6FFF < e.1 / 256))
    regs := s.regs.filter (fun e => decide (e.1 / 256 < 0x6800 ∨ 0x6FFF < e.1 / 256)) }

/-- The staged set is discarded and unlocked (R356). -/
def SafetyDie.discardStage (s : SafetyDie) : SafetyDie :=
  { s with staging := { s.staging with owner := none, entries := [], status := 0, step := .none, orphan := false } }

/-- SERVICE is left for SAFE_HOLD; a device held by its self-test may release again (R427, R428). -/
def SafetyDie.leaveService (s : SafetyDie) : SafetyDie :=
  if s.device = .service
  then { s with device := .safeHold, serviceOwner := none, boot := { s.boot with blocked := false } }
  else s

/-- A session ends (R352): nothing it waited for answers any more, its staged set goes unless it is being committed, its injectors are disarmed, and SERVICE is left
when it entered it. -/
def SafetyDie.endSession (s : SafetyDie) (i : Nat) : SafetyDie :=
  if s.session i = none then s
  else
    let s1 : SafetyDie := { s.setSession i none with
      stores := s.stores.map (fun (p : PendingStore) => if p.slot = i then { p with slot := 64 } else p)
      fw := { s.fw with asker := if s.fw.asker = i then 64 else s.fw.asker } }
    let s2 : SafetyDie := if s1.staging.owner = some i then
        (if s1.staging.step = .none then s1.discardStage else { s1 with staging := { s1.staging with orphan := true } })
      else s1
    let s3 := if s2.injectOwner = i ∧ s2.armed ≠ [] then
        { (s2.forEach s2.armed (fun s x => s.disarmOne 4 x)) with injectOwner := 0xFF } else s2
    if s3.serviceOwner = some i then s3.leaveService else s3

/-- The sessions of paths 0–2 end (R352, item 5). -/
def SafetyDie.endCheckSessions (s : SafetyDie) : SafetyDie :=
  s.forEach (List.range 64) (fun s i => match s.session i with
    | some x => if x.path ≤ 2 then s.endSession i else s
    | none => s)

/-- WDH and roll call hold their counts (R310), and the time that an arm has run (R299, R309). -/
def Dog.freeze (x : Dog) (now : Nat) : Dog :=
  if x.state = .off ∨ x.held.isSome then x
  else { x with held := some ((now - x.base) / 1000), armed := x.armed.map (fun t => now - t) }

/-- Roll call holds its cycle timer. -/
def RollCall.freeze (x : RollCall) (now : Nat) : RollCall :=
  if x.held.isSome then x else { x with held := some ((now - x.startAt) / 1000) }

/-- SD_CD_KILL asserted (R253, R257-R260, R310): the check die is in reset, its reports end, the heartbeat monitor is disarmed,
its sessions end. `counted` for the causes of R259; `power` when CD_PWR_EN is to go low. -/
def SafetyDie.assertKill (s : SafetyDie) (counted power keep : Bool) : SafetyDie :=
  if s.kill.on then { s with kill := { s.kill with power := s.kill.power || power, keep := s.kill.keep || keep } }
  else
    let w := s.get Od.CD_RESET_WINDOW_S * 1000000000
    let times := if counted then s.kill.times.filter (fun t => decide (s.now ≤ t + w)) ++ [s.now] else s.kill.times
    let locked := counted && decide (s.get Od.CD_RESET_LIMIT < times.length)
    let s1 := ({ s with
      kill := { s.kill with on := true, since := s.now, power := power, wanted := none, keep := keep || locked,
                            awaiting := true, report := false, times := times, released := none, lost := false }
      cdState := .off
      heart := { s.heart with armed := false }
      corTx := {}
      corRx := {}
      sorter := { s.sorter with streams := [] }
      injectors := []
      staging := { s.staging with sent := false }
      wdh := s.wdh.freeze s.now
      rc := s.rc.freeze s.now } : SafetyDie).bump Od.CD_RESETS
    let s2 := (s1.endCheckSessions.dropInjectors).demandLow 130
    if locked then (s2.setGuest (fun g => { g with cdLocked := true })).raise .cdResetLocked else s2

/-- A heartbeat trip (R254, R260, R281): BRK_B, then BRK_A and SAFE_HOLD, then the kill once BRK_A reads off. -/
def SafetyDie.trip (s : SafetyDie) : SafetyDie :=
  if s.kill.on || s.kill.wanted.isSome then s
  else
    let s1 := { s with heart := { s.heart with tripped := true }, kill := { s.kill with wanted := some s.now } }
    (s1.raise .heartTrip).hblStop 3 true

/-- The kill that a trip calls for (R254): when the readback shows BRK_A off, or 60 µs after the trip. -/
def SafetyDie.killIfDue (s : SafetyDie) : SafetyDie :=
  match s.kill.wanted with
  | some t =>
    if !s.brake.brbA || decide (t + 60000 ≤ s.now) then s.assertKill true (s.on Od.KILL_POWER) false else s
  | none => s

/-- A reset in the reset record (R435, R440): 0 POR, 1 VBAT loss, 2 RESET_N, 3 safety, 4 warm; and one boot more. -/
def GuestBook.recordReset (g : GuestBook) (kind detail : Nat) : GuestBook :=
  { g with lastReset := kind, lastDetail := detail, boots := (g.boots + 1) % 2 ^ 32,
           resetCounts := g.resetCounts.modify kind (fun n => (n + 1) % 2 ^ 32) }

/-- A store that fails, or that a reset overtakes, leaves the entry's previous value (R341). -/
def SafetyDie.undoStore (s : SafetyDie) (w : StoreWork) : SafetyDie :=
  match w with
  | .entry k _ p => { s with values := s.values.putKey k p }
  | .roleKey r p => { s with keys := s.keys.set [] r p }
  | .splitApp p => { s with splitApp := p }
  | .cert p => { s with cert := p }

/-- Every store in progress undone, the newest first. -/
def SafetyDie.undoStores (s : SafetyDie) : SafetyDie := s.stores.foldr (fun p s => s.undoStore p.work) s

/-- A write to the P store goes to the copy with the older sequence number (R441): the other then holds what stood there before. -/
def SafetyDie.writeStore (s : SafetyDie) (f : OdStore → OdStore) (keys : Tbl Octets) : SafetyDie :=
  { s with flash := f s.flash, older := s.flash, olderKeys := keys }

/-- Every reset of the safety die (R282, R435-R438): BOOT, both outputs off, sessions and staged set gone, V and W lost, P and G
kept, LOCK kept but at POR; the check die is held in reset. -/
def SafetyDie.restartAll (s0 : SafetyDie) (kind : Nat) (g : GuestBook) : SafetyDie :=
  let s := s0.undoStores
  let por := decide (kind ≤ 1)
  let s1 : SafetyDie :=
    { now := s.now
      draws := s.draws
      sent := s.sent
      device := .boot
      power := if !por && (s.power == .dark || s.power == .standby) then s.power else .active
      values := s.flash
      flash := s.flash
      older := s.older
      olderKeys := s.olderKeys
      bootCfg := s.bootCfg
      keys := s.keys
      splitApp := s.splitApp
      cert := s.cert
      floor := s.floor
      guest := if s.brake.test.isSome && kind != 1 then { g with btResult := 3 } else g
      rtc := s.rtc
      rtcAt := s.rtcAt
      rtcSet := s.rtcSet
      gtsAt := s.now
      resetEnd := s.now
      kill := { on := true, since := s.now, pwrEn := !por && s.kill.pwrEn, pg := s.kill.pg, pgAt := s.kill.pgAt,
                pwrAt := s.kill.pwrAt, keep := (!por && (s.power == .dark || s.power == .standby)) || g.cdLocked, lost := kind != 4 }
      pairs := s.pairs
      brake := { brbA := s.brake.brbA, brbB := s.brake.brbB, bfbA := s.brake.bfbA, bfbB := s.brake.bfbB, closeAt := s.now }
      gate := { lock := s.gate.lock && !por }
      fw := { s.fw with stored := s.fw.stored && s.fw.state != 3, state := 0, next := none, runVersion := 0, runSec := 0,
                        runDigest := List.replicate 32 0 }
      boot := { startedAt := s.now, faultN := kind == 3 || (s.boot.faultN && !por)
                heldSince := if kind = 2 ∨ kind = 3 then some s.now else none }
      thermLow := s.thermLow
      temps := s.temps }
  s1.resetPairs.settle

/-- A safety reset (R302, R235, R249, R30, R298, R435): its SAFETY record fills the first-fault table before. -/
def SafetyDie.safetyReset (s : SafetyDie) (n : EventName) (inst detail opDesc : Nat) : SafetyDie :=
  let s1 := s.store { name := n, onSafety := true, inst := inst, detail := detail, opDesc := opDesc, gts := s.gts,
                      timeLocal := !s.gtsSet }
  s1.restartAll 3 (s1.guest.recordReset 3 (n.safetyIndex.getD 0))

end Sys2Proof.Machine
end

