-- ==== Sys2Proof/Machine/Watchdog.lean ====
section
/-! DEFINITION. The watchdogs WDS and WDH (R296-R310, R317): service keys, window, expiry, grace, enable, lock, hold. A tick is
1,000 ns of the model's clock. -/

namespace Sys2Proof.Machine

/-- A watchdog: WDH (true) or WDS. -/
def SafetyDie.dog (s : SafetyDie) (host : Bool) : Dog := if host then s.wdh else s.wds

/-- A watchdog replaced. -/
def SafetyDie.setDog (s : SafetyDie) (host : Bool) (x : Dog) : SafetyDie :=
  if host then { s with wdh := x } else { s with wds := x }

/-- The count (R297, R309): time since it was 0, in ticks, or the held count. -/
def Dog.count (x : Dog) (now : Nat) : Nat :=
  if x.state = .off then 0 else x.held.getD ((now - x.base) / 1000)

/-- The watchdog goes on from its held count, and its arm from the time it had run (R309). -/
def Dog.thaw (x : Dog) (now : Nat) : Dog :=
  match x.held with
  | some n => { x with held := none, base := now - n * 1000, armed := x.armed.map (fun e => now - e) }
  | none => x

/-- The watchdog goes on with its count at 0, its state unchanged (R309, R310). -/
def Dog.restart (x : Dog) (now : Nat) : Dog := { x.thaw now with base := now }

/-- Mode, TIMEOUT, WOPEN and GRACE as the dictionary has them now (R305, R308); WDS runs WINDOW in SPLIT (R242). -/
def SafetyDie.loadDog (s : SafetyDie) (host : Bool) (x : Dog) : Dog :=
  if host then
    { x with window := s.get Od.WDH_MODE == 1, timeout := s.get Od.WDH_TIMEOUT_US, wopen := s.get Od.WDH_WOPEN_US,
             grace := s.get Od.WDH_GRACE_US }
  else
    { x with window := s.get Od.WDS_MODE == 1 || s.keeper.split, timeout := s.get Od.WDS_TIMEOUT_US,
             wopen := s.get Od.WDS_WOPEN_US, grace := s.get Od.WDS_GRACE_US, boot := false }

/-- Why WDH and roll call hold (R309, R310): debug halt, a sleep state, or no READY since SD_CD_KILL. -/
def SafetyDie.hostHeld (s : SafetyDie) : Bool := s.keeper.halted || !s.power.awake || s.kill.awaiting

/-- A second failure or the end of the grace period (R302): a safety reset, counted. -/
def SafetyDie.dogReset (s : SafetyDie) (host : Bool) (cause : Nat) : SafetyDie :=
  (s.setGuest (fun g => if host then { g with wdhResets := (g.wdhResets + 1) % 2 ^ 32 }
    else { g with wdsResets := (g.wdsResets + 1) % 2 ^ 32 })).safetyReset
      (if host then .wdhReset else .wdsReset) (instOf (b01 host) 0xFF) cause 0xFFFF

/-- A failure at a time (R301, R302, R305): 1 TIMEOUT, 2 EARLY, 3 KEY_ERROR. The first brings GRACE, a WARN event and the warning
interrupt; the second, and any before WDS's first accepted service, a safety reset. -/
def SafetyDie.dogFail (s : SafetyDie) (host : Bool) (cause at_ : Nat) : SafetyDie :=
  let x := s.dog host
  match x.state with
  | .off => s
  | .grace => s.dogReset host cause
  | .running =>
    if x.boot then s.dogReset host cause
    else
      let s1 := s.setDog host { x with state := .grace, base := at_, lastFail := cause, armed := none }
      let s2 := (s1.bump (if host then Od.WDH_WARNINGS else Od.WDS_WARNINGS)).raise
        (if host then .wdhWarning else .wdsWarning) 0 (instOf (b01 host) 0xFF) cause
      if host then s2.put (.msix 0) else s2

/-- The expiry, or the end of the grace period, is due (R300, R302). -/
def Dog.due (x : Dog) (now : Nat) : Bool :=
  x.held.isNone && (match x.state with
    | .off => false
    | .running => decide (x.base + x.timeout * 1000 ≤ now)
    | .grace => decide (x.base + x.grace * 1000 ≤ now))

/-- What is due is taken before anything else of that tick (R300, R302, R317). -/
def SafetyDie.dogDue (s : SafetyDie) (host : Bool) : SafetyDie :=
  let x := s.dog host
  if x.due s.now then
    (if x.state = .running then s.dogFail host 1 (x.base + x.timeout * 1000) else s.dogReset host 1)
  else s

/-- WATCHDOG_EXPIRY: the count reaches TIMEOUT while RUNNING (R300, R301). -/
def SafetyDie.dogExpiry (s : SafetyDie) (host : Bool) : SafetyDie :=
  if (s.dog host).state = .running then s.dogDue host else s

/-- GRACE_EXPIRY (R302). -/
def SafetyDie.graceExpiry (s : SafetyDie) (host : Bool) : SafetyDie :=
  if (s.dog host).state = .grace then s.dogDue host else s

/-- A service judged (R300, R302); in the tick of an expiry it is discarded. -/
def SafetyDie.dogService (s : SafetyDie) (host : Bool) : SafetyDie :=
  let x := s.dog host
  let n := x.count s.now
  if x.state = .off then s
  else if x.window ∧ n < x.wopen then s.dogFail host 2 s.now
  else s.setDog host (s.loadDog host { x with state := .running, base := s.now, lastFail := 0, armed := none, held := none })

/-- A service at the arrival of its second key, or of a passing roll-call cycle: the expiry that falls due in its tick comes
first and discards it; an older one has been taken before. -/
def SafetyDie.dogServe (s : SafetyDie) (host : Bool) : SafetyDie :=
  let x := s.dog host
  let s1 := s.dogDue host
  let lim := if x.state = .running then x.timeout else x.grace
  if x.due s.now && x.count s.now == lim then s1 else s1.dogService host

/-- The arm has lapsed: more than 16 ticks since its key (R299). -/
def Dog.lapsed (x : Dog) (now : Nat) : Bool :=
  match x.armed with
  | some t => x.held.isNone && decide (t + 16000 < now)
  | none => false

/-- SERVICE_ARM_LAPSE: a key error (R299). -/
def SafetyDie.armLapse (s : SafetyDie) (host : Bool) : SafetyDie :=
  let x := s.dog host
  if x.lapsed s.now then (s.setDog host { x with armed := none }).dogFail host 3 s.now else s

/-- A write to a service register (R299): arms, serves, or is a key error. -/
def SafetyDie.dogKey (s0 : SafetyDie) (host : Bool) (v : Nat) : SafetyDie :=
  let s := s0.armLapse host
  let x := s.dog host
  if x.state = .off then s
  else if v = 0xA35C ∧ x.armed = none then s.setDog host { x with armed := some s.now }
  else
    let s1 := s.setDog host { x with armed := none }
    if v = 0x5CA3 ∧ x.armed ≠ none then s1.dogServe host else (s1.dogDue host).dogFail host 3 s.now

/-- A store of the keeper firmware to the WDS service register; none leaves a halted pair (R296, R309). -/
def SafetyDie.wdsStore (s : SafetyDie) (v : Nat) : SafetyDie := if s.keeper.halted then s else s.dogKey false (v % 65536)

/-- Roll call serves WDH (R315). -/
def SafetyDie.autoServe (s : SafetyDie) : Bool := s.rc.cfg.on Od.RC_ENABLE && s.rc.cfg.on Od.RC_AUTO_SERVE

/-- A host write to WDH_SVC arrives (R309, R310, R315): discarded and counted in a halt or when roll call serves. -/
def SafetyDie.wdhSvc (s : SafetyDie) (v : Nat) : SafetyDie :=
  if s.keeper.halted then s.bump Od.WDH_IGNORED
  else if s.autoServe then (s.bump Od.WDH_IGNORED).raise .wdhIgnored
  else s.dogKey true (v % 65536)

/-- WDH starts (R306): on EN = 1, or at READY with WDH_START = 1. -/
def SafetyDie.wdhStart (s : SafetyDie) : SafetyDie :=
  let s1 := { s with gate := { s.gate with en := true } }
  if s1.wdh.state = .off then
    let x := s1.loadDog true { state := .running, base := s1.now }
    { s1 with wdh := if s1.hostHeld then { x with held := some 0 } else x }
  else s1

/-- EN = 0 is written (R306, R307, R317): an expiry due is recorded first; LOCK refuses; without a completed sequence it is
ignored, counted and recorded. -/
def SafetyDie.wdhDisable (s0 : SafetyDie) : SafetyDie :=
  let s := s0.dogDue true
  let g := s.gate
  let s1 := { s with gate := { g with step := 0 } }
  if g.step = 2 ∧ s.now ≤ g.stepAt + 16000 then
    if g.lock then s1.raise .disableDiscarded
    else { s1 with gate := { s1.gate with en := false }, wdh := {} }
  else
    let s2 := if g.step ≠ 0 then s1.bump Od.WDH_IGNORED else s1
    (s2.bump Od.WDH_IGNORED).raise .wdhIgnored

/-- LOCK = 1 is written (R307): it also sets EN. -/
def SafetyDie.wdhLock (s : SafetyDie) : SafetyDie := ({ s with gate := { s.gate with lock := true } } : SafetyDie).wdhStart

/-- A write to WDH_KEY (R306): the next key of the sequence, or the sequence is discarded and counted. -/
def SafetyDie.wdhKey (s : SafetyDie) (v : Nat) : SafetyDie :=
  let k := v % 65536
  if s.gate.step = 0 ∧ k = 0xD15A then { s with gate := { s.gate with step := 1 } }
  else if s.gate.step = 1 ∧ k = 0xB1E0 then { s with gate := { s.gate with step := 2, stepAt := s.now } }
  else ({ s with gate := { s.gate with step := 0 } } : SafetyDie).bump Od.WDH_IGNORED

/-- The 16 ticks after the second key have passed without EN = 0 (R306). -/
def SafetyDie.disableLapse (s : SafetyDie) : SafetyDie :=
  if s.gate.step = 2 ∧ s.gate.stepAt + 16000 < s.now
  then ({ s with gate := { s.gate with step := 0 } } : SafetyDie).bump Od.WDH_IGNORED else s

/-- A disable sequence under way is discarded by a wrong value, and counted (R306). -/
def SafetyDie.breakSequence (s : SafetyDie) : SafetyDie :=
  if s.gate.step = 0 then s else ({ s with gate := { s.gate with step := 0 } } : SafetyDie).bump Od.WDH_IGNORED

/-- A write to WDH_CTRL (R306, R307, R317): LOCK takes effect before EN; EN = 1 is a wrong value for a disable sequence. -/
def SafetyDie.wdhCtrl (s : SafetyDie) (v : Nat) : SafetyDie :=
  let s1 := if v.testBit 1 then s.wdhLock else s
  if v.testBit 0 then s1.breakSequence.wdhStart else s1.wdhDisable

/-- The clock monitor of a watchdog trips (R298, R317): a safety reset. -/
def SafetyDie.clockTrip (s : SafetyDie) (host : Bool) : SafetyDie :=
  (s.setGuest (fun g => { g with clockTrips := (g.clockTrips + 1) % 2 ^ 32 })).safetyReset .wdClockTrip
    (instOf (b01 host) 0xFF) 0 0xFFFF

/-- A new roll-call cycle (R309, R310): counts from 0, positions kept. -/
def RollCall.newCycle (r : RollCall) (now : Nat) : RollCall :=
  { r with
    held := none
    startAt := now
    stray := false
    entities := r.entities.map (fun (e : Nat × RcEntity) => (e.1, { e.2 with count := 0, seqBad := false })) }

/-- WDH and roll call go on once nothing holds them (R310): WDH at count 0, roll call with a new cycle. -/
def SafetyDie.hostResume (s : SafetyDie) : SafetyDie :=
  if s.hostHeld then s
  else
    { s with
      wdh := if s.wdh.held.isSome then s.wdh.restart s.now else s.wdh
      rc := if s.rc.held.isSome then s.rc.newCycle s.now else s.rc }

/-- WDH and roll call hold (R310). -/
def SafetyDie.hostHold (s : SafetyDie) : SafetyDie := { s with wdh := s.wdh.freeze s.now, rc := s.rc.freeze s.now }

/-- A debugger halts the keeper pair (R238, R264, R281, R309, R317): what is due is taken, both watchdogs hold, and the brake
outputs are off throughout. -/
def SafetyDie.debugHalt (s0 : SafetyDie) : SafetyDie :=
  let s := (s0.dogDue false).dogDue true
  if s.keeper.halted then s
  else
    let s1 := { s with keeper := { s.keeper with halted := true }, wds := s.wds.freeze s.now }
    ((s1.hostHold).setBrake (fun b => { b with relA := false, arm := false })).hblStop 12

/-- The halt ends (R309): each watchdog goes on from its held count; WDH with RC_AUTO_SERVE = 1 at 0 with a new cycle. -/
def SafetyDie.debugResume (s : SafetyDie) : SafetyDie :=
  if !s.keeper.halted then s
  else
    let s1 := { s with keeper := { s.keeper with halted := false }, wds := s.wds.thaw s.now }
    let s2 := if s1.hostHeld then s1
      else if s1.rc.cfg.on Od.RC_AUTO_SERVE then s1.hostResume
      else { s1 with
        wdh := s1.wdh.thaw s1.now
        rc := match s1.rc.held with
          | some n => { s1.rc with held := none, startAt := s1.now - n * 1000 }
          | none => s1.rc }
    s2.settle

end Sys2Proof.Machine
end

