-- ==== Sys2Proof/Machine/RollCall.lean ====
section
/-! DEFINITION. Roll call (R311-R317) and the image of the watchdog and roll-call registers (R318, R407). -/

namespace Sys2Proof.Machine

/-- Roll call runs. -/
def RollCall.on (r : RollCall) : Bool := r.cfg.on Od.RC_ENABLE

/-- The roll-call settings of the dictionary. -/
def SafetyDie.rcSettings (s : SafetyDie) : OdStore :=
  s.values.filter (fun e => decide (0x4300 ≤ e.1 / 256 ∧ e.1 / 256 < 0x4330))

/-- Roll call starts when it is enabled while it does not run (R313, "cycles follow one another … from the moment roll call is
enabled"); a change while it runs waits for the cycle end (R316). -/
def SafetyDie.rcFollow (s : SafetyDie) : SafetyDie :=
  if s.rc.on || !s.on Od.RC_ENABLE then s
  else { s with rc := { s.rc with cfg := s.rcSettings, startAt := s.now, entities := [], stray := false,
                                  held := if s.hostHeld then some 0 else none } }

/-- Entity `e` is enabled. -/
def RollCall.enabled (r : RollCall) (e : Nat) : Bool := (r.cfg.n Od.RC_ENTITY_MASK).testBit e

/-- A check-in of an enabled entity (R312, R313): counted, its checkpoint held against the expected position. -/
def RollCall.checkIn (r : RollCall) (e cp : Nat) : RollCall :=
  let seq := (r.cfg.get Od.RC_SEQ e).b
  { r with entities := r.entities.upd {} e (fun x =>
      let y := { x with count := x.count + 1 }
      if seq = [] then y
      else
        let p := x.pos % seq.length
        if seq.getD p 0 = cp then { y with pos := (p + 1) % seq.length }
        else match seq.findIdx? (fun c => c == cp) with
          | some i => { y with seqBad := true, got := cp, pos := (i + 1) % seq.length }
          | none => { y with seqBad := true, got := cp }) }

/-- The cycle's end is due (R311). -/
def RollCall.due (r : RollCall) (now : Nat) : Bool :=
  r.on && r.held.isNone && decide (r.startAt + r.cfg.n Od.RC_CYCLE_US * 1000 ≤ now)

/-- The bitmap of the enabled entities for which a test fails. -/
def RollCall.fails (r : RollCall) (f : Nat → RcEntity → Bool) : Nat :=
  ((List.range 32).map (fun e => b01 (r.enabled e && f e (r.entities.get {} e)) * 2 ^ e)).sum

/-- A failed test of an entity recorded (R314): 1 MIN, 2 MAX, 3 SEQ. -/
def SafetyDie.rcFail (s : SafetyDie) (e test value : Nat) : SafetyDie :=
  (s.bump (if test = 1 then Od.RC_MIN_FAILS else if test = 2 then Od.RC_MAX_FAILS else Od.RC_SEQ_FAILS) e).raise
    .rollCallFailed 0 (instOf e test) value

/-- A cycle ends (R312, R314-R316): every enabled entity is judged, the next cycle starts with the settings now committed, and a
passing cycle serves WDH. -/
def SafetyDie.cycleEnd (s : SafetyDie) : SafetyDie :=
  let r := s.rc
  if !r.due s.now then s
  else
    let lo := r.fails (fun e x => decide (x.count < r.cfg.n Od.RC_MIN e))
    let hi := r.fails (fun e x => decide (r.cfg.n Od.RC_MAX e < x.count))
    let sq := r.fails (fun _ x => x.seqBad)
    let failed := lo + hi + sq != 0 || r.stray
    let s1 := s.forEach (List.range 32) (fun s e =>
      let x := r.entities.get {} e
      ((s.when (lo.testBit e) (fun s => s.rcFail e 1 x.count)).when (hi.testBit e) (fun s => s.rcFail e 2 x.count)).when
        (sq.testBit e) (fun s => s.rcFail e 3 x.got))
    let next := s.rcSettings
    let s2 : SafetyDie :=
      { s1 with rc :=
        { r with
          cfg := next
          startAt := r.startAt + r.cfg.n Od.RC_CYCLE_US * 1000
          stray := false
          entities := r.entities.map (fun (e : Nat × RcEntity) => (e.1, { e.2 with count := 0, seqBad := false }))
          cycles := (r.cycles + 1) % 2 ^ 24
          failMin := lo
          failMax := hi
          failSeq := sq
          lastStray := r.stray
          lastFailed := failed } }
    if failed then s2.bump Od.RC_CYCLES_FAILED
    else if s.autoServe then s2.dogServe true
    else s2

/-- A check-in arrives (R309, R311, R312, R317): discarded in a halt; one in the tick of a cycle's end belongs to the next. -/
def SafetyDie.rcCheckIn (s0 : SafetyDie) (v : Nat) : SafetyDie :=
  if s0.keeper.halted then s0.bump Od.WDH_IGNORED
  else
    let s := s0.cycleEnd
    if !s.rc.on then s
    else
      let e := bitsOf v 0 5
      let cp := bitsOf v 8 8
      if bitsOf v 24 8 ≠ 0xC5 || !s.rc.enabled e || (cp != 0 && (s.rc.cfg.get Od.RC_SEQ e).b == [])
      then ({ s with rc := { s.rc with stray := true } } : SafetyDie).bump Od.RC_STRAYS
      else { s with rc := s.rc.checkIn e cp }

/-- WDH_STATUS or WDS_STATUS without its age (R318). -/
def SafetyDie.dogStatus (s : SafetyDie) (host : Bool) : Nat :=
  let x := s.dog host
  x.state.code + 8 * b01 (!host || s.gate.en) + 16 * b01 (host && s.gate.lock) + 32 * b01 (host && s.autoServe)
    + 64 * b01 (host && x.armed.isSome) + 128 * b01 x.held.isSome + 2 ^ 24 * x.lastFail

/-- The image of the watchdog and roll-call registers (R318). -/
def SafetyDie.statusImage (s : SafetyDie) : List (Nat × Nat) :=
  let mode := if s.wdh.state = .off then s.get Od.WDH_MODE == 1 else s.wdh.window
  [(0x2000, b01 s.gate.en + 2 * b01 s.gate.lock + 4 * b01 mode),
   (0x200C, s.dogStatus true),
   (0x2010, s.wdh.count s.now % 2 ^ 24),
   (0x2020, s.dogStatus false),
   (0x2024, s.wds.count s.now % 2 ^ 24),
   (0x2044, b01 s.rc.on + 2 * b01 (s.on Od.RC_AUTO_SERVE) + 4 * b01 s.rc.lastFailed + 8 * b01 s.rc.lastStray
      + 256 * s.rc.cycles),
   (0x2048, s.rc.failMin),
   (0x204C, s.rc.failMax),
   (0x2050, s.rc.failSeq)]

/-- The images that the safety die sends reach BAR0 (R318, R407); a change of DEV_STATUS signals vector 5 (R418). -/
def CheckDie.takeImages (d : CheckDie) (words : List (Nat × Nat)) (devStatus epoch : Nat) : CheckDie :=
  let d1 := { d with safetyImage := words, devStatus := devStatus, epochImage := epoch, imageAt := d.now }
  if d.devStatus = devStatus then d1 else d1.put (.msix 5)

/-- A host write that HOST_WRITE forwards arrives (R17, R318); a read-only or reserved register discards it. -/
def SafetyDie.hostRegister (s : SafetyDie) (offset v : Nat) : SafetyDie :=
  if offset = 0x2000 then s.wdhCtrl v
  else if offset = 0x2004 then s.wdhSvc v
  else if offset = 0x2008 then s.wdhKey v
  else if offset = 0x2040 then s.rcCheckIn v
  else s

end Sys2Proof.Machine
end

