-- ==== Sys2Proof/Machine/Keeper.lean ====
section
/-! DEFINITION. The keeper pair (R229-R242): the delay FIFO, the input queue and the store buffer, compare words, keeper faults,
injections, SPLIT. -/

/-- Where the keeper cores see their TCMs, the mailbox, K1's timer and its window; the spec gives no addresses (R232, R241). Free value;
log entry 91. -/
opaque Sys2Proof.Config.keeperSpace : Nat → Sys2Proof.Machine.KeeperSpace

namespace Sys2Proof.Machine

/-- A keeper fault (R235): both channels off by the hard-wired logic, the first-fault record with PC and KIND of the compare
word and the comparator that reported a match, then a safety reset. -/
def SafetyDie.keeperFault (s : SafetyDie) (n : EventName) (word which : Nat) : SafetyDie :=
  let s1 := ((s.setBrake (fun b => { b with gate := false })).channelsOff)
  s1.safetyReset n (instOf 0 which) (bitsOf word 102 2) (bitsOf word 62 31 * 2)

/-- The pair's comparison runs: not in SPLIT, not halted (R238, R239). -/
def SafetyDie.compares (s : SafetyDie) : Bool := !s.keeper.split && !s.keeper.halted

/-- The outcome of one comparator: equality of the words, unless it misreports (R233). -/
def reportsMatch (k0 k1 : Nat) (wrong : Bool) : Bool := (k0 == k1) != wrong

/-- The byte address of a store's word (R230). -/
def storeAddr (w : Nat) : Nat := bitsOf w 0 30 * 4

/-- A store that leaves the pair (R232): KIND 2, to an address outside the TCMs. -/
def leavesPair (w : Nat) : Bool := bitsOf w 102 2 == 2 && Config.keeperSpace (storeAddr w) != .tcm

/-- The store of a word leaves: its address, byte mask and data (R230, R232). -/
def SafetyDie.storeLeaves (s : SafetyDie) (w : Nat) : SafetyDie := s.put (.keeperStore (storeAddr w) (bitsOf w 93 4) (bitsOf w 30 32))

/-- K0 can commit its next instruction but for the FIFO (R231, R232): the input queue has room for its input, the store buffer for its
store. -/
def Keeper.room (k : Keeper) (w : Nat) (input : Option Nat) : Bool :=
  (!leavesPair w || decide (k.stores.length < 32)) && (input.isNone || decide (k.inputs.length < 16))

/-- Which cores commit in a cycle in which K0 has the instruction of `k0`, with the input it takes, and K1 one when `k1` (R229): after
it the distance lies between KEEPER_LAG and the 64 words of the FIFO, once K0 has its lead. DEDUCED (log entry 91): a lag of
64 lets the cores commit together alone. -/
def Keeper.commits (k : Keeper) (k0 : Option Nat) (k1 : Bool) (input : Option Nat) : Bool × Bool :=
  let d := k.fifo.length
  let want := match k0 with
    | some w => k.room w input
    | none => false
  let go1 := k1 && (decide (k.lag < d) || (want && k.lag == d))
  (want && (decide (d < 64) || (d == 64 && go1)), go1)

/-- K0 commits (R230-R232): its word enters the FIFO, the input it took the input queue, a store that leaves the pair the store
buffer. -/
def Keeper.lead (k : Keeper) (w : Nat) (input : Option Nat) : Keeper :=
  { k with
    fifo := k.fifo ++ [w]
    inputs := match input with
      | some v => k.inputs ++ [(k.done0, v)]
      | none => k.inputs
    stores := if leavesPair w then k.stores ++ [w] else k.stores
    done0 := k.done0 + 1 }

/-- K1 commits (R229-R232): the FIFO's oldest word retires, and the input that K0 took at the same count is replayed. -/
def Keeper.trail (k : Keeper) : Keeper :=
  { k with
    fifo := k.fifo.tail
    inputs := k.inputs.filter (fun x => x.1 != k.done1)
    replayed := ((k.inputs.find? (fun x => x.1 == k.done1)).map Prod.snd).getD k.replayed
    done1 := k.done1 + 1 }

/-- K1's word meets the oldest of the FIFO in both comparators (R232, R233): a store leaves once both have matched; else a keeper
fault. -/
def SafetyDie.compareCommit (s : SafetyDie) (w : Nat) (wrongX wrongY : Bool) : SafetyDie :=
  let h := s.keeper.fifo.headD 0
  let x := reportsMatch h w wrongX
  let y := reportsMatch h w wrongY
  if !x && !y then s.keeperFault .coreMismatch w 0
  else if x && !y then s.keeperFault .comparatorSplit w 1
  else if !x && y then s.keeperFault .comparatorSplit w 2
  else
    let s1 := { s with keeper := s.keeper.trail }
    if leavesPair h then
      (({ s1 with keeper := { s1.keeper with stores := s1.keeper.stores.tail } } : SafetyDie).storeLeaves (s1.keeper.stores.headD h))
    else s1

/-- An access of K1 outside its space traps (R241): the application is halted. -/
def SafetyDie.splitTrap (s : SafetyDie) : SafetyDie :=
  if s.keeper.split ∧ s.keeper.app = 1
  then ({ s with keeper := { s.keeper with app := 2 } } : SafetyDie).raise .splitAppHalted else s

/-- The bytes that a store's mask names, taken into a word. -/
def maskedWord (old value mask : Nat) : Nat :=
  ((List.range 4).map (fun i => (if mask.testBit i then bitsOf value (8 * i) 8 else bitsOf old (8 * i) 8) * 2 ^ (8 * i))).sum

/-- A store into the mailbox of SPLIT (R241). -/
def Keeper.mail (k : Keeper) (offset w : Nat) : Keeper :=
  let i := offset % 4096 / 4
  { k with mailbox := k.mailbox.upd 0 i (fun old => maskedWord old (bitsOf w 30 32) (bitsOf w 93 4)) }

/-- SPLIT (R239, R241): nothing is compared. A store of K0 leaves at once, or reaches the mailbox; one of K1 reaches its TCM, the
mailbox or its timer, and traps anywhere else, the read-only window among it. -/
def SafetyDie.splitCycle (s : SafetyDie) (k0 k1 : Option Nat) : SafetyDie :=
  let s1 := match k0 with
    | some w =>
      if bitsOf w 102 2 ≠ 2 then s
      else match Config.keeperSpace (storeAddr w) with
        | .tcm => s
        | .mailbox o => { s with keeper := s.keeper.mail o w }
        | .timer => s.storeLeaves w
        | .window => s.storeLeaves w
        | .outside => s.storeLeaves w
    | none => s
  match k1 with
  | some w =>
    if bitsOf w 102 2 ≠ 2 ∨ s1.keeper.app ≠ 1 then s1
    else match Config.keeperSpace (storeAddr w) with
      | .tcm => s1
      | .mailbox o => { s1 with keeper := s1.keeper.mail o w }
      | .timer => { s1 with keeper := { s1.keeper with timer := bitsOf w 30 32 } }
      | .window => s1.splitTrap
      | .outside => s1.splitTrap
  | none => s1

/-- A cycle of the pair (R229-R235, R239): the words of the instructions that K0 and K1 would commit in it, the input that K0's takes
from outside its memories, whether each comparator misreports, whether a correctable or an uncorrectable error was found in the
FIFO, the input queue or the store buffer, and whether the firmware declared a trap of either core fatal. A core that must stall
commits nothing. -/
def SafetyDie.compareWord (s : SafetyDie) (k0 k1 : Option Nat) (wrongX wrongY : Bool) (input : Option Nat)
    (corrected uncorrectable fatal : Bool) : SafetyDie :=
  let word := k1.getD (k0.getD 0)
  if s.keeper.halted then s
  else if fatal then s.keeperFault .fatalTrap word 0
  else if s.keeper.split then s.splitCycle k0 k1
  else
    let s1 := if corrected then s.bump Od.DELAY_ECC_CORRECTED else s
    if uncorrectable then s1.keeperFault .delayEcc word 0
    else
      let go := s1.keeper.commits k0 k1.isSome input
      let s2 := if go.1 then { s1 with keeper := s1.keeper.lead (k0.getD 0) input } else s1
      if go.2 then s2.compareCommit (k1.getD 0) wrongX wrongY else s2

/-- The 109 pairs of R236: every single-bit difference, all zero against all one, and the four equal pairs. -/
def selftestPairs : List (Nat × Nat) :=
  (List.range 104).map (fun b => (0, 2 ^ b)) ++
    [(0, 2 ^ 104 - 1), (0, 0), (2 ^ 104 - 1, 2 ^ 104 - 1), ((2 ^ 104 - 1) / 3 * 2, (2 ^ 104 - 1) / 3 * 2),
     ((2 ^ 104 - 1) / 3, (2 ^ 104 - 1) / 3)]

/-- A comparator, given the pairs that it reports wrongly, reports every difference as a mismatch and every equal pair as a match
(R236). -/
def comparatorPasses (wrong : List Nat) : Bool :=
  selftestPairs.zipIdx.all (fun p => reportsMatch p.1.1 p.1.2 (wrong.contains p.2) == (p.1.1 == p.1.2))

/-- SELFTEST_FAILED of a report (R236, R443): bit 0 from the pairs shown to the comparators. -/
def SelftestReport.failed (r : SelftestReport) : Nat :=
  r.bits % 1024 / 2 * 2 + b01 (!(comparatorPasses r.wrongX && comparatorPasses r.wrongY))

/-- One injected pair (R237): an equal pair and a pair that differs in one bit in turn, the bit advancing; a wrong report is a
keeper fault in RUN (R234, item 2). -/
def SafetyDie.injectPair (s : SafetyDie) (wrongX wrongY : Bool) : SafetyDie :=
  if !s.compares ∨ s.device ≠ .run ∨ s.now < s.keeper.injectedAt + 100000000 then s
  else
    let k := s.keeper
    let pair := if k.differ then (0, 2 ^ k.bit) else (0, 0)
    let good (wrong : Bool) : Bool := reportsMatch pair.1 pair.2 wrong == !k.differ
    let s1 := { s with keeper := { k with differ := !k.differ, injectedAt := s.now
                                          bit := if k.differ then (k.bit + 1) % 104 else k.bit } }
    if good wrongX && good wrongY then s1.bump Od.INJECTIONS_PASSED else s1.keeperFault .injectMissed pair.2 0

/-- The firmware runs its self-test library every 10 ms in SPLIT (R242). -/
def SafetyDie.libraryTest (s : SafetyDie) : SafetyDie :=
  if s.keeper.split ∧ s.keeper.testedAt + 10000000 ≤ s.now
  then { s with keeper := { s.keeper with testedAt := s.now } } else s

end Sys2Proof.Machine
end

