-- ==== Sys2Proof/Machine/CorridorSd.lean ====
section
/-! DEFINITION. The safety die's end of the corridor (R243-R252): acceptance, the injectors of its point, the token sorter, reports
of the check die, acknowledgement, the firmware's action queue. -/

namespace Sys2Proof.Machine

/-- A corridor failure seen by the safety die: a safety reset (R249). `item` of R249. -/
def SafetyDie.corridorFailure (s : SafetyDie) (item : Nat) : SafetyDie :=
  s.safetyReset .corridorFailure 0xFF item 0xFFFF

/-- A flit is discarded with a NAK; the fourth NAK of one SEQ is a corridor failure (R248, R249). -/
def SafetyDie.refuseFlit (s : SafetyDie) : SafetyDie :=
  if !s.corRx.up then s
  else
    let a := s.corRx.discard s.now
    let s1 := { s with corRx := a.1 }
    let s2 := if a.2 then s1.put (.link s.corRx.last true s.corRx.expected) else s1
    if 4 ≤ a.1.nakCount then s2.corridorFailure 2 else s2

/-- A flit whose CRC failed, or an item out of order (R246, R248, R249). -/
def SafetyDie.flitCrcError (s : SafetyDie) : SafetyDie :=
  if !s.corRx.up then { s with corRx := { s.corRx with train := 0 } }
  else
    let r := s.corRx.crcError s.now
    if s.get Od.CORRIDOR_ERR_LIMIT < r.errors.length then (s.bump Od.FLIT_CRC_ERRORS).corridorFailure 1
    else (({ s with corRx := r } : SafetyDie).bump Od.FLIT_CRC_ERRORS).refuseFlit

/-- Flits from SEQ on, accepted and acted on by `f`, or discarded (R248). -/
def SafetyDie.receive (s : SafetyDie) (seq n : Nat) (f : SafetyDie → SafetyDie) : SafetyDie :=
  if s.corRx.takes seq then
    let a := s.corRx.accept n
    let s1 := { s with corRx := a.1 }
    f (if a.2 then s1.sendAck else s1)
  else s.refuseFlit

/-- W_ORD of R252. -/
def SafetyDie.wOrd (s : SafetyDie) : Nat := ceilDiv (s.get Od.RESULT_DEADLINE_US) 2 + 4

/-- One counter against the order of its sync generation (R252, items 1 and 3): the order after it, and whether it breaks. -/
def OrderGen.check (o : OrderGen) (w c : Nat) : OrderGen × Bool :=
  if serialAfter c o.cmax then
    ({ o with cmax := c, got := (o.got.filter (fun g => decide (subMod 32 c g ≤ w))) ++ [c] }, false)
  else if w < subMod 32 o.cmax c ∨ o.got.contains c then (o, true)
  else ({ o with got := o.got ++ [c] }, false)

/-- The order check of a provisional token (R252); a generation not seen lately starts afresh. -/
def SortStream.order (x : SortStream) (w : Nat) (t : Token) : SortStream × Bool :=
  if !t.provisional then (x, false)
  else if t.lantern then
    match x.lantern with
    | some p => if serialAfter t.counter p then ({ x with lantern := some t.counter }, false) else (x, true)
    | none => ({ x with lantern := some t.counter }, false)
  else match x.orders.find? (fun o => o.gen == t.syncGen) with
    | some o =>
      let a := o.check w t.counter
      ({ x with orders := x.orders.map (fun (y : OrderGen) => if y.gen = o.gen then a.1 else y) }, a.2)
    | none => ({ x with orders := ({ gen := t.syncGen, cmax := t.counter, got := [t.counter] } : OrderGen) :: x.orders.take 1 }, false)

/-- A stream of the sorter replaced. -/
def SafetyDie.setSort (s : SafetyDie) (n : Nat) (x : SortStream) : SafetyDie :=
  { s with sorter := { s.sorter with streams := s.sorter.streams.set {} n x } }

/-- An item put into the action queue of 256, with an interrupt; a full queue sets OVERFLOW and drops it (R250, R251). -/
def SafetyDie.queueAction (s : SafetyDie) (x : ActionItem) : SafetyDie :=
  let q := s.sorter
  if 256 ≤ q.queue.length then { s with sorter := { q with overflow := true } }
  else { s with sorter := { q with queue := q.queue ++ [x], irq := true, peak := max q.peak (q.queue.length + 1) } }

/-- A token as its payload spells it (R247). -/
def Token.ofPayload (p : Nat) : Token :=
  { stream := bitsOf p 60 4, code := bitsOf p 56 4, final := p.testBit 55, lantern := p.testBit 54,
    demand := p.testBit 53, escalated := p.testBit 52, syncGen := bitsOf p 40 8, counter := bitsOf p 8 32,
    cls := bitsOf p 0 8 }

/-- An accepted token (R250, R252, R276): order, policy, and the action queue. -/
def SafetyDie.token (s : SafetyDie) (t : Token) : SafetyDie :=
  if 12 ≤ t.stream then s
  else
    let x := s.sorter.streams.get {} t.stream
    let a := x.order s.wOrd t
    let trig := policyTrigger s.values x.policy t
    let s1 := s.setSort t.stream { a.1 with policy := a.1.policy.next t }
    let s2 := if a.2 then s1.raise .tokenOrder (ctxStream t.stream) else s1
    if trig || a.2 || t.demand then s2.queueAction (.token t.stream t.demand a.2) else s2

/-- An accepted STREAM_STATE (R250, R276, items 5 and 6). -/
def SafetyDie.streamState (s : SafetyDie) (p : Nat) : SafetyDie :=
  let n := bitsOf p 60 4
  if 12 ≤ n then s
  else
    let x := s.sorter.streams.get {} n
    let y := { x with state := bitsOf p 56 4, escalated := p.testBit 55, starved := p.testBit 54, gen := bitsOf p 40 8 }
    let s1 := (s.setSort n y).settle
    let trig := s1.streamTrigger n
    if x = y ∧ !trig then s1 else s1.queueAction (.change n trig)

/-- The safety die's own copies for a report of an epoch (R18, R200, R357): a committed set belongs to the epochs from its own on, and
those before it keep what it replaced. Of two, either is right: the set joined a boundary of the same cycle (R199), whose report
may come before it. -/
def SafetyDie.ownCopies (s : SafetyDie) (epoch : Nat) : List OdStore :=
  if s.staging.step = .applying ∧ s.staging.sent ∧ s.staging.earlier = [] then
    let set := s.values.putAll s.staging.entries
    if serialAfter s.staging.epoch epoch then [s.values] else if s.staging.joins then [set, s.values] else [set]
  else match s.prior with
    | some (first, old) => if serialAfter first epoch then [s.values.putAll old] else [s.values]
    | none => [s.values]

/-- READY to RUN: a safe-state exit (R428). -/
def SafetyDie.toRun (s : SafetyDie) : SafetyDie := (({ s with device := .run } : SafetyDie).sendFlit flitSafeExit).advance 4

/-- READY is reached (R427, R443, R306): the self-tests passed, the check die reports READY, its copy is right. -/
def SafetyDie.tryReady (s : SafetyDie) : SafetyDie :=
  if s.device = .selftest ∧ s.boot.tested ∧ s.boot.crcOk ∧ s.cdState.serves then
    let s1 := { s with device := .ready
                       boot := { s.boot with stage := 14, faultN := false, ms := (s.now - s.boot.startedAt) / 1000000 } }
    let s2 := if s1.on Od.WDH_START then s1.wdhStart else s1
    if s2.get Od.START_MODE = 1 then s2.toRun else s2
  else s

/-- CONFIG_CRC (R18, R258, R281): a CRC other than its own sends the device to safe state, kills the check die and is recorded; a match may
complete the boot (R442, step 14). -/
def SafetyDie.reportedCrc (s : SafetyDie) (crc epoch : Nat) : SafetyDie :=
  if (s.ownCopies epoch).any (fun v => crc == configCrc v) then ({ s with boot := { s.boot with crcOk := true } } : SafetyDie).tryReady
  else ((s.raise .configCrcMismatch).stop 11 true).assertKill true (s.on Od.KILL_POWER) false

/-- A STATUS flit (R253, R258, R310, R497): READY arms the heartbeat monitor, lets WDH and roll call go on, and the safety log's
records that were not sent go first. -/
def SafetyDie.status (s : SafetyDie) (code : Nat) : SafetyDie :=
  let st : CdState := if code = 0 then .booting else if code = 1 then .ready else if code = 2 then .run else .fault
  let s1 := { s with cdState := st }
  if code = 1 then
    let s2 : SafetyDie := { s1 with
      kill := { s1.kill with awaiting := false }
      heart := { armed := s1.power.awake, lastEdge := s1.now, tripped := false } }
    (((s2.hostResume).flushLog).settle).tryReady
  else if code = 2 then s1.tryReady else s1

/-- A change of the fence map or the watch map mirrored in the guest book (R245, R441). -/
def SafetyDie.fenceChange (s : SafetyDie) (cluster row : Nat) (fenced : Bool) : SafetyDie :=
  s.setGuest (fun g => { g with fences := g.fences.upd {} cluster (fun m =>
    if fenced then (if row = 0xFF then { m with whole := true }
      else { m with rows := row :: m.rows.filter (fun r => r != row) })
    else { m with watch := row :: m.watch.filter (fun r => r != row) }) })

/-- TIME_SAMPLE aligns the copy of GTS (R321). -/
def SafetyDie.timeSample (s : SafetyDie) (gts : Nat) : SafetyDie :=
  { s with gtsBase := gts, gtsAt := s.now, gtsSet := true }

/-- A forwarded record of the check die stored in the safety log (R323); the firmware does not send it back. -/
def SafetyDie.takeRecord (s : SafetyDie) (r : EventRec) : SafetyDie := s.store r

/-- A flit toward the safety die with a reserved code (R5, R245, R247): a verdict code or stream that no token has, a stream or state
that no STREAM_STATE has, a check-die state above FAULT. -/
def malformedReport (f : Flit) : Bool :=
  let p := f.payload
  if f.type = 0x01 then decide (12 ≤ bitsOf p 60 4) || !([0, 1, 2, 3, 4, 5, 8, 9, 10].contains (bitsOf p 56 4))
  else if f.type = 0x02 then decide (12 ≤ bitsOf p 60 4 ∨ 8 ≤ bitsOf p 56 4)
  else if f.type = 0x09 then decide (4 ≤ bitsOf p 0 8)
  else false

/-- What one accepted sequenced flit does (R245); one of an item that comes alone breaks their order (R246). A malformed one is taken
as the case of R245, a corridor failure (R5, R249, item 5; log entry 86). -/
def SafetyDie.flitEffect (f : Flit) (s : SafetyDie) : SafetyDie :=
  let p := f.payload
  if malformedReport f then s.corridorFailure 5
  else if f.type = 0x01 then s.token (Token.ofPayload p)
  else if f.type = 0x02 then s.streamState p
  else if f.type = 0x08 then s.reportedCrc (bitsOf p 0 32) (bitsOf p 32 32)
  else if f.type = 0x09 then s.status (bitsOf p 0 8)
  else if f.type = 0x0A then s.fenceChange (bitsOf p 8 8) (bitsOf p 0 8) (p.testBit 16)
  else if f.type = 0x0B then s.timeSample p
  else if f.type = 0x0C then s.hostRegister (bitsOf p 32 24) (bitsOf p 0 32)
  else s.flitCrcError

/-- Sequenced types toward the safety die (R245). -/
def toSafetySequenced (type : Nat) : Bool :=
  [0x01, 0x02, 0x03, 0x04, 0x05, 0x06, 0x08, 0x09, 0x0A, 0x0B, 0x0C, 0x30, 0x31, 0x32].contains type

/-- The COMMAND EPOCH_ADVANCE that applies the set is still unacknowledged (R248, R366). -/
def SafetyDie.epochOpen (s : SafetyDie) : Bool :=
  (s.corTx.unacked ++ s.corTx.waiting).any (fun f =>
    f.type == 0x24 && f.payload % 256 == 1 && bitsOf f.payload 32 32 == s.staging.epoch)

/-- Injectors whose permission ends (R455, items 5 and 6): the one on the safety die is disarmed here, the check die disarms its
own when the change reaches it. -/
def SafetyDie.permitFollow (s : SafetyDie) (cause : Nat) : SafetyDie :=
  if s.armed = [] ∨ permits (s.get Od.INJECT_PERMIT) s.device then s
  else
    let here := s.armed.filter (fun x => x.kind == 3 && x.inst == 0)
    let s1 := s.forEach here (fun s x => s.raise .injectDisarmed (ctxPartner (0xFC0 + s.injectOwner)) (instOf x.num 0) cause)
    { s1 with armed := [], injectors := [], injectOwner := 0xFF }

/-- Pairs whose FUNCTION, WIRING or TEST_PULSE differs between two sets (R295). -/
def pairsChanged (a b : OdStore) : List Nat :=
  (List.range 8).filter (fun i =>
    a.n Od.PAIR_FUNCTION i != b.n Od.PAIR_FUNCTION i || a.n Od.WIRING i != b.n Od.WIRING i
      || a.n Od.TEST_PULSE i != b.n Od.TEST_PULSE i)

/-- The test pulses start a new period (R295). -/
def pulsesChanged (a b : OdStore) : Bool :=
  (List.range 8).any (fun i => a.n Od.TEST_PULSE i != b.n Od.TEST_PULSE i)
    || a.n Od.TP_WIDTH_US != b.n Od.TP_WIDTH_US || a.n Od.TP_PERIOD_MS != b.n Od.TP_PERIOD_MS

/-- The committed set takes effect on the safety die at its boundary instant (R200, R295, R313, R455); reads return the earlier
values until the firmware takes the boundary as passed (R366). -/
def SafetyDie.takeSet (s : SafetyDie) : SafetyDie :=
  let old := s.values
  let new := old.putAll s.staging.entries
  let s1 := { s with
    values := new
    prior := some (s.staging.epoch, s.staging.entries.map (fun (e : Nat × Val) => (e.1, (old.find? e.1).getD (odDefault e.1))))
    staging := { s.staging with earlier := s.staging.entries.map (fun (e : Nat × Val) => (e.1, (old.find? e.1).getD (odDefault e.1))) } }
  let s2 := if pulsesChanged old new then { s1 with pulseAt := s1.now } else s1
  (((s2.restartPairs (pairsChanged old new)).rcFollow).permitFollow 6).settle

/-- The check die has acknowledged EPOCH_ADVANCE: its boundary is taken as passed (R14, R366), its causes join those of the same epoch
(R199, R202), and a committed set that came with it is in force. -/
def SafetyDie.boundaryPassed (s : SafetyDie) (f : Flit) : SafetyDie :=
  if f.type ≠ 0x24 ∨ f.payload % 256 ≠ 1 then s
  else
    let epoch := bitsOf f.payload 32 32
    let causes := bitsOf f.payload 8 8
    let s1 := { s with
      boundaryCauses := if epoch = s.boundaryEpoch then s.boundaryCauses ||| causes else causes
      boundaryEpoch := epoch }
    if causes.testBit 0 ∧ s1.staging.step = .applying ∧ s1.staging.earlier = [] ∧ s1.staging.epoch = epoch then s1.takeSet else s1

/-- An acknowledgement arrives, with a NAK when the check die waits for a SEQ (R248); the fourth for one SEQ is a corridor failure
(R249, item 2). -/
def SafetyDie.linkIn (s : SafetyDie) (ack : Nat) (nak : Bool) (expected : Nat) : SafetyDie :=
  let s1 := ({ s with corTx := s.corTx.ack s.now ack } : SafetyDie).forEach (s.corTx.covered ack) (fun s f => s.boundaryPassed f)
  if nak then
    let fs := s1.corTx.resend expected
    let s2 := { s1 with corTx := s1.corTx.nak (s.corTx.covered ack != []) expected }
    if 4 ≤ s2.corTx.askedCount then s2.corridorFailure 2
    else (s2.forEach (fs.zip (List.range fs.length)) (fun s x => s.put (.replay ((expected + x.2) % 256) x.1))).bump
      Od.FLITS_REPLAYED 0 fs.length
  else s1

/-- Twelve bytes at the safety-die receiver (R245, R248, R249). -/
def SafetyDie.takeFlit (s : SafetyDie) (b : Octets) : SafetyDie :=
  let f : Flit := ⟨field b 0 1, field b 2 8⟩
  if field b 10 2 ≠ crc16 (b.take 10) then s.flitCrcError
  else if toSafetySequenced f.type then s.receive (field b 1 1) 1 (SafetyDie.flitEffect f)
  else if f.type = 0x0F then s.linkIn (field b 1 1) (f.payload.testBit 0) (bitsOf f.payload 8 8)
  else if f.type = 0 ∨ f.type = 0xF0 then s
  else s.corridorFailure 5

/-- An injector of the safety-die point replaced, or disarmed by item 3 of R455 when it is spent; what it held goes on. -/
def SafetyDie.afterItem (s : SafetyDie) (i : Injector) (spent : Bool) : SafetyDie × List PointItem :=
  if spent then (s.disarmInjector i.num 3, i.held.map (fun h => h.out s.now))
  else ({ s with injectors := s.injectors.map (fun (x : Injector) => if x.num = i.num then i else x) }, [])

/-- The action of an injector on a flit (R457): what goes on now, and what is held. -/
def Injector.actFlit (i : Injector) (now : Nat) (x : PointItem) : List PointItem × List HeldItem :=
  let copy : PointItem := { x with copy := true }
  if i.action = 1 then ([], [])
  else if i.action = 2 then ([{ x with octets := corruptAt x.octets i.offset i.mask }], [])
  else if i.action = 3 then ([], [{ item := copy, heldAt := now, due := now + 1000000, reorder := true }])
  else if i.action = 4 then ([], [{ item := copy, heldAt := now, due := now + i.delay }])
  else ([x], [{ item := copy, heldAt := now, due := now + i.delay }])

/-- One flit through one injector of the safety-die point (R457, R458, R463). -/
def SafetyDie.through (s : SafetyDie) (j : Nat) (x : PointItem) : SafetyDie × List PointItem :=
  match s.injectors.find? (fun i => i.num == j) with
  | none => (s, [x])
  | some i =>
    if !i.passes x || decide (i.stopAt ≤ s.now) then (s, [x])
    else
      let follow := (i.held.filter HeldItem.reorder).map (fun h => h.out s.now)
      let i1 := { i with seen := i.seen + 1, held := i.held.filter (fun (h : HeldItem) => !h.reorder) }
      let fresh := decide (i.start < i1.seen)
      let dr := if fresh ∧ i.select = 2 then s.draw else (0, s)
      if !fresh || !i.selects (i1.seen - i.start) dr.1 || decide (16 ≤ i1.held.length) then
        let a := dr.2.afterItem i1 (i.select == 3 && follow != [])
        (a.1, x :: follow ++ a.2)
      else
        let a := i.actFlit s.now x
        let i2 := { i1 with acted := i1.acted + 1, held := i1.held ++ a.2 }
        let spent := (i.countMax != 0 && decide (i.countMax ≤ i2.acted)) || (i.select == 3 && a.2 == [])
        let b := (dr.2.bump Od.INJECTED j).afterItem i2 spent
        (b.1, a.1 ++ follow ++ b.2)

/-- Flits through the injectors `js` of the safety-die point, in order. -/
def SafetyDie.chain : List Nat → SafetyDie → List PointItem → SafetyDie × List PointItem
  | [], s, xs => (s, xs)
  | j :: js, s, xs =>
    let a := xs.foldl (fun (a : SafetyDie × List PointItem) x =>
      let r := a.1.through j x
      (r.1, a.2 ++ r.2)) (s, [])
    SafetyDie.chain js a.1 a.2

/-- A flit reaches the safety-die point: what is presented now (R456, kind 3, instance 0). -/
def SafetyDie.atPoint (s : SafetyDie) (x : PointItem) : SafetyDie × List PointItem :=
  SafetyDie.chain (s.injectors.map Injector.num) s [x]

/-- One flit reaches the safety-die receiver. -/
def SafetyDie.flitArrives (s : SafetyDie) (seq : Nat) (f : Flit) : SafetyDie :=
  if s.injectors ≠ [] then
    let a := s.atPoint { kind := 3, inst := 0, cls := f.type, octets := f.octets seq }
    a.2.foldl (fun s x => s.takeFlit x.octets) a.1
  else s.receive seq 1 (SafetyDie.flitEffect f)

/-- Flits of one item, each through the injectors of the point: how many of them the receiver took as they were sent. The first that
does not pass as it came ends the item here, for those after it are out of sequence (R248, R457). -/
def SafetyDie.itemFlits : List Flit → Nat → SafetyDie → SafetyDie × Nat
  | [], _, s => (s, 0)
  | f :: fs, seq, s =>
    let b := f.octets seq
    let a := s.atPoint { kind := 3, inst := 0, cls := f.type, octets := b }
    if a.2.head?.map PointItem.octets = some b then
      let r := SafetyDie.itemFlits fs (seq + 1) (a.2.tail.foldl (fun s x => s.takeFlit x.octets) (a.1.receive seq 1 id))
      (r.1, r.2 + 1)
    else (a.2.foldl (fun s x => s.takeFlit x.octets) a.1, 0)

/-- The flits of one item reach the receiver, from SEQ `seq` on (R246): true when the item is complete. What it lacks follows by a
replay from the SEQ that the NAK asked for. Another item of the kind before that breaks the order: the partial one is discarded
and counts as a CRC error. -/
def SafetyDie.groupAdmit (s : SafetyDie) (seq : Nat) (fs : List Flit) : SafetyDie × Bool :=
  let type := (fs.headD ⟨0, 0⟩).type
  let k := s.corRx.part type
  if k = 0 ∧ s.injectors = [] then (s.receive seq fs.length id, s.corRx.takes seq)
  else if s.corRx.takes (seq + k) then
    let a := SafetyDie.itemFlits (fs.drop k) (seq + k) s
    let whole := k + a.2 == fs.length
    ({ a.1 with corRx := a.1.corRx.setPart type (if whole then 0 else k + a.2) }, whole)
  else if s.corRx.takes seq then (({ s with corRx := s.corRx.setPart type 0 } : SafetyDie).flitCrcError, false)
  else (s.refuseFlit, false)

/-- The flits of one item arrive, and it acts when they are accepted. -/
def SafetyDie.groupArrives (s : SafetyDie) (seq : Nat) (fs : List Flit) (f : SafetyDie → SafetyDie) : SafetyDie :=
  let a := s.groupAdmit seq fs
  if a.2 then f a.1 else a.1

/-- A flit for the token sorter; a disagreement of TS_X and TS_Y over it is a keeper fault (R250). -/
def SafetyDie.sorterFlit (s : SafetyDie) (seq : Nat) (f : Flit) (split : Bool) : SafetyDie :=
  let s1 := s.flitArrives seq f
  if split && s.corRx.takes seq then s1.keeperFault .sorterSplit 0 0 else s1

/-- EVENT_0 to EVENT_3 of a record arrive (R246, R323). -/
def SafetyDie.recordArrives (s : SafetyDie) (seq : Nat) (r : EventRec) : SafetyDie :=
  s.groupArrives seq (flitsEvent r) (fun s => s.takeRecord r)

/-- Held flits of injector `j` whose time has come meet the receiver (R457). -/
def SafetyDie.releaseNow (s : SafetyDie) (j : Nat) : SafetyDie :=
  match s.injectors.find? (fun i => i.num == j) with
  | none => s
  | some i =>
    let due := i.held.filter (fun h => decide (h.due ≤ s.now))
    if due = [] then s
    else
      let a := s.afterItem { i with held := i.held.filter (fun (h : HeldItem) => decide (s.now < h.due)) } (i.select == 3)
      let b := SafetyDie.chain ((s.injectors.filter (fun x => decide (j < x.num))).map Injector.num) a.1
        (due.map (fun h => h.out s.now) ++ a.2)
      b.2.foldl (fun s x => s.takeFlit x.octets) b.1

/-- A TRAIN flit at the safety-die receiver (R244): 64 good ones in a row bring the direction up, acknowledged by a LINK. -/
def SafetyDie.trainIn (s : SafetyDie) (crcOk : Bool) : SafetyDie :=
  if s.kill.released.isNone || s.corRx.up then s
  else
    let n := if crcOk then s.corRx.train + 1 else 0
    if 64 ≤ n then
      ({ s with corRx := { s.corRx with up := true, train := n, expected := 0, ackAt := s.now } } : SafetyDie).put
        (.link 255 false 0)
    else { s with corRx := { s.corRx with train := n } }

/-- The first flits once the link is up (R321, R394): TIME_SET, from the RTC after a reset of the safety die, else from its copy. -/
def SafetyDie.sendTime (s : SafetyDie) : SafetyDie :=
  s.sendFlit (flitTimeSet (if s.gtsSet then s.gts else s.rtcNow * 1000000000))

/-- Unacknowledged flits have waited more than 2 µs without an advance (R249, item 3). -/
def SafetyDie.ackTimeout (s : SafetyDie) : SafetyDie :=
  if s.corRx.up && (s.power != .retain || decide (s.now < s.sleepAt + 5000000)) && s.corTx.unacked != [] && decide (s.corTx.lastAck + 2000 < s.now) then s.corridorFailure 3 else s

/-- A LINK acknowledgement is due every 0.5 µs (R248). -/
def SafetyDie.ackPeriod (s : SafetyDie) : SafetyDie :=
  if s.corRx.up && decide (s.corRx.ackAt + 500 ≤ s.now) then s.sendAck else s

/-- The link is not up 100 µs after the check-die reset ended (R244, R249, item 4). -/
def SafetyDie.linkTimeout (s : SafetyDie) : SafetyDie :=
  match s.kill.released with
  | some t => if !s.corRx.up && decide (t + 100000 < s.now) then s.corridorFailure 4 else s
  | none => s

/-- The firmware serves its queue (R250, R251, R254, R280): tokens that call for action, policy triggers 5 and 6, OVERFLOW, and
the kill that a trip calls for. -/
def SafetyDie.serveQueue (s : SafetyDie) : SafetyDie :=
  if s.keeper.halted then s
  else
    let q := s.sorter
    let s1 := { s with sorter := { q with queue := [], irq := false, overflow := false } }
    let s2 := if q.overflow then s1.stop 5 else s1
    let s3 := s2.forEach q.queue (fun s x => match x with
      | .token _ _ _ => s.stop 2
      | .change _ trig => if trig then s.stop 4 else s)
    s3.killIfDue

/-- A CD_HEART edge (R253): edges closer than 0.45 µs, or a gap beyond HEART_LOSS_NS, trip an armed monitor. Arming is no edge; a gap
before the first one counts from arming (log entry 37). -/
def SafetyDie.heartEdge (s : SafetyDie) : SafetyDie :=
  let h := s.heart
  let s1 := { s with heart := { h with lastEdge := s.now, edge := true } }
  if h.armed ∧ s.power ≠ .retain ∧ ((h.edge ∧ s.now < h.lastEdge + 450) ∨ h.lastEdge + s.get Od.HEART_LOSS_NS < s.now)
  then s1.trip else s1

/-- No edge for a gap in or beyond the band of R253: the monitor trips. -/
def SafetyDie.heartLoss (s : SafetyDie) : SafetyDie :=
  if s.heart.armed ∧ s.power ≠ .retain ∧ s.heart.lastEdge * 100 + s.get Od.HEART_LOSS_NS * 88 < s.now * 100 then s.trip else s

end Sys2Proof.Machine
end

