-- ==== Sys2Proof/Machine/Partner.lean ====
section
/-! DEFINITION. The partner table (R371-R373): its entries as the check die keeps them, and the sessions' entries as the safety die
does. -/

namespace Sys2Proof.Machine

/-- The 32 bytes of PARTNER_ENTRY (R373). -/
def partnerBytes (kind state index identity lastGts received discarded : Nat) : Octets :=
  le 1 kind ++ le 1 state ++ le 2 index ++ le 4 identity ++ le 8 lastGts ++ le 8 received ++ le 4 discarded ++ le 4 0

/-- VE_STATE: the lane is in BLOCK_LOCK (R208). -/
def Lane.locked (l : Lane) : Bool := l.up && l.rxLock

/-- STATE of an accelerator context (R373). -/
def CheckDie.contextState (d : CheckDie) (c : Nat) : Nat :=
  let x := d.context c
  if x.received ≠ 0 ∧ d.gts ≤ x.lastGts + 1000000000 then 2
  else if d.get Od.MAILBOX_ENTRIES c ≠ 0 ∨ d.on Od.INTAKE_ENABLE c then 1
  else 0

/-- STATE of a source (R373). -/
def CheckDie.sourceState (d : CheckDie) (n : Nat) : Nat :=
  let st := (d.stream n).state
  if st = .faulted then 3 else if st ≠ .idle then 2 else b01 (d.on Od.STREAM_ENABLE n)

/-- STATE of a consumer (R373). -/
def CheckDie.consumerState (d : CheckDie) (c : Nat) : Nat :=
  let l := d.lane (d.laneOf c)
  if !d.on Od.CONSUMER_ENABLE c then 0
  else if l.locked then 2
  else if l.rxLostAt + 1000000000 < d.now then 3
  else 1

/-- An entry of the table that the check die keeps (R371, R373). -/
def CheckDie.partnerEntry (d : CheckDie) (i : Nat) : Octets :=
  if i < 0x100 then
    let x := d.context i
    partnerBytes 1 (d.contextState i) i (d.get Od.REQUESTER_ID i) x.lastGts x.received x.discarded
  else if i < 0x10C then
    let x := d.stream (i - 0x100)
    partnerBytes 2 (d.sourceState (i - 0x100)) i (d.get Od.SOURCE_ID (i - 0x100)) x.lastGts x.received x.discarded
  else if 0x200 ≤ i ∧ i < 0x300 then
    let c := i - 0x200
    let x := d.consumer c
    partnerBytes 3 (d.consumerState c) i (d.laneOf c + d.get Od.CONSUMER_ID c * 256) x.lastGts x.received x.discarded
  else if 0x300 ≤ i ∧ i < 0xFC0 then
    match d.fab.partners.find? (fun p => p.1 == i) with
    | some p =>
      let x := d.fab.peers.get {} p.2.1
      partnerBytes 4 (1 + b01 (d.fab.reachable p.2.1)) i p.2.1 x.lastGts x.received x.discarded
    | none => partnerBytes 4 0 i 0 0 0 0
  else partnerBytes 0 0 i 0 0 0 0

/-- The indices of the table that the check die keeps and that may be in use. -/
def CheckDie.partnerIndices (d : CheckDie) : List Nat :=
  List.range 0x10C ++ (List.range 256).map (fun c => 0x200 + c) ++ d.fab.partners.map Prod.fst

/-- The check die's part of the table, entries in use only (R372). -/
def CheckDie.partnerTable (d : CheckDie) : Tbl Octets :=
  d.partnerIndices.foldl (fun (t : Tbl Octets) i =>
    let b := d.partnerEntry i
    if field b 1 1 = 0 then t else t.set [] i b) []

/-- A session's entry (R352, R373). -/
def SafetyDie.sessionPartner (s : SafetyDie) (i : Nat) : Octets :=
  match s.session (i - 0xFC0) with
  | some x =>
    if x.opened then partnerBytes 5 2 i (x.role + x.path * 256) x.lastGts x.received x.discarded
    else partnerBytes 5 0 i 0 0 0 0
  | none => partnerBytes 5 0 i 0 0 0 0

/-- Sessions that are open. -/
def SafetyDie.openSessions (s : SafetyDie) : Nat :=
  ((List.range 64).filter (fun i => match s.session i with
    | some x => x.opened
    | none => false)).length

end Sys2Proof.Machine
end

