-- ==== Sys2Proof/Machine/Dies.lean ====
section
/-! DEFINITION. The two dies together: what a change on one die brings at once on the other (SD_CD_KILL, the device state, the
epoch boundary of a commit), and the end of a commit (R199, R357, R366). -/

namespace Sys2Proof.Machine

/-- The GV720: its two dies. -/
structure Dies where
  sd : SafetyDie := {}
  cd : CheckDie := {}
deriving DecidableEq, Repr

/-- The check die runs: powered, out of reset, clocked, not asleep. -/
def CheckDie.runs (d : CheckDie) : Bool := d.up && d.clock && d.power.awake

/-- RUN entered or left (R333): the margin period counts hours of RUN. -/
def SafetyDie.runClock (s : SafetyDie) (was : DevState) : SafetyDie :=
  if s.device = was then s
  else if s.device = .run then { s with margin := { s.margin with runSince := some s.now } }
  else match s.margin.runSince with
    | some t => { s with margin := { s.margin with runSince := none, runNs := s.margin.runNs + (s.now - t) } }
    | none => s

/-- A change of the safety die takes effect on the check die (R257, R372, R427, R438, log entry 11): SD_CD_KILL resets it; the device
state reaches it at once, but for RUN and the safe-state entry, which travel by EPOCH_ADVANCE and SAFE_ENTER. -/
def Dies.follow (x : Dies) (s : SafetyDie) : Dies :=
  let s1 := (s.runClock x.sd.device).permitFollow 5
  let killed := s1.kill.on && !x.sd.kill.on
  let byFlit := (x.sd.device == .run && s1.device == .safeHold) || s1.device == .run
  let s2 := if x.sd.cdServes && !s1.cdServes then { s1 with partners := (x.cd.tick s.now).partnerTable } else s1
  let c1 := if killed then (x.cd.tick s.now).reset else x.cd
  let c2 := if s1.device ≠ x.sd.device ∧ (!byFlit || s1.kill.on) then (c1.tick s.now).setDevice s1.device else c1
  { sd := s2, cd := c2 }

/-- An update of the safety die at a time. -/
def Dies.onSafety (x : Dies) (t : Nat) (f : SafetyDie → SafetyDie) : Dies := x.follow (f (x.sd.tick t))

/-- An update of the check die at a time; nothing but its clock while it does not run. -/
def Dies.onCheck (x : Dies) (t : Nat) (f : CheckDie → CheckDie) : Dies :=
  let c := x.cd.tick t
  { x with cd := if c.runs then f c else c }

/-- An update of the safety die alone, with what follows from it. -/
def Dies.safety (x : Dies) (f : SafetyDie → SafetyDie) : Dies := x.follow (f x.sd)

/-- An update of the check die while it runs. -/
def Dies.check (x : Dies) (f : CheckDie → CheckDie) : Dies := if x.cd.runs then { x with cd := f x.cd } else x

/-- An update of the check die at a time whatever its state. -/
def Dies.onCheckAny (x : Dies) (t : Nat) (f : CheckDie → CheckDie) : Dies := { x with cd := f (x.cd.tick t) }

/-- A session's number of unanswered requests: the one that waits and those behind it (R350). -/
def Session.unanswered (x : Session) : Nat := x.waiting.length + b01 x.busy.isSome

/-- The corridor link runs on the check die: out of reset, its links clocked (R29), and not in RETAIN, whose entry lets what is under way
finish, for 5 ms at the most (R431; log entry 85). -/
def CheckDie.linkRuns (d : CheckDie) : Bool := d.up && d.clock && (d.power != .retain || decide (d.now < d.retainAt + 5000000))

/-- An update of the check die's links at a time. -/
def Dies.onLinks (x : Dies) (t : Nat) (f : CheckDie → CheckDie) : Dies :=
  let c := x.cd.tick t
  { x with cd := if c.linkRuns then f c else c }

/-- A flit toward the check die arrives (R248): while its link runs. -/
def Dies.onCheckLink (x : Dies) (t : Nat) (f : CheckDie → CheckDie) : Dies := x.onLinks t f

/-- A flit toward the safety die arrives; none does in RETAIN once the entry is complete. -/
def Dies.onSafetyLink (x : Dies) (t : Nat) (f : SafetyDie → SafetyDie) : Dies :=
  let s := x.sd.tick t
  if s.kill.on || (s.power == .retain && decide (s.sleepAt + 5000000 ≤ s.now)) then x.onSafety t id else x.onSafety t f

end Sys2Proof.Machine
end

