-- ==== Sys2Proof/Machine/Power.lean ====
section
/-! DEFINITION. Resets (R435-R440, R482, R483), boot (R427, R441-R447), the check die's power and reset (R257-R259, R437, R484-R486),
power states (R429-R434, R451), clock loss (R30) and temperature (R493). -/

namespace Sys2Proof.Machine

/-- An item with no good copy takes its loss value (R439, R440). -/
def GuestBook.lose (g : GuestBook) (i : GuestItem) : GuestBook :=
  let l : GuestBook := {}
  match i with
  | .epoch => { g with epoch := l.epoch }
  | .lockout => { g with locks := l.locks }
  | .dogCounts => { g with wdsResets := 0, wdhResets := 0, clockTrips := 0 }
  | .brakeTest => { g with bt := l.bt, btPass := l.btPass, btResult := l.btResult }
  | .outputFaults => { g with outputFault := l.outputFault }
  | .cdLock => { g with cdLocked := l.cdLocked }
  | .firstFaults => { g with first := l.first }
  | .sigSeq => { g with sigSeq := l.sigSeq }
  | .margin => { g with marginNext := l.marginNext, marginLast := l.marginLast }
  | .commits => { g with commits := l.commits }
  | .boots => { g with boots := l.boots }
  | .resetRecord => { g with lastReset := l.lastReset, lastDetail := l.lastDetail, resetCounts := l.resetCounts }
  | .fences => { g with fences := l.fences, fencesLost := l.fencesLost }

/-- Tmax in 1/16 degree (R493). -/
def tmax16 : Int := if Config.industrial then 1680 else 1520

/-- The last reading of a sensor taken (R493). -/
def SafetyDie.reading (s : SafetyDie) (sensor : Nat) (t : Int) : SafetyDie :=
  { s with temps := (s.temps.filter (fun (e : Nat × Int) => e.1 != sensor)) ++ [(sensor, t)] }

/-- Some sensor reads above a limit. -/
def SafetyDie.anyAbove (s : SafetyDie) (lim : Int) : Bool := s.temps.any (fun e => decide (lim < e.2))

/-- The boot ROM starts once the reset has ended (R442, steps 1 to 3): it checks the guest book (R439). -/
def SafetyDie.startBoot (s : SafetyDie) (vbat : Bool) (lost : List GuestItem) (repaired : Bool) : SafetyDie :=
  let some? := lost != [] || repaired
  let s1 := ({ s.setGuest (fun g =>
      let h := lost.foldl GuestBook.lose g
      if lost.contains .boots then { h with boots := 1 } else h) with
    boot := { s.boot with heldSince := none, startedAt := s.now, stage := 3, faultN := false
                          guestState := if vbat then 1 else if some? then 2 else 0 }
    gtsAt := s.now
    resetEnd := s.now } : SafetyDie).settle
  if some? && !vbat then s1.raise .guestBookLost else s1

/-- POR is released (R435, R438, R440, R482): after VBAT loss every item of the guest book takes its loss value and the RTC
restarts at 0. -/
def SafetyDie.por (s : SafetyDie) (vbat : Bool) (lost : List GuestItem) (repaired : Bool) : SafetyDie :=
  let g : GuestBook := if vbat then {} else lost.foldl GuestBook.lose s.guest
  let k := if vbat then 1 else 0
  let s1 := s.restartAll k (g.recordReset k 0)
  let s2 := if vbat then { s1 with rtc := 0, rtcAt := s1.now } else s1
  s2.startBoot vbat (if vbat then [] else lost.filter (fun i => i != .boots && i != .resetRecord)) (repaired || lost != [])

/-- A reset that had just begun counts no more (R496). -/
def GuestBook.unrecordReset (g : GuestBook) (kind : Nat) : GuestBook :=
  { g with boots := g.boots - 1, resetCounts := g.resetCounts.modify kind (fun n => n - 1) }

/-- A rail of the safety die leaves its limits (R483): POR is asserted until POR releases it. With a low of RESET_N taken at the same
moment it is one POR (R496). -/
def SafetyDie.supplyTrip (s : SafetyDie) : SafetyDie :=
  let one := decide (s.boot.heldSince = some s.now) && s.guest.lastReset == 2
  let s1 := s.restartAll 0 (if one then s.guest.unrecordReset 2 else s.guest)
  { s1 with boot := { s1.boot with heldSince := some s1.now } }

/-- Entry into VBAT (R166, R483): the open audits close before the supplies are gone. -/
def Dies.supplyTrip (x : Dies) : Dies := (x.check (fun d => d.skipAllAudits .power)).safety SafetyDie.supplyTrip

/-- A low on RESET_N that has lasted `ns` (R436): below 0.5 µs it never resets. -/
def SafetyDie.resetN (s : SafetyDie) (ns : Nat) : SafetyDie :=
  if ns < 500 ∨ s.boot.heldSince.isSome then s else s.restartAll 2 (s.guest.recordReset 2 0)

/-- RESET_N is released (R436, R442): boot goes on from step 2. -/
def SafetyDie.resetNEnd (s : SafetyDie) (lost : List GuestItem) (repaired : Bool) : SafetyDie :=
  if s.boot.heldSince.isSome && s.guest.lastReset == 2 then s.startBoot false lost repaired else s

/-- A safety reset ends after at least 100 µs (R435). -/
def SafetyDie.safetyEnd (s : SafetyDie) (lost : List GuestItem) (repaired : Bool) : SafetyDie :=
  match s.boot.heldSince with
  | some t => if s.guest.lastReset = 3 ∧ t + 100000 ≤ s.now then s.startBoot false lost repaired else s
  | none => s

/-- A reset that boots again at once, LPDDR5X kept when it was placed in self-refresh (R435, R437, R446). -/
def SafetyDie.warmRestart (s : SafetyDie) (g : GuestBook) : SafetyDie :=
  let kept := s.cdServes || (s.kill.on && s.kill.report)
  let s1 := s.restartAll 4 g
  ({ s1 with kill := { s1.kill with report := kept } } : SafetyDie).startBoot false [] false

/-- WARM_RESET (R435). -/
def SafetyDie.warmReset (s : SafetyDie) : SafetyDie := s.warmRestart (s.guest.recordReset 4 0)

/-- The SEC_VERSION floor (R447). -/
def SafetyDie.floorNow (s : SafetyDie) : Nat := max Config.secVersionFloor s.floor

/-- The check die's supplies are switched on, SD_CD_KILL released; its reset ends when PG_CD has been high for 1 ms (R442,
R484). -/
def SafetyDie.powerOn (s : SafetyDie) : SafetyDie :=
  if s.kill.keep then s
  else { s with kill := { s.kill with on := false, power := false, pwrEn := true, released := none,
                                      pwrAt := if s.kill.pwrEn then s.kill.pwrAt else s.now,
                                      pg := s.kill.pg && s.kill.pwrEn } }

/-- The stored application image is verified (R240): its last 29,792 bytes, the size of an SLH-DSA-SHAKE-256s signature (R444), sign the
bytes before under one of the enrolled integrator keys, which the command gives since the spec does not say where they lie (log
entry 88); and its digest is SPLIT_APP_DIGEST, when that is nonzero. -/
def SafetyDie.splitAppOk (s : SafetyDie) (keys : List Octets) : Bool :=
  let b := s.splitApp
  let n := b.length - 29792
  let want := (s.values.get Od.SPLIT_APP_DIGEST).b
  b != [] && decide (29792 < b.length) && keys.any (fun pk => Config.slhVerify pk (b.take n) (b.drop n))
    && (want.all (fun x => x == 0) || want == Config.shake256 32 b)

/-- The keeper pair's mode at boot (R229, R239, R240), and the values that take effect there (R342, R438). -/
def SafetyDie.bootKeeper (s : SafetyDie) (keys : List Octets) : SafetyDie :=
  let want := s.get Od.CORE_MODE = 1
  let ok := s.splitAppOk keys
  let s1 := { s with
    bootCfg := s.values.filter (fun e => decide (e.1 / 256 = 0x1400 ∨ e.1 = Od.CORE_MODE.key 0 ∨ e.1 = Od.KEEPER_LAG.key 0
      ∨ e.1 = Od.WDS_CLOCK.key 0 ∨ e.1 = Od.WDH_CLOCK.key 0))
    keeper := { split := decide want && ok, lag := s.get Od.KEEPER_LAG, app := b01 (decide want && ok), testedAt := s.now }
    wds := { state := .running, base := s.now, timeout := 2000000, boot := true } }
  if want && !ok then s1.raise .splitFallback else s1

/-- The P store read at boot (R441): the newest copy with a valid tag is used; with none every P entry takes its default. -/
def SafetyDie.readStore (s : SafetyDie) (c : StoreRead) : SafetyDie :=
  match c with
  | .newest => { s with values := s.flash }
  | .older => { s with values := s.older, flash := s.older, keys := s.olderKeys }
  | .neither => ({ s with flash := [], older := [], olderKeys := [], values := [], keys := [], cert := [], splitApp := [] } :
      SafetyDie).raise .pStoreLost

/-- The boot ROM has verified the image (R442, steps 4 to 7; R444): `fault` is the first failing step by its code, 0 for none.
The handover starts WDS (R305) and enters SELFTEST; without a verifiable image the device enters BOOT_WAIT (R445). -/
def SafetyDie.imageChecked (s : SafetyDie) (fault : Nat) (store : StoreRead) (keys : List Octets) : SafetyDie :=
  if s.device ≠ .boot ∨ s.boot.heldSince.isSome ∨ s.anyAbove tmax16 ∨ (fault = 0 ∧ !s.fw.stored) then s
  else
    let code := if fault ≠ 0 then fault else if s.fw.secVersion < s.floorNow then 5 else 0
    if code ≠ 0 then
      ({ s with device := .bootWait, boot := { s.boot with fault := code, stage := 3 } } : SafetyDie).powerOn
    else
      let s1 := (s.readStore store).bootKeeper keys
      (({ s1 with
        device := .selftest
        boot := { s1.boot with fault := 0, stage := 6 }
        fw := { s1.fw with runVersion := s1.fw.version, runSec := s1.fw.secVersion, runDigest := s1.fw.digest } } :
          SafetyDie).rcFollow).powerOn

/-- The fence and watch maps at boot (R441): from the guest book's mirror when the P store is lost, every cluster fenced when the
mirror is lost too; otherwise the mirror follows the maps. -/
def Dies.bootFences (x : Dies) (store : StoreRead) : Dies :=
  let g := x.sd.guest
  if store ≠ .neither then
    { x with sd := x.sd.setGuest (fun g =>
      { g with
        fencesLost := false
        fences := x.cd.clusters.map (fun (e : Nat × Cluster) =>
          (e.1, ({ rows := e.2.rows, whole := e.2.fenced, watch := e.2.watch.map Watch.row } : FenceMirror))) }) }
  else
    { x with cd := x.cd.forEach allClusters (fun d c => d.updCluster c (fun k =>
      let m := g.fences.get {} c
      if g.fencesLost then { k with fenced := true }
      else { k with rows := m.rows, fenced := m.whole, watch := m.watch.map (fun r => ({ row := r, at_ := d.now } : Watch)) })) }

/-- BOOT_IMAGE_CHECKED on both dies. -/
def Dies.imageChecked (x : Dies) (fault : Nat) (store : StoreRead) (keys : List Octets) : Dies :=
  let s := x.sd.imageChecked fault store keys
  if x.sd.device = .boot ∧ s.device = .selftest then (x.follow s).bootFences store else x.follow s

/-- The blocking bits of SELFTEST_FAILED (R443): 0 to 5, 7 and 8. -/
def blockingTests : Nat := 0x1BF

/-- The device leaves SELFTEST for SAFE_HOLD (R427, R428). -/
def SafetyDie.selftestHold (s : SafetyDie) : SafetyDie :=
  { s with device := .safeHold, boot := { s.boot with blocked := true, faultN := false } }

/-- The self-tests are complete (R442, steps 10 to 13; R443): `outs` are the outputs whose readback or feedback read on. -/
def SafetyDie.selftestDone (s : SafetyDie) (report : SelftestReport) (outs ms : Nat) : SafetyDie :=
  if s.device ≠ .selftest ∨ s.boot.tested then s
  else
    let f := (report.failed ||| s.boot.failed) % 1024
    let s1 := { s with boot := { s.boot with failed := f, ms := ms % 65536, tested := true, stage := 13 } }
    let s2 := if f.testBit 6 then (s1.setGuest (fun g => { g with outputFault := g.outputFault ||| (outs % 8) })).settle else s1
    let s3 := if f.testBit 0 then s2.raise .injectMissed else s2
    let s4 := if f.testBit 7 then { s3 with cdState := if s3.cdState = .off then .off else .fault } else s3
    if f &&& blockingTests ≠ 0 then s4.selftestHold else s4.tryReady

/-- The check die's reset ends with the supplies good (R442, step 8; R484). -/
def Dies.release (x : Dies) : Dies :=
  let s := x.sd
  { sd := { s with kill := { s.kill with on := false, power := false, released := some s.now }, corTx := {}, corRx := {} }
    cd := (x.cd.tick s.now).releaseReset }

/-- SD_CD_KILL has been held long enough (R257): 20 µs, or 1 ms with the supplies switched off; not while it is locked or the
device sleeps, nor in BOOT. -/
def Dies.killHoldEnd (x : Dies) : Dies :=
  let s := x.sd
  let k := s.kill
  let hold := if k.power then 1000000 else 20000
  if !k.on || k.keep || s.device == .boot || decide (s.now < k.since + hold) then x
  else if k.pwrEn && k.pg then x.release
  else { x with sd := s.powerOn }

/-- PG_CD rises (R484). -/
def SafetyDie.pgRise (s : SafetyDie) : SafetyDie :=
  if s.kill.pwrEn && !s.kill.pg then { s with kill := { s.kill with pg := true, pgAt := s.now } } else s

/-- PG_CD falls (R486, R496): with CD_PWR_EN high and no kill, as a heartbeat trip. -/
def SafetyDie.pgFall (s : SafetyDie) : SafetyDie :=
  if !s.kill.pwrEn || !s.kill.pg then s
  else
    let s1 := { s with kill := { s.kill with pg := false } }
    if s1.kill.on then s1 else s1.trip

/-- PG_CD has not risen 20 ms after CD_PWR_EN (R484): self-test bit 7. -/
def SafetyDie.pgTimeout (s : SafetyDie) : SafetyDie :=
  if s.kill.pwrEn && !s.kill.pg && decide (s.kill.pwrAt + 20000000 ≤ s.now) then
    let s1 := { s with kill := { s.kill with pwrEn := false }, boot := { s.boot with failed := s.boot.failed ||| 128 } }
    if s1.device = .selftest then s1.selftestHold else s1
  else s

/-- The check-die reset is released 1 ms after PG_CD rose (R442, step 8; R484). -/
def Dies.resetRelease (x : Dies) : Dies :=
  let k := x.sd.kill
  if !k.on && k.pwrEn && k.pg && k.released.isNone && decide (k.pgAt + 1000000 ≤ x.sd.now) && x.sd.device != .boot
  then x.release else x

/-- The answer of a request once it is known (R344, R348): flags bit 0 LAST; the tag under the session key. -/
def Session.answer (x : Session) (slot : Nat) (r : Req) (status : Nat) (data : Octets) (last : Bool) : Octets :=
  let n := (data.length + 7) / 8 * 8 + 40
  let b := le 2 n ++ le 1 (r.kind + 128) ++ le 1 (b01 last) ++ le 1 slot ++ le 1 status ++ le 2 0 ++ le 4 r.seq ++ le 2 r.index
    ++ le 1 r.sub ++ le 1 0 ++ le 4 r.offset ++ le 4 data.length ++ padTo (n - 40) data
  b ++ padTo 16 (Config.kmac256 x.key (1 :: b) 128 "MSG")

/-- An OD message leaves by a path (R353): across the corridor, or by the tunnel of a CAN controller. -/
def SafetyDie.sendOd (s : SafetyDie) (slot path origin : Nat) (b : Octets) : SafetyDie :=
  if path ≤ 2 then s.sendFlits (flitsOd slot path b)
  else ({ s with tunnel := s.tunnel.set [] origin b } : SafetyDie).put (.odMessage 3 origin b)

/-- A session's request is answered (R349, R350). -/
def SafetyDie.respond (s : SafetyDie) (slot : Nat) (r : Req) (status : Nat) (data : Octets) (last : Bool) : SafetyDie :=
  match s.session slot with
  | none => s
  | some x =>
    let b := x.answer slot r status data last
    (s.setSession slot (some (if r.seq = x.lastSeq then { x with response := b } else x))).sendOd slot x.path x.origin b

/-- The request of a session that waited is answered. -/
def SafetyDie.answerBusy (s : SafetyDie) (slot status : Nat) (data : Octets) : SafetyDie :=
  match (s.session slot).bind Session.busy with
  | some r => (s.updSession slot (fun x => { x with busy := none })).respond slot r status data false
  | none => s

/-- A commit is complete (R357, step 5; R366): its boundary is taken as passed, the set is cleared, COMMIT_CRC is answered. -/
def SafetyDie.commitDone (s : SafetyDie) : SafetyDie :=
  let g := s.staging
  let s1 := { s.setGuest (fun b => { b with commits := (b.commits + 1) % 2 ^ 32 }) with
    staging := { status := 3, code := 0, entry := 0 } }
  match g.owner with
  | some i => if g.orphan then s1 else s1.answerBusy i 0 (le 4 g.epoch)
  | none => s1

/-- The committed set's boundary is taken as passed when the check die has acknowledged EPOCH_ADVANCE (R366). -/
def SafetyDie.commitAcked (s : SafetyDie) : SafetyDie :=
  if s.staging.step = .applying ∧ s.staging.earlier ≠ [] ∧ s.cdState.serves ∧ !s.epochOpen then s.commitDone else s

/-- The settings that the check die works from (R342): the 0x1400 entries as at the last boot. -/
def SafetyDie.copySet (s : SafetyDie) : OdStore :=
  OdStore.putAll (s.values.filter (fun (e : Nat × Val) => decide (e.1 / 256 ≠ 0x1400)))
    (s.bootCfg.filter (fun (e : Nat × Val) => decide (e.1 / 256 = 0x1400)))

/-- The end of a check-die reset (R199, R260, R357, R366, R437, R438, R442 step 14): one epoch boundary for every cause that waited;
LPDDR5X contents are kept only with the self-refresh report. `bad` are images that fail their checks, by kind and slot,
`fails` the cluster self-tests. -/
def Dies.resetEnd (x : Dies) (bad fails : List (Nat × Nat)) : Dies :=
  let s := x.sd
  if s.kill.released.isNone || !x.cd.up || x.cd.state != .booting || !x.cd.corRx.up || !s.corRx.up || s.device == .boot
      || s.device == .bootWait then x
  else
    let s1 := if s.staging.step = .applying ∧ s.staging.earlier = [] then s.takeSet else s
    let commit := s1.staging.step = .applying
    let epoch := (s1.guest.epoch + 1) % 2 ^ 32
    let causes := s1.pending ||| 8 ||| b01 (decide commit)
    let s2 := { s1.setGuest (fun g => { g with epoch := epoch }) with
      pending := 0
      advancedAt := some s.now
      prior := none
      boundaryEpoch := epoch
      staging := { s1.staging with epoch := if commit then epoch else s1.staging.epoch } }
    let lostAll := s2.kill.lost
    let missing := !lostAll && !s2.kill.report
    let s3 := if missing then s2.raise .imagesLost else s2
    let s4 := { s3 with kill := { s3.kill with lost := false, report := false } }
    let c := { x.cd.tick s.now with split := s4.keeper.split }
    let c1 := (if lostAll || missing then c.emptySlots else c).resetEnd s4.copySet epoch causes s4.device bad fails
    let s5 := { s4 with boundaryGts := c1.boundaryGts, boundaryCauses := causes }
    let s6 := if commit then s5.commitDone else s5
    ({ sd := s, cd := c1 } : Dies).follow s6

/-- The memory controller reports that LPDDR5X is in self-refresh (R431, R437): while its power is still there. It completes the entry
into DARK or STANDBY. R245 lists no flit of its own for the report; the command stands for one that was accepted (R14; log entry
85). -/
def SafetyDie.selfRefresh (s : SafetyDie) : SafetyDie :=
  if s.kill.on then (if s.kill.pwrEn then { s with kill := { s.kill with report := true } } else s)
  else if s.power = .dark ∨ s.power = .standby then
    let s1 := s.assertKill false true true
    { s1 with kill := { s1.kill with report := true } }
  else s

/-- A check die without its clock sends no report (R437). -/
def Dies.selfRefresh (x : Dies) : Dies := if x.cd.clock then x.safety SafetyDie.selfRefresh else x

/-- A wake from DARK or STANDBY: a check-die reset (R433, R434). -/
def SafetyDie.wakeDeep (s : SafetyDie) : SafetyDie :=
  ({ s with power := .active, wakeWaits := false, kill := { s.kill with keep := s.guest.cdLocked } } : SafetyDie).powerOn

/-- The entry into DARK or STANDBY is complete: a wake that waited takes place (R451). -/
def SafetyDie.sleepDone (s : SafetyDie) : SafetyDie :=
  if s.wakeWaits && s.kill.on && !s.kill.pwrEn then s.wakeDeep else s

/-- CD_PWR_EN goes low 10 µs after SD_CD_KILL (R257, R485), which completes an entry into DARK or STANDBY. -/
def SafetyDie.killPower (s : SafetyDie) : SafetyDie :=
  let k := s.kill
  if k.on && k.power && k.pwrEn && decide (k.since + 10000 ≤ s.now)
  then ({ s with kill := { k with pwrEn := false, pg := false } } : SafetyDie).sleepDone else s

/-- Entry into DARK or STANDBY completes at the latest 5 ms after the request (R431). -/
def SafetyDie.sleepDue (s : SafetyDie) : SafetyDie :=
  if (s.power = .dark ∨ s.power = .standby) ∧ !s.kill.on ∧ s.sleepAt + 5000000 ≤ s.now then s.assertKill false true true else s

/-- The depth of a power state. -/
def PowerState.depth : PowerState → Nat
  | .active => 0 | .gated => 0 | .retain => 1 | .dark => 2 | .standby => 3

/-- Entry into RETAIN, DARK or STANDBY (R431): a stop cause, brakes off, streams IDLE, audits closed, every injector
disarmed (R455). -/
def Dies.sleep (x : Dies) (p : PowerState) : Dies :=
  let s0 := x.sd
  let s1 := s0.stop 13
  let s2 := ({ s1.channelsOff with power := p, sleepAt := s1.now } : SafetyDie).hostHold
  let s3 := { s2.dropInjectors with heart := { s2.heart with armed := false } }
  let y := x.follow s3
  if y.sd.kill.on then y
  else
    let c := y.cd.tick s3.now
    let c2 := c.dropInjectors
    { y with cd := if c2.up then c2.sleep p else { c2 with power := p } }

/-- A wake from RETAIN (R434, R438): streams restart from IDLE, GTS starts again from the safety die's copy. -/
def Dies.wakeRetain (x : Dies) : Dies :=
  let s := x.sd
  let s1 := { s with power := .active, heart := { s.heart with armed := s.cdState.serves, lastEdge := s.now } }
  { sd := (s1.hostResume).sendTime.flushLog.settle
    cd := if x.cd.up then (x.cd.tick s.now).wakeRetain else { x.cd with power := .active } }

/-- What a PCIe reset that the endpoint takes changes in the dictionary (R404, R438): INTAKE_ENABLE of every context reads 0, and the
fault-injection entries are at their defaults; the endpoint's report of it is the answer of an entry held on the check die (R367;
log entry 85). -/
def SafetyDie.pcieReset (s : SafetyDie) : SafetyDie :=
  let s1 := s.dropInjectors
  { s1 with values := s1.values.filter (fun e => !((List.range 256).any (fun c => e.1 == Od.INTAKE_ENABLE.key c))) }

/-- A function-level reset (R404). -/
def Dies.functionReset (x : Dies) : Dies :=
  if x.cd.perst || !x.cd.runs then x else ({ x with cd := x.cd.functionReset } : Dies).safety SafetyDie.pcieReset

/-- PERST# changes (R404). With a check-die reset at the same moment the reset governs, and the PERST# is counted (R451). -/
def Dies.perstLevel (x : Dies) (low : Bool) : Dies :=
  let c := x.cd.perstLevel low
  let count := low && !x.cd.perst && !x.cd.up && x.sd.kill.on && x.sd.kill.since == x.cd.now
  let y := { x with cd := if count then c.bump Od.PCIE_RESETS else c }
  if low && !x.cd.perst && x.cd.up then y.safety SafetyDie.pcieReset else y

/-- A wake source acts in a power state (R433). -/
def wakeActs (source : Nat) (p : PowerState) : Bool :=
  match source with
  | 0 => p == .retain || p == .dark
  | 1 => p == .standby
  | 2 => !p.awake
  | 3 => !p.awake
  | _ => false

/-- A wake event (R433, R434, R451). -/
def Dies.wake (x : Dies) (source : Nat) : Dies :=
  let s := x.sd
  let enabled := (s.get Od.WAKE_SOURCES).testBit source
    && (source != 3 || (s.get Od.WAKE_RTC_S != 0 && decide (s.get Od.WAKE_RTC_S ≤ s.rtcNow)))
  if !enabled || !wakeActs source s.power then x
  else if s.power = .retain then x.wakeRetain
  else if s.kill.pwrEn then { x with sd := { s with wakeWaits := true } }
  else { x with sd := s.wakeDeep }

/-- Loss of a clock (R30): 0 XTAL_25, 1 PLL_KEEP, 2 the AO clock; others are the check die's. -/
def Dies.clockLoss (x : Dies) (t which : Nat) : Dies :=
  if which ≤ 2 then x.onSafety t (fun s =>
    if s.power = .standby ∧ which ≤ 1 then s else s.safetyReset .clockLoss 0xFF which 0xFFFF)
  else x.onCheckAny t CheckDie.clockStops

/-- A sensor reads at or above Tmax (R493, item 1): THERM_N goes low. -/
def SafetyDie.thermalWarn (s : SafetyDie) (sensor : Nat) (t : Int) : SafetyDie :=
  if t < tmax16 ∨ 22 ≤ sensor then s
  else
    let s1 := s.reading sensor t
    if s1.thermLow then s1 else ({ s1 with thermLow := true } : SafetyDie).raise .thermalWarn 0 (instOf sensor 0xFF)

/-- A sensor's reading falls (R493, item 1): THERM_N returns high when every sensor reads at or below Tmax - 3 °C. -/
def SafetyDie.thermalClear (s : SafetyDie) (sensor : Nat) (t : Int) : SafetyDie :=
  if 22 ≤ sensor then s
  else
    let s1 := s.reading sensor t
    if s1.thermLow && !s1.anyAbove (tmax16 - 48)
    then ({ s1 with thermLow := false } : SafetyDie).raise .thermalClear 0 (instOf sensor 0xFF) else s1

/-- A check-die sensor reads Tmax + 15 °C (R493, item 2; R496): PLL_SYS stops. -/
def Dies.checkThermal (x : Dies) (t sensor : Nat) (v : Int) : Dies :=
  if v < tmax16 + 240 ∨ 20 ≤ sensor then x
  else
    let y := { x with sd := (x.sd.tick t).reading sensor v }
    if x.sd.kill.on then y else y.onCheckAny t CheckDie.clockStops

/-- A safety-die sensor reads Tmax + 15 °C (R493, item 3): PLL_KEEP stops, a safety reset. -/
def SafetyDie.safetyThermal (s : SafetyDie) (sensor : Nat) (v : Int) : SafetyDie :=
  if v < tmax16 + 240 ∨ sensor < 20 ∨ 22 ≤ sensor then s
  else (s.reading sensor v).safetyReset .clockLoss 0xFF 1 0xFFFF

/-- Sensors read again while the boot ROM holds in BOOT (R493, item 4). -/
def SafetyDie.temperatureResume (s : SafetyDie) (l : List (Nat × Int)) : SafetyDie :=
  if s.device = .boot then s.forEach (l.filter (fun e => decide (e.1 < 22))) (fun s e => s.reading e.1 e.2) else s

/-- The RTC takes a new second; BT_AGE_S counts its seconds and does not jump with it (R291; log entry 93). -/
def SafetyDie.setRtc (s : SafetyDie) (gts : Nat) : SafetyDie :=
  let s1 := { s with rtc := gts / 1000000000, rtcAt := s.now - gts % 1000000000, rtcSet := s.now }
  s1.setGuest (fun g => { g with btPass := g.btPass.map (fun p => p + ((s1.rtcNow : Int) - s.rtcNow)) })

/-- The RTC is set from GTS once per second while the servo is LOCKED (R394). The check die holds SERVO_STATE, which crosses the corridor
as any entry held there does (R14, R367; log entry 85). -/
def Dies.rtcSet (x : Dies) : Dies :=
  let s := x.sd
  if s.cdServes && s.corRx.up && x.cd.time.servo == .locked && decide (s.rtcSet + 1000000000 ≤ s.now) then
    { x with sd := s.setRtc s.gts }
  else x

/-- The keeper firmware serves its queue, the kill a trip calls for, and a sleep entry that is due (R250, R254, R431). -/
def SafetyDie.serve (s : SafetyDie) : SafetyDie := if s.keeper.halted then s else s.serveQueue.sleepDue.sleepDone

end Sys2Proof.Machine
end

