-- ==== Sys2Proof/Machine/OdView.lean ====
section
/-! DEFINITION. What the dictionary's entries read (R361-R374): the views computed from the machine's state, each under the index
and subindex that its chapter gives it, and the entries that stand in a store. -/

namespace Sys2Proof.Machine

/-- A bitmap of those below `n` that have a property. -/
def bitmap (n : Nat) (f : Nat → Bool) : Nat := ((List.range n).map (fun i => b01 (f i) * 2 ^ i)).sum

/-- FENCE_MAP: bit 96c + r (R109). -/
def CheckDie.fenceMap (d : CheckDie) : Octets :=
  allClusters.flatMap (fun c => le 12 (bitmap 96 (fun r => (d.cluster c).rows.contains r)))

/-- CLUSTER_FENCED (R109). -/
def CheckDie.clusterFenced (d : CheckDie) : Nat := bitmap 16 (fun c => (d.cluster c).fenced)

/-- WATCH_MAP: rows as in FENCE_MAP, then the clusters (R109). -/
def CheckDie.watchMap (d : CheckDie) : Octets :=
  allClusters.flatMap (fun c => le 12 (bitmap 96 (fun r => (d.cluster c).watch.any (fun w => w.row == r))))
    ++ le 2 (bitmap 16 (fun c => (d.cluster c).watch.any (fun w => w.row == 0xFF || w.row == 0xFE)))

/-- Digest of a slot's image; all zero without one. -/
def digestOf (o : Option ImageHead) : Octets :=
  match o with
  | some h => padTo 32 h.digest
  | none => List.replicate 32 0

/-- MACs of one audited frame at the settings in force (R149, R150). -/
def CheckDie.auditMac (d : CheckDie) (m : Manifest) : Nat :=
  ((m.segments.zip (m.taps.drop 1)).map (fun x =>
    if x.1.audited then min (d.get Od.SAMPLE_CHANNELS) x.2.channels * min (d.get Od.SAMPLE_POSITIONS) x.2.positions * x.1.mac.k
    else 0)).sum

/-- PLACEMENT (R134): clusters of the first copy's two portions, then the second copy's; 0xFF none. -/
def placementWord (p : Placement) : Nat :=
  let c (l : List Portion) (i : Nat) : Nat := ((l[i]?).map Portion.cluster).getD 0xFF
  ofLe [c p.first 0, c p.first 1, c p.second 0, c p.second 1]

/-- RING_READ_DATA (R338): up to 256 records from RING_READ_INDEX that are still held. -/
def CheckDie.ringData (d : CheckDie) : Octets :=
  let from_ := d.reg Od.RING_READ_INDEX
  let oldest := d.ev.written - d.ev.ring.length
  let skip := from_ - oldest
  let n := if from_ < oldest then 256 - (oldest - from_) else 256
  ((d.ev.ring.drop skip).take n).flatMap EventRec.octets

/-- MANAGER_NODE (R402). -/
def Fabric.managerNode (f : Fabric) : Nat :=
  if f.manager then f.node
  else if f.managerUid = [] then 0
  else ((f.db.find? (fun l => l.uid == f.managerUid)).map Lsa.node).getD 0

/-- PORT_STATE (R402). -/
def Fabric.portStates (f : Fabric) : Nat :=
  ((List.range 4).map (fun p =>
    let x := f.port p
    (if x.adjacent then 2 else b01 x.linkUp) * 16 ^ p)).sum

/-- Two's complement of an integer in `w` bits. -/
def twos (w : Nat) (v : Int) : Nat := (v % (2 ^ w : Int)).toNat

/-- Entries of the ingress, arithmetic, dispatch and audit chapters that are views (R70, R109, R134, R168). -/
def CheckDie.viewWork (d : CheckDie) (idx sub i : Nat) : Option Val :=
  if idx = 0x2000 ∧ sub = 0x11 then some (.num (d.stream i).state.code)
  else if idx = 0x3400 then
    match sub with
    | 0x02 => some (.bytes d.fenceMap)
    | 0x03 => some (.num d.clusterFenced)
    | 0x07 => some (.bytes d.watchMap)
    | 0x0F => some (.num (bitmap 16 (fun c => (d.cluster c).retestPassed)))
    | 0x10 => some (.num d.margin.retestState)
    | _ => none
  else if idx = 0x2400 then
    match sub with
    | 0x02 => some (.num ((d.disp.share * 65536).floor.toNat))
    | 0x03 => some (.num (planBudget d.disp.share))
    | 0x04 => some (.num (bitmap 16 (fun c => !(d.disp.hosted c).isEmpty)))
    | 0x06 => some (.num (bitmap 12 (fun n => d.disp.shed.contains n)))
    | 0x07 => some (.num (bitmap 12 (fun n => d.disp.onFallback.contains n)))
    | _ => none
  else if idx = 0x2401 then
    let s := d.package i
    match sub with
    | 0x01 => some (.num s.state.code)
    | 0x03 => some (.bytes (digestOf (s.image.map Package.hd)))
    | 0x04 => some (.num ((s.image.map Package.packageId).getD 0))
    | 0x05 => some (.num ((s.image.map Package.macPerFrame).getD 0))
    | 0x06 => some (.num ((s.image.map (fun p => p.startOffset * 65536 + p.macCycles)).getD 0))
    | 0x08 => some (.num s.fault)
    | _ => none
  else if idx = 0x2420 then
    match sub with
    | 0x04 => some (.num (((d.placement i).map Placement.slot).getD 0xFF))
    | 0x05 => some (.num (((d.placement i).map placementWord).getD 0xFFFFFFFF))
    | _ => none
  else if idx = 0x2C00 then
    match sub with
    | 0x03 => some (.num d.audit.open_.length)
    | 0x04 => some (.num d.audit.epochNumber)
    | 0x0B => some (.bytes (d.audit.skips.flatMap (fun n => le 4 n)))
    | _ => none
  else if idx = 0x2C10 then
    let s := d.manifest i
    match sub with
    | 0x01 => some (.num s.state.code)
    | 0x03 => some (.num ((s.image.map Manifest.modelId).getD 0))
    | 0x04 => some (.bytes (digestOf (s.image.map Manifest.hd)))
    | 0x06 => some (.num (d.audit.weights.get 0 i))
    | 0x07 => some (.num s.fault)
    | 0x08 => some (.num ((s.image.map (fun m => m.deliverySize + 64)).getD 0))
    | 0x09 => some (.num ((s.image.map d.auditMac).getD 0))
    | _ => none
  else none

/-- Entries of the lantern, verdict, release, host, log, fabric and time chapters that are views (R202, R226, R338, R402, R426). -/
def CheckDie.viewRest (d : CheckDie) (idx sub i : Nat) : Option Val :=
  if idx = 0x2080 then
    match sub with
    | 0x04 => some (.num (d.lant i).set.state.code)
    | 0x0B => some (.num (b01 (d.lant i).starved))
    | _ => none
  else if idx = 0x3010 then
    let s := d.mapSlot i
    match sub with
    | 0x01 => some (.num s.state.code)
    | 0x03 => some (.bytes (digestOf (s.image.map CompatMap.hd)))
    | 0x05 => some (.num s.fault)
    | _ => none
  else if idx = 0x3020 ∧ sub = 0x07 then some (.num (b01 (d.escOf i).flag))
  else if idx = 0x3040 ∧ sub = 0x04 then some (.num (b01 (d.lane i).locked))
  else if idx = 0x2D00 ∧ sub = 0x0C then some (.num ((d.context i).consumed))
  else if idx = 0x4800 then
    match sub with
    | 0x02 => some (.bytes d.ev.collector.lost.octets)
    | 0x03 => some (.bytes d.ev.corridor.lost.octets)
    | 0x04 => some (.bytes d.ev.hostLost.octets)
    | 0x05 => some (.num d.ev.coalesced)
    | 0x06 => some (.num d.ev.written)
    | 0x07 => some (.num (d.reg Od.RING_READ_INDEX))
    | 0x08 => some (.bytes d.ringData)
    | 0x0F => some (.bytes ((d.sig.batches.head?.map Prod.snd).getD []))
    | 0x10 => some (.num d.sig.dropped)
    | 0x23 => some (.num d.margin.state)
    | _ => none
  else if idx = 0x5000 then
    match sub with
    | 0x10 => some (.num d.fab.node)
    | 0x11 => some (.num d.fab.state.code)
    | 0x12 => some (.num (if d.fab.state = .down then 0 else d.fab.size))
    | 0x13 => some (.num d.fab.managerNode)
    | 0x14 => some (.num d.fab.portStates)
    | 0x15 => some (.bytes (routeBytes d.fab.node d.fab.routes))
    | _ => none
  else if idx = 0x5400 then
    match sub with
    | 0x0C => some (.num d.time.servo.code)
    | 0x0D => some (.num (twos 64 (d.time.samples.headD 0)))
    | 0x0E => some (.num (twos 32 d.time.rate))
    | 0x16 => some (.bytes d.time.ptm)
    | 0x17 => some (.bytes (padTo 8 ((d.time.master.map Master.identity).getD [])))
    | _ => none
  else if idx = 0x7000 ∧ sub = 0x01 then some (.num (if d.perst then 0 else Config.pcieLink % 256))
  else none

/-- A view held or computed on the check die. -/
def CheckDie.view (d : CheckDie) (idx sub i : Nat) : Option Val :=
  match d.viewWork idx sub i with
  | some v => some v
  | none => d.viewRest idx sub i

/-- FIRST_FAULTS: 64 entries of a record and its count (R338). -/
def GuestBook.firstFaults (g : GuestBook) : Octets :=
  (List.range 64).flatMap (fun k => match g.first.find? (fun e => e.1 == k) with
    | some e => e.2.1.octets ++ le 4 e.2.2
    | none => List.replicate 36 0)

/-- PAIR_STATE (R295): what the keeper firmware evaluates. -/
def InputPair.code (p : InputPair) : Nat := if p.hbl.fault ≠ 0 then p.hbl.code else p.keeper.code

/-- KEY_STATE of a role (R352, R359): 0 EMPTY, 1 SET, 2 INITIAL. -/
def SafetyDie.keyState (s : SafetyDie) (role : Nat) : Nat :=
  if s.keys.get [] role ≠ [] then 1 else if role = 2 then 2 else 0

/-- The key of a role (R352): the INTEGRATOR slot holds the initial key until another is written. -/
def SafetyDie.roleKey (s : SafetyDie) (role : Nat) : Option Octets :=
  if s.keys.get [] role ≠ [] then some (s.keys.get [] role)
  else if role = 2 then some Config.initialIntegratorKey
  else none

/-- Text as bytes. -/
def text (s : String) : Octets := s.toUTF8.toList.map UInt8.toNat

/-- TJ_RANGE (R370): I16 minimum and maximum in °C. -/
def tjRange : Octets := if Config.industrial then le 2 (2 ^ 16 - 40) ++ le 2 105 else le 2 0 ++ le 2 95

/-- The identity entries (R370). -/
def Dies.viewIdentity (x : Dies) (sub : Nat) : Option Val :=
  let s := x.sd
  match sub with
  | 0x03 => some (.bytes (text (if Config.industrial then "GV720-I" else "GV720-C")))
  | 0x05 => some (.bytes ownUid)
  | 0x06 => some (.bytes tjRange)
  | 0x07 => some (.num Config.bootRomVersion)
  | 0x08 => some (.num s.fw.runVersion)
  | 0x09 => some (.bytes s.fw.runDigest)
  | 0x0B => some (.num (if 12 ≤ s.boot.stage then memoryGib else 0))
  | 0x0C => some (.num (if s.cdServes then s.cdState.code else if s.cdState.serves then 4 else s.cdState.code))
  | 0x0D => some (.num s.device.code)
  | 0x0E => some (.num (if s.power = .active ∧ x.cd.up ∧ x.cd.power = .gated then 1 else s.power.code))
  | 0x0F => some (.num ((s.now - s.resetEnd) / 1000000000))
  | 0x10 => some (.num s.guest.boots)
  | _ => none

/-- The session, commit and partner entries (R359, R372); the reading session's own selection. -/
def SafetyDie.viewAccess (s : SafetyDie) (idx sub i select : Nat) : Option Val :=
  if idx = 0x1200 then
    match sub with
    | 0x01 => some (.num s.openSessions)
    | 0x03 => some (.bytes (s.guest.locks.flatMap (fun l => le 4 l.fails ++ le 4 l.until_)))
    | 0x06 => some (.bytes (padTo 16 Config.passSalt))
    | _ => none
  else if idx = 0x1210 ∧ sub = 0x02 then some (.num (s.keyState i))
  else if idx = 0x1280 ∧ sub = 0x02 then some (.bytes (s.tunnel.get [] 0))
  else if idx = 0x7F00 then
    match sub with
    | 0x03 => some (.num s.staging.status)
    | 0x04 => some (.num s.staging.code)
    | 0x05 => some (.num s.staging.entry)
    | 0x06 => some (.num (s.staging.owner.getD 0xFF))
    | 0x07 => some (.num s.staging.entries.length)
    | 0x08 => some (.num s.guest.commits)
    | _ => none
  else if idx = 0x2800 then
    match sub with
    | 0x02 => some (.num select)
    | _ => none
  else none

/-- The safety entries that are views: verdict epoch, keeper, brake, watchdogs, log, power, boot, identity (R202, R261, R295, R318,
R338, R452, R464). -/
def SafetyDie.viewSafety (s : SafetyDie) (idx sub i : Nat) : Option Val :=
  let g := s.guest
  if idx = 0x3000 then
    match sub with
    | 0x03 => some (.num g.epoch)
    | 0x04 => some (.num s.boundaryGts)
    | 0x05 => some (.num s.boundaryCauses)
    | _ => none
  else if idx = 0x4000 then
    match sub with
    | 0x06 => some (.num (s.pair i).code)
    | 0x07 => some (.num (b01 (s.pair i).rawA + 2 * b01 (s.pair i).rawB))
    | _ => none
  else if idx = 0x4100 then
    match sub with
    | 0x0B => some (.num g.bt.code)
    | 0x0C => some (.num s.btAge)
    | 0x0D => some (.num g.btResult)
    | 0x0F => some (.num s.brake.state.code)
    | 0x10 => some (.num s.safeCauses)
    | 0x11 => some (.num g.outputFault)
    | _ => none
  else if idx = 0x4200 then
    match sub with
    | 0x06 => some (.num g.wdsResets)
    | 0x0D => some (.num g.wdhResets)
    | 0x10 => some (.num g.clockTrips)
    | _ => none
  else if idx = 0x4800 then
    match sub with
    | 0x09 => some (.bytes (s.log.flatMap EventRec.octets))
    | 0x0A => some (.bytes g.firstFaults)
    | 0x0E => some (.num g.sigSeq)
    | 0x25 => some (.num g.marginNext)
    | 0x26 => some (.bytes g.marginLast)
    | _ => none
  else if idx = 0x6000 then
    match sub with
    | 0x0B => some (.num g.lastReset)
    | 0x0C => some (.num g.lastDetail)
    | 0x0D => some (.bytes (g.resetCounts.flatMap (fun n => le 4 n)))
    | 0x0E => some (.num s.boot.guestState)
    | 0x11 => some (.num (b01 s.keeper.split))
    | 0x15 => some (.num s.keeper.app)
    | 0x24 => some (.num (b01 g.cdLocked))
    | 0x30 => some (.num s.boot.stage)
    | 0x31 => some (.num s.boot.fault)
    | 0x32 => some (.num s.floorNow)
    | 0x35 => some (.bytes s.attest.report)
    | 0x36 => some (.num s.attest.state)
    | _ => none
  else if idx = 0x6001 ∧ sub = 0x02 then some (.num s.fw.state)
  else if idx = 0x6002 then
    match sub with
    | 0x01 => some (.bytes (padTo 64 Config.identityKey))
    | 0x02 => some (.bytes s.cert)
    | 0x03 => some (.num (b01 (s.cert != [])))
    | _ => none
  else if idx = 0x7000 then
    match sub with
    | 0x25 => some (.num s.sorter.peak)
    | 0x30 => some (.num s.boot.failed)
    | 0x31 => some (.num s.boot.ms)
    | _ => none
  else none

/-- An injector is armed (R455): the safety die holds it armed, and the check die, when it sits there, has not disarmed it. -/
def Dies.isArmed (x : Dies) (a : ArmedInj) : Bool :=
  (a.kind == 3 && a.inst == 0)
    || !x.cd.marks.any (fun m => m.num == a.num && decide (a.armedAt ≤ m.start) && m.stop.isSome)

/-- Injectors that the check die has disarmed leave the safety die's list; with the last the owner goes (R453). -/
def Dies.pruneArmed (x : Dies) : Dies :=
  let l := x.sd.armed.filter x.isArmed
  { x with sd := { x.sd with armed := l, injectOwner := if l = [] then 0xFF else x.sd.injectOwner } }

/-- The injection entries that are views (R464). -/
def Dies.viewInject (x : Dies) (idx sub i : Nat) : Option Val :=
  let l := x.sd.armed.filter x.isArmed
  if idx = 0x6800 ∧ sub = 0x02 then some (.num (bitmap 8 (fun j => l.any (fun a => a.num == j))))
  else if idx = 0x6800 ∧ sub = 0x03 then some (.num (if l = [] then 0xFF else x.sd.injectOwner))
  else if idx = 0x6810 ∧ sub = 0x0D then some (.num (b01 (l.any (fun a => a.num == i))))
  else if idx = 0x6810 ∧ sub = 0x0E then some (.num (x.sd.regs.n Od.INJECTED i + x.cd.regs.n Od.INJECTED i))
  else none

/-- An entry of the partner table as the safety die answers it (R372, R373): the check die's part at most 100 ms old, as the check
die has it now while it serves. -/
def Dies.partner (x : Dies) (i : Nat) : Octets :=
  if 0xFC0 ≤ i ∧ i < 0x1000 then x.sd.sessionPartner i
  else if x.sd.cdServes then x.cd.partnerEntry i
  else if x.sd.partners.get [] i ≠ [] then x.sd.partners.get [] i
  else ({} : CheckDie).partnerEntry i

/-- PARTNERS_IN_USE (R372). -/
def Dies.partnersInUse (x : Dies) : Nat :=
  (if x.sd.cdServes then x.cd.partnerTable.length else x.sd.partners.length) + x.sd.openSessions

/-- The value that a read of an entry gives (R340, R366, R367): a view, a register of the die that holds it, or the setting in
force; an rws entry of a commit in progress reads its earlier value. -/
def Dies.value (x : Dies) (r : OdRow) (idx sub select : Nat) : Val :=
  let i := idx - r.index
  let k := idx * 256 + sub
  let first (l : List (Option Val)) (v : Val) : Val := ((l.filterMap id).head?).getD v
  match r.access with
  | .rws => ((x.sd.staging.earlier.find? (fun e => e.1 == k)).map Prod.snd).getD ((x.sd.values.find? k).getD r.dflt)
  | .rw =>
    first [x.viewInject r.index sub i, x.sd.viewSafety r.index sub i, x.sd.viewAccess r.index sub i select,
           if r.onCheckDie idx sub then x.cd.view r.index sub i else none] ((x.sd.values.find? k).getD r.dflt)
  | _ =>
    if r.index = 0x1000 then (x.viewIdentity sub).getD r.dflt
    else if r.index = 0x2800 ∧ sub = 0x01 then .num x.partnersInUse
    else if r.index = 0x2800 ∧ sub = 0x03 then .bytes (x.partner select)
    else if r.index = 0x5400 ∧ sub = 0x18 then .bytes (clockIdentity ownUid)
    else if r.index = 0x7000 ∧ sub = 0x20 then .num (x.sd.regs.n r + x.cd.regs.n r)
    else if r.index = 0x7000 ∧ sub = 0x21 then .num (x.sd.regs.n r + x.cd.regs.n r)
    else
      first [x.viewInject r.index sub i, x.sd.viewAccess r.index sub i select, x.sd.viewSafety r.index sub i,
             x.cd.view r.index sub i]
        (if r.onCheckDie idx sub then (x.cd.regs.find? (r.key i)).getD r.dflt else (x.sd.regs.find? (r.key i)).getD r.dflt)

end Sys2Proof.Machine
end

