-- ==== Sys2Proof/Machine/Commit.lean ====
section
/-! DEFINITION. The commit (R356-R358): the refusal tests of the merged set (R26, R42, R70, R71, R116, R139, R167, R171, R185, R202,
R225, R295, R308, R316, R419, R422), the store, and the boundary. -/

namespace Sys2Proof.Machine

/-- The key of the first test that fails. -/
def firstFail (l : List (Bool × Nat)) : Option Nat := (l.find? Prod.fst).map Prod.snd

/-- The streams that a set enables. -/
def enabledStreams (m : OdStore) : List Nat := allStreams.filter (fun n => m.on Od.STREAM_ENABLE n)

/-- r_n, the configured maximum frame rate of a stream (R26). -/
def rateOf (m : OdStore) (n : Nat) : Rat := mkRat 500000 (m.n Od.FRAME_SLOTS n)

/-- a_n (R167). -/
def auditShare (m : OdStore) (n : Nat) : Rat := mkRat (m.n Od.AUDIT_FRACTION n) 65536

/-- The sum of a quantity over some streams. -/
def sumOver (l : List Nat) (f : Nat → Rat) : Rat := l.foldl (fun a n => a + f n) 0

/-- Code 3: the timing chain and the ledger (R26). -/
def timingTests (m : OdStore) : Option Nat :=
  let k := Od.AUDIT_HORIZON_MS.key 0
  let h := m.n Od.AUDIT_HORIZON_MS
  firstFail [
    (decide (524288 < sumOver (enabledStreams m) (rateOf m) * h / 1000), k),
    (decide ((h : Rat) < mkRat (m.n Od.AUDIT_EPOCH_US) 1000 + m.n Od.TAP_DELIVERY_MS + 5), k),
    (h % 10 != 0, k)]

/-- C of R42: payload capacity of one cadence. -/
def cadenceCapacity (rate bond : Nat) : Nat :=
  match rate, bond with
  | 0, 0 => 2328 | 0, _ => 4656
  | 1, 0 => 2944 | 1, _ => 5888
  | _, 0 => 6000 | _, _ => 12000

/-- The largest payload a stream may be configured for (R42). -/
def payloadLimit (m : OdStore) (n : Nat) : Nat :=
  let c := cadenceCapacity (m.n Od.LINE_RATE n) (m.n Od.LANE_BOND n)
  let f := m.n Od.FRAME_SLOTS n
  if f < 2 then c else min 16384 (f * c)

/-- The credit test of R71. -/
def creditFails (m : OdStore) (n : Nat) : Bool :=
  decide (256 < ceilDiv (m.n Od.PAYLOAD_MAX n + 80) 1024
    * (ceilDiv (m.n Od.RESULT_DEADLINE_US + 2) (m.n Od.FRAME_SLOTS n * 2) + 2))

/-- Code 4: ingress, credit and source identity (R42, R70, R71). -/
def ingressTests (m : OdStore) : Option Nat :=
  let on := enabledStreams m
  firstFail (
    on.map (fun n => (decide (payloadLimit m n < m.n Od.PAYLOAD_MAX n), Od.PAYLOAD_MAX.key n))
    ++ allStreams.map (fun n => (decide (m.n Od.STALL_SAFE_US n < m.n Od.STALL_LIMIT_US n), Od.STALL_SAFE_US.key n))
    ++ allStreams.map (fun n => (decide (m.n Od.ERR_W n < m.n Od.ERR_D n), Od.ERR_D.key n))
    ++ on.map (fun n => (m.n Od.SOURCE_ID n == 0, Od.SOURCE_ID.key n))
    ++ on.map (fun n => (creditFails m n, Od.PAYLOAD_MAX.key n)))

/-- One package that a stream names: it is VALID, its format and length agree (R116, items 2 to 4). -/
def CheckDie.bindingFails (d : CheckDie) (m : OdStore) (n slot : Nat) : Bool :=
  match d.validPackage slot with
  | none => true
  | some p => p.inFormat != m.n Od.PAYLOAD_FORMAT n || decide (p.inLength < m.n Od.PAYLOAD_MAX n)

/-- Code 5: sentinel bindings and plan (R116). -/
def CheckDie.bindingTests (d : CheckDie) (m : OdStore) : Option Nat :=
  let on := enabledStreams m
  let ss := d.planStreams m [] []
  let bad := (buildPlan d.lineOrder (m.n Od.REDUNDANCY_MODE == 1) (reserveOf m) ss).involved ss
  firstFail (
    on.flatMap (fun n =>
      let f := m.n Od.FALLBACK_SLOT n
      [(d.bindingFails m n (m.n Od.PRIMARY_SLOT n), Od.PRIMARY_SLOT.key n),
       (f != 0xFF && d.bindingFails m n f, Od.FALLBACK_SLOT.key n)])
    ++ bad.map (fun n => (true, Od.PRIMARY_SLOT.key n)))

/-- The context that names a stream (R139, item 5). -/
def contextOf (m : OdStore) (n : Nat) : Option Nat :=
  (List.range 256).find? (fun c => (m.n Od.CONTEXT_STREAMS c).testBit n)

/-- RB_n as registered (R167, R225). -/
def CheckDie.recordBytes (d : CheckDie) (m : OdStore) (n : Nat) : Nat :=
  match contextOf m n with
  | some c => m.n Od.RECORD_BYTES c
  | none => ((d.boundManifest m n).map (fun x => x.2.resultBytes)).getD 0

/-- R139 for one stream. -/
def CheckDie.manifestFails (d : CheckDie) (m : OdStore) (n : Nat) : Bool :=
  match d.boundManifest m n, contextOf m n with
  | some (_, x), some c =>
    (match x.taps.head? with
      | some t => t.format != m.n Od.PAYLOAD_FORMAT n || decide (m.n Od.PAYLOAD_MAX n < t.dataBytes)
      | none => true)
    || x.resultBytes != m.n Od.RECORD_BYTES c
  | _, _ => true

/-- The weight w_j of an operand format (R167). -/
def formatWeight (c : Nat) : Rat :=
  let b := formatBits c
  if b = 4 then 1 / 2 else if b = 32 then 16 else if c = 3 then 4 else if b = 16 then 2 else 1

/-- The audited segments of a manifest with their output taps. -/
def Manifest.audited (x : Manifest) : List (Segment × Tap) := (x.segments.zip (x.taps.drop 1)).filter (fun s => s.1.audited)

/-- W_n: weight-row bytes of one pass (R167). -/
def passBytes (m : OdStore) (x : Manifest) : Rat :=
  x.audited.foldl (fun a s =>
    a + mkRat (min (m.n Od.SAMPLE_CHANNELS) s.2.channels * s.1.mac.k * formatBits s.1.weightFormat) 8) 0

/-- D_n: the audit work of one frame (R167). -/
def auditWork (m : OdStore) (x : Manifest) : Rat :=
  x.audited.foldl (fun a s =>
    a + (min (m.n Od.SAMPLE_CHANNELS) s.2.channels * min (m.n Od.SAMPLE_POSITIONS) s.2.positions * s.1.mac.k : Nat)
      * formatWeight s.1.weightFormat) 0

/-- The PCIe bytes per second of the link as trained (R167, R419); with no link trained the number of R167 stands. -/
def CheckDie.pcieLimit (d : CheckDie) : Rat :=
  let v := if d.perst then 0 else Config.pcieLink % 256
  let w := v / 16
  let gen := v % 16
  let g : Rat := if gen = 4 then mkRat 15754 1000 else if gen = 3 then mkRat 7877 1000 else if gen = 2 then 4
    else if gen = 1 then 2 else 0
  if w = 0 ∨ g = 0 ∨ (gen = 4 ∧ w = 8) then 12500000000 else 12500000000 * w * g / 126

/-- The spare clusters that audits may use (R167). -/
def CheckDie.auditSpare (d : CheckDie) (m : OdStore) : Rat :=
  let ss := d.planStreams m [] []
  let full := m.n Od.REDUNDANCY_MODE == 1
  let p := buildPlan d.lineOrder full (reserveOf m) ss
  sumCap d.lineOrder - (if full then 2 else 1) * ss.length * p.share

/-- The manifest of an audited stream. -/
def CheckDie.auditManifest (d : CheckDie) (m : OdStore) (n : Nat) : Option Manifest :=
  if m.n Od.AUDIT_FRACTION n = 0 then none else (d.boundManifest m n).map Prod.snd

/-- A quantity of a stream's manifest, 0 when it runs no batch pass. -/
def CheckDie.ofManifest (d : CheckDie) (m : OdStore) (n : Nat) (f : Manifest → Rat) : Rat :=
  ((d.auditManifest m n).map f).getD 0

/-- Audits per second of a stream. -/
def auditRate (m : OdStore) (n : Nat) : Rat := rateOf m n * auditShare m n

/-- The budgets of R167, but for the mailboxes: whether one fails. -/
def CheckDie.budgetFails (d : CheckDie) (m : OdStore) : Bool :=
  let on := enabledStreams m
  let e : Rat := m.n Od.AUDIT_EPOCH_US
  let h : Rat := e / 1000 + m.n Od.TAP_DELIVERY_MS + 6
  let s (n : Nat) : Rat := d.ofManifest m n (fun x => (x.deliverySize : Rat))
  let pcie := sumOver on (fun n => rateOf m n * (d.recordBytes m n + 32 + auditShare m n * (s n + 96)))
  let dram := sumOver on (fun n => 3 * auditRate m n * (s n + 64) + 2 * d.ofManifest m n (passBytes m) * 1000000 / e)
  let slots := 2 * sumOver on (auditRate m) * h / 1000
  let windows := 2 * sumOver on (fun n => auditRate m n * d.ofManifest m n (fun x => (x.landingCount : Rat))) * h / 1000
  let mac := sumOver on (fun n => auditRate m n * d.ofManifest m n (auditWork m)) * max e 5000 / 5000
  decide (d.pcieLimit < pcie) || decide (34100000000 < dram) || decide (4096 < slots) || decide (4096 < windows)
    || (decide (0 < mac) && decide (max (d.auditSpare m) 0 * 9216 * 900000000 * mkRat 78 100 < mac))

/-- The mailbox test of R167 for one context. -/
def mailboxFails (m : OdStore) (c : Nat) : Bool :=
  let h : Rat := mkRat (m.n Od.AUDIT_EPOCH_US) 1000 + m.n Od.TAP_DELIVERY_MS + 6
  let a := sumOver ((enabledStreams m).filter (fun n => (m.n Od.CONTEXT_STREAMS c).testBit n)) (auditRate m)
  decide ((m.n Od.MAILBOX_ENTRIES c : Rat) < 2 * a * h / 1000)

/-- Code 6: manifests and audit budgets (R139, R167, R419, R422); `ecc` is MEM_INLINE_ECC in force. -/
def CheckDie.auditTests (d : CheckDie) (m : OdStore) (ecc : Bool) : Option Nat :=
  let on := enabledStreams m
  let audited := on.filter (fun n => m.n Od.AUDIT_FRACTION n != 0)
  let k := Od.AUDIT_FRACTION.key (audited.headD (on.headD 0))
  firstFail (
    audited.map (fun n => (d.manifestFails m n, Od.MANIFEST_SLOT.key n))
    ++ [(d.budgetFails m, k)]
    ++ (audited.filterMap (contextOf m)).map (fun c => (mailboxFails m c, Od.MAILBOX_ENTRIES.key c))
    ++ audited.map (fun n => (!ecc, Od.AUDIT_FRACTION.key n)))

/-- A map that a stream names agrees with a package (R185). -/
def CheckDie.mapFails (d : CheckDie) (map pkg : Nat) : Bool :=
  match (d.mapSlot map).ok, d.validPackage pkg with
  | some k, some p => decide (15 < map) || k.packageId != p.packageId
  | _, _ => true

/-- R171 for one stream, with the entry each item names. -/
def CheckDie.lanternTests (d : CheckDie) (m : OdStore) (n : Nat) : List (Bool × Nat) :=
  let set := Od.LANTERN_SET.key n
  match (d.lant n).set.ok, d.validPackage (m.n Od.PRIMARY_SLOT n) with
  | some s, some p =>
    let model := (((d.mapSlot (m.n Od.MAP_SLOT n)).ok).map CompatMap.modelId).getD 0
    [(s.packageId != p.packageId, set),
     (model != 0 && s.modelId != model, set),
     (m.n Od.LANTERN_MODE n == 0 && m.n Od.FRAME_SLOTS n == 1 && decide (m.n Od.LANTERN_PERIOD n < 64), Od.LANTERN_MODE.key n),
     (s.lanterns.any (fun l => decide (m.n Od.PAYLOAD_MAX n < l.payload.length) || l.format != m.n Od.PAYLOAD_FORMAT n), set)]
  | _, _ => [(true, set)]

/-- Code 7: lanterns and compatibility maps (R171, R185, R202). -/
def CheckDie.lanternMapTests (d : CheckDie) (m : OdStore) : Option Nat :=
  let on := enabledStreams m
  firstFail (
    (on.filter (fun n => m.n Od.LANTERN_PERIOD n != 0)).flatMap (d.lanternTests m)
    ++ on.flatMap (fun n =>
      let f := m.n Od.FALLBACK_SLOT n
      [(d.mapFails (m.n Od.MAP_SLOT n) (m.n Od.PRIMARY_SLOT n), Od.MAP_SLOT.key n),
       (f != 0xFF && d.mapFails (m.n Od.FALLBACK_MAP_SLOT n) f, Od.FALLBACK_MAP_SLOT.key n)])
    ++ allStreams.map (fun n => (decide (min 255 (m.n Od.ESC_W n) < m.n Od.ESC_D n), Od.ESC_D.key n)))

/-- Fan-out of one lane at a line rate (R225, item 4). -/
def fanOut (rate : Nat) : Nat := if rate = 0 then 6 else if rate = 1 then 8 else 16

/-- C_L in bytes per second (R225, item 5). -/
def laneRate (rate : Nat) : Rat := if rate = 0 then 1222800000 else if rate = 1 then 1528500000 else 3057000000

/-- The streams of a mask. -/
def streamsOf (mask : Nat) : List Nat := allStreams.filter (fun n => mask.testBit n)

/-- The load of one lane (R225, item 5). -/
def CheckDie.laneLoad (d : CheckDie) (m : OdStore) (cs : List Nat) : Rat :=
  cs.foldl (fun a c =>
    let rs := m.n Od.RESULT_STREAMS c
    a + sumOver (streamsOf (rs ||| m.n Od.VERDICT_STREAMS c)) (fun n =>
        rateOf m n * ((if rs.testBit n then (d.recordBytes m n + 160 : Rat) else 0) + 88 * (1 + auditShare m n)))
      + 64 * 1000000 / (m.n Od.HEARTBEAT_PERIOD_US : Rat)) 0

/-- Code 8: release, lanes and consumers (R225). -/
def CheckDie.laneTests (d : CheckDie) (m : OdStore) : Option Nat :=
  let on := enabledStreams m
  let cs := (List.range 256).filter (fun c => m.on Od.CONSUMER_ENABLE c)
  let lane (c : Nat) : Nat := m.n Od.CONSUMER_LANE c
  let extra (mask : Nat) : Bool := (streamsOf mask).any (fun n => !on.contains n)
  firstFail (
    cs.map (fun c => (cs.any (fun b => decide (b < c) && lane b == lane c && m.n Od.CONSUMER_ID b == m.n Od.CONSUMER_ID c),
      Od.CONSUMER_ID.key c))
    ++ cs.map (fun c => (!m.on Od.VE_ENABLE (lane c), Od.CONSUMER_LANE.key c))
    ++ cs.flatMap (fun c => [(extra (m.n Od.RESULT_STREAMS c), Od.RESULT_STREAMS.key c),
        (extra (m.n Od.VERDICT_STREAMS c), Od.VERDICT_STREAMS.key c)])
    ++ (List.range 4).flatMap (fun l =>
      let here := cs.filter (fun c => lane c == l)
      let rate := m.n Od.VE_LINE_RATE l
      [(decide (fanOut rate < (here.map (fun c => (streamsOf (m.n Od.RESULT_STREAMS c)).length)).sum),
        Od.RESULT_STREAMS.key (here.headD 0)),
       (decide (mkRat 9 10 * laneRate rate < d.laneLoad m here), Od.HEARTBEAT_PERIOD_US.key 0)]))

/-- Code 9: safety I/O and reaction policy (R295). -/
def safetyTests (m : OdStore) : Option Nat :=
  firstFail [(m.n Od.RESTART_MODE == 0 && !(List.range 8).any (fun i => m.n Od.PAIR_FUNCTION i == 2), Od.RESTART_MODE.key 0)]

/-- Code 10: watchdogs and roll call (R308, R316); `old` are the values in force, `lock` WDH's LOCK. -/
def dogTests (m old : OdStore) (lock : Bool) : Option Nat :=
  let changed (r : OdRow) : Bool × Nat := (lock && m.n r != old.n r, r.key 0)
  let auto := m.on Od.RC_AUTO_SERVE
  firstFail (
    [changed Od.WDH_MODE, changed Od.WDH_TIMEOUT_US, changed Od.WDH_WOPEN_US, changed Od.WDH_GRACE_US,
     (decide (m.n Od.WDS_TIMEOUT_US ≤ m.n Od.WDS_WOPEN_US), Od.WDS_WOPEN_US.key 0),
     (decide (m.n Od.WDH_TIMEOUT_US ≤ m.n Od.WDH_WOPEN_US), Od.WDH_WOPEN_US.key 0)]
    ++ (List.range 32).map (fun e =>
      ((m.n Od.RC_ENTITY_MASK).testBit e && decide (m.n Od.RC_MAX e < m.n Od.RC_MIN e), Od.RC_MIN.key e))
    ++ [(auto && decide (m.n Od.WDH_TIMEOUT_US ≤ m.n Od.RC_CYCLE_US), Od.RC_AUTO_SERVE.key 0),
        (auto && m.n Od.WDH_MODE == 1 && decide (m.n Od.RC_CYCLE_US < m.n Od.WDH_WOPEN_US), Od.RC_AUTO_SERVE.key 0)]
    ++ (List.range 32).map (fun e => ((m.get Od.RC_SEQ e).b.contains 0, Od.RC_SEQ.key e)))

/-- Every refusal test on the merged set, in the order of their codes (R357, step 2): the first that fails, with its entry. -/
def Dies.refusal (x : Dies) (m : OdStore) : Option (Nat × Nat) :=
  let d := x.cd
  let s := x.sd
  let ecc := s.bootCfg.on Od.MEM_INLINE_ECC
  ([(3, timingTests m), (4, ingressTests m), (5, d.bindingTests m), (6, d.auditTests m ecc), (7, d.lanternMapTests m),
    (8, d.laneTests m), (9, safetyTests m), (10, dogTests m s.values s.gate.lock)].filterMap
      (fun (t : Nat × Option Nat) => t.2.map (fun k => (t.1, k)))).head?

/-- The staged set's bytes, in ascending (INDEX, SUB) order (R357). -/
def Staging.octets (g : Staging) : Octets := setOctets g.entries

/-- The tests of a commit (R357, steps 1 and 2; R369): the refusal code and entry, none when the set passes. -/
def Dies.commitRefused (x : Dies) (crc : Nat) : Option (Nat × Nat) :=
  let g := x.sd.staging
  let dev := x.sd.device
  if dev = .boot ∨ dev = .bootWait ∨ dev = .selftest then some (11, Od.COMMIT_CRC.key 0)
  else if crc ≠ crc32c g.octets then some (1, Od.COMMIT_CRC.key 0)
  else if g.entries = [] then some (2, Od.COMMIT_CRC.key 0)
  else x.refusal (x.sd.values.putAll g.entries)

/-- A set is refused: it stays staged and unlocked (R357). -/
def SafetyDie.refuseSet (s : SafetyDie) (why : Nat × Nat) : SafetyDie :=
  { s with staging := { s.staging with status := 4, code := why.1, entry := why.2, step := .none } }

/-- COMMIT_CRC arrives from the owner (R357, steps 1 and 2): true when the set goes on to be stored. -/
def Dies.commitCrc (x : Dies) (crc : Nat) : Dies × Bool :=
  match x.commitRefused crc with
  | some why => ({ x with sd := x.sd.refuseSet why }, false)
  | none => ({ x with sd := { x.sd with staging := { x.sd.staging with status := 2, step := .storing } } }, true)

/-- The P entries of a set (R357, step 3). -/
def pEntries (l : List (Nat × Val)) : List (Nat × Val) :=
  l.filter (fun e => ((odFind (e.1 / 256) (e.1 % 256)).map OdRow.pers) == some .p)

/-- The store of a set has ended (R357, steps 3 and 4; R358): refused with STORE_FAILED, or on its way with EPOCH_ADVANCE; while
the check die is in reset its boundary lies at the end of that reset. -/
def SafetyDie.commitStored (s : SafetyDie) (ok : Bool) : SafetyDie :=
  let g := s.staging
  if g.step ≠ .storing then s
  else if !ok then
    let s1 := s.refuseSet (12, Od.COMMIT_CRC.key 0)
    if g.orphan then s1.discardStage
    else match g.owner with
      | some i => s1.answerBusy i 0x0A []
      | none => s1
  else
    let s1 := { s.writeStore (fun m => m.putAll (pEntries g.entries)) s.undoStores.keys with staging := { g with step := .applying } }
    if s1.kill.on || s1.kill.wanted.isSome || !s1.cdState.serves then s1
    else
      let s2 := s1.stepEpoch
      let epoch := s2.guest.epoch
      (({ s2 with staging := { s2.staging with epoch := epoch, joins := s.advancedAt == some s.now, sent := true } } :
        SafetyDie).sendFlits (flitsConfig (setOctets g.entries) epoch)).sendEpoch 1

end Sys2Proof.Machine
end

