-- ==== Sys2Proof/Machine/Parse.lean ====
section
/-! DEFINITION. OD messages as bytes (R344), the values of entries (R339), and what image bytes spell (R444, R449). -/

namespace Sys2Proof

/-- What the bytes written to the image entry with an index spell: the Ikipel encodings of packages, manifests, lantern sets and
maps, and the CBOR certificate, are outside the spec; log entry 15. -/
opaque Config.imageOf : Nat → Octets → Machine.ImageBody

/-- The root-key digest in OTP (R444). Per device; log entry 6. -/
opaque Config.rootKeyDigest : Octets

end Sys2Proof

namespace Sys2Proof.Machine

/-- Response statuses (R344). -/
inductive OdStatus where
  | ok | noEntry | noSub | access | role | length | range | state | stageBusy | busy | refused | storeFailed | inUse
  | malformed
deriving DecidableEq, Repr

/-- The number of a status (R344). -/
def OdStatus.code : OdStatus → Nat
  | .ok => 0 | .noEntry => 1 | .noSub => 2 | .access => 3 | .role => 4 | .length => 5 | .range => 6 | .state => 7
  | .stageBusy => 8 | .busy => 9 | .refused => 10 | .storeFailed => 11 | .inUse => 12 | .malformed => 13

/-- What a request is answered with (R344). -/
structure Reply where
  status : OdStatus
  data : Octets := []
  last : Bool := false
deriving DecidableEq, Repr

/-- The largest MSG_LEN of a path (R353). -/
def pathMax (path : Nat) : Nat := if path = 0 then 8184 else if path = 1 then 1464 else 4096

/-- Data bytes of a READ segment on a path (R364, item 2). -/
def pathData (path : Nat) : Nat := (pathMax path - 40) / 8 * 8

/-- Every byte of a list is 0. -/
def zeros (b : Octets) : Bool := b.all (fun x => x == 0)

/-- The form of an OD message (R344): lengths agree, reserved fields and padding are 0, `flags` bits may be set. -/
def messageFormed (path flags : Nat) (b : Octets) : Bool :=
  let n := field b 0 2
  let d := field b 20 4
  decide (n = b.length ∧ n % 8 = 0 ∧ n ≤ pathMax path ∧ (d + 7) / 8 * 8 + 40 = n)
    && field b 3 1 &&& flags == field b 3 1
    && zeros ((b.drop 5).take 3) && zeros ((b.drop 15).take 1) && zeros ((b.drop (24 + d)).take (n - 40 - d))

/-- KIND of a message. -/
def kindOf (b : Octets) : Nat := field b 2 1

/-- A request as its bytes spell it (R344). -/
def parseReq (path : Nat) (b : Octets) : Req :=
  let k := kindOf b
  { kind := k
    flags := field b 3 1
    seq := field b 8 4
    index := field b 12 2
    sub := field b 14 1
    offset := field b 16 4
    data := (b.drop 24).take (field b 20 4)
    bad := !(messageFormed path 3 b && (k == 0x10 || k == 0x11 || k == 0x12)) }

/-- The DATA of a message. -/
def dataOf (b : Octets) : Octets := (b.drop 24).take (field b 20 4)

/-- The TAG of a message (R344). -/
def tagOf (b : Octets) : Octets := b.drop (b.length - 16)

/-- The TAG that a message toward the GV720 must carry (R348). -/
def tagWanted (key b : Octets) : Octets := padTo 16 (Config.kmac256 key (0 :: b.take (b.length - 16)) 128 "MSG")

/-- The value that bytes spell for a type; none: a wrong length for it (R339). -/
def OdType.value (t : OdType) (b : Octets) : Option Val :=
  if t.numeric then (if b.length * 8 = t.bits then some (.num (ofLe b)) else none)
  else if t = .vstr ∧ 255 < b.length then none
  else some (.bytes b)

/-- The status of a value for an entry (R339, R356): LENGTH for a fixed-length OSTR or a DOMAIN that does not fit, RANGE for a
value outside the range or a BOOL above 1. -/
def OdRow.check (r : OdRow) (v : Val) : OdStatus :=
  if r.range.holds r.type.bits v && !(r.type == .bool && decide (1 < v.n)) then .ok
  else match r.type, r.range with
    | .domain, _ => .length
    | .ostr, .len a b => if a = b then .length else .range
    | _, _ => .range

/-- A firmware image (R444): header fields, digest, and the code of the first of steps 1 to 3 that fails. -/
def firmwareOf (b : Octets) : ImageBody :=
  let n := field b 16 4
  let pk := (b.drop 32).take 64
  let fault :=
    if b.take 8 ≠ text "GV720FW1" then 1
    else if field b 8 2 ≠ 192 ∨ n ≠ b.length ∨ 8388608 < n ∨ 262144 < field b 20 4
      ∨ 192 + field b 20 4 + field b 24 4 + 29792 ≠ n then 2
    else if Config.shake256 32 pk ≠ Config.rootKeyDigest then 3
    else if !Config.slhVerify pk (b.take (n - 29792)) (b.drop (n - 29792)) then 4
    else 0
  .firmware (field b 12 4) (field b 10 2) (Config.shake256 32 b) fault

/-- What a complete write to an image entry spells. -/
def imageOf (idx : Nat) (b : Octets) : ImageBody := if idx = 0x6001 then firmwareOf b else Config.imageOf idx b

/-- An image whose bytes are no image of their slot's kind fails the format check (R114). -/
def badHead : ImageHead := { formatOk := false }

/-- The package of an image. -/
def ImageBody.asPackage : ImageBody → Package
  | .package p => p
  | _ => { hd := badHead }
/-- The manifest of an image. -/
def ImageBody.asManifest : ImageBody → Manifest
  | .manifest m => m
  | _ => { hd := badHead }
/-- The lantern set of an image. -/
def ImageBody.asLanterns : ImageBody → LanternSet
  | .lanterns s => s
  | _ => { hd := badHead }
/-- The map of an image. -/
def ImageBody.asMap : ImageBody → CompatMap
  | .map m => m
  | _ => { hd := badHead }

/-- The passphrase hashed `n` more times (R347). -/
def stretch (salt : Octets) : Nat → Octets → Octets
  | 0, k => k
  | n + 1, k => stretch salt n (padTo 32 (Config.kmac256 salt k 256 "PASS"))

/-- k_role of a passphrase (R347). -/
def passKey (b : Octets) : Octets :=
  let salt := padTo 16 Config.passSalt
  stretch salt 65535 (padTo 32 (Config.kmac256 salt b 256 "PASS"))

end Sys2Proof.Machine
end

