-- ==== Sys2Proof/Machine/OdWrite.lean ====
section
/-! DEFINITION. Requests to the dictionary (R340-R344, R356, R361-R369): admission, reads, writes of every entry, staging. -/

namespace Sys2Proof.Machine

/-- What serving a request leaves: the dies, and the reply unless a store or a commit must end first. -/
abbrev Served := Dies × Option Reply

/-- Answered with a status. -/
def Dies.say (x : Dies) (st : OdStatus) : Served := (x, some { status := st })
/-- Answered OK. -/
def Dies.done (x : Dies) : Served := (x, some { status := .ok })

/-- Both clocks moved to the time of a command. -/
def Dies.tick (x : Dies) (t : Nat) : Dies := { sd := x.sd.tick t, cd := x.cd.tick t }

/-- Roles that may write an entry other than an rws one (R340, R343): INTEGRATOR or higher, unless its chapter names others. -/
def SafetyDie.writers (s : SafetyDie) (idx sub : Nat) : List Nat :=
  let any := [0, 1, 2, 3, 4]
  let operator := [1, 2, 3, 4]
  let image := [2, 4]
  if 0x1210 ≤ idx ∧ idx ≤ 0x1214 ∧ sub = 1 then
    let r := idx - 0x1210
    if r ≤ 2 then [2, 3, 4] else if s.keys.get [] r = [] then [2] else [r]
  else if 0x2000 ≤ idx ∧ idx ≤ 0x200B then operator
  else if 0x2080 ≤ idx ∧ idx ≤ 0x208B ∨ 0x2401 ≤ idx ∧ idx ≤ 0x2410 ∨ 0x2C10 ≤ idx ∧ idx ≤ 0x2C2F
    ∨ 0x3010 ≤ idx ∧ idx ≤ 0x301F ∨ idx = 0x6001 then image
  else if 0x6810 ≤ idx ∧ idx ≤ 0x6817 ∨ idx = 0x3400 then [4]
  else if idx = 0x1211 then [1, 2]
  else if idx = 0x2800 then any
  else if idx = 0x1280 then []
  else if idx = 0x7F00 then [3]
  else if idx = 0x4100 then (if sub = 0x12 then [4] else operator)
  else if idx = 0x4800 ∧ sub = 0x0B then [4]
  else if idx = 0x4800 ∧ sub = 0x22 then image
  else if idx = 0x6000 then
    (if sub = 0x01 ∨ sub = 0x09 then operator
     else if sub = 0x06 then [3, 4]
     else if sub = 0x07 ∨ sub = 0x0A ∨ sub = 0x24 ∨ sub = 0x33 then [4]
     else if sub = 0x34 then any
     else [2, 3, 4])
  else [2, 3, 4]

/-- Reads that a device state admits (R369). -/
def admitsRead (dev : DevState) (idx sub : Nat) : Bool :=
  match dev with
  | .boot | .selftest => idx == 0x1000 || idx == 0x1200
  | .bootWait => idx == 0x1000 || idx == 0x1200 || decide (0x1210 ≤ idx ∧ idx ≤ 0x1214) || idx == 0x1400
      || (idx == 0x4800 && (sub == 0x09 || sub == 0x0A)) || decide (0x6000 ≤ idx ∧ idx ≤ 0x67FF)
  | _ => true

/-- rw and wo writes that a device state admits (R369). -/
def admitsWrite (dev : DevState) (idx : Nat) : Bool :=
  match dev with
  | .boot | .selftest => false
  | .bootWait => decide (0x1210 ≤ idx ∧ idx ≤ 0x1214) || idx == 0x6001
  | _ => true

/-- Staging that a device state admits (R369). -/
def admitsStage (dev : DevState) : Bool := dev != .boot && dev != .selftest

/-- An octet read of a session (R364, items 2 to 4; R365): a segment of the snapshot, which OFFSET 0 takes. -/
def Dies.readOctets (x : Dies) (slot path key off : Nat) (snap : Option (Nat × Octets × Nat × Nat)) (v : Octets) : Dies × Reply :=
  let taken := match snap with
    | some (k, b, t, n) => if off ≠ 0 ∧ k = key ∧ x.sd.now ≤ t + 10000000000 then some (b, n) else none
    | none => none
  let batch := (x.cd.sig.batches.head?.map Prod.fst).getD 0
  match (if off = 0 then some (v, batch) else taken) with
  | none => (x, { status := .length })
  | some (b, n) =>
    let part := (b.drop off).take (pathData path)
    let last := decide (b.length ≤ off + part.length)
    let y := if off = 0 then
        { x with sd := x.sd.updSession slot (fun s => { s with snap := some (key, v, x.sd.now, batch) }) } else x
    let z := if key = 0x48000F ∧ last ∧ part ≠ [] then { y with cd := y.cd.batchTaken n } else y
    (z, { status := .ok, data := part, last := last })

/-- A READ (R340, R361, R362, R364-R369). -/
def Dies.serveRead (x : Dies) (slot : Nat) (ses : Session) (r : Req) : Dies × Reply :=
  let dev := x.sd.device
  let fail (st : OdStatus) : Dies × Reply := (x, { status := st })
  let single (v : Octets) : Dies × Reply :=
    if r.offset ≠ 0 then fail .length
    else ({ x with sd := x.sd.updSession slot (fun s => { s with snap := none }) }, { status := .ok, data := v })
  if !odAllocated r.index then fail .noEntry
  else if r.sub = 0 then
    (if admitsRead dev r.index 0 then single [odHighest r.index % 256] else fail .state)
  else match odFind r.index r.sub with
    | none => fail .noSub
    | some w =>
      if w.access == .wo then fail .access
      else if !admitsRead dev r.index r.sub then fail .state
      else if w.onCheckDie r.index r.sub && !x.sd.cdServes then fail .state
      else
        let k := r.index * 256 + r.sub
        let force := x.value w r.index r.sub ses.partner
        let v := if r.flags.testBit 1 && w.access == .rws
          then ((x.sd.staging.entries.find? (fun e => e.1 == k)).map Prod.snd).getD force else force
        if w.type.numeric then single (v.octets w.type)
        else x.readOctets slot ses.path k r.offset ses.snap v.b

/-- A value put into the staged set, in ascending order (R356). -/
def stagePut : List (Nat × Val) → Nat → Val → List (Nat × Val)
  | [], k, v => [(k, v)]
  | (j, w) :: t, k, v => if k = j then (k, v) :: t else if k < j then (k, v) :: (j, w) :: t else (j, w) :: stagePut t k v

/-- Bytes of the values of a staged set. -/
def stagedBytes (l : List (Nat × Val)) : Nat :=
  (l.map (fun e => ((odFind (e.1 / 256) (e.1 % 256)).map (fun r => (e.2.octets r.type).length)).getD 0)).sum

/-- The staged set is locked by a commit, or belongs to another session (R356, R357). -/
def SafetyDie.stageBusy (s : SafetyDie) (slot : Nat) : Bool :=
  s.staging.step != .none || (match s.staging.owner with
    | some i => i != slot
    | none => false)

/-- An rws entry is staged (R356). -/
def Dies.stage (x : Dies) (slot k : Nat) (v : Val) : Served :=
  if x.sd.stageBusy slot then x.say .stageBusy
  else
    let l := stagePut x.sd.staging.entries k v
    if 2048 < l.length ∨ 262144 < stagedBytes l then x.say .length
    else ({ x with sd := { x.sd with staging := { x.sd.staging with owner := some slot, entries := l, status := 1 } } } : Dies).done

/-- A store of class P follows, and the answer after it (R341). -/
def Dies.storing (x : Dies) (slot : Nat) (w : StoreWork) : Served :=
  ({ x with sd := { x.sd with stores := x.sd.stores ++ [{ slot := slot, work := w }] } }, none)

/-- A binding in force or staged names a slot under some row (R115, R138, R203). -/
def SafetyDie.names (s : SafetyDie) (r : OdRow) (v : Nat) : Bool :=
  let m := s.values.putAll s.staging.entries
  allStreams.any (fun n => s.values.n r n == v || m.n r n == v)

/-- A stream's lantern set is named: the stream is enabled with LANTERN_PERIOD other than 0, in force or as staged (R203). -/
def SafetyDie.namesSet (s : SafetyDie) (n : Nat) : Bool :=
  [s.values, s.values.putAll s.staging.entries].any (fun m => m.on Od.STREAM_ENABLE n && m.n Od.LANTERN_PERIOD n != 0)

/-- A write to an image entry held on the check die (R114, R115, R135, R138, R170, R203). -/
def Dies.writeImage (x : Dies) (idx : Nat) (b : ImageBody) (last : Bool) : Served :=
  let d := x.cd
  let s := x.sd
  let put (f : CheckDie → CheckDie) : Served := ({ x with cd := f d } : Dies).done
  if 0x2401 ≤ idx ∧ idx ≤ 0x2410 then
    let k := idx - 0x2401
    if !(d.package k).vacant && (s.names Od.PRIMARY_SLOT k || s.names Od.FALLBACK_SLOT k) then x.say .inUse
    else put (fun d => d.packageWrite k b.asPackage last)
  else if 0x2C10 ≤ idx ∧ idx ≤ 0x2C2F then
    let k := idx - 0x2C10
    if s.names Od.MANIFEST_SLOT k || d.audit.open_.any (fun a => a.manifest == k) then x.say .inUse
    else put (fun d => d.manifestWrite k b.asManifest last)
  else if 0x2080 ≤ idx ∧ idx ≤ 0x208B then
    let n := idx - 0x2080
    if s.namesSet n || d.setPending n then x.say .inUse
    else put (fun d => d.setWrite n b.asLanterns last)
  else
    let k := idx - 0x3010
    if s.names Od.MAP_SLOT k || s.names Od.FALLBACK_MAP_SLOT k || d.mapPending k then x.say .inUse
    else put (fun d => d.mapWrite k b.asMap last)

/-- FW_IMAGE (R446): collected, verified by R444, then programmed; refused in RUN. -/
def Dies.writeFirmware (x : Dies) (slot : Nat) (b : ImageBody) (last : Bool) : Served :=
  let s := x.sd
  let state (n : Nat) : Dies := { x with sd := { s with fw := { s.fw with state := n } } }
  if s.device = .run ∨ s.fw.next.isSome then x.say .state
  else if !last then (state 1).done
  else match b with
    | .firmware v sec dig fault =>
      if fault ≠ 0 ∨ sec < s.floorNow then (state 5).say .range
      else ({ x with sd := { s with fw := { s.fw with state := 3, next := some (v, sec, dig), asker := slot } } }, none)
    | _ => (state 5).say .range

/-- DEVICE_CERT (R449): stored only when its keys 1 and 2 are this device's. -/
def Dies.writeCert (x : Dies) (slot : Nat) (b : ImageBody) : Served :=
  match b with
  | .cert o uid key =>
    if uid = ownUid ∧ key = padTo 64 Config.identityKey
    then ({ x with sd := { x.sd with cert := o } } : Dies).storing slot (.cert x.sd.cert) else x.say .range
  | _ => x.say .range

/-- A complete or partial write to a DOMAIN entry. `b` are the bytes so far. -/
def Dies.writeDomain (x : Dies) (slot idx sub : Nat) (image : Option ImageBody) (b : Octets) (last : Bool) : Served :=
  let body : ImageBody := image.getD (imageOf idx b)
  if idx = 0x6001 then x.writeFirmware slot body last
  else if 0x2000 ≤ idx ∧ idx ≤ 0x3FFF then x.writeImage idx body last
  else if !last then x.done
  else if idx = 0x6002 then x.writeCert slot body
  else if idx = 0x6000 ∧ sub = 0x13 then
    ({ x with sd := { x.sd with splitApp := b } } : Dies).storing slot (.splitApp x.sd.splitApp)
  else x.say .access

/-- An injector belongs to another session (R453). -/
def SafetyDie.injectBusy (s : SafetyDie) (slot : Nat) : Bool := s.injectOwner != 0xFF && s.injectOwner != slot

/-- The point of a descriptor exists, and its ACTION, OFFSET, XOR_MASK, RECRC and PERIOD fit it (R454, item 2; R456-R458). -/
def SafetyDie.pointFits (s : SafetyDie) (j : Nat) : Bool :=
  let p := s.get Od.INJ_POINT j
  let kind := p / 4096
  let inst := p % 4096
  let off := s.get Od.INJ_OFFSET j
  let act := s.get Od.INJ_ACTION j
  let fits (count lim : Nat) : Bool := decide (inst < count ∧ off ≤ lim)
  (match kind with
    | 1 => fits 12 16463
    | 2 => fits 4 1071
    | 3 => fits 2 11 && !s.on Od.RECRC j
    | 4 => fits 256 (s.get Od.RECORD_BYTES inst - 1)
    | 5 => fits 256 1048575
    | 6 => fits 256 63
    | 7 => fits 4 4127
    | _ => false)
    && decide (1 ≤ act ∧ act ≤ 5) && !(act == 2 && s.get Od.XOR_MASK j == 0)
    && !(s.get Od.INJ_SELECT j == 2 && decide (65536 < s.get Od.INJ_PERIOD j))

/-- The injector that a descriptor describes. -/
def SafetyDie.descriptor (s : SafetyDie) (j slot : Nat) : Injector :=
  let p := s.get Od.INJ_POINT j
  { num := j, kind := p / 4096, inst := p % 4096, action := s.get Od.INJ_ACTION j, select := s.get Od.INJ_SELECT j,
    period := s.get Od.INJ_PERIOD j, start := s.get Od.INJ_START j, countMax := s.get Od.COUNT_MAX j,
    filter := s.get Od.INJ_FILTER j, offset := s.get Od.INJ_OFFSET j, mask := s.get Od.XOR_MASK j,
    delay := s.get Od.DELAY_NS j, recrc := s.on Od.RECRC j, owner := slot, armedAt := s.now,
    stopAt := s.now + s.get Od.DURATION_MS j * 1000000 }

/-- The descriptor as it crosses the corridor, an OD message on path 0 (R454). -/
def SafetyDie.descriptorOctets (s : SafetyDie) (j : Nat) : Octets :=
  setOctets (((List.range 12).map (fun k => (0x6810 + j) * 256 + 1 + k)).map (fun k => (k, (s.values.find? k).getD (odDefault k))))

/-- ARM written with 1 (R453, R454). -/
def Dies.arm (x0 : Dies) (slot j : Nat) : Served :=
  let x := x0.pruneArmed
  let s := x.sd
  if s.injectBusy slot then x.say .stageBusy
  else if s.armed.any (fun a => a.num == j) then x.done
  else if !permits (s.get Od.INJECT_PERMIT) s.device then x.say .state
  else if !s.pointFits j then x.say .range
  else
    let i := s.descriptor j slot
    let s1 := { s with
      armed := s.armed ++ [({ num := j, kind := i.kind, inst := i.inst, armedAt := s.now, stopAt := i.stopAt } : ArmedInj)]
      injectOwner := slot
      injectors := if i.kind = 3 ∧ i.inst = 0 then
          (s.injectors.filter (fun (y : Injector) => decide (y.num < j))) ++ i :: s.injectors.filter (fun (y : Injector) => decide (j < y.num))
        else s.injectors }
    let s2 := (s1.sendFlits (flitsOd 0xFF 0 (s.descriptorOctets j) ++ [flitInject j true])).raise .injectArmed
      (ctxPartner (0xFC0 + slot)) (instOf j 0)
    ({ sd := s2, cd := { x.cd with injectOwner := slot } } : Dies).done

/-- ARM written with 0 (R455, item 1). -/
def Dies.disarm (x0 : Dies) (slot j : Nat) : Served :=
  let x := x0.pruneArmed
  if x.sd.injectBusy slot then x.say .stageBusy else ({ x with sd := x.sd.disarmInjector j 1 } : Dies).done

/-- A setting that both dies hold takes a value at once (R340). -/
def Dies.setBoth (x : Dies) (k : Nat) (v : Val) : Dies :=
  { sd := { x.sd with values := x.sd.values.putKey k v }
    cd := if k / 256 = 0x1400 then x.cd else { x.cd with cfg := x.cd.cfg.putKey k v } }

/-- A write to an entry of an injector's descriptor (R453, R454). -/
def Dies.writeDescriptor (x0 : Dies) (slot j k : Nat) (v : Val) : Served :=
  let x := x0.pruneArmed
  if x.sd.injectBusy slot then x.say .stageBusy
  else if x.sd.armed.any (fun a => a.num == j) then x.say .state
  else (x.setBoth k v).done

/-- FABRIC_ENABLE changes (R378, R402): at 0 the ports carry nothing and every pair and route goes. -/
def CheckDie.fabricEnabled (d : CheckDie) (was : Bool) : CheckDie :=
  if was && !d.on Od.FABRIC_ENABLE then
    (d.forEach (List.range 4) (fun d p => d.updPort p (fun x => { x with adjacent := false }))).fabRestart
  else d

/-- What a setting that has just taken its value brings on the check die (R397, R402, R408). -/
def CheckDie.settingTaken (d : CheckDie) (old : OdStore) (idx sub : Nat) : CheckDie :=
  if idx = 0x5400 ∧ ((1 ≤ sub ∧ sub ≤ 9) ∨ sub = 0x13) then d.timeWritten
  else if idx = 0x5000 ∧ sub = 1 then d.fabricEnabled (old.on Od.FABRIC_ENABLE)
  else d

/-- A write to a setting of class rw (R340-R342). -/
def Dies.writeSetting (x : Dies) (slot idx sub : Nat) (w : OdRow) (v : Val) : Served :=
  let k := idx * 256 + sub
  let old := (x.sd.values.find? k).getD w.dflt
  let y0 := x.setBoth k v
  let y := y0.check (fun d => d.settingTaken x.cd.cfg idx sub)
  if w.pers == .p then y.storing slot (.entry k v old) else y.done

/-- A write to an entry of a context (R408). -/
def Dies.writeContext (x : Dies) (slot c sub : Nat) (w : OdRow) (v : Val) : Served :=
  let s := x.sd
  let idx := 0x2D00 + c
  if sub = 4 then
    ({ sd := { s with values := s.values.putKey (idx * 256 + 4) v }, cd := x.cd.setIntake c (v.n == 1) } : Dies).done
  else if (sub = 5 ∨ sub = 6) ∧ s.on Od.INTAKE_ENABLE c then x.say .state
  else if sub = 6 ∧ (List.range 256).any (fun b => b != c && (s.get Od.CONTEXT_STREAMS b) &&& v.n != 0) then x.say .range
  else x.writeSetting slot idx sub w v

/-- POWER_REQUEST (R430, R431, R433). -/
def Dies.powerRequest (x : Dies) (v : Nat) : Served :=
  let p := x.sd.power
  let want : PowerState := if v = 0 then .active else if v = 2 then .retain else if v = 3 then .dark else .standby
  if want.depth = p.depth then x.done
  else if p.depth < want.depth then (x.sleep want).done
  else if v ≠ 0 then x.say .state
  else if (x.sd.get Od.WAKE_SOURCES).testBit 0 && wakeActs 0 p then (x.wake 0).done
  else x.say .state

/-- SERVICE_REQUEST (R427). -/
def Dies.serviceRequest (x : Dies) (slot v : Nat) : Served :=
  let s := x.sd
  if v = 1 then
    if s.device = .run then x.say .state
    else if s.device = .ready ∨ s.device = .safeHold then
      (x.safety (fun s => { s with device := .service, serviceOwner := some slot })).done
    else x.done
  else (x.safety SafetyDie.leaveService).done

/-- A cluster that a margin test may take now: the one named, or the next available from MARGIN_NEXT (R333, R334). -/
def Dies.marginCluster (x : Dies) : Option Nat :=
  if !x.sd.cdServes || !x.cd.marginIdle then none
  else match x.sd.margin.cluster with
    | some c => if x.cd.marginReady c then some c else none
    | none => ((List.range 16).map (fun i => (x.sd.guest.marginNext + i) % 16)).find? (fun c => x.cd.marginReady c)

/-- A due margin test is started, or deferred; while another test runs it waits (R333, R334). -/
def Dies.marginTry (x : Dies) : Dies :=
  let m := x.sd.margin
  if !m.due || !x.cd.marginIdle then x
  else match x.marginCluster with
    | some c => { x with sd := ({ x.sd with margin := { m with due := false, deferred := false, triedAt := x.sd.now, running := m.cluster } } :
        SafetyDie).sendFlit (flitMargin c) }
    | none =>
      ({ x with sd := { x.sd with margin := { m with deferred := true, triedAt := x.sd.now } } } : Dies).check
        (fun d => d.marginDeferred (!m.deferred))

/-- MARGIN_START (R333). -/
def Dies.marginStart (x : Dies) (c : Nat) : Dies :=
  ({ x with sd := { x.sd with margin := { x.sd.margin with due := true, cluster := some c, deferred := false } } } : Dies).marginTry

/-- CD_RESET_LOCKED written with 0 (R259): the check die may be released. -/
def SafetyDie.unlockReset (s : SafetyDie) : SafetyDie :=
  { s with
    guest := { s.guest with cdLocked := false }
    kill := { s.kill with keep := s.power == .dark || s.power == .standby, times := [] } }

/-- CHECK_DIE_RESET (R258): a stop in RUN, and a kill that R259 does not count. -/
def SafetyDie.commandReset (s : SafetyDie) : SafetyDie := (s.stop 2 true).assertKill false (s.on Od.KILL_POWER) false

/-- ATTEST_NONCE (R450). -/
def Dies.attest (x : Dies) (nonce : Octets) : Served :=
  if x.sd.boot.failed.testBit 5 then x.say .state
  else ({ x with sd := { x.sd with attest := { state := 1, nonce := nonce, askedAt := x.sd.now } } } : Dies).done

/-- SEC_VERSION_RAISE (R447). -/
def Dies.raiseFloor (x : Dies) (v : Nat) : Served :=
  if x.sd.floorNow < v ∧ v ≤ x.sd.fw.runSec then ({ x with sd := { x.sd with floor := v } } : Dies).done else x.say .range

/-- FENCE_CLEAR (R106): held on the check die (R367, item 4), where request and answer go as OD flits, and in the mirror of the
fence map (R245). -/
def Dies.fenceClear (x : Dies) (bits : Nat) : Dies :=
  let cs := allClusters.filter (fun c => bits.testBit c && (x.cd.cluster c).retestPassed)
  { cd := x.cd.fenceClear bits
    sd := x.sd.setGuest (fun g => { g with fences := cs.foldl (fun (t : Tbl FenceMirror) c => t.set ({} : FenceMirror) c {}) g.fences }) }

/-- COMMIT_CRC (R357): the set is locked from its arrival, and refused or stored. -/
def Dies.writeCommit (x : Dies) (slot crc : Nat) : Served :=
  if x.sd.stageBusy slot then x.say .stageBusy
  else
    let a := x.commitCrc crc
    if a.2 then (a.1, none) else a.1.say .refused

/-- A write to a wo entry other than an image (R340): what it does. -/
def Dies.act (x : Dies) (slot idx sub : Nat) (v : Val) : Served :=
  let s := x.sd
  let dev := s.device
  if 0x2000 ≤ idx ∧ idx ≤ 0x200B then (x.check (fun d => d.streamRestart (idx - 0x2000))).done
  else if idx = 0x3400 then
    if dev ≠ .service then x.say .state
    else if sub = 0x04 then (x.fenceClear v.n).done
    else (x.check (fun d => d.arrayRetest v.n)).done
  else if idx = 0x4100 then
    if sub = 0x0A then
      let a := s.btStart
      ((x.safety (fun _ => a.1)).say (if a.2 then .ok else .state))
    else if sub = 0x0E then (x.safety SafetyDie.holdRequest).done
    else (x.safety (fun s => s.faultClear v.n)).done
  else if idx = 0x4800 then
    if sub = 0x0B then (x.safety (fun s => s.logClear v.n)).done else (x.marginStart v.n).done
  else if 0x1210 ≤ idx ∧ idx ≤ 0x1214 then
    let r := idx - 0x1210
    let key := if sub = 3 then passKey v.b else v.b
    ({ x with sd := { s with keys := s.keys.set [] r key } } : Dies).storing slot (.roleKey r (s.keys.get [] r))
  else if idx = 0x5000 then (x.check CheckDie.fabRestart).done
  else if idx = 0x5400 then
    if dev = .run then x.say .state else (x.check (fun d => d.timeStep (signedOf 64 v.n))).done
  else if idx = 0x7F00 then
    if sub = 0x01 then x.writeCommit slot v.n
    else if s.stageBusy slot then x.say .stageBusy
    else ({ x with sd := s.discardStage } : Dies).done
  else if idx = 0x6000 then
    if sub = 0x01 then x.powerRequest v.n
    else if sub = 0x06 then
      if dev = .run ∨ s.staging.status = 2 then x.say .state else (x.safety SafetyDie.warmReset).done
    else if sub = 0x07 then (x.safety SafetyDie.commandReset).done
    else if sub = 0x09 then (if dev = .ready then x.safety SafetyDie.toRun else x).done
    else if sub = 0x0A then x.serviceRequest slot v.n
    else if sub = 0x33 then x.raiseFloor v.n
    else x.attest v.b
  else x.say .access

/-- A write to an rw entry (R340). -/
def Dies.writeRw (x : Dies) (slot idx sub : Nat) (w : OdRow) (v : Val) : Served :=
  if idx = 0x2800 then ({ x with sd := x.sd.updSession slot (fun s => { s with partner := v.n }) } : Dies).done
  else if idx = 0x4800 ∧ sub = 0x07 then ({ x with cd := x.cd.setReg Od.RING_READ_INDEX v.n } : Dies).done
  else if idx = 0x6000 ∧ sub = 0x24 then ({ x with sd := x.sd.unlockReset } : Dies).done
  else if 0x2D00 ≤ idx ∧ idx ≤ 0x2DFF then x.writeContext slot (idx - 0x2D00) sub w v
  else if 0x6810 ≤ idx ∧ idx ≤ 0x6817 then
    if sub ≠ 0x0D then x.writeDescriptor slot (idx - 0x6810) (idx * 256 + sub) v
    else if v.n = 1 then x.arm slot (idx - 0x6810)
    else x.disarm slot (idx - 0x6810)
  else x.writeSetting slot idx sub w v

/-- A complete value is written (R340, R356). -/
def Dies.writeValue (x : Dies) (slot idx sub : Nat) (w : OdRow) (v : Val) : Served :=
  let st := w.check v
  if st ≠ .ok then x.say st
  else if w.access == .rws then x.stage slot (idx * 256 + sub) v
  else if w.access == .rw then x.writeRw slot idx sub w v
  else x.act slot idx sub v

/-- The octets of a segmented write so far; none: a segment out of order (R344). -/
def Session.gather (s : Session) (key : Nat) (r : Req) : Option Octets :=
  if r.offset = 0 then some r.data
  else match s.writing with
    | some (k, b) => if k = key ∧ b.length = r.offset then some (b ++ r.data) else none
    | none => none

/-- A WRITE that its access, role and the device state allow: its value, or one segment of it (R344). -/
def Dies.writeData (x : Dies) (slot : Nat) (ses : Session) (w : OdRow) (r : Req) : Served :=
  let k := r.index * 256 + r.sub
  if w.type = .domain ∨ w.type = .ostr then
    match (if r.image.isSome then some [] else ses.gather k r) with
    | none => x.say .length
    | some b =>
      let last := r.flags.testBit 0
      if 67108864 < b.length then x.say .length
      else
        let y := { x with sd := x.sd.updSession slot (fun s => { s with writing := if last then none else some (k, b) }) }
        if w.type = .domain then y.writeDomain slot r.index r.sub r.image b last
        else if last then y.writeValue slot r.index r.sub w (.bytes b)
        else y.done
  else if r.offset ≠ 0 then x.say .length
  else match w.type.value r.data with
    | none => x.say .length
    | some v => x.writeValue slot r.index r.sub w v

/-- A WRITE (R340, R343, R356, R361, R362, R368, R369). -/
def Dies.serveWrite (x : Dies) (slot : Nat) (ses : Session) (r : Req) : Served :=
  let dev := x.sd.device
  if !odAllocated r.index then x.say .noEntry
  else if r.sub = 0 then x.say .access
  else match odFind r.index r.sub with
    | none => x.say .noSub
    | some w =>
      if w.access == .ro || w.access == .const then x.say .access
      else if w.access == .rws then
        if ses.role ≠ 3 then x.say .role
        else if !admitsStage dev then x.say .state
        else x.writeData slot ses w r
      else if !(x.sd.writers r.index r.sub).contains ses.role then x.say .role
      else if r.index = 0x7F00 ∧ r.sub = 1 then x.writeData slot ses w r
      else if !admitsWrite dev r.index then x.say .state
      else if w.onCheckDie r.index r.sub && !x.sd.cdServes then x.say .state
      else x.writeData slot ses w r

/-- A request other than CLOSE is served (R344). -/
def Dies.serve (x : Dies) (slot : Nat) (ses : Session) (r : Req) : Served :=
  if r.bad then x.say .malformed
  else if r.kind = 0x10 then
    let a := x.serveRead slot ses r
    (a.1, some a.2)
  else x.serveWrite slot ses r

end Sys2Proof.Machine
end

