-- ==== Sys2Proof/Machine/Sessions.lean ====
section
/-! DEFINITION. Sessions (R344-R352), the paths that carry their messages (R353-R355), and the ends of stores that requests wait
for (R341, R357, R446). -/

namespace Sys2Proof.Machine

/-- A path is served (R353, R432, R445): CAN but in STANDBY, the others while the check die runs; no path while the keeper pair is
halted or the die held in reset. -/
def Dies.reaches (x : Dies) (path : Nat) : Bool :=
  !x.sd.keeper.halted && x.sd.boot.heldSince.isNone && decide (path ≤ 3)
    && (if path = 3 then x.sd.power != .standby else x.cd.runs)

/-- A handshake message toward the client (R344, R345): it echoes bytes 8 to 19 of the message it answers; `key` is Ks for
ACCEPT, whose TAG it makes. -/
def handshake (kind slot : Nat) (asked data : Octets) (key : Option Octets) : Octets :=
  let n := (data.length + 7) / 8 * 8 + 40
  let b := le 2 n ++ le 1 kind ++ [0] ++ le 1 slot ++ List.replicate 3 0 ++ (asked.drop 8).take 12 ++ le 4 data.length
    ++ padTo (n - 40) data
  b ++ (match key with
    | some k => padTo 16 (Config.kmac256 k (1 :: b) 128 "MSG")
    | none => List.replicate 16 0)

/-- REFUSE with its cause and RETRY_S (R345, R351). -/
def SafetyDie.refuse (s : SafetyDie) (path origin slot : Nat) (asked : Octets) (cause retry : Nat) : SafetyDie :=
  s.sendOd slot path origin (handshake 0x05 slot asked (le 1 cause ++ [0, 0, 0] ++ le 4 retry) none)

/-- The lockout record of a role (R351). -/
def SafetyDie.lockOf (s : SafetyDie) (role : Nat) : Lock := s.guest.locks.getD role {}

/-- A role's lockout record replaced. -/
def SafetyDie.setLock (s : SafetyDie) (role : Nat) (l : Lock) : SafetyDie :=
  s.setGuest (fun g => { g with locks := g.locks.set role l })

/-- Seconds until a role's lock ends; 0: not locked (R351). -/
def SafetyDie.lockLeft (s : SafetyDie) (role : Nat) : Nat := (s.lockOf role).until_ - s.rtcNow

/-- A wrong PROOF (R351): f increases by 1, and with f ≥ 5 the role is locked for min(2^(f−5), 3,600) s. -/
def SafetyDie.wrongProof (s : SafetyDie) (role : Nat) : SafetyDie :=
  let l := s.lockOf role
  let f := l.fails + 1
  s.setLock role { fails := f, until_ := if 5 ≤ f then s.rtcNow + min (2 ^ (f - 5)) 3600 else l.until_ }

/-- A slot that a HELLO may take: unheld, or reserved by a CHALLENGE whose PROOF can only be EXPIRED. -/
def SafetyDie.slotFree (s : SafetyDie) (i : Nat) : Bool :=
  match s.session i with
  | none => true
  | some x => !x.opened && decide (x.since + 10000000000 < s.now)

/-- A well-formed HELLO for a path (R344, R345). -/
def helloFormed (path : Nat) (b : Octets) : Bool :=
  let d := dataOf b
  messageFormed path 0 b && zeros (tagOf b) && field b 4 1 == 0xFF && d.length == 40 && decide (field d 0 1 ≤ 4)
    && field d 1 1 == path && zeros ((d.drop 2).take 6)

/-- HELLO (R345, R351): CHALLENGE with a reserved slot, or REFUSE. -/
def SafetyDie.hello (s : SafetyDie) (path origin : Nat) (b : Octets) : SafetyDie :=
  let d := dataOf b
  let role := field d 0 1
  if !helloFormed path b then s
  else if s.lockLeft role ≠ 0 then s.refuse path origin 0xFF b 1 (s.lockLeft role)
  else if (s.roleKey role).isNone then s.refuse path origin 0xFF b 2 0
  else match (List.range 64).find? s.slotFree with
    | none => s.refuse path origin 0xFF b 3 0
    | some i =>
      let r := s.draw
      let nd := le 32 r.1
      (r.2.setSession i (some { role := role, path := path, origin := origin, nc := d.drop 8, nd := nd, since := s.now })).sendOd
        i path origin (handshake 0x02 i b (ownUid ++ padTo 16 Config.passSalt ++ nd) none)

/-- T of R346. -/
def Session.transcript (x : Session) (slot : Nat) : Octets :=
  text "GV720OD1" ++ ownUid ++ [x.role, x.path, slot] ++ x.nc ++ x.nd

/-- PROOF (R345, R346, R351): ACCEPT opens the session with the role's key of now; REFUSE frees its slot. -/
def SafetyDie.proof (s : SafetyDie) (path origin : Nat) (b : Octets) : SafetyDie :=
  let i := field b 4 1
  match s.session i with
  | none => s
  | some x =>
    if x.opened || x.path != path || x.origin != origin || !(messageFormed path 0 b && zeros (tagOf b) && (dataOf b).length == 32)
    then s
    else
      let key := (s.roleKey x.role).getD []
      let t := x.transcript i
      let mac (l : String) : Octets := padTo 32 (Config.kmac256 key t 256 l)
      let freed := s.setSession i none
      if s.lockLeft x.role ≠ 0 then freed.refuse path origin i b 1 (s.lockLeft x.role)
      else if x.since + 10000000000 < s.now then freed.refuse path origin i b 5 0
      else if dataOf b ≠ mac "OPEN-C" then
        (freed.wrongProof x.role).refuse path origin i b 4 0
      else
        let ks := mac "SESSION"
        let y := { x with opened := true, key := ks, heardAt := s.now, lastGts := s.gts }
        (((s.setSession i (some y)).setLock x.role {}).sendOd i path origin
          (handshake 0x04 i b (mac "OPEN-D") (some ks)))

/-- A request whose TAG fails (R348): discarded and counted; the eighth closes the session. -/
def SafetyDie.tagFailed (s : SafetyDie) (slot : Nat) (ses : Session) : SafetyDie :=
  let s1 := (s.bump Od.TAG_FAILURES).setSession slot (some { ses with tagFails := ses.tagFails + 1, discarded := ses.discarded + 1 })
  if ses.tagFails + 1 < 8 then s1
  else
    let l := s1.lockOf ses.role
    (s1.endSession slot).setLock ses.role { l with fails := l.fails + 1 }

/-- One request is served: answered, or busy until a store or a commit ends (R341, R350, R357). -/
def Dies.serveOne (x : Dies) (slot : Nat) (r : Req) : Dies :=
  match x.sd.session slot with
  | none => x
  | some ses =>
    let a := x.serve slot ses r
    match a.2 with
    | some p => { a.1 with sd := a.1.sd.respond slot r p.status.code p.data p.last }
    | none => { a.1 with sd := a.1.sd.updSession slot (fun y => { y with busy := some r }) }

/-- The session's requests are served in SEQ order until one must wait (R350); a session that has used SEQ 0xFFFF_FFFF ends when
all are answered (R349, R352). -/
def Dies.pump : Nat → Nat → Dies → Dies
  | 0, _, x => x
  | n + 1, slot, x =>
    match x.sd.session slot with
    | none => x
    | some ses =>
      if ses.busy.isSome then x
      else match ses.waiting with
        | [] => if ses.lastSeq = 0xFFFFFFFF then x.safety (fun s => s.endSession slot) else x
        | r :: rest => Dies.pump n slot (({ x with sd := x.sd.setSession slot (some { ses with waiting := rest }) } : Dies).serveOne slot r)

/-- Requests that waited behind an answered one are served. -/
def Dies.pumpAll (x : Dies) : Dies := (List.range 64).foldl (fun y i => Dies.pump 6 i y) x

/-- A request whose TAG holds (R349, R350): repeated, replayed, BUSY, or accepted. CLOSE acts at once (R352, R358). -/
def Dies.accept (x : Dies) (slot : Nat) (ses0 : Session) (r : Req) (tag : Octets) : Dies :=
  let s := x.sd
  let ses := { ses0 with heardAt := s.now }
  let with_ (y : Session) : Dies := { x with sd := s.setSession slot (some y) }
  if r.seq ≤ ses.lastSeq then
    if r.seq = ses.lastSeq ∧ tag = ses.lastTag then
      (if ses.response = [] then with_ ses
       else { x with sd := (s.setSession slot (some ses)).sendOd slot ses.path ses.origin ses.response })
    else { x with sd := (s.bump Od.REPLAYS).setSession slot (some { ses0 with discarded := ses.discarded + 1 }) }
  else if 4 ≤ ses.unanswered then
    { x with sd := (s.setSession slot (some ses)).respond slot r OdStatus.busy.code [] false }
  else
    let y := { ses with lastSeq := r.seq, lastTag := tag, response := [], received := ses.received + 1, lastGts := s.gts }
    if r.kind = 0x12 ∧ !r.bad then
      ({ x with sd := (s.setSession slot (some y)).respond slot r 0 [] false } : Dies).safety (fun s => s.endSession slot)
    else Dies.pump 6 slot (with_ { y with waiting := ses.waiting ++ [r] })

/-- An open session's idle limit is reached (R352); a halted keeper pair ends none. -/
def SafetyDie.idle (s : SafetyDie) (x : Session) : Bool :=
  x.opened && decide (x.heardAt + s.get Od.SESSION_IDLE_S * 1000000000 ≤ s.now) && !s.keeper.halted

/-- SESSION_IDLE_S without a valid request (R352). -/
def SafetyDie.idleTimeout (s : SafetyDie) (slot : Nat) : SafetyDie :=
  match s.session slot with
  | some x => if s.idle x then s.endSession slot else s
  | none => s

/-- A session whose idle limit is reached has ended before a message that comes then (R352). -/
def Dies.awakeSlot (x : Dies) (slot : Nat) : Dies :=
  match x.sd.session slot with
  | some y => if x.sd.idle y then x.safety (fun s => s.endSession slot) else x
  | none => x

/-- A message of an open session arrives (R344, R348): of another path or of no session it is discarded. -/
def Dies.message (x0 : Dies) (path origin : Nat) (b : Octets) : Dies :=
  let slot := field b 4 1
  let x := x0.awakeSlot slot
  match x.sd.session slot with
  | none => x
  | some ses =>
    if !ses.opened || ses.path != path || ses.origin != origin then x
    else if b.length < 40 ∨ tagOf b ≠ tagWanted ses.key b then x.safety (fun s => s.tagFailed slot ses)
    else x.accept slot ses (parseReq path b) (tagOf b)

/-- An OD message at the safety die (R344), by its KIND. -/
def Dies.dispatch (x : Dies) (path origin : Nat) (b : Octets) : Dies :=
  if kindOf b = 0x01 then { x with sd := x.sd.hello path origin b }
  else if kindOf b = 0x03 then { x with sd := x.sd.proof path origin b }
  else x.message path origin b

/-- Kinds that clients send (R344). -/
def clientKinds : List Nat := [0x01, 0x03, 0x10, 0x11, 0x12]

/-- A message of one kind, or of none the spec defines, arrives by a path: as flits of the corridor on paths 0 to 2 (R246, R353), from
one of the two CAN controllers on path 3. -/
def Dies.odIn (x : Dies) (kind path origin seq : Nat) (b : Octets) : Dies :=
  if (kindOf b ≠ kind ∧ clientKinds.contains (kindOf b)) ∨ !x.reaches path then x
  else if path = 3 then (if origin < 2 then x.dispatch path origin b else x)
  else
    let a := x.sd.groupAdmit seq (flitsOd (field b 4 1) path b)
    let y := x.safety (fun _ => a.1)
    if a.2 then y.dispatch path 0 b else y

/-- The octets of a request as they lie before its TAG (R344). -/
def requestHead (kind flags slot seq key offset : Nat) (data : Octets) : Octets :=
  let n := (data.length + 7) / 8 * 8
  le 2 (n + 40) ++ le 1 kind ++ le 1 flags ++ le 1 slot ++ List.replicate 3 0 ++ le 4 seq ++ le 2 (key / 256) ++ le 1 (key % 256)
    ++ [0] ++ le 4 offset ++ le 4 data.length ++ padTo n data

/-- A request of an open session with the next SEQ and its right TAG, as it has arrived complete (R340, R344); `key` is
INDEX × 256 + SUB. An image may come as what its bytes spell. -/
def Dies.requestOf (x0 : Dies) (slot kind key offset : Nat) (data : Octets) (image : Option ImageBody) (last : Bool) : Dies :=
  let x := x0.awakeSlot slot
  match x.sd.session slot with
  | none => x
  | some ses =>
    if !ses.opened || !x.reaches ses.path || ses.lastSeq == 0xFFFFFFFF then x
    else
      let seq := ses.lastSeq + 1
      x.accept slot ses { kind := kind, flags := b01 last, seq := seq, index := key / 256, sub := key % 256, offset := offset,
                          data := data, image := image }
        (tagWanted ses.key (requestHead kind (b01 last) slot seq key offset data ++ List.replicate 16 0))

/-- A WRITE of a numeric entry's instance. -/
def Dies.writeEntry (x : Dies) (slot : Nat) (r : OdRow) (i v : Nat) : Dies :=
  if i < r.count then x.requestOf slot 0x11 (r.key i) 0 (le (r.type.bits / 8) v) none true else x

/-- A WRITE of octets to an entry's instance. -/
def Dies.writeOctets (x : Dies) (slot : Nat) (r : OdRow) (i : Nat) (b : Octets) : Dies :=
  if i < r.count then x.requestOf slot 0x11 (r.key i) 0 b none true else x

/-- A WRITE of an image, its last segment or an earlier one, to an entry's instance. -/
def Dies.writeBody (x : Dies) (slot : Nat) (r : OdRow) (i : Nat) (b : ImageBody) (last : Bool) : Dies :=
  if i < r.count then x.requestOf slot 0x11 (r.key i) 0 [] (some b) last else x

/-- The oldest QSPI store in progress ends (R341): the value is kept and the write answered OK, or the previous value returns and it is
answered STORE_FAILED. -/
def Dies.storeDone (x : Dies) (ok : Bool) : Dies :=
  match x.sd.stores with
  | [] => x
  | p :: rest =>
    let s := { x.sd with stores := rest }
    if ok then
      let s1 := match p.work with
        | .entry k v _ => s.writeStore (fun m => m.putKey k v) s.undoStores.keys
        | .roleKey r b => s.writeStore id (s.undoStores.keys.set [] r b)
        | _ => s
      ({ x with sd := s1.answerBusy p.slot 0 [] } : Dies).pumpAll
    else
      let y : Dies := match p.work with
        | .entry k _ v => ({ x with sd := s } : Dies).setBoth k v
        | w => { x with sd := s.undoStore w }
      ({ y with sd := y.sd.answerBusy p.slot OdStatus.storeFailed.code [] } : Dies).pumpAll

/-- The store of a committed set ends (R357, steps 3 and 4). -/
def Dies.commitStored (x : Dies) (ok : Bool) : Dies := (x.safety (fun s => s.commitStored ok)).pumpAll

/-- A firmware image has been programmed (R446): stored, answered; in BOOT_WAIT it boots at once. -/
def Dies.imageStored (x : Dies) (ok : Bool) : Dies :=
  let s := x.sd
  match s.fw.next with
  | none => x
  | some (v, sec, dig) =>
    if !ok then
      let s1 : SafetyDie := { s with fw := { s.fw with state := 5, next := none } }
      ({ x with sd := s1.answerBusy s.fw.asker OdStatus.storeFailed.code [] } : Dies).pumpAll
    else
      let f : Firmware := { s.fw with stored := true, version := v, secVersion := sec, digest := dig, state := 4, next := none }
      let s1 := ({ s with fw := f } : SafetyDie).answerBusy s.fw.asker 0 []
      if s1.device = .bootWait then x.follow (s1.warmRestart s1.guest) else ({ x with sd := s1 } : Dies).pumpAll

/-- A host write that completes a request in a BAR0 window (R354): taken when its CRC-32C holds. -/
def CheckDie.windowIn (d : CheckDie) (w : Nat) (b : Octets) : CheckDie :=
  let msg := b.take (b.length - 4)
  if w < 64 ∧ 4 < b.length ∧ msg.length ≤ 8184 ∧ field msg 0 2 = msg.length ∧ b.drop (b.length - 4) = le 4 (crc32c msg)
  then d.forwardOd 0 msg w 0 else d

/-- A datagram on the management port (R353, R445). -/
def CheckDie.mgmtIn (d : CheckDie) (origin : Nat) (b : Octets) : CheckDie :=
  if d.on Od.MGMT_ENABLE && d.device != .boot && d.device != .bootWait && decide (b.length ≤ 1464)
  then d.forwardOd 1 b origin 0 else d

/-- The octets of an entry as a plain USDO upload reads it; none: not readable so (R355). -/
def Dies.plainRead (x : Dies) (bus idx sub : Nat) : Option Octets :=
  if idx = 0x1280 ∧ sub = 2 then some (x.sd.tunnel.get [] bus)
  else if idx < 0x1000 ∨ 0x11FF < idx ∨ !odAllocated idx then none
  else if sub = 0 then some [odHighest idx % 256]
  else (odFind idx sub).map (fun r => (x.value r idx sub 0).octets r.type)

/-- A plain USDO upload on a CAN bus (R355). -/
def Dies.plainUpload (x : Dies) (bus idx sub : Nat) : Dies :=
  if !x.reaches 3 || decide (2 ≤ bus) then x
  else match x.plainRead bus idx sub with
    | some b => { x with sd := x.sd.put (.canAnswer bus b) }
    | none => { x with sd := x.sd.put (.canAbort bus 0x06010000) }

end Sys2Proof.Machine
end

