-- ==== Sys2Proof/Machine/Schedule.lean ====
section
/-! DEFINITION. What both dies do together by time: margin tests (R333-R337), the signature engine (R331, R450), injectors that end
(R455, R457), the links coming up (R244), and the status image (R318). -/

namespace Sys2Proof.Machine

/-- ns of RUN in the margin period (R333). -/
def MarginPlan.elapsed (m : MarginPlan) (now : Nat) : Nat := m.runNs + (m.runSince.map (fun t => now - t)).getD 0

/-- A margin test falls due after MARGIN_PERIOD_H hours of RUN (R333); 0 is off. -/
def Dies.marginDue (x : Dies) : Dies :=
  let m := x.sd.margin
  let h := x.sd.get Od.MARGIN_PERIOD_H
  if h ≠ 0 ∧ h * 3600000000000 ≤ m.elapsed x.sd.now then
    ({ x with sd := { x.sd with margin := { m with
        due := true, cluster := none, deferred := false, runNs := 0, runSince := m.runSince.map (fun _ => x.sd.now) } } } :
      Dies).marginTry
  else x

/-- A test whose start did not come about is due again (R334, R337). -/
def Dies.marginAgain (x : Dies) : Dies :=
  if x.cd.margin.prevented then
    { sd := { x.sd with margin := { x.sd.margin with due := true, deferred := true, cluster := x.sd.margin.running, running := none } }
      cd := { x.cd with margin := { x.cd.margin with prevented := false } } }
  else x

/-- A deferred margin test is tried again every 60 s (R334, R337). -/
def Dies.marginRetry (x : Dies) : Dies :=
  let m := x.sd.margin
  if (m.deferred ∨ x.cd.margin.prevented) ∧ m.triedAt + 60000000000 ≤ x.sd.now then x.marginAgain.marginTry else x

/-- MARGIN_LAST of a test that ends (R338). -/
def Margin.last (m : Margin) : Octets :=
  le 1 m.cluster ++ le 1 m.outcome ++ rowBytes m.failedRows ++ le 2 ((m.extremes.getD 1 0) % 65536).toNat

/-- The margin test's cluster is back (R335, step 6; R336, R337): MARGIN_LAST, MARGIN_NEXT, and an aborted test due again after
60 s. -/
def Dies.marginRestored (x : Dies) : Dies :=
  let m := x.cd.margin
  if !x.cd.runs || m.state ≠ 3 then x
  else
    let p := x.sd.margin
    let named := p.running
    let s1 := x.sd.setGuest (fun g => { g with
      marginLast := m.last
      marginNext := if named = none then (m.cluster + 1) % 16 else g.marginNext })
    let p1 : MarginPlan := { p with running := none }
    let p2 : MarginPlan := if m.aborted
      then { p1 with due := true, deferred := true, triedAt := x.sd.now, cluster := if p.due then p.cluster else named } else p1
    let y : Dies := { sd := { s1 with margin := p2 }, cd := x.cd.marginRestored }
    if m.aborted then y else y.marginTry

/-- The oldest batch is signed (R331): before an attestation asked for later. -/
def Dies.batchSigned (x : Dies) : Dies :=
  match x.cd.sig.closing with
  | [] => x
  | (_, _, at_) :: _ =>
    if !x.cd.runs || (x.sd.attest.state == 1 && decide (x.sd.attest.askedAt < at_)) then x
    else
      let n := (x.sd.guest.sigSeq + 1) % 2 ^ 32
      { sd := x.sd.setGuest (fun g => { g with sigSeq := n }), cd := x.cd.batchSigned n x.sd.fw.runDigest }

/-- The VALID slots of one kind, with their digests (R450, key 9). -/
def slotDigests {α : Type} (kind : Nat) (n : Nat) (slot : Nat → Slot α) (head : α → ImageHead) : List Octets :=
  (List.range n).filterMap (fun k => ((slot k).ok).map (fun a =>
    cborArray [cborUint kind, cborUint k, cborBytes (padTo 32 (head a).digest)]))

/-- The attestation report's map (R450). -/
def Dies.reportMap (x : Dies) : Octets :=
  let s := x.sd
  let d := x.cd
  cborMap [(1, cborUint 1), (2, cborBytes ownUid), (3, cborBytes s.attest.nonce), (4, cborBytes s.fw.runDigest),
    (5, cborArray [cborUint s.fw.runVersion, cborUint s.fw.runSec, cborUint s.floorNow, cborUint Config.bootRomVersion,
                   cborUint 256]),
    (6, cborArray [cborUint s.guest.epoch, cborUint (configCrc s.values)]),
    (7, cborArray [cborUint s.device.code, cborUint (b01 s.keeper.split), cborUint s.boot.guestState, cborUint s.guest.lastReset]),
    (8, cborArray [cborUint s.gts, cborUint s.guest.boots]),
    (9, cborArray (slotDigests 1 16 d.package Package.hd ++ slotDigests 2 32 d.manifest Manifest.hd
        ++ slotDigests 3 16 d.mapSlot CompatMap.hd ++ slotDigests 4 12 (fun n => (d.lant n).set) LanternSet.hd)),
    (10, cborBytes (padTo 32 (Config.shake256 32 (d.fenceMap ++ d.watchMap)))),
    (11, cborUint s.boot.failed)]

/-- The attestation report is signed (R450): after the batches that closed before it was asked for. -/
def Dies.attestSigned (x : Dies) : Dies :=
  let a := x.sd.attest
  let earlier := x.cd.runs && (x.cd.sig.closing.any (fun c => decide (c.2.2 ≤ a.askedAt)))
  if a.state ≠ 1 || earlier then x
  else
    let m := x.reportMap
    let r := cborArray [m, cborBytes (padTo 49856 (Config.slhSign (Config.shake256 64 m)))]
    { x with sd := { x.sd with attest := { a with state := 2, report := r } } }

/-- An injector's DURATION_MS has passed since it was armed (R455, item 3): each die disarms its own. -/
def Dies.durationEnd (x : Dies) (j : Nat) : Dies :=
  match x.sd.armed.find? (fun a => a.num == j) with
  | some a =>
    if a.stopAt ≤ x.sd.now then
      (x.safety (fun s => s.disarmInjector j 2)).check (fun d =>
        if (d.injector? j).isSome then d.disarmNow j 2 else d)
    else x
  | none => x

/-- Items that an injector held meet their point when their delay ends (R457). -/
def Dies.heldRelease (x : Dies) (j : Nat) : Dies := (x.safety (fun s => s.releaseNow j)).check (fun d => d.releaseNow j)

/-- A TRAIN flit of a direction, 0 toward the safety die and 1 toward the check die (R244): when a receiver comes up its die's other
end sends its first flits: STATUS BOOTING, and TIME_SET (R321). -/
def Dies.train (x : Dies) (toCheck crcOk : Bool) : Dies :=
  if toCheck then
    let d := if x.cd.clock then x.cd.trainIn crcOk else x.cd
    let y := { x with cd := d }
    if d.corRx.up && !x.cd.corRx.up then y.safety SafetyDie.sendTime else y
  else
    let s := x.sd.trainIn crcOk
    let y := x.safety (fun _ => s)
    if s.corRx.up && !x.sd.corRx.up && y.cd.up then { y with cd := y.cd.booting } else y

/-- A LINK flit reaches the safety die (R248): it may end a commit (R366). EPOCH_BOUNDARY_GTS is the GTS at which EPOCH_ADVANCE arrived
at the check die (R199, R202); no flit carries it, so the model copies it (`gts`) when the acknowledgement says that the boundary has
passed (log entry 85). -/
def SafetyDie.linkAcks (s : SafetyDie) (gts ack : Nat) (nak : Bool) (expected : Nat) : SafetyDie :=
  let passed := (s.corTx.covered ack).any (fun f => f.type == 0x24 && f.payload % 256 == 1)
  let s1 := s.linkIn ack nak expected
  ({ s1 with boundaryGts := if passed then gts else s1.boundaryGts } : SafetyDie).commitAcked

/-- A LINK flit (R248), toward the check die or the safety die. -/
def Dies.linkFlit (x : Dies) (toCheck : Bool) (ack : Nat) (nak : Bool) (expected : Nat) : Dies :=
  if toCheck then (if x.cd.linkRuns then { x with cd := x.cd.linkIn ack nak expected } else x)
  else (x.onSafetyLink x.sd.now (fun s => s.linkAcks x.cd.boundaryGts ack nak expected)).pumpAll

/-- DEV_STATUS (R407): the codes of DEVICE_STATE, CHECK_DIE_STATE, POWER_STATE and SERVO_STATE. -/
def Dies.devStatus (x : Dies) : Nat :=
  let code (sub : Nat) : Nat := ((x.viewIdentity sub).getD (.num 0)).n
  code 0x0D + code 0x0C * 2 ^ 8 + code 0x0E * 2 ^ 16 + x.cd.time.servo.code * 2 ^ 24

/-- The check die's host images are refreshed from the safety die (R318, R407). -/
def Dies.refreshImage (x : Dies) : Dies :=
  x.check (fun d => d.takeImages x.sd.statusImage x.devStatus x.sd.guest.epoch)

/-- The end of a check-die reset; requests that waited for a commit go on (R357, R358). -/
def Dies.resetEnded (x : Dies) (bad fails : List (Nat × Nat)) : Dies := (x.resetEnd bad fails).pumpAll

end Sys2Proof.Machine
end

