-- ==== Sys2Proof/Machine/State.lean ====
section
/-! DEFINITION. The state of the block, the reasons it stops, and the state after reset. -/

namespace Sys2Proof.Machine

/-- Why a command ends in a fault. -/
inductive Fault where
  /-- REGISTER_WRITE, LANDING_ZONE_WRITE and RESULT_INTAKE_WRITE with bytes beyond the end of BAR0 (64 MiB), BAR2 (1 GiB) or BAR4
  (16 MiB): no such address exists (R405). Safe: the device sees no such access. -/
  | outsideBar
deriving DecidableEq, Repr

/-- Why a command is refused. -/
inductive Refusal where
  /-- A command without a meaning; none is left. Safe. -/
  | notModelled (mnemonic : String)
deriving DecidableEq, Repr

/-- Everything the spec gives the GV720, and the commands that wait, first in, first out. -/
structure State where
  /-- the commands that wait (the block's queue) -/
  pending : List Instr := []
  /-- the two dies -/
  dies : Dies := {}
deriving DecidableEq, Repr

/-- The guest book at the values the dictionary lists (R359, R370, R452 and the G entries of the other chapters); nothing lost. -/
def GuestBook.delivered : GuestBook :=
  { locks := List.replicate 5 {}
    outputFault := 0
    lastReset := 0
    fencesLost := false }

/-- Right after reset (R435, R438, R442): BOOT, the check die held in reset, both outputs off, every entry at its default and
the LPDDR5X contents lost. -/
def State.reset : State := { dies := { sd := { guest := GuestBook.delivered, kill := { lost := true } } } }

end Sys2Proof.Machine
end

