-- ==== Sys2Proof/Machine/Ops.lean ====
section
/-! DEFINITION. The shared shapes of a command's effect: what of the block it reaches, and when that part runs at all. -/

namespace Sys2Proof.Machine

open Host

/-- A command acts on the dies, whose clocks have moved to its time; the queue stays. -/
def State.act (s : State) (t : Nat) (f : Dies → Dies) : Outcome State Fault Refusal :=
  .next { s with dies := f (s.dies.tick t) }

/-- A happening inside the check die or at its pins: while the die is powered, out of reset, clocked and awake. -/
def State.onCheck (s : State) (t : Nat) (f : CheckDie → CheckDie) : Outcome State Fault Refusal := s.act t (fun x => x.check f)

/-- A happening at an instance of the check die's that exists. -/
def State.onCheckIf (s : State) (t : Nat) (c : Prop) [Decidable c] (f : CheckDie → CheckDie) : Outcome State Fault Refusal :=
  s.act t (fun x => if c then x.check f else x)

/-- A happening inside the safety die or at its pins, and what follows from it on the check die. -/
def State.onSafety (s : State) (t : Nat) (f : SafetyDie → SafetyDie) : Outcome State Fault Refusal := s.act t (fun x => x.safety f)

/-- A happening at an instance of the safety die's that exists. -/
def State.onSafetyIf (s : State) (t : Nat) (c : Prop) [Decidable c] (f : SafetyDie → SafetyDie) : Outcome State Fault Refusal :=
  s.act t (fun x => if c then x.safety f else x)

/-- A flit reaches the check die, out of reset and clocked; an epoch boundary it brings is known on the safety die. -/
def State.onCheckLink (s : State) (t : Nat) (f : CheckDie → CheckDie) : Outcome State Fault Refusal :=
  s.act t (fun x => x.onCheckLink t f)

/-- A flit reaches the safety die; none while SD_CD_KILL is asserted. -/
def State.onSafetyLink (s : State) (t : Nat) (f : SafetyDie → SafetyDie) : Outcome State Fault Refusal :=
  s.act t (fun x => x.onSafetyLink t f)

/-- An access of the host reaches the PCIe endpoint, which PERST# holds in reset while it is asserted (R404). -/
def State.onHost (s : State) (t : Nat) (f : CheckDie → CheckDie) : Outcome State Fault Refusal :=
  s.act t (fun x => if x.cd.perst then x else x.check f)

/-- An access to an instance that exists. -/
def State.onHostIf (s : State) (t : Nat) (c : Prop) [Decidable c] (f : CheckDie → CheckDie) : Outcome State Fault Refusal :=
  s.act t (fun x => if x.cd.perst ∨ ¬c then x else x.check f)

end Sys2Proof.Machine
end

