-- ==== Sys2Proof/Machine/Access.lean ====
section
/-! DEFINITION. The meanings of the commands of one family. Sessions, the dictionary and the commit (R339-R374). -/

namespace Sys2Proof.Machine

open Host

/-- HELLO. A HELLO arrives (R345). -/
def execHello (t path origin seq : Nat) (b : Octets) (s : State) : Outcome State Fault Refusal :=
  s.act t (fun x => x.odIn 0x01 path origin seq b)

/-- PROOF. A PROOF arrives (R346). -/
def execProof (t path origin seq : Nat) (b : Octets) (s : State) : Outcome State Fault Refusal :=
  s.act t (fun x => x.odIn 0x03 path origin seq b)

/-- READ. A READ arrives (R340, R344). -/
def execRead (t path origin seq : Nat) (b : Octets) (s : State) : Outcome State Fault Refusal :=
  s.act t (fun x => x.odIn 0x10 path origin seq b)

/-- WRITE. A WRITE arrives (R340, R344). -/
def execWrite (t path origin seq : Nat) (b : Octets) (s : State) : Outcome State Fault Refusal :=
  s.act t (fun x => x.odIn 0x11 path origin seq b)

/-- CLOSE. A CLOSE arrives (R352). -/
def execClose (t path origin seq : Nat) (b : Octets) (s : State) : Outcome State Fault Refusal :=
  s.act t (fun x => x.odIn 0x12 path origin seq b)

/-- SESSION_IDLE_TIMEOUT. SESSION_IDLE_S without a valid request (R352). -/
def execSessionIdleTimeout (t slot : Nat) (s : State) : Outcome State Fault Refusal :=
  s.onSafety t (fun s => s.idleTimeout slot)

/-- BAR0_OD_WINDOW. A host write completes a request in a BAR0 window (R354). -/
def execBar0OdWindow (t w : Nat) (b : Octets) (s : State) : Outcome State Fault Refusal :=
  s.onHost t (fun d => d.windowIn w b)

/-- MGMT_OD_DATAGRAM. A datagram arrives on the management port (R353). -/
def execMgmtOdDatagram (t origin : Nat) (b : Octets) (s : State) : Outcome State Fault Refusal :=
  s.onCheck t (fun d => d.mgmtIn origin b)

/-- CAN_USDO_DOWNLOAD. A USDO download to OD_TUNNEL_IN (R353, R355). -/
def execCanUsdoDownload (t bus : Nat) (b : Octets) (s : State) : Outcome State Fault Refusal :=
  s.act t (fun x => x.odIn (kindOf b) 3 bus 0 b)

/-- PLAIN_USDO_UPLOAD. A plain USDO upload (R355). -/
def execPlainUsdoUpload (t bus idx sub : Nat) (s : State) : Outcome State Fault Refusal :=
  s.act t (fun x => x.plainUpload bus idx sub)

/-- COMMIT_CRC. A session writes COMMIT_CRC (R357). -/
def execCommitCrc (t slot v : Nat) (s : State) : Outcome State Fault Refusal :=
  s.act t (fun x => x.writeEntry slot Od.COMMIT_CRC 0 v)

/-- COMMIT_STORED. The store of a committed set ends (R357). -/
def execCommitStored (t : Nat) (ok : Bool) (s : State) : Outcome State Fault Refusal :=
  s.act t (fun x => x.commitStored ok)

/-- STAGE_DISCARD. A session writes STAGE_DISCARD (R356). -/
def execStageDiscard (t slot v : Nat) (s : State) : Outcome State Fault Refusal :=
  s.act t (fun x => x.writeEntry slot Od.STAGE_DISCARD 0 v)

/-- ROLE_KEY. A session writes ROLE_KEY of a role (R352). -/
def execRoleKey (t slot role : Nat) (key : Octets) (s : State) : Outcome State Fault Refusal :=
  s.act t (fun x => x.writeOctets slot Od.ROLE_KEY role key)

/-- OPERATOR_PASSPHRASE. A session writes OPERATOR_PASSPHRASE (R347). -/
def execOperatorPassphrase (t slot : Nat) (pass : Octets) (s : State) : Outcome State Fault Refusal :=
  s.act t (fun x => x.writeOctets slot Od.OPERATOR_PASSPHRASE 0 pass)

/-- PARTNER_SELECT. A session writes PARTNER_SELECT (R372). -/
def execPartnerSelect (t slot v : Nat) (s : State) : Outcome State Fault Refusal :=
  s.act t (fun x => x.writeEntry slot Od.PARTNER_SELECT 0 v)

/-- QSPI_STORE_DONE. The oldest QSPI store ends (R341). -/
def execQspiStoreDone (t : Nat) (ok : Bool) (s : State) : Outcome State Fault Refusal :=
  s.act t (fun x => x.storeDone ok)

end Sys2Proof.Machine
end

