-- ==== Sys2Proof/Machine/Audit.lean ====
section
/-! DEFINITION. The meanings of the commands of one family. The tap audit (R135-R168, R330). -/

namespace Sys2Proof.Machine

open Host

/-- MANIFEST_IMAGE_WRITE. A session writes MANIFEST_IMAGE of manifest slot `k` (R135, R138). -/
def execManifestImageWrite (t slot k : Nat) (image : Manifest) (last : Bool) (s : State) : Outcome State Fault Refusal :=
  s.act t (fun x => x.writeBody slot Od.MANIFEST_IMAGE k (.manifest image) last)

/-- MANIFEST_VERIFY_DONE. The load checks of a manifest slot end (R137). -/
def execManifestVerifyDone (t k : Nat) (s : State) : Outcome State Fault Refusal :=
  s.onCheckIf t (k < 32) (fun d => d.manifestVerified k)

/-- AUDIT_EPOCH_END. An audit epoch ends (R148, R149). -/
def execAuditEpochEnd (t : Nat) (s : State) : Outcome State Fault Refusal :=
  s.onCheck t CheckDie.epochEnd

/-- LANDING_ZONE_WRITE. A PCIe write to BAR2 (R153-R156, R406). -/
def execLandingZoneWrite (t offset requester : Nat) (b : Octets) (s : State) : Outcome State Fault Refusal :=
  if offset + b.length ≤ 1073741824 then s.onHost t (fun d => d.landingWrite offset requester b) else .fault .outsideBar

/-- DELIVERY_CHECKS_DONE. The delivery checks of an audit end (R157). -/
def execDeliveryChecksDone (t audit : Nat) (s : State) : Outcome State Fault Refusal :=
  s.onCheck t (fun d => d.deliveryChecks audit)

/-- DELIVER_BY_TIMEOUT. DELIVER_BY of an audit (R156). -/
def execDeliverByTimeout (t audit : Nat) (s : State) : Outcome State Fault Refusal :=
  s.onCheck t (fun d => d.deliverBy audit)

/-- FINAL_PASS_START. The final pass of an audit epoch starts (R162). -/
def execFinalPassStart (t epoch : Nat) (s : State) : Outcome State Fault Refusal :=
  s.onCheck t (fun d => d.finalPass epoch)

/-- BATCH_PASS_DONE. A batch pass ends (R158-R165). -/
def execBatchPassDone (t : Nat) (p : PassEnd) (s : State) : Outcome State Fault Refusal :=
  s.onCheck t (fun d => d.passDone p)

/-- ALLOWANCE_END. The allowance of an epoch's passes ends (R164). -/
def execAllowanceEnd (t epoch : Nat) (s : State) : Outcome State Fault Refusal :=
  s.onCheck t (fun d => d.allowanceEnd epoch)

end Sys2Proof.Machine
end

