-- ==== Sys2Proof/Machine/BrakeControl.lean ====
section
/-! DEFINITION. The meanings of the commands of one family. The brake outputs, their tests and the stops (R279-R295). -/

namespace Sys2Proof.Machine

open Host

/-- AUTO_RESTART_TIMEOUT. 100 ms of calm in AUTOMATIC restart (R283). -/
def execAutoRestartTimeout (t : Nat) (s : State) : Outcome State Fault Refusal :=
  s.onSafety t SafetyDie.autoRestart

/-- READBACK_EDGE. A readback changes (R286). -/
def execReadbackEdge (t : Nat) (isB level : Bool) (s : State) : Outcome State Fault Refusal :=
  s.onSafety t (fun s => s.readback isB level)

/-- RELEASE_LAPSE. 1 ms after a restart event (R285). -/
def execReleaseLapse (t : Nat) (s : State) : Outcome State Fault Refusal :=
  s.onSafety t SafetyDie.releaseLapse

/-- READBACK_MISMATCH_TIMEOUT. A readback has differed for 50 µs (R286). -/
def execReadbackMismatchTimeout (t : Nat) (isB : Bool) (s : State) : Outcome State Fault Refusal :=
  s.onSafety t (fun s => s.readbackTimeout isB)

/-- OUTPUT_PULSE_START. An output pulse starts (R287). -/
def execOutputPulseStart (t : Nat) (isB : Bool) (s : State) : Outcome State Fault Refusal :=
  s.onSafety t (fun s => s.pulseStart isB)

/-- OUTPUT_PULSE_CHECK. 50 µs into an output pulse (R287). -/
def execOutputPulseCheck (t : Nat) (isB : Bool) (s : State) : Outcome State Fault Refusal :=
  s.onSafety t (fun s => s.pulseCheck isB)

/-- OUTPUT_PULSE_END. An output pulse ends (R287). -/
def execOutputPulseEnd (t : Nat) (isB : Bool) (s : State) : Outcome State Fault Refusal :=
  s.onSafety t (fun s => s.pulseEnd isB)

/-- BRAKE_FEEDBACK_EDGE. A brake feedback changes (R285, R288). -/
def execBrakeFeedbackEdge (t : Nat) (isB level : Bool) (s : State) : Outcome State Fault Refusal :=
  s.onSafety t (fun s => s.feedback isB level)

/-- BFB_TIMEOUT. BFB_TIME_MS after a change of the outputs (R288). -/
def execBfbTimeout (t : Nat) (s : State) : Outcome State Fault Refusal :=
  s.onSafety t SafetyDie.feedbackTimeout

/-- FAULT_CLEAR. A session writes FAULT_CLEAR (R289). -/
def execFaultClear (t slot v : Nat) (s : State) : Outcome State Fault Refusal :=
  s.act t (fun x => x.writeEntry slot Od.FAULT_CLEAR 0 v)

/-- BT_START. A session writes BT_START (R290, R293). -/
def execBtStart (t slot v : Nat) (s : State) : Outcome State Fault Refusal :=
  s.act t (fun x => x.writeEntry slot Od.BT_START 0 v)

/-- BT_TORQUE_END. BT_DURATION_MS of a brake test (R290). -/
def execBtTorqueEnd (t : Nat) (s : State) : Outcome State Fault Refusal :=
  s.onSafety t SafetyDie.btTorqueEnd

/-- BT_PASS. A brake test's last moment (R290). -/
def execBtPass (t : Nat) (s : State) : Outcome State Fault Refusal :=
  s.onSafety t SafetyDie.btPass

/-- MOTION_EDGE. A motion edge that has held `ns` (R290, R291). -/
def execMotionEdge (t ns : Nat) (s : State) : Outcome State Fault Refusal :=
  s.onSafety t (fun s => s.motion ns)

/-- BT_OVERDUE. BT_AGE_S reaches the interval (R292). -/
def execBtOverdue (t : Nat) (s : State) : Outcome State Fault Refusal :=
  s.onSafety t SafetyDie.btOverdue

/-- BT_EXPIRED. BT_AGE_S reaches interval and grace (R292). -/
def execBtExpired (t : Nat) (s : State) : Outcome State Fault Refusal :=
  s.onSafety t SafetyDie.btExpired

/-- HOLD_REQUEST. A session writes HOLD_REQUEST (R281, R293). -/
def execHoldRequest (t slot v : Nat) (s : State) : Outcome State Fault Refusal :=
  s.act t (fun x => x.writeEntry slot Od.HOLD_REQUEST 0 v)

end Sys2Proof.Machine
end

