-- ==== Sys2Proof/Machine/Checks.lean ====
section
/-! DEFINITION. The meanings of the commands of one family. The check arrays, the dispatcher and the sentinels (R74-R134, R21, R98, R189, R422, R423). -/

namespace Sys2Proof.Machine

open Host

/-- TILE_COMPLETE. A tile of a frame's run ends on a cluster (R83). -/
def execTileComplete (t entry c opDesc : Nat) (lanes : List TileLane) (s : State) : Outcome State Fault Refusal :=
  s.onCheckIf t (c < 16) (fun d => (d.tileComplete entry c opDesc lanes).composeDue)

/-- SPECTRAL_TRANSFORM_COMPLETE. A transform of `points` ends (R93-R96): its window table, the window products that came out wrong, its
outputs as FP32 patterns, what went wrong on the lanes that recompute the bin, and a wrong sum of the outputs' energy. -/
def execSpectralTransformComplete (t entry c opDesc points : Nat) (window : List Nat) (errs : List (Nat × Int)) (re im : List Nat)
    (faults : List LaneFault) (wrongEnergy : Option Nat) (s : State) : Outcome State Fault Refusal :=
  s.onCheckIf t (c < 16) (fun d => (d.spectralComplete entry c opDesc points window errs re im faults wrongEnergy).composeDue)

/-- SENTINEL_READY. A package epilogue ends: what the HEAD found at its input and, in FULL mode, the pair's elements and heads (R21,
R98, R113). -/
def execSentinelReady (t entry : Nat) (out : HeadIn) (headA headB : Nat) (elems : List PairElem) (s : State) : Outcome State Fault Refusal :=
  s.onCheck t (fun d => d.sentinelReady entry out (headA, headB) elems)

/-- RESULT_DEADLINE. The result deadline of a frame (R189, R190). -/
def execResultDeadline (t entry : Nat) (s : State) : Outcome State Fault Refusal :=
  s.onCheck t (fun d => d.resultDeadline entry)

/-- MAC_PHASE_DEADLINE. t0 + 2 µs with a portion still running on a cluster (R126). -/
def execMacPhaseDeadline (t entry c : Nat) (s : State) : Outcome State Fault Refusal :=
  s.onCheckIf t (c < 16) (fun d => (d.cycleStop entry c).composeDue)

/-- BOUND_TEST. The bound test of a cluster: the known vector on its bound sub-lanes, and its stored bound (R87). -/
def execBoundTest (t c : Nat) (measured : TileLane) (stored : Nat) (s : State) : Outcome State Fault Refusal :=
  s.onCheckIf t (c < 16) (fun d => (d.boundTest c measured stored).composeDue)

/-- WATCH_WINDOW_EXPIRY. ROW_FENCE_WINDOW_MS after a mismatch (R101, R102). -/
def execWatchWindowExpiry (t c row : Nat) (s : State) : Outcome State Fault Refusal :=
  s.onCheckIf t (c < 16) (fun d => d.watchExpiry c row)

/-- REPLAN_COMPLETE. The plan computed anew takes effect (R128, R132). -/
def execReplanComplete (t : Nat) (s : State) : Outcome State Fault Refusal :=
  s.onCheck t CheckDie.replanDone

/-- FENCE_CLEAR. A session writes FENCE_CLEAR (R106). -/
def execFenceClear (t slot v : Nat) (s : State) : Outcome State Fault Refusal :=
  s.act t (fun x => x.writeEntry slot Od.FENCE_CLEAR 0 v)

/-- ARRAY_RETEST. A session writes ARRAY_RETEST (R107). -/
def execArrayRetest (t slot v : Nat) (s : State) : Outcome State Fault Refusal :=
  s.act t (fun x => x.writeEntry slot Od.ARRAY_RETEST 0 v)

/-- RETEST_CLUSTER_DONE. The re-test of the cluster under test ends (R107). -/
def execRetestClusterDone (t : Nat) (rows : List Nat) (failed : Bool) (extremes : List Int) (s : State) : Outcome State Fault Refusal :=
  s.onCheck t (fun d => d.retestDone rows failed extremes)

/-- SRAM_SCRUB_PASS. A pass of the SRAM scrubber (R423). -/
def execSramScrubPass (t clusterFixed otherFixed : Nat) (bad : List SramRegion) (s : State) : Outcome State Fault Refusal :=
  s.onCheck t (fun d => d.sramScrub clusterFixed otherFixed bad)

/-- LPDDR5X_SCRUB_PASS. A pass of the LPDDR5X scrubber (R422, R423). -/
def execLpddr5xScrubPass (t fixed : Nat) (bad : List DramRegion) (s : State) : Outcome State Fault Refusal :=
  s.onCheck t (fun d => d.dramScrub fixed bad)

/-- PACKAGE_IMAGE_WRITE. A session writes SLOT_IMAGE of package slot `k` (R114, R115). -/
def execPackageImageWrite (t slot k : Nat) (image : Package) (last : Bool) (s : State) : Outcome State Fault Refusal :=
  s.act t (fun x => x.writeBody slot Od.SLOT_IMAGE k (.package image) last)

/-- PACKAGE_VERIFY_DONE. The load checks of a package slot end (R114). -/
def execPackageVerifyDone (t k : Nat) (s : State) : Outcome State Fault Refusal :=
  s.onCheckIf t (k < 16) (fun d => d.packageVerified k)

end Sys2Proof.Machine
end

