-- ==== Sys2Proof/Machine/CorridorLinks.lean ====
section
/-! DEFINITION. The meanings of the commands of one family. The corridor and the heartbeat between the dies (R14-R19, R243-R256, R321). -/

namespace Sys2Proof.Machine

open Host

/-- CORRUPT_FLIT. A flit whose CRC fails reaches a receiver (R248, R249). -/
def execCorruptFlit (t : Nat) (toCheck : Bool) (s : State) : Outcome State Fault Refusal :=
  s.act t (fun x => if toCheck then x.onLinks t CheckDie.flitCrcError else x.onSafetyLink t SafetyDie.flitCrcError)

/-- VERDICT_TOKEN. A VERDICT_TOKEN flit (R247, R250); `split`: the two sorters disagree over it. -/
def execVerdictToken (t seq payload : Nat) (split : Bool) (s : State) : Outcome State Fault Refusal :=
  s.onSafetyLink t (fun s => s.sorterFlit seq (flitToken payload) split)

/-- STREAM_STATE. A STREAM_STATE flit (R245, R250). -/
def execStreamState (t seq n state : Nat) (escalated starved : Bool) (gen : Nat) (split : Bool) (s : State) : Outcome State Fault Refusal :=
  s.onSafetyLink t (fun s => s.sorterFlit seq (flitStream n state escalated starved gen) split)

/-- EVENT_FLITS. The four flits of an event record (R246, R323). -/
def execEventFlits (t seq : Nat) (r : EventRec) (s : State) : Outcome State Fault Refusal :=
  s.onSafetyLink t (fun s => s.recordArrives seq r)

/-- CONFIG_CRC. A CONFIG_CRC flit (R18). -/
def execConfigCrc (t seq crc epoch : Nat) (s : State) : Outcome State Fault Refusal :=
  s.onSafetyLink t (fun s => s.flitArrives seq (flitConfigCrc crc epoch))

/-- STATUS. A STATUS flit (R245, R253). -/
def execStatus (t seq code demands : Nat) (s : State) : Outcome State Fault Refusal :=
  s.onSafetyLink t (fun s => s.flitArrives seq (flitStatus code demands))

/-- FENCE_CHANGE. A FENCE_CHANGE flit (R245). -/
def execFenceChange (t seq c row : Nat) (fenced : Bool) (s : State) : Outcome State Fault Refusal :=
  s.onSafetyLink t (fun s => s.flitArrives seq (flitFence c row fenced))

/-- TIME_SAMPLE. A TIME_SAMPLE flit (R321). -/
def execTimeSample (t seq gts : Nat) (s : State) : Outcome State Fault Refusal :=
  s.onSafetyLink t (fun s => s.flitArrives seq (flitTime gts))

/-- HOST_WRITE. A HOST_WRITE flit (R17, R318). -/
def execHostWrite (t seq offset v : Nat) (s : State) : Outcome State Fault Refusal :=
  s.onSafetyLink t (fun s => s.flitArrives seq (flitHostWrite offset v))

/-- LINK. A LINK flit (R248). -/
def execLink (t : Nat) (toCheck : Bool) (acked : Nat) (nak : Bool) (expected : Nat) (s : State) : Outcome State Fault Refusal :=
  s.act t (fun x => x.linkFlit toCheck acked nak expected)

/-- CONFIG_SET_FLITS. The flits of a configuration set (R18, R246). -/
def execConfigSetFlits (t seq : Nat) (set : List (Nat × Val)) (ends : SetEnds) (s : State) : Outcome State Fault Refusal :=
  s.onCheckLink t (fun d => d.configSet seq set ends)

/-- EPOCH_ADVANCE. COMMAND EPOCH_ADVANCE (R199, R245). -/
def execEpochAdvance (t seq epoch causes : Nat) (s : State) : Outcome State Fault Refusal :=
  s.onCheckLink t (fun d => d.flitArrives seq (flitEpoch epoch causes))

/-- SAFE_ENTER. COMMAND SAFE_ENTER (R245, R280). -/
def execSafeEnter (t seq : Nat) (s : State) : Outcome State Fault Refusal :=
  s.onCheckLink t (fun d => d.flitArrives seq flitSafeEnter)

/-- SAFE_EXIT. COMMAND SAFE_EXIT (R245, R255). -/
def execSafeExit (t seq : Nat) (s : State) : Outcome State Fault Refusal :=
  s.onCheckLink t (fun d => d.flitArrives seq flitSafeExit)

/-- FENCE. COMMAND FENCE (R245). -/
def execFence (t seq c row : Nat) (s : State) : Outcome State Fault Refusal :=
  s.onCheckLink t (fun d => d.flitArrives seq (flitFenceCmd c row))

/-- MARGIN_TEST. COMMAND MARGIN_TEST (R245, R335). -/
def execMarginTest (t seq c : Nat) (s : State) : Outcome State Fault Refusal :=
  s.onCheckLink t (fun d => d.flitArrives seq (flitMargin c))

/-- INJECT. COMMAND INJECT (R245, R454). -/
def execInject (t seq j : Nat) (arm : Bool) (s : State) : Outcome State Fault Refusal :=
  s.onCheckLink t (fun d => d.flitArrives seq (flitInject j arm))

/-- TIME_SET. A TIME_SET flit (R321, R394). -/
def execTimeSet (t seq gts : Nat) (s : State) : Outcome State Fault Refusal :=
  s.onCheckLink t (fun d => d.flitArrives seq (flitTimeSet gts))

/-- OD_RESPONSE_FLITS. The flits of an OD message toward the check die (R246, R354). -/
def execOdResponseFlits (t seq : Nat) (m : OdDown) (s : State) : Outcome State Fault Refusal :=
  s.onCheckLink t (fun d => d.odArrives seq m)

/-- TRAIN. A TRAIN flit (R244). -/
def execTrain (t : Nat) (toCheck crcOk : Bool) (s : State) : Outcome State Fault Refusal :=
  s.act t (fun x => x.train toCheck crcOk)

/-- LINK_UP_TIMEOUT. 100 µs after the check-die reset (R244, R249). -/
def execLinkUpTimeout (t : Nat) (atCheck : Bool) (s : State) : Outcome State Fault Refusal :=
  s.act t (fun x => if atCheck then x.onLinks t CheckDie.linkTimeout else x.safety SafetyDie.linkTimeout)

/-- ACK_TIMEOUT. 2 µs without an acknowledgement (R249). -/
def execAckTimeout (t : Nat) (atCheck : Bool) (s : State) : Outcome State Fault Refusal :=
  s.act t (fun x => if atCheck then x.onLinks t CheckDie.ackTimeout else x.safety SafetyDie.ackTimeout)

/-- LINK_ACK_PERIOD. A LINK acknowledgement is due (R248). -/
def execLinkAckPeriod (t : Nat) (atCheck : Bool) (s : State) : Outcome State Fault Refusal :=
  s.act t (fun x => if atCheck then x.onLinks t CheckDie.ackPeriod else x.safety SafetyDie.ackPeriod)

/-- KEEPER_ACTION_QUEUE. The keeper firmware serves its queue (R250, R251, R254). -/
def execKeeperActionQueue (t : Nat) (s : State) : Outcome State Fault Refusal :=
  s.onSafety t SafetyDie.serve

/-- CD_HEART_TOGGLE. The toggle time of CD_HEART, with the units that made progress (R253). -/
def execCdHeartToggle (t : Nat) (porter composer gate tx : Bool) (s : State) : Outcome State Fault Refusal :=
  s.onCheck t (fun d => d.heartToggle porter composer gate tx)

/-- CD_HEART_EDGE. An edge of CD_HEART at the monitor (R253). -/
def execCdHeartEdge (t : Nat) (s : State) : Outcome State Fault Refusal :=
  s.onSafety t SafetyDie.heartEdge

/-- HEART_LOSS_TIMEOUT. HEART_LOSS_NS without an edge (R253, R254). -/
def execHeartLossTimeout (t : Nat) (s : State) : Outcome State Fault Refusal :=
  s.onSafety t SafetyDie.heartLoss

/-- CD_SAFE_DEMAND_LOW. CD_SAFE_DEMAND has been low for `ns` (R256). -/
def execCdSafeDemandLow (t ns : Nat) (s : State) : Outcome State Fault Refusal :=
  s.onSafety t (fun s => s.demandLow ns)

/-- CD_SAFE_DEMAND_HIGH. CD_SAFE_DEMAND is high again (R264). -/
def execCdSafeDemandHigh (t : Nat) (s : State) : Outcome State Fault Refusal :=
  s.act t (fun x => if x.cd.up && !x.cd.demand then x.safety SafetyDie.demandHigh else x)

/-- TIME_SAMPLE_PERIOD. A TIME_SAMPLE is due (R321). -/
def execTimeSamplePeriod (t : Nat) (s : State) : Outcome State Fault Refusal :=
  s.onCheck t CheckDie.timeSamplePeriod

/-- CONFIG_CRC_PERIOD. A CONFIG_CRC report is due (R18). -/
def execConfigCrcPeriod (t : Nat) (s : State) : Outcome State Fault Refusal :=
  s.onCheck t CheckDie.configPeriod

end Sys2Proof.Machine
end

