-- ==== Sys2Proof/Machine/EventLog.lean ====
section
/-! DEFINITION. The meanings of the commands of one family. Event records, signatures and margin tests (R319-R338). -/

namespace Sys2Proof.Machine

open Host

/-- COALESCE_WINDOW_CLOSE. A coalescing window ends (R324). -/
def execCoalesceWindowClose (t : Nat) (s : State) : Outcome State Fault Refusal :=
  s.onCheck t CheckDie.closeWindows

/-- SAFETY_RECORD_WAIT_END. A stage can take a waiting SAFETY record (R326): 0 collector, 1 corridor queue, 2 host ring. -/
def execSafetyRecordWaitEnd (t stage : Nat) (s : State) : Outcome State Fault Refusal :=
  s.onCheck t (fun d => d.admitStage stage)

/-- OVERFLOW. The OVERFLOW record of a stage is due (R327). -/
def execOverflow (t stage : Nat) (s : State) : Outcome State Fault Refusal :=
  s.onCheck t (fun d => d.overflow stage)

/-- SIG_BATCH_PERIOD. SIG_BATCH_PERIOD_S after a batch's first signature (R331). -/
def execSigBatchPeriod (t : Nat) (s : State) : Outcome State Fault Refusal :=
  s.onCheck t CheckDie.batchPeriod

/-- BATCH_SIGNED. The signature engine has signed a batch (R331, R332). -/
def execBatchSigned (t : Nat) (s : State) : Outcome State Fault Refusal :=
  s.act t Dies.batchSigned

/-- SIG_BATCH_READ. A session reads SIG_BATCH_READ (R332, R364, R365). -/
def execSigBatchRead (t slot offset : Nat) (s : State) : Outcome State Fault Refusal :=
  s.act t (fun x => x.requestOf slot 0x10 0x48000F offset [] none true)

/-- LOG_CLEAR. A session writes LOG_CLEAR (R338). -/
def execLogClear (t slot v : Nat) (s : State) : Outcome State Fault Refusal :=
  s.act t (fun x => x.writeEntry slot Od.LOG_CLEAR 0 v)

/-- MARGIN_DUE. MARGIN_PERIOD_H hours of RUN (R333). -/
def execMarginDue (t : Nat) (s : State) : Outcome State Fault Refusal :=
  s.act t Dies.marginDue

/-- MARGIN_START. A session writes MARGIN_START (R333). -/
def execMarginStart (t slot v : Nat) (s : State) : Outcome State Fault Refusal :=
  s.act t (fun x => x.writeEntry slot Od.MARGIN_START 0 v)

/-- MARGIN_RETRY. 60 s after a deferral (R334). -/
def execMarginRetry (t : Nat) (s : State) : Outcome State Fault Refusal :=
  s.act t Dies.marginRetry

/-- MARGIN_STRESS_READY. A margin test's clock and voltage are set (R335). -/
def execMarginStressReady (t : Nat) (s : State) : Outcome State Fault Refusal :=
  s.onCheck t CheckDie.marginStress

/-- MARGIN_VECTORS_DONE. The margin vectors end (R335, R336). -/
def execMarginVectorsDone (t : Nat) (rows : List Nat) (failed : Bool) (extremes : List Int) (s : State) : Outcome State Fault Refusal :=
  s.onCheck t (fun d => d.marginVectors rows failed extremes)

/-- MARGIN_RESTORED. Nominal voltage is back (R335, R336). -/
def execMarginRestored (t : Nat) (s : State) : Outcome State Fault Refusal :=
  s.act t Dies.marginRestored

end Sys2Proof.Machine
end

