-- ==== Sys2Proof/Machine/FabricPorts.lean ====
section
/-! DEFINITION. The meanings of the commands of one family. The fabric of peers (R375-R393, R401). -/

namespace Sys2Proof.Machine

open Host

/-- LINK_HELLO. A LINK_HELLO frame (R378). -/
def execLinkHello (t p : Nat) (fcsOk : Bool) (b : Octets) (s : State) : Outcome State Fault Refusal :=
  s.onCheckIf t (p < 4) (fun d => d.fabFrame [1] p fcsOk b)

/-- LINK_HELLO_PERIOD. A hello is due (R378). -/
def execLinkHelloPeriod (t p : Nat) (s : State) : Outcome State Fault Refusal :=
  s.onCheckIf t (p < 4) (fun d => d.helloPeriod p)

/-- ADJACENCY_TIMEOUT. 3 ms without a valid hello (R378). -/
def execAdjacencyTimeout (t p : Nat) (s : State) : Outcome State Fault Refusal :=
  s.onCheckIf t (p < 4) (fun d => d.adjacencyLost p)

/-- LSA. An LSA frame (R379). -/
def execLsa (t p : Nat) (fcsOk : Bool) (b : Octets) (s : State) : Outcome State Fault Refusal :=
  s.onCheckIf t (p < 4) (fun d => d.fabFrame [2] p fcsOk b)

/-- LSA_REFRESH. An own LSA is due (R379). -/
def execLsaRefresh (t : Nat) (s : State) : Outcome State Fault Refusal :=
  s.onCheck t CheckDie.lsaRefresh

/-- LSA_EXPIRY. 3 s without a refresh of an LSA (R379). -/
def execLsaExpiry (t : Nat) (uid : Octets) (s : State) : Outcome State Fault Refusal :=
  s.onCheck t (fun d => d.lsaExpiry uid)

/-- CLAIM_ROUND_END. A claim round ends (R380). -/
def execClaimRoundEnd (t : Nat) (s : State) : Outcome State Fault Refusal :=
  s.onCheck t CheckDie.claimRound

/-- ROUTE_COMPUTE_DONE. The routes are computed (R381). -/
def execRouteComputeDone (t : Nat) (s : State) : Outcome State Fault Refusal :=
  s.onCheck t CheckDie.routesDone

/-- FABRIC_PORT_DOWN. A port goes down (R381). -/
def execFabricPortDown (t p : Nat) (s : State) : Outcome State Fault Refusal :=
  s.onCheckIf t (p < 4) (fun d => d.portDown p)

/-- FABRIC_PORT_UP. A port comes up (R378). -/
def execFabricPortUp (t p : Nat) (s : State) : Outcome State Fault Refusal :=
  s.onCheckIf t (p < 4) (fun d => d.portUp p)

/-- PEER_ABSENCE_TIMEOUT. 60 s without a peer (R381). -/
def execPeerAbsenceTimeout (t node : Nat) (s : State) : Outcome State Fault Refusal :=
  s.onCheck t (fun d => d.peerAbsent node)

/-- ASSIGN. An ASSIGN frame (R383). -/
def execAssign (t p : Nat) (fcsOk : Bool) (b : Octets) (s : State) : Outcome State Fault Refusal :=
  s.onCheckIf t (p < 4) (fun d => d.fabFrame [3] p fcsOk b)

/-- MANAGER_LOST. The manager is lost (R384). -/
def execManagerLost (t : Nat) (s : State) : Outcome State Fault Refusal :=
  s.onCheck t CheckDie.managerLost

/-- HOLDING_END. 2 s of HOLDING (R384). -/
def execHoldingEnd (t : Nat) (s : State) : Outcome State Fault Refusal :=
  s.onCheck t CheckDie.holdingEnd

/-- CLAIM_BACKOFF_END. 1 s after a lost claim (R383). -/
def execClaimBackoffEnd (t : Nat) (s : State) : Outcome State Fault Refusal :=
  s.onCheck t CheckDie.backoffEnd

/-- FABRIC_RESTART. A session writes FABRIC_RESTART (R384). -/
def execFabricRestart (t slot v : Nat) (s : State) : Outcome State Fault Refusal :=
  s.act t (fun x => x.writeEntry slot Od.FABRIC_RESTART 0 v)

/-- PUT. A PUT frame (R385, R387). -/
def execPut (t p : Nat) (fcsOk : Bool) (b : Octets) (s : State) : Outcome State Fault Refusal :=
  s.onCheckIf t (p < 4) (fun d => d.fabFrame [0x10] p fcsOk b)

/-- GET. A GET frame (R385, R387). -/
def execGet (t p : Nat) (fcsOk : Bool) (b : Octets) (s : State) : Outcome State Fault Refusal :=
  s.onCheckIf t (p < 4) (fun d => d.fabFrame [0x11] p fcsOk b)

/-- FETCH_ADD. A FETCH_ADD frame (R385, R388). -/
def execFetchAdd (t p : Nat) (fcsOk : Bool) (b : Octets) (s : State) : Outcome State Fault Refusal :=
  s.onCheckIf t (p < 4) (fun d => d.fabFrame [0x12] p fcsOk b)

/-- CMP_SWAP. A CMP_SWAP frame (R385, R388). -/
def execCmpSwap (t p : Nat) (fcsOk : Bool) (b : Octets) (s : State) : Outcome State Fault Refusal :=
  s.onCheckIf t (p < 4) (fun d => d.fabFrame [0x13] p fcsOk b)

/-- RESPONSE. A RESPONSE frame (R386). -/
def execResponse (t p : Nat) (fcsOk : Bool) (b : Octets) (s : State) : Outcome State Fault Refusal :=
  s.onCheckIf t (p < 4) (fun d => d.fabFrame [0x20] p fcsOk b)

/-- ACK. An ACK frame (R386). -/
def execAck (t p : Nat) (fcsOk : Bool) (b : Octets) (s : State) : Outcome State Fault Refusal :=
  s.onCheckIf t (p < 4) (fun d => d.fabFrame [0x21] p fcsOk b)

/-- RETRANSMIT_TIMEOUT. The retransmission timer of a pair (R386). -/
def execRetransmitTimeout (t node : Nat) (s : State) : Outcome State Fault Refusal :=
  s.onCheck t (fun d => d.retransmit node)

/-- STANDALONE_ACK_TIMER. An owed acknowledgement is due (R386). -/
def execStandaloneAckTimer (t node : Nat) (s : State) : Outcome State Fault Refusal :=
  s.onCheck t (fun d => d.ackTimer node)

/-- SO_RERUN_DONE. A second-opinion rerun ends: its output, or none with the failing units (R391). -/
def execSoRerunDone (t node request : Nat) (out : Option SentOut) (bad : List (Nat × Nat)) (s : State) : Outcome State Fault Refusal :=
  s.onCheck t (fun d => d.soDone node request out bad)

/-- SO_BUDGET_EXPIRY. BUDGET_US of a second opinion (R391). -/
def execSoBudgetExpiry (t node request : Nat) (s : State) : Outcome State Fault Refusal :=
  s.onCheck t (fun d => d.soBudget node request)

/-- RELAY_DATAGRAM. A relay datagram from a client on MGMT (R393). -/
def execRelayDatagram (t origin : Nat) (b : Octets) (s : State) : Outcome State Fault Refusal :=
  s.onCheck t (fun d => d.relay origin b)

end Sys2Proof.Machine
end

