-- ==== Sys2Proof/Machine/Host.lean ====
section
/-! DEFINITION. The meanings of the commands of one family. The PCIe host (R403-R420). -/

namespace Sys2Proof.Machine

open Host

/-- REGISTER_WRITE. A host write to a BAR0 register (R318, R407). -/
def execRegisterWrite (t offset size v : Nat) (s : State) : Outcome State Fault Refusal :=
  if offset + size ≤ 67108864 then s.onHost t (fun d => d.registerWrite offset size v (s.dies.sd.names Od.MANIFEST_SLOT)) else .fault .outsideBar

/-- FUNCTION_LEVEL_RESET. A function-level reset (R404). -/
def execFunctionLevelReset (t : Nat) (s : State) : Outcome State Fault Refusal :=
  s.act t Dies.functionReset

/-- PERST. PERST# changes (R404). -/
def execPerst (t : Nat) (low : Bool) (s : State) : Outcome State Fault Refusal :=
  s.act t (fun x => x.perstLevel low)

/-- RESULT_INTAKE_WRITE. A PCIe write to BAR4 (R408-R410). -/
def execResultIntakeWrite (t offset requester : Nat) (b : Octets) (s : State) : Outcome State Fault Refusal :=
  if offset + b.length ≤ 16777216 then s.onHost t (fun d => d.intakeWrite offset requester b) else .fault .outsideBar

/-- SLOT_INCOMPLETE_TIMEOUT. A slot of a context stays incomplete (R410, R412). -/
def execSlotIncompleteTimeout (t c k : Nat) (s : State) : Outcome State Fault Refusal :=
  s.onCheckIf t (c < 256) (fun d => d.slotIncomplete c k)

/-- ORPHAN_TIMEOUT. A held record finds no entry (R411, R412). -/
def execOrphanTimeout (t c k : Nat) (s : State) : Outcome State Fault Refusal :=
  s.onCheckIf t (c < 256) (fun d => d.orphan c k)

/-- INTAKE_ENABLE. A session writes INTAKE_ENABLE of a context (R408). -/
def execIntakeEnable (t slot c v : Nat) (s : State) : Outcome State Fault Refusal :=
  s.act t (fun x => x.writeEntry slot Od.INTAKE_ENABLE c v)

/-- RING_ENABLE. A host write to RING_CTRL (R415). -/
def execRingEnable (t r v : Nat) (s : State) : Outcome State Fault Refusal :=
  s.onHostIf t (r < 3) (fun d => d.ringControl r v)

/-- RING_READ. A host write to RING_READ (R416). -/
def execRingRead (t r v : Nat) (s : State) : Outcome State Fault Refusal :=
  s.onHostIf t (r < 3) (fun d => d.ringRead r v)

/-- RING_WRITEBACK. A ring writeback is due (R415). -/
def execRingWriteback (t r : Nat) (s : State) : Outcome State Fault Refusal :=
  s.onHostIf t (r < 3) (fun d => d.ringWriteback r)

/-- RING_IRQ_TIMER. The interrupt timer of a ring (R417). -/
def execRingIrqTimer (t r : Nat) (s : State) : Outcome State Fault Refusal :=
  s.onHostIf t (r < 3) (fun d => d.ringTimer r)

/-- GTS_LO_READ. A host read of GTS_LO (R407). -/
def execGtsLoRead (t : Nat) (s : State) : Outcome State Fault Refusal :=
  s.onHost t CheckDie.gtsLatch

/-- WEIGHT_LOAD_GO. A host write of GO (R420). -/
def execWeightLoadGo (t : Nat) (s : State) : Outcome State Fault Refusal :=
  s.onHost t (fun d => d.weightGo (s.dies.sd.names Od.MANIFEST_SLOT))

/-- WEIGHT_LOAD_DONE. A weight load ends (R420, R137). -/
def execWeightLoadDone (t : Nat) (dma digestOk : Bool) (s : State) : Outcome State Fault Refusal :=
  s.onCheck t (fun d => d.weightDone dma digestOk)

end Sys2Proof.Machine
end

