-- ==== Sys2Proof/Machine/Ingress.lean ====
section
/-! DEFINITION. The meanings of the commands of one family. The stream porters (R38-R73): lock, frames, heartbeats, credit, time, stalls. -/

namespace Sys2Proof.Machine

open Host

/-- VI_BLOCK_LOCK_ACQUIRED. A stream's lanes are locked and aligned (R40, R68). -/
def execViBlockLockAcquired (t n : Nat) (s : State) : Outcome State Fault Refusal :=
  s.onCheckIf t (n < 12) (fun d => d.lockAcquired n)

/-- VI_BLOCK_LOCK_LOST. Block lock or alignment is lost (R66) with `got` payload bytes of the open item, the last at `last`. -/
def execViBlockLockLost (t n got last : Nat) (s : State) : Outcome State Fault Refusal :=
  s.onCheckIf t (n < 12) (fun d => d.lockLost n got last)

/-- STRAY_DATA_BLOCK. A data block outside an item (R41). -/
def execStrayDataBlock (t n : Nat) (s : State) : Outcome State Fault Refusal :=
  s.onCheckIf t (n < 12) (fun d => d.strayBlock n)

/-- PASSPORT_COMPLETE. VSTART and the 64 bytes of the passport have arrived (R41, R57). -/
def execPassportComplete (t n : Nat) (b : Octets) (lead : Lead) (s : State) : Outcome State Fault Refusal :=
  s.onCheckIf t (n < 12) (fun d => d.passportComplete n b lead)

/-- FRAME_T0. The last trailer byte of an item arrives: t0 (R20, R57). -/
def execFrameT0 (t n : Nat) (payload trailer : Octets) (vend errored : Bool) (s : State) : Outcome State Fault Refusal :=
  s.onCheckIf t (n < 12) (fun d => d.frameEnd n payload trailer vend errored)

/-- FRAME_GAP_TIMEOUT. FRAME_GAP_MAX_NS without a block of the open item (R61, R62). -/
def execFrameGapTimeout (t n got last : Nat) (s : State) : Outcome State Fault Refusal :=
  s.onCheckIf t (n < 12) (fun d => d.gapTimeout n got last)

/-- HEARTBEAT_ITEM. A heartbeat item of 16 bytes (R49). -/
def execHeartbeatItem (t n : Nat) (b : HeartItem) (s : State) : Outcome State Fault Refusal :=
  s.onCheckIf t (n < 12) (fun d => d.heartbeatItem n b)

/-- CREDIT_PERIOD. CREDIT is due (R52). -/
def execCreditPeriod (t n : Nat) (s : State) : Outcome State Fault Refusal :=
  s.onCheckIf t (n < 12) (fun d => d.creditPeriod n)

/-- TIME_PERIOD. TIME is due (R55). -/
def execTimePeriod (t n : Nat) (s : State) : Outcome State Fault Refusal :=
  s.onCheckIf t (n < 12) (fun d => d.timePeriod n)

/-- RESYNC_REQ_REPEAT. RESYNC_REQ is repeated (R56). -/
def execResyncReqRepeat (t n : Nat) (s : State) : Outcome State Fault Refusal :=
  s.onCheckIf t (n < 12) (fun d => d.resyncRepeat n)

/-- NO_INPUT_SLOT. A slot ends without a frame (R64). -/
def execNoInputSlot (t n : Nat) (s : State) : Outcome State Fault Refusal :=
  s.onCheckIf t (n < 12) (fun d => d.noInputSlot n)

/-- STALL_LIMIT_TIMEOUT. The stall timer reaches STALL_LIMIT_US (R68). -/
def execStallLimitTimeout (t : Nat) (q : Quiet) (s : State) : Outcome State Fault Refusal :=
  s.onCheckIf t (q.stream < 12) (fun d => d.stallLimit q)

/-- STALL_SAFE_TIMEOUT. STALL_SAFE_US of a STRICT stream (R68). -/
def execStallSafeTimeout (t : Nat) (q : Quiet) (s : State) : Outcome State Fault Refusal :=
  s.onCheckIf t (q.stream < 12) (fun d => d.stallSafe q)

/-- STREAM_RESTART. A session writes STREAM_RESTART (R56, R68). -/
def execStreamRestart (t slot n v : Nat) (s : State) : Outcome State Fault Refusal :=
  s.act t (fun x => x.writeEntry slot Od.STREAM_RESTART n v)

end Sys2Proof.Machine
end

