-- ==== Sys2Proof/Machine/Injection.lean ====
section
/-! DEFINITION. The meanings of the commands of one family. Fault injection (R453-R465). -/

namespace Sys2Proof.Machine

open Host

/-- ARM. A session writes 1 to ARM of an injector (R453, R454). -/
def execArm (t slot j : Nat) (s : State) : Outcome State Fault Refusal :=
  s.act t (fun x => x.writeEntry slot Od.ARM j 1)

/-- DISARM. A session writes 0 to ARM of an injector (R455). -/
def execDisarm (t slot j : Nat) (s : State) : Outcome State Fault Refusal :=
  s.act t (fun x => x.writeEntry slot Od.ARM j 0)

/-- INJECT_DURATION_END. DURATION_MS after an injector was armed (R455). -/
def execInjectDurationEnd (t j : Nat) (s : State) : Outcome State Fault Refusal :=
  s.act t (fun x => x.durationEnd j)

/-- INJECT_HELD_RELEASE. An injector's DELAY_NS ends (R457). -/
def execInjectHeldRelease (t j : Nat) (s : State) : Outcome State Fault Refusal :=
  s.act t (fun x => x.heldRelease j)

end Sys2Proof.Machine
end

