-- ==== Sys2Proof/Machine/KeeperPair.lean ====
section
/-! DEFINITION. The meanings of the commands of one family. The keeper pair (R229-R242). -/

namespace Sys2Proof.Machine

open Host

/-- COMPARE_WORD. A cycle of the pair (R229-R235): the compare words that each core would commit, whether each comparator misreports, the
outside input that K0 takes, whether the stores found a corrected or an uncorrectable error, whether the firmware declared a trap
fatal. -/
def execCompareWord (t : Nat) (k0 k1 : Option Nat) (wrongX wrongY : Bool) (input : Option Nat) (corrected uncorrectable fatal : Bool)
    (s : State) : Outcome State Fault Refusal :=
  s.onSafety t (fun s => s.compareWord k0 k1 wrongX wrongY input corrected uncorrectable fatal)

/-- COMPARATOR_INJECTION. An injected pair reaches the comparators (R237): whether each reports wrongly. -/
def execComparatorInjection (t : Nat) (wrongX wrongY : Bool) (s : State) : Outcome State Fault Refusal :=
  s.onSafety t (fun s => s.injectPair wrongX wrongY)

/-- DEBUG_HALT. A debugger halts the keeper pair (R238). -/
def execDebugHalt (t : Nat) (s : State) : Outcome State Fault Refusal :=
  s.onSafety t SafetyDie.debugHalt

/-- DEBUG_RESUME. The halt ends (R309). -/
def execDebugResume (t : Nat) (s : State) : Outcome State Fault Refusal :=
  s.onSafety t SafetyDie.debugResume

/-- SPLIT_APP_TRAP. An access of K1 outside its space traps in SPLIT (R241). -/
def execSplitAppTrap (t : Nat) (s : State) : Outcome State Fault Refusal :=
  s.onSafety t SafetyDie.splitTrap

/-- SOFTWARE_SELF_TEST. The self-test library runs in SPLIT (R242). -/
def execSoftwareSelfTest (t : Nat) (s : State) : Outcome State Fault Refusal :=
  s.onSafety t SafetyDie.libraryTest

end Sys2Proof.Machine
end

