-- ==== Sys2Proof/Machine/PowerReset.lean ====
section
/-! DEFINITION. The meanings of the commands of one family. Resets, boot, power, temperature and identity (R429-R452, R482-R496). -/

namespace Sys2Proof.Machine

open Host

/-- CLOCK_LOSS. A clock is lost (R30): 0 XTAL_25, 1 PLL_KEEP, 2 the AO clock, else one of the check die. -/
def execClockLoss (t which : Nat) (s : State) : Outcome State Fault Refusal :=
  s.act t (fun x => x.clockLoss t which)

/-- KILL_POWER_DELAY. 10 µs after SD_CD_KILL (R257). -/
def execKillPowerDelay (t : Nat) (s : State) : Outcome State Fault Refusal :=
  s.onSafety t SafetyDie.killPower

/-- KILL_HOLD_END. SD_CD_KILL has been held long enough (R257). -/
def execKillHoldEnd (t : Nat) (s : State) : Outcome State Fault Refusal :=
  s.act t Dies.killHoldEnd

/-- CD_RESET_LOCKED_CLEAR. A session writes CD_RESET_LOCKED (R259). -/
def execCdResetLockedClear (t slot v : Nat) (s : State) : Outcome State Fault Refusal :=
  s.act t (fun x => x.writeEntry slot Od.CD_RESET_LOCKED 0 v)

/-- CHECK_DIE_RESET_END. The check-die reset ends (R199, R437): images found bad by kind and slot, failed cluster self-tests. -/
def execCheckDieResetEnd (t : Nat) (bad fails : List (Nat × Nat)) (s : State) : Outcome State Fault Refusal :=
  s.act t (fun x => x.resetEnded bad fails)

/-- POR. POR is released (R435, R439, R482): VBAT lost too, guest-book items lost or repaired. -/
def execPor (t : Nat) (vbat : Bool) (lost : List GuestItem) (repaired : Bool) (s : State) : Outcome State Fault Refusal :=
  s.onSafety t (fun s => s.por vbat lost repaired)

/-- SUPPLY_MONITOR_TRIP. A safety-die rail leaves its limits (R483). -/
def execSupplyMonitorTrip (t : Nat) (s : State) : Outcome State Fault Refusal :=
  s.act t Dies.supplyTrip

/-- RESET_N. RESET_N has been low for `ns` (R436). -/
def execResetN (t ns : Nat) (s : State) : Outcome State Fault Refusal :=
  s.onSafety t (fun s => s.resetN ns)

/-- RESET_N_RELEASE. RESET_N is released (R436, R442). -/
def execResetNRelease (t : Nat) (lost : List GuestItem) (repaired : Bool) (s : State) : Outcome State Fault Refusal :=
  s.onSafety t (fun s => s.resetNEnd lost repaired)

/-- SAFETY_RESET_END. A safety reset ends (R435). -/
def execSafetyResetEnd (t : Nat) (lost : List GuestItem) (repaired : Bool) (s : State) : Outcome State Fault Refusal :=
  s.onSafety t (fun s => s.safetyEnd lost repaired)

/-- WARM_RESET. A session writes WARM_RESET (R435). -/
def execWarmReset (t slot v : Nat) (s : State) : Outcome State Fault Refusal :=
  s.act t (fun x => x.writeEntry slot Od.WARM_RESET 0 v)

/-- CHECK_DIE_RESET. A session writes CHECK_DIE_RESET (R258). -/
def execCheckDieReset (t slot v : Nat) (s : State) : Outcome State Fault Refusal :=
  s.act t (fun x => x.writeEntry slot Od.CHECK_DIE_RESET 0 v)

/-- BOOT_IMAGE_CHECKED. The boot ROM has checked the image and the P store, and checks the SPLIT application under the enrolled
integrator keys (R240, R441, R444). -/
def execBootImageChecked (t fault : Nat) (store : StoreRead) (keys : List Octets) (s : State) : Outcome State Fault Refusal :=
  s.act t (fun x => x.imageChecked fault store keys)

/-- SELFTEST_DONE. The self-tests end (R236, R443). -/
def execSelftestDone (t : Nat) (report : SelftestReport) (outs ms : Nat) (s : State) : Outcome State Fault Refusal :=
  s.onSafety t (fun s => s.selftestDone report outs ms)

/-- BOOT_TEMPERATURE_RESUME. Sensors are read again in BOOT (R493). -/
def execBootTemperatureResume (t : Nat) (readings : List (Nat × Int)) (s : State) : Outcome State Fault Refusal :=
  s.onSafety t (fun s => s.temperatureResume readings)

/-- FW_IMAGE. A session writes FW_IMAGE (R446). -/
def execFwImage (t slot : Nat) (image : ImageBody) (last : Bool) (s : State) : Outcome State Fault Refusal :=
  s.act t (fun x => x.writeBody slot Od.FW_IMAGE 0 image last)

/-- FW_IMAGE_STORED. The firmware image has been programmed (R446). -/
def execFwImageStored (t : Nat) (ok : Bool) (s : State) : Outcome State Fault Refusal :=
  s.act t (fun x => x.imageStored ok)

/-- RUN_REQUEST. A session writes RUN_REQUEST (R427). -/
def execRunRequest (t slot v : Nat) (s : State) : Outcome State Fault Refusal :=
  s.act t (fun x => x.writeEntry slot Od.RUN_REQUEST 0 v)

/-- SERVICE_REQUEST_ENTER. A session writes 1 to SERVICE_REQUEST (R427). -/
def execServiceRequestEnter (t slot : Nat) (s : State) : Outcome State Fault Refusal :=
  s.act t (fun x => x.writeEntry slot Od.SERVICE_REQUEST 0 1)

/-- SERVICE_REQUEST_LEAVE. A session writes 0 to SERVICE_REQUEST (R427). -/
def execServiceRequestLeave (t slot : Nat) (s : State) : Outcome State Fault Refusal :=
  s.act t (fun x => x.writeEntry slot Od.SERVICE_REQUEST 0 0)

/-- POWER_REQUEST. A session writes POWER_REQUEST (R430). -/
def execPowerRequest (t slot v : Nat) (s : State) : Outcome State Fault Refusal :=
  s.act t (fun x => x.writeEntry slot Od.POWER_REQUEST 0 v)

/-- WAKE_EVENT. A wake event (R433). -/
def execWakeEvent (t source : Nat) (s : State) : Outcome State Fault Refusal :=
  s.act t (fun x => x.wake source)

/-- CLUSTER_GATE_IDLE. A cluster has been idle for GATE_IDLE_US (R429). -/
def execClusterGateIdle (t c : Nat) (s : State) : Outcome State Fault Refusal :=
  s.onCheckIf t (c < 16) (fun d => d.gateIdle c)

/-- SELF_REFRESH_REPORT. LPDDR5X is in self-refresh (R431, R437). -/
def execSelfRefreshReport (t : Nat) (s : State) : Outcome State Fault Refusal :=
  s.act t Dies.selfRefresh

/-- PG_CD_RISE. PG_CD rises (R484). -/
def execPgCdRise (t : Nat) (s : State) : Outcome State Fault Refusal :=
  s.onSafety t SafetyDie.pgRise

/-- CHECK_DIE_RESET_RELEASE. 1 ms after PG_CD rose (R442, R484). -/
def execCheckDieResetRelease (t : Nat) (s : State) : Outcome State Fault Refusal :=
  s.act t Dies.resetRelease

/-- PG_CD_TIMEOUT. 20 ms without PG_CD (R484). -/
def execPgCdTimeout (t : Nat) (s : State) : Outcome State Fault Refusal :=
  s.onSafety t SafetyDie.pgTimeout

/-- PG_CD_FALL. PG_CD falls (R486). -/
def execPgCdFall (t : Nat) (s : State) : Outcome State Fault Refusal :=
  s.onSafety t SafetyDie.pgFall

/-- THERMAL_WARN. A sensor reads at or above Tmax (R493), in 1/16 degree. -/
def execThermalWarn (t sensor : Nat) (reading : Int) (s : State) : Outcome State Fault Refusal :=
  s.onSafety t (fun s => s.thermalWarn sensor reading)

/-- THERMAL_CLEAR. A sensor's reading falls (R493). -/
def execThermalClear (t sensor : Nat) (reading : Int) (s : State) : Outcome State Fault Refusal :=
  s.onSafety t (fun s => s.thermalClear sensor reading)

/-- CHECK_DIE_THERMAL_TRIP. A check-die sensor trips (R493). -/
def execCheckDieThermalTrip (t sensor : Nat) (reading : Int) (s : State) : Outcome State Fault Refusal :=
  s.act t (fun x => x.checkThermal t sensor reading)

/-- SAFETY_DIE_THERMAL_TRIP. A safety-die sensor trips (R493). -/
def execSafetyDieThermalTrip (t sensor : Nat) (reading : Int) (s : State) : Outcome State Fault Refusal :=
  s.onSafety t (fun s => s.safetyThermal sensor reading)

/-- ATTEST_NONCE. A session writes ATTEST_NONCE (R450). -/
def execAttestNonce (t slot : Nat) (nonce : Octets) (s : State) : Outcome State Fault Refusal :=
  s.act t (fun x => x.writeOctets slot Od.ATTEST_NONCE 0 nonce)

/-- ATTEST_SIGNED. The signature engine has signed a report (R450). -/
def execAttestSigned (t : Nat) (s : State) : Outcome State Fault Refusal :=
  s.act t Dies.attestSigned

/-- SEC_VERSION_RAISE. A session writes SEC_VERSION_RAISE (R447). -/
def execSecVersionRaise (t slot v : Nat) (s : State) : Outcome State Fault Refusal :=
  s.act t (fun x => x.writeEntry slot Od.SEC_VERSION_RAISE 0 v)

/-- DEVICE_CERT. A session writes DEVICE_CERT (R449). -/
def execDeviceCert (t slot : Nat) (image : ImageBody) (last : Bool) (s : State) : Outcome State Fault Refusal :=
  s.act t (fun x => x.writeBody slot Od.DEVICE_CERT 0 image last)

end Sys2Proof.Machine
end

