-- ==== Sys2Proof/Machine/Release.lean ====
section
/-! DEFINITION. The meanings of the commands of one family. The toll gate (R205-R228). -/

namespace Sys2Proof.Machine

open Host

/-- CONSUMER_CREDIT. A CREDIT item of 16 bytes on a VE lane (R208, R212). -/
def execConsumerCredit (t l : Nat) (kindOk : Bool) (b : Octets) (s : State) : Outcome State Fault Refusal :=
  s.onCheckIf t (l < 4) (fun d => d.takeCredit l kindOk b)

/-- VE_RX_LOCK_REGAINED. A VE lane regains receive lock (R213). -/
def execVeRxLockRegained (t l : Nat) (s : State) : Outcome State Fault Refusal :=
  s.onCheckIf t (l < 4) (fun d => d.veLockRegained l)

/-- VE_RX_LOCK_LOST. A VE lane loses receive lock (R213). -/
def execVeRxLockLost (t l : Nat) (s : State) : Outcome State Fault Refusal :=
  s.onCheckIf t (l < 4) (fun d => d.veLockLost l)

/-- EGRESS_RECORD_START. The next due record of a lane may start (R214, R215). -/
def execEgressRecordStart (t l : Nat) (s : State) : Outcome State Fault Refusal :=
  s.onCheckIf t (l < 4) (fun d => d.egressStart l)

/-- VE_HEARTBEAT_PERIOD. A consumer's HEARTBEAT is due (R216). -/
def execVeHeartbeatPeriod (t c : Nat) (s : State) : Outcome State Fault Refusal :=
  s.onCheckIf t (c < 256) (fun d => d.egressHeartbeat c)

/-- RELEASE_WAIT_TIMEOUT. RELEASE_WAIT_US of a RESULT that cannot start (R224). -/
def execReleaseWaitTimeout (t c entry : Nat) (s : State) : Outcome State Fault Refusal :=
  s.onCheckIf t (c < 256) (fun d => d.dropResult c entry)

end Sys2Proof.Machine
end

