-- ==== Sys2Proof/Machine/SafetyInputs.lean ====
section
/-! DEFINITION. The meanings of the commands of one family. The safety inputs (R266-R275). -/

namespace Sys2Proof.Machine

open Host

/-- SAFETY_INPUT_EDGE. A raw level of a pair changes (R267). -/
def execSafetyInputEdge (t pair : Nat) (isB level : Bool) (s : State) : Outcome State Fault Refusal :=
  s.onSafetyIf t (pair < 8) (fun s => s.inputEdge pair isB level)

/-- INPUT_FILTER_ELAPSED. A channel has held its level for FILTER_US at the evaluators named (R267, R273). -/
def execInputFilterElapsed (t pair : Nat) (isB hbl keeper : Bool) (s : State) : Outcome State Fault Refusal :=
  s.onSafetyIf t (pair < 8) (fun s => s.filterElapsed pair isB hbl keeper)

/-- DISCREPANCY_TIMEOUT. The discrepancy time of a pair (R269, R270). -/
def execDiscrepancyTimeout (t pair : Nat) (s : State) : Outcome State Fault Refusal :=
  s.onSafetyIf t (pair < 8) (fun s => s.discrepancy pair)

/-- TEST_PULSE_WINDOW. The sample of a test-pulse window (R271). -/
def execTestPulseWindow (t pair : Nat) (sourceB a b before : Bool) (s : State) : Outcome State Fault Refusal :=
  s.onSafetyIf t (pair < 8) (fun s => s.pulseWindow pair sourceB a b before)

/-- TEST_PULSE_HOLD_END. The hold around a test pulse ends (R272). -/
def execTestPulseHoldEnd (t pair : Nat) (isB : Bool) (s : State) : Outcome State Fault Refusal :=
  s.onSafetyIf t (pair < 8) (fun s => s.pulseHoldEnd pair isB)

/-- EVALUATOR_DISAGREE_TIMEOUT. The evaluators have differed too long (R273). -/
def execEvaluatorDisagreeTimeout (t pair : Nat) (s : State) : Outcome State Fault Refusal :=
  s.onSafetyIf t (pair < 8) (fun s => s.disagree pair)

/-- FAULT_TEST_RELEASE. FAULT_TEST may be released (R271). -/
def execFaultTestRelease (t pair : Nat) (s : State) : Outcome State Fault Refusal :=
  s.onSafetyIf t (pair < 8) (fun s => s.testRelease pair)

end Sys2Proof.Machine
end

