-- ==== Sys2Proof/Machine/SharedTime.lean ====
section
/-! DEFINITION. The meanings of the commands of one family. Shared time (R394-R400, R402). -/

namespace Sys2Proof.Machine

open Host

/-- PTP_SYNC. A Sync arrives on a port, 4 being MGMT (R395). -/
def execPtpSync (t p : Nat) (m : PtpMsg) (residence : Nat) (s : State) : Outcome State Fault Refusal :=
  s.onCheckIf t (p < 5) (fun d => d.ptpArrives p { m with kind := 0 } residence)

/-- PTP_FOLLOW_UP. A Follow_Up arrives (R395). -/
def execPtpFollowUp (t p : Nat) (m : PtpMsg) (residence : Nat) (s : State) : Outcome State Fault Refusal :=
  s.onCheckIf t (p < 5) (fun d => d.ptpArrives p { m with kind := 8 } residence)

/-- PTP_DELAY_REQ. A Delay_Req arrives (R395). -/
def execPtpDelayReq (t p : Nat) (m : PtpMsg) (residence : Nat) (s : State) : Outcome State Fault Refusal :=
  s.onCheckIf t (p < 5) (fun d => d.ptpArrives p { m with kind := 1 } residence)

/-- PTP_DELAY_RESP. A Delay_Resp arrives (R395). -/
def execPtpDelayResp (t p : Nat) (m : PtpMsg) (residence : Nat) (s : State) : Outcome State Fault Refusal :=
  s.onCheckIf t (p < 5) (fun d => d.ptpArrives p { m with kind := 9 } residence)

/-- PTP_PDELAY_REQ. A Pdelay_Req arrives (R396). -/
def execPtpPdelayReq (t p : Nat) (m : PtpMsg) (residence : Nat) (s : State) : Outcome State Fault Refusal :=
  s.onCheckIf t (p < 5) (fun d => d.ptpArrives p { m with kind := 2 } residence)

/-- PTP_PDELAY_RESP. A Pdelay_Resp or its follow-up arrives (R396). -/
def execPtpPdelayResp (t p : Nat) (m : PtpMsg) (residence : Nat) (followUp : Bool) (s : State) : Outcome State Fault Refusal :=
  s.onCheckIf t (p < 5) (fun d => d.ptpArrives p { m with kind := if followUp then 10 else 3 } residence)

/-- PTP_ANNOUNCE. An Announce arrives (R395). -/
def execPtpAnnounce (t p : Nat) (m : PtpMsg) (residence : Nat) (s : State) : Outcome State Fault Refusal :=
  s.onCheckIf t (p < 5) (fun d => d.ptpArrives p { m with kind := 11 } residence)

/-- PTP_MANAGEMENT_GET. A management GET arrives (R395). -/
def execPtpManagementGet (t p : Nat) (m : PtpMsg) (residence : Nat) (s : State) : Outcome State Fault Refusal :=
  s.onCheckIf t (p < 5) (fun d => d.ptpArrives p { m with kind := 13 } residence)

/-- PTP_SYNC_SEND. A Sync is due (R395). -/
def execPtpSyncSend (t : Nat) (s : State) : Outcome State Fault Refusal :=
  s.onCheck t CheckDie.ptpSyncSend

/-- PTP_ANNOUNCE_SEND. An Announce is due (R395). -/
def execPtpAnnounceSend (t : Nat) (s : State) : Outcome State Fault Refusal :=
  s.onCheck t CheckDie.ptpAnnounceSend

/-- PTP_DELAY_REQUEST_SEND. A Delay_Req or Pdelay_Req is due (R395). -/
def execPtpDelayRequestSend (t : Nat) (s : State) : Outcome State Fault Refusal :=
  s.onCheck t CheckDie.ptpDelaySend

/-- REFERENCE_TIMEOUT. The time reference is silent (R397). -/
def execReferenceTimeout (t : Nat) (s : State) : Outcome State Fault Refusal :=
  s.onCheck t CheckDie.referenceTimeout

/-- PPS_IN_EDGE. A PPS_IN edge (R399). -/
def execPpsInEdge (t : Nat) (s : State) : Outcome State Fault Refusal :=
  s.onCheck t CheckDie.ppsEdge

/-- PPS_OUT_RISE. PPS_OUT rises (R399). -/
def execPpsOutRise (t : Nat) (s : State) : Outcome State Fault Refusal :=
  s.onCheck t CheckDie.ppsRise

/-- PPS_OUT_FALL. PPS_OUT falls (R399). -/
def execPpsOutFall (t : Nat) (s : State) : Outcome State Fault Refusal :=
  s.onCheck t CheckDie.ppsFall

/-- PTM_PERIOD. A PTM dialogue is due (R400). -/
def execPtmPeriod (t : Nat) (s : State) : Outcome State Fault Refusal :=
  s.onCheck t CheckDie.ptmPeriod

/-- PTM_RESPONSE. A PTM Response (R400). -/
def execPtmResponse (t master delay : Nat) (s : State) : Outcome State Fault Refusal :=
  s.onCheck t (fun d => d.ptmResponse master delay)

/-- TIME_STEP_NS. A session writes TIME_STEP_NS (R398); `v` is the 64-bit pattern. -/
def execTimeStepNs (t slot v : Nat) (s : State) : Outcome State Fault Refusal :=
  s.act t (fun x => x.writeEntry slot Od.TIME_STEP_NS 0 v)

/-- RTC_SET. The RTC is set from GTS (R394). -/
def execRtcSet (t : Nat) (s : State) : Outcome State Fault Refusal :=
  s.act t Dies.rtcSet

end Sys2Proof.Machine
end

