-- ==== Sys2Proof/Machine/Verdicts.lean ====
section
/-! DEFINITION. The meanings of the commands of one family. Lantern sets, maps and second opinions (R169-R185, R192, R203). -/

namespace Sys2Proof.Machine

open Host

/-- LANTERN_SET_WRITE. A session writes LANTERN_SET of a stream (R169, R203). -/
def execLanternSetWrite (t slot n : Nat) (image : LanternSet) (last : Bool) (s : State) : Outcome State Fault Refusal :=
  s.act t (fun x => x.writeBody slot Od.LANTERN_SET n (.lanterns image) last)

/-- LANTERN_SET_VERIFY_DONE. The checks of a lantern set end (R170). -/
def execLanternSetVerifyDone (t n : Nat) (s : State) : Outcome State Fault Refusal :=
  s.onCheckIf t (n < 12) (fun d => d.setVerified n)

/-- MAP_IMAGE_WRITE. A session writes MAP_IMAGE of map slot `k` (R184, R203). -/
def execMapImageWrite (t slot k : Nat) (image : CompatMap) (last : Bool) (s : State) : Outcome State Fault Refusal :=
  s.act t (fun x => x.writeBody slot Od.MAP_IMAGE k (.map image) last)

/-- MAP_VERIFY_DONE. The checks of a map end (R185). -/
def execMapVerifyDone (t k : Nat) (s : State) : Outcome State Fault Refusal :=
  s.onCheckIf t (k < 16) (fun d => d.mapVerified k)

/-- SECOND_OPINION_TIMEOUT. SECOND_OPINION_MS after a request (R192, R193); frames that a fence of its attribution abandons (R104)
receive their verdicts. -/
def execSecondOpinionTimeout (t opinion : Nat) (s : State) : Outcome State Fault Refusal :=
  s.onCheck t (fun d => (d.opinionTimeout opinion).composeDue)

end Sys2Proof.Machine
end

