-- ==== Sys2Proof/Machine/Watchdogs.lean ====
section
/-! DEFINITION. The meanings of the commands of one family. The watchdogs and roll call (R296-R318). -/

namespace Sys2Proof.Machine

open Host

/-- WDS_SERVICE_STORE. The keeper firmware stores to the WDS service register (R296, R299). -/
def execWdsServiceStore (t v : Nat) (s : State) : Outcome State Fault Refusal :=
  s.onSafety t (fun s => s.wdsStore v)

/-- WDH_SVC. A host write to WDH_SVC arrives at the safety die (R299, R318). -/
def execWdhSvc (t seq v : Nat) (s : State) : Outcome State Fault Refusal :=
  s.onSafetyLink t (fun s => s.flitArrives seq (flitHostWrite 0x2004 v))

/-- SERVICE_ARM_LAPSE. The armed service register of a watchdog lapses (R299). -/
def execServiceArmLapse (t : Nat) (host : Bool) (s : State) : Outcome State Fault Refusal :=
  s.onSafety t (fun s => s.armLapse host)

/-- WATCHDOG_EXPIRY. A watchdog's count reaches TIMEOUT (R300). -/
def execWatchdogExpiry (t : Nat) (host : Bool) (s : State) : Outcome State Fault Refusal :=
  s.onSafety t (fun s => s.dogExpiry host)

/-- GRACE_EXPIRY. A watchdog's grace time ends (R302). -/
def execGraceExpiry (t : Nat) (host : Bool) (s : State) : Outcome State Fault Refusal :=
  s.onSafety t (fun s => s.graceExpiry host)

/-- CLOCK_MONITOR_TRIP. The clock monitor of a watchdog trips (R298). -/
def execClockMonitorTrip (t : Nat) (host : Bool) (s : State) : Outcome State Fault Refusal :=
  s.onSafety t (fun s => s.clockTrip host)

/-- WDH_ENABLE. A host write of EN = 1 to WDH_CTRL arrives (R306). -/
def execWdhEnable (t seq : Nat) (s : State) : Outcome State Fault Refusal :=
  s.onSafetyLink t (fun s => s.flitArrives seq (flitHostWrite 0x2000 1))

/-- WDH_DISABLE. A host write of EN = 0 to WDH_CTRL arrives (R306). -/
def execWdhDisable (t seq : Nat) (s : State) : Outcome State Fault Refusal :=
  s.onSafetyLink t (fun s => s.flitArrives seq (flitHostWrite 0x2000 0))

/-- WDH_LOCK. A host write of LOCK = 1 to WDH_CTRL arrives, with EN as given (R307). -/
def execWdhLock (t seq : Nat) (en : Bool) (s : State) : Outcome State Fault Refusal :=
  s.onSafetyLink t (fun s => s.flitArrives seq (flitHostWrite 0x2000 (2 + b01 en)))

/-- WDH_KEY. A host write to WDH_KEY arrives (R306). -/
def execWdhKey (t seq v : Nat) (s : State) : Outcome State Fault Refusal :=
  s.onSafetyLink t (fun s => s.flitArrives seq (flitHostWrite 0x2008 v))

/-- DISABLE_SEQUENCE_LAPSE. 16 ticks after the second key (R306). -/
def execDisableSequenceLapse (t : Nat) (s : State) : Outcome State Fault Refusal :=
  s.onSafety t SafetyDie.disableLapse

/-- RC_CHECKIN. A host write to RC_CHECKIN arrives (R311). -/
def execRcCheckin (t seq v : Nat) (s : State) : Outcome State Fault Refusal :=
  s.onSafetyLink t (fun s => s.flitArrives seq (flitHostWrite 0x2040 v))

/-- ROLL_CALL_CYCLE_END. A roll-call cycle ends (R312). -/
def execRollCallCycleEnd (t : Nat) (s : State) : Outcome State Fault Refusal :=
  s.onSafety t SafetyDie.cycleEnd

/-- STATUS_IMAGE_REFRESH. The host images of safety-die registers are refreshed (R318, R407). -/
def execStatusImageRefresh (t : Nat) (s : State) : Outcome State Fault Refusal :=
  s.act t Dies.refreshImage

end Sys2Proof.Machine
end

