-- ==== Sys2Proof/Machine/Dispatch.lean ====
section
/-! DEFINITION. The meaning of every command, one arm per constructor. -/

namespace Sys2Proof.Machine

/-- The effect of a command on everything but the queue. -/
def exec (i : Instr) (s : State) : Host.Outcome State Fault Refusal :=
  match i with
  | .clockLoss t which => Sys2Proof.Machine.execClockLoss t which s
  | .viBlockLockAcquired t n => Sys2Proof.Machine.execViBlockLockAcquired t n s
  | .viBlockLockLost t n got last => Sys2Proof.Machine.execViBlockLockLost t n got last s
  | .strayDataBlock t n => Sys2Proof.Machine.execStrayDataBlock t n s
  | .passportComplete t n b vstart => Sys2Proof.Machine.execPassportComplete t n b vstart s
  | .frameT0 t n payload trailer vend errored => Sys2Proof.Machine.execFrameT0 t n payload trailer vend errored s
  | .frameGapTimeout t n got last => Sys2Proof.Machine.execFrameGapTimeout t n got last s
  | .heartbeatItem t n b => Sys2Proof.Machine.execHeartbeatItem t n b s
  | .creditPeriod t n => Sys2Proof.Machine.execCreditPeriod t n s
  | .timePeriod t n => Sys2Proof.Machine.execTimePeriod t n s
  | .resyncReqRepeat t n => Sys2Proof.Machine.execResyncReqRepeat t n s
  | .noInputSlot t n => Sys2Proof.Machine.execNoInputSlot t n s
  | .stallLimitTimeout t n => Sys2Proof.Machine.execStallLimitTimeout t n s
  | .stallSafeTimeout t n => Sys2Proof.Machine.execStallSafeTimeout t n s
  | .streamRestart t slot n v => Sys2Proof.Machine.execStreamRestart t slot n v s
  | .tileComplete t entry c opDesc lanes => Sys2Proof.Machine.execTileComplete t entry c opDesc lanes s
  | .spectralTransformComplete t entry c opDesc points window errs re im faults wrongEnergy => Sys2Proof.Machine.execSpectralTransformComplete t entry c opDesc points window errs re im faults wrongEnergy s
  | .sentinelReady t entry out headA headB elems => Sys2Proof.Machine.execSentinelReady t entry out headA headB elems s
  | .resultDeadline t entry => Sys2Proof.Machine.execResultDeadline t entry s
  | .macPhaseDeadline t entry c => Sys2Proof.Machine.execMacPhaseDeadline t entry c s
  | .boundTest t c measured stored => Sys2Proof.Machine.execBoundTest t c measured stored s
  | .watchWindowExpiry t c row => Sys2Proof.Machine.execWatchWindowExpiry t c row s
  | .replanComplete t => Sys2Proof.Machine.execReplanComplete t s
  | .fenceClear t slot v => Sys2Proof.Machine.execFenceClear t slot v s
  | .arrayRetest t slot v => Sys2Proof.Machine.execArrayRetest t slot v s
  | .retestClusterDone t rows failed extremes => Sys2Proof.Machine.execRetestClusterDone t rows failed extremes s
  | .sramScrubPass t clusterFixed otherFixed bad => Sys2Proof.Machine.execSramScrubPass t clusterFixed otherFixed bad s
  | .lpddr5xScrubPass t fixed bad => Sys2Proof.Machine.execLpddr5xScrubPass t fixed bad s
  | .packageImageWrite t slot k image last => Sys2Proof.Machine.execPackageImageWrite t slot k image last s
  | .packageVerifyDone t k => Sys2Proof.Machine.execPackageVerifyDone t k s
  | .manifestImageWrite t slot k image last => Sys2Proof.Machine.execManifestImageWrite t slot k image last s
  | .manifestVerifyDone t k => Sys2Proof.Machine.execManifestVerifyDone t k s
  | .auditEpochEnd t => Sys2Proof.Machine.execAuditEpochEnd t s
  | .landingZoneWrite t offset requester b => Sys2Proof.Machine.execLandingZoneWrite t offset requester b s
  | .deliveryChecksDone t audit => Sys2Proof.Machine.execDeliveryChecksDone t audit s
  | .deliverByTimeout t audit => Sys2Proof.Machine.execDeliverByTimeout t audit s
  | .finalPassStart t epoch => Sys2Proof.Machine.execFinalPassStart t epoch s
  | .batchPassDone t p => Sys2Proof.Machine.execBatchPassDone t p s
  | .allowanceEnd t epoch => Sys2Proof.Machine.execAllowanceEnd t epoch s
  | .lanternSetWrite t slot n image last => Sys2Proof.Machine.execLanternSetWrite t slot n image last s
  | .lanternSetVerifyDone t n => Sys2Proof.Machine.execLanternSetVerifyDone t n s
  | .mapImageWrite t slot k image last => Sys2Proof.Machine.execMapImageWrite t slot k image last s
  | .mapVerifyDone t k => Sys2Proof.Machine.execMapVerifyDone t k s
  | .secondOpinionTimeout t opinion => Sys2Proof.Machine.execSecondOpinionTimeout t opinion s
  | .consumerCredit t l kindOk b => Sys2Proof.Machine.execConsumerCredit t l kindOk b s
  | .veRxLockRegained t l => Sys2Proof.Machine.execVeRxLockRegained t l s
  | .egressRecordStart t l => Sys2Proof.Machine.execEgressRecordStart t l s
  | .veHeartbeatPeriod t c => Sys2Proof.Machine.execVeHeartbeatPeriod t c s
  | .releaseWaitTimeout t c entry => Sys2Proof.Machine.execReleaseWaitTimeout t c entry s
  | .compareWord t k0 k1 wrongX wrongY input corrected uncorrectable fatal => Sys2Proof.Machine.execCompareWord t k0 k1 wrongX wrongY input corrected uncorrectable fatal s
  | .comparatorInjection t wrongX wrongY => Sys2Proof.Machine.execComparatorInjection t wrongX wrongY s
  | .debugHalt t => Sys2Proof.Machine.execDebugHalt t s
  | .debugResume t => Sys2Proof.Machine.execDebugResume t s
  | .splitAppTrap t => Sys2Proof.Machine.execSplitAppTrap t s
  | .corruptFlit t toCheck => Sys2Proof.Machine.execCorruptFlit t toCheck s
  | .verdictToken t seq payload split => Sys2Proof.Machine.execVerdictToken t seq payload split s
  | .streamState t seq n state escalated starved gen split => Sys2Proof.Machine.execStreamState t seq n state escalated starved gen split s
  | .eventFlits t seq r => Sys2Proof.Machine.execEventFlits t seq r s
  | .configCrc t seq crc epoch => Sys2Proof.Machine.execConfigCrc t seq crc epoch s
  | .status t seq code demands => Sys2Proof.Machine.execStatus t seq code demands s
  | .fenceChange t seq c row fenced => Sys2Proof.Machine.execFenceChange t seq c row fenced s
  | .timeSample t seq gts => Sys2Proof.Machine.execTimeSample t seq gts s
  | .hostWrite t seq offset v => Sys2Proof.Machine.execHostWrite t seq offset v s
  | .link t toCheck acked nak expected => Sys2Proof.Machine.execLink t toCheck acked nak expected s
  | .configSetFlits t seq set ends => Sys2Proof.Machine.execConfigSetFlits t seq set ends s
  | .epochAdvance t seq epoch causes => Sys2Proof.Machine.execEpochAdvance t seq epoch causes s
  | .safeEnter t seq => Sys2Proof.Machine.execSafeEnter t seq s
  | .safeExit t seq => Sys2Proof.Machine.execSafeExit t seq s
  | .fence t seq c row => Sys2Proof.Machine.execFence t seq c row s
  | .marginTest t seq c => Sys2Proof.Machine.execMarginTest t seq c s
  | .inject t seq j arm => Sys2Proof.Machine.execInject t seq j arm s
  | .timeSet t seq gts => Sys2Proof.Machine.execTimeSet t seq gts s
  | .odResponseFlits t seq m => Sys2Proof.Machine.execOdResponseFlits t seq m s
  | .train t toCheck crcOk => Sys2Proof.Machine.execTrain t toCheck crcOk s
  | .linkUpTimeout t atCheck => Sys2Proof.Machine.execLinkUpTimeout t atCheck s
  | .ackTimeout t atCheck => Sys2Proof.Machine.execAckTimeout t atCheck s
  | .linkAckPeriod t atCheck => Sys2Proof.Machine.execLinkAckPeriod t atCheck s
  | .keeperActionQueue t => Sys2Proof.Machine.execKeeperActionQueue t s
  | .cdHeartToggle t porter composer gate tx => Sys2Proof.Machine.execCdHeartToggle t porter composer gate tx s
  | .cdHeartEdge t => Sys2Proof.Machine.execCdHeartEdge t s
  | .heartLossTimeout t => Sys2Proof.Machine.execHeartLossTimeout t s
  | .cdSafeDemandLow t ns => Sys2Proof.Machine.execCdSafeDemandLow t ns s
  | .cdSafeDemandHigh t => Sys2Proof.Machine.execCdSafeDemandHigh t s
  | .killPowerDelay t => Sys2Proof.Machine.execKillPowerDelay t s
  | .killHoldEnd t => Sys2Proof.Machine.execKillHoldEnd t s
  | .cdResetLockedClear t slot v => Sys2Proof.Machine.execCdResetLockedClear t slot v s
  | .checkDieResetEnd t bad fails => Sys2Proof.Machine.execCheckDieResetEnd t bad fails s
  | .safetyInputEdge t pair isB level => Sys2Proof.Machine.execSafetyInputEdge t pair isB level s
  | .inputFilterElapsed t pair isB hbl keeper => Sys2Proof.Machine.execInputFilterElapsed t pair isB hbl keeper s
  | .discrepancyTimeout t pair => Sys2Proof.Machine.execDiscrepancyTimeout t pair s
  | .testPulseWindow t pair sourceB a b before => Sys2Proof.Machine.execTestPulseWindow t pair sourceB a b before s
  | .testPulseHoldEnd t pair isB => Sys2Proof.Machine.execTestPulseHoldEnd t pair isB s
  | .evaluatorDisagreeTimeout t pair => Sys2Proof.Machine.execEvaluatorDisagreeTimeout t pair s
  | .autoRestartTimeout t => Sys2Proof.Machine.execAutoRestartTimeout t s
  | .readbackEdge t isB level => Sys2Proof.Machine.execReadbackEdge t isB level s
  | .releaseLapse t => Sys2Proof.Machine.execReleaseLapse t s
  | .readbackMismatchTimeout t isB => Sys2Proof.Machine.execReadbackMismatchTimeout t isB s
  | .outputPulseStart t isB => Sys2Proof.Machine.execOutputPulseStart t isB s
  | .outputPulseCheck t isB => Sys2Proof.Machine.execOutputPulseCheck t isB s
  | .brakeFeedbackEdge t isB level => Sys2Proof.Machine.execBrakeFeedbackEdge t isB level s
  | .bfbTimeout t => Sys2Proof.Machine.execBfbTimeout t s
  | .faultClear t slot v => Sys2Proof.Machine.execFaultClear t slot v s
  | .btStart t slot v => Sys2Proof.Machine.execBtStart t slot v s
  | .btTorqueEnd t => Sys2Proof.Machine.execBtTorqueEnd t s
  | .btPass t => Sys2Proof.Machine.execBtPass t s
  | .motionEdge t ns => Sys2Proof.Machine.execMotionEdge t ns s
  | .btOverdue t => Sys2Proof.Machine.execBtOverdue t s
  | .btExpired t => Sys2Proof.Machine.execBtExpired t s
  | .holdRequest t slot v => Sys2Proof.Machine.execHoldRequest t slot v s
  | .wdsServiceStore t v => Sys2Proof.Machine.execWdsServiceStore t v s
  | .wdhSvc t seq v => Sys2Proof.Machine.execWdhSvc t seq v s
  | .serviceArmLapse t host => Sys2Proof.Machine.execServiceArmLapse t host s
  | .watchdogExpiry t host => Sys2Proof.Machine.execWatchdogExpiry t host s
  | .graceExpiry t host => Sys2Proof.Machine.execGraceExpiry t host s
  | .clockMonitorTrip t host => Sys2Proof.Machine.execClockMonitorTrip t host s
  | .wdhEnable t seq => Sys2Proof.Machine.execWdhEnable t seq s
  | .wdhDisable t seq => Sys2Proof.Machine.execWdhDisable t seq s
  | .wdhLock t seq en => Sys2Proof.Machine.execWdhLock t seq en s
  | .wdhKey t seq v => Sys2Proof.Machine.execWdhKey t seq v s
  | .disableSequenceLapse t => Sys2Proof.Machine.execDisableSequenceLapse t s
  | .rcCheckin t seq v => Sys2Proof.Machine.execRcCheckin t seq v s
  | .rollCallCycleEnd t => Sys2Proof.Machine.execRollCallCycleEnd t s
  | .statusImageRefresh t => Sys2Proof.Machine.execStatusImageRefresh t s
  | .registerWrite t offset size v => Sys2Proof.Machine.execRegisterWrite t offset size v s
  | .coalesceWindowClose t => Sys2Proof.Machine.execCoalesceWindowClose t s
  | .safetyRecordWaitEnd t stage => Sys2Proof.Machine.execSafetyRecordWaitEnd t stage s
  | .overflow t stage => Sys2Proof.Machine.execOverflow t stage s
  | .sigBatchPeriod t => Sys2Proof.Machine.execSigBatchPeriod t s
  | .batchSigned t => Sys2Proof.Machine.execBatchSigned t s
  | .sigBatchRead t slot offset => Sys2Proof.Machine.execSigBatchRead t slot offset s
  | .logClear t slot v => Sys2Proof.Machine.execLogClear t slot v s
  | .marginDue t => Sys2Proof.Machine.execMarginDue t s
  | .marginStart t slot v => Sys2Proof.Machine.execMarginStart t slot v s
  | .marginRetry t => Sys2Proof.Machine.execMarginRetry t s
  | .marginStressReady t => Sys2Proof.Machine.execMarginStressReady t s
  | .marginVectorsDone t rows failed extremes => Sys2Proof.Machine.execMarginVectorsDone t rows failed extremes s
  | .marginRestored t => Sys2Proof.Machine.execMarginRestored t s
  | .hello t path origin seq b => Sys2Proof.Machine.execHello t path origin seq b s
  | .proof t path origin seq b => Sys2Proof.Machine.execProof t path origin seq b s
  | .read t path origin seq b => Sys2Proof.Machine.execRead t path origin seq b s
  | .write t path origin seq b => Sys2Proof.Machine.execWrite t path origin seq b s
  | .close t path origin seq b => Sys2Proof.Machine.execClose t path origin seq b s
  | .sessionIdleTimeout t slot => Sys2Proof.Machine.execSessionIdleTimeout t slot s
  | .bar0OdWindow t w b => Sys2Proof.Machine.execBar0OdWindow t w b s
  | .mgmtOdDatagram t origin b => Sys2Proof.Machine.execMgmtOdDatagram t origin b s
  | .canUsdoDownload t bus b => Sys2Proof.Machine.execCanUsdoDownload t bus b s
  | .plainUsdoUpload t bus idx sub => Sys2Proof.Machine.execPlainUsdoUpload t bus idx sub s
  | .commitCrc t slot v => Sys2Proof.Machine.execCommitCrc t slot v s
  | .commitStored t ok => Sys2Proof.Machine.execCommitStored t ok s
  | .stageDiscard t slot v => Sys2Proof.Machine.execStageDiscard t slot v s
  | .roleKey t slot role key => Sys2Proof.Machine.execRoleKey t slot role key s
  | .operatorPassphrase t slot pass => Sys2Proof.Machine.execOperatorPassphrase t slot pass s
  | .partnerSelect t slot v => Sys2Proof.Machine.execPartnerSelect t slot v s
  | .linkHello t p fcsOk b => Sys2Proof.Machine.execLinkHello t p fcsOk b s
  | .linkHelloPeriod t p => Sys2Proof.Machine.execLinkHelloPeriod t p s
  | .adjacencyTimeout t p => Sys2Proof.Machine.execAdjacencyTimeout t p s
  | .lsa t p fcsOk b => Sys2Proof.Machine.execLsa t p fcsOk b s
  | .lsaRefresh t => Sys2Proof.Machine.execLsaRefresh t s
  | .lsaExpiry t uid => Sys2Proof.Machine.execLsaExpiry t uid s
  | .claimRoundEnd t => Sys2Proof.Machine.execClaimRoundEnd t s
  | .routeComputeDone t => Sys2Proof.Machine.execRouteComputeDone t s
  | .fabricPortDown t p => Sys2Proof.Machine.execFabricPortDown t p s
  | .peerAbsenceTimeout t node => Sys2Proof.Machine.execPeerAbsenceTimeout t node s
  | .assign t p fcsOk b => Sys2Proof.Machine.execAssign t p fcsOk b s
  | .managerLost t => Sys2Proof.Machine.execManagerLost t s
  | .holdingEnd t => Sys2Proof.Machine.execHoldingEnd t s
  | .claimBackoffEnd t => Sys2Proof.Machine.execClaimBackoffEnd t s
  | .fabricRestart t slot v => Sys2Proof.Machine.execFabricRestart t slot v s
  | .put t p fcsOk b => Sys2Proof.Machine.execPut t p fcsOk b s
  | .get t p fcsOk b => Sys2Proof.Machine.execGet t p fcsOk b s
  | .fetchAdd t p fcsOk b => Sys2Proof.Machine.execFetchAdd t p fcsOk b s
  | .cmpSwap t p fcsOk b => Sys2Proof.Machine.execCmpSwap t p fcsOk b s
  | .response t p fcsOk b => Sys2Proof.Machine.execResponse t p fcsOk b s
  | .ack t p fcsOk b => Sys2Proof.Machine.execAck t p fcsOk b s
  | .retransmitTimeout t node => Sys2Proof.Machine.execRetransmitTimeout t node s
  | .standaloneAckTimer t node => Sys2Proof.Machine.execStandaloneAckTimer t node s
  | .soRerunDone t node request out bad => Sys2Proof.Machine.execSoRerunDone t node request out bad s
  | .soBudgetExpiry t node request => Sys2Proof.Machine.execSoBudgetExpiry t node request s
  | .relayDatagram t origin b => Sys2Proof.Machine.execRelayDatagram t origin b s
  | .ptpSync t p m residence => Sys2Proof.Machine.execPtpSync t p m residence s
  | .ptpAnnounce t p m residence => Sys2Proof.Machine.execPtpAnnounce t p m residence s
  | .ptpSyncSend t => Sys2Proof.Machine.execPtpSyncSend t s
  | .referenceTimeout t => Sys2Proof.Machine.execReferenceTimeout t s
  | .ppsInEdge t => Sys2Proof.Machine.execPpsInEdge t s
  | .ppsOutRise t => Sys2Proof.Machine.execPpsOutRise t s
  | .ppsOutFall t => Sys2Proof.Machine.execPpsOutFall t s
  | .ptmPeriod t => Sys2Proof.Machine.execPtmPeriod t s
  | .timeStepNs t slot v => Sys2Proof.Machine.execTimeStepNs t slot v s
  | .rtcSet t => Sys2Proof.Machine.execRtcSet t s
  | .timeSamplePeriod t => Sys2Proof.Machine.execTimeSamplePeriod t s
  | .configCrcPeriod t => Sys2Proof.Machine.execConfigCrcPeriod t s
  | .functionLevelReset t => Sys2Proof.Machine.execFunctionLevelReset t s
  | .perst t low => Sys2Proof.Machine.execPerst t low s
  | .resultIntakeWrite t offset requester b => Sys2Proof.Machine.execResultIntakeWrite t offset requester b s
  | .slotIncompleteTimeout t c k => Sys2Proof.Machine.execSlotIncompleteTimeout t c k s
  | .orphanTimeout t c k => Sys2Proof.Machine.execOrphanTimeout t c k s
  | .intakeEnable t slot c v => Sys2Proof.Machine.execIntakeEnable t slot c v s
  | .ringEnable t r v => Sys2Proof.Machine.execRingEnable t r v s
  | .ringRead t r v => Sys2Proof.Machine.execRingRead t r v s
  | .ringWriteback t r => Sys2Proof.Machine.execRingWriteback t r s
  | .ringIrqTimer t r => Sys2Proof.Machine.execRingIrqTimer t r s
  | .gtsLoRead t => Sys2Proof.Machine.execGtsLoRead t s
  | .weightLoadGo t => Sys2Proof.Machine.execWeightLoadGo t s
  | .weightLoadDone t dma digestOk => Sys2Proof.Machine.execWeightLoadDone t dma digestOk s
  | .por t vbat lost repaired => Sys2Proof.Machine.execPor t vbat lost repaired s
  | .supplyMonitorTrip t => Sys2Proof.Machine.execSupplyMonitorTrip t s
  | .resetN t ns => Sys2Proof.Machine.execResetN t ns s
  | .warmReset t slot v => Sys2Proof.Machine.execWarmReset t slot v s
  | .checkDieReset t slot v => Sys2Proof.Machine.execCheckDieReset t slot v s
  | .bootImageChecked t fault store keys => Sys2Proof.Machine.execBootImageChecked t fault store keys s
  | .selftestDone t report outs ms => Sys2Proof.Machine.execSelftestDone t report outs ms s
  | .fwImage t slot image last => Sys2Proof.Machine.execFwImage t slot image last s
  | .fwImageStored t ok => Sys2Proof.Machine.execFwImageStored t ok s
  | .runRequest t slot v => Sys2Proof.Machine.execRunRequest t slot v s
  | .serviceRequestEnter t slot => Sys2Proof.Machine.execServiceRequestEnter t slot s
  | .serviceRequestLeave t slot => Sys2Proof.Machine.execServiceRequestLeave t slot s
  | .powerRequest t slot v => Sys2Proof.Machine.execPowerRequest t slot v s
  | .wakeEvent t source => Sys2Proof.Machine.execWakeEvent t source s
  | .clusterGateIdle t c => Sys2Proof.Machine.execClusterGateIdle t c s
  | .selfRefreshReport t => Sys2Proof.Machine.execSelfRefreshReport t s
  | .pgCdRise t => Sys2Proof.Machine.execPgCdRise t s
  | .checkDieResetRelease t => Sys2Proof.Machine.execCheckDieResetRelease t s
  | .pgCdTimeout t => Sys2Proof.Machine.execPgCdTimeout t s
  | .pgCdFall t => Sys2Proof.Machine.execPgCdFall t s
  | .thermalWarn t sensor reading => Sys2Proof.Machine.execThermalWarn t sensor reading s
  | .thermalClear t sensor reading => Sys2Proof.Machine.execThermalClear t sensor reading s
  | .checkDieThermalTrip t sensor reading => Sys2Proof.Machine.execCheckDieThermalTrip t sensor reading s
  | .safetyDieThermalTrip t sensor reading => Sys2Proof.Machine.execSafetyDieThermalTrip t sensor reading s
  | .attestNonce t slot nonce => Sys2Proof.Machine.execAttestNonce t slot nonce s
  | .attestSigned t => Sys2Proof.Machine.execAttestSigned t s
  | .secVersionRaise t slot v => Sys2Proof.Machine.execSecVersionRaise t slot v s
  | .deviceCert t slot image last => Sys2Proof.Machine.execDeviceCert t slot image last s
  | .arm t slot j => Sys2Proof.Machine.execArm t slot j s
  | .disarm t slot j => Sys2Proof.Machine.execDisarm t slot j s
  | .injectDurationEnd t j => Sys2Proof.Machine.execInjectDurationEnd t j s
  | .injectHeldRelease t j => Sys2Proof.Machine.execInjectHeldRelease t j s
  | .veRxLockLost t l => Sys2Proof.Machine.execVeRxLockLost t l s
  | .outputPulseEnd t isB => Sys2Proof.Machine.execOutputPulseEnd t isB s
  | .faultTestRelease t pair => Sys2Proof.Machine.execFaultTestRelease t pair s
  | .resetNRelease t lost repaired => Sys2Proof.Machine.execResetNRelease t lost repaired s
  | .safetyResetEnd t lost repaired => Sys2Proof.Machine.execSafetyResetEnd t lost repaired s
  | .bootTemperatureResume t readings => Sys2Proof.Machine.execBootTemperatureResume t readings s
  | .fabricPortUp t p => Sys2Proof.Machine.execFabricPortUp t p s
  | .ptpFollowUp t p m residence => Sys2Proof.Machine.execPtpFollowUp t p m residence s
  | .ptpDelayReq t p m residence => Sys2Proof.Machine.execPtpDelayReq t p m residence s
  | .ptpDelayResp t p m residence => Sys2Proof.Machine.execPtpDelayResp t p m residence s
  | .ptpPdelayReq t p m residence => Sys2Proof.Machine.execPtpPdelayReq t p m residence s
  | .ptpPdelayResp t p m residence followUp => Sys2Proof.Machine.execPtpPdelayResp t p m residence followUp s
  | .ptpManagementGet t p m residence => Sys2Proof.Machine.execPtpManagementGet t p m residence s
  | .ptpAnnounceSend t => Sys2Proof.Machine.execPtpAnnounceSend t s
  | .ptpDelayRequestSend t => Sys2Proof.Machine.execPtpDelayRequestSend t s
  | .ptmResponse t master delay => Sys2Proof.Machine.execPtmResponse t master delay s
  | .qspiStoreDone t ok => Sys2Proof.Machine.execQspiStoreDone t ok s
  | .softwareSelfTest t => Sys2Proof.Machine.execSoftwareSelfTest t s

end Sys2Proof.Machine
end

