-- ==== Sys2Proof/Machine/Step.lean ====
section
/-! DEFINITION. One step of the block: the command at the front of the queue, or, when none waits, work that the check die does of
itself. -/

namespace Sys2Proof.Machine

/-- With no command waiting the check die, while it runs, drains one record of its event collector or sends one of its corridor queue
(R323; log entry 1). -/
def State.idle (s : State) : State := { s with dies := s.dies.check CheckDie.background }

/-- The command at the front of the queue acts, with the queue's rest. -/
def step (s : State) : Host.Outcome State Fault Refusal :=
  match s.pending with
  | [] => .next s.idle
  | c :: rest => exec c { s with pending := rest }

/-- The command that a word spells put at the front of the queue; the state unchanged where the word spells none. -/
def State.withFetchWord (s : State) (nbits w : Nat) : State :=
  match decodeTableWord nbits w with
  | some c => { s with pending := c :: s.pending }
  | none => s

end Sys2Proof.Machine
end

