-- ==== Sys2Proof/WellFormed.lean ====
section
/-! DEFINITION. Which commands can be: every operand within what its field, port or instance can hold. The machine takes any command;
one that names an instance which does not exist moves only the clocks. -/

namespace Sys2Proof

open Machine

/-- Every octet is below 256. -/
def okOctets (b : Octets) : Bool := b.all (fun x => decide (x < 256))
/-- A session slot (R345). -/
def okSlot (slot : Nat) : Bool := decide (slot < 64)
/-- The SEQ of a flit (R243). -/
def okSeq (seq : Nat) : Bool := decide (seq < 256)
/-- An instance of an entry (R360). -/
def okInst (r : OdRow) (i : Nat) : Bool := decide (i < r.count)
/-- A value that an entry's type can hold (R361). -/
def okValue (r : OdRow) (v : Nat) : Bool := decide (v < 2 ^ r.type.bits)
/-- A path of sessions (R353). -/
def okPath (path : Nat) : Bool := decide (path < 4)
/-- A compare word of a keeper core (R230). -/
def okCompare (w : Option Nat) : Bool := decide (w.getD 0 < 2 ^ 104)
/-- One of `n` instances. -/
def okOf (n i : Nat) : Bool := decide (i < n)

/-- A command whose operands can be. -/
def Instr.wf : Instr → Bool
  | .clockLoss _ _ => true
  | .viBlockLockAcquired _ n => okOf 12 n
  | .viBlockLockLost _ n _ _ => okOf 12 n
  | .strayDataBlock _ n => okOf 12 n
  | .passportComplete _ n b _ => okOf 12 n && okOctets b
  | .frameT0 _ n payload trailer _ _ => okOf 12 n && okOctets payload && okOctets trailer
  | .frameGapTimeout _ n _ _ => okOf 12 n
  | .heartbeatItem _ n b => okOf 12 n && okOctets b.octets
  | .creditPeriod _ n => okOf 12 n
  | .timePeriod _ n => okOf 12 n
  | .resyncReqRepeat _ n => okOf 12 n
  | .noInputSlot _ n => okOf 12 n
  | .stallLimitTimeout _ q => okOf 12 q.stream
  | .stallSafeTimeout _ q => okOf 12 q.stream
  | .streamRestart _ slot n v => okSlot slot && okInst Od.STREAM_RESTART n && okValue Od.STREAM_RESTART v
  | .tileComplete _ _ c _ _ => okOf 16 c
  | .spectralTransformComplete _ _ c _ _ _ _ _ _ _ _ => okOf 16 c
  | .sentinelReady _ _ _ _ _ _ => true
  | .resultDeadline _ _ => true
  | .macPhaseDeadline _ _ c => okOf 16 c
  | .boundTest _ c _ _ => okOf 16 c
  | .watchWindowExpiry _ c _ => okOf 16 c
  | .replanComplete _ => true
  | .fenceClear _ slot v => okSlot slot && okValue Od.FENCE_CLEAR v
  | .arrayRetest _ slot v => okSlot slot && okValue Od.ARRAY_RETEST v
  | .retestClusterDone _ _ _ _ => true
  | .sramScrubPass _ _ _ _ => true
  | .lpddr5xScrubPass _ _ _ => true
  | .packageImageWrite _ slot k _ _ => okSlot slot && okInst Od.SLOT_IMAGE k
  | .packageVerifyDone _ k => okOf 16 k
  | .manifestImageWrite _ slot k _ _ => okSlot slot && okInst Od.MANIFEST_IMAGE k
  | .manifestVerifyDone _ k => okOf 32 k
  | .auditEpochEnd _ => true
  | .landingZoneWrite _ _ _ b => okOctets b
  | .deliveryChecksDone _ _ => true
  | .deliverByTimeout _ _ => true
  | .finalPassStart _ _ => true
  | .batchPassDone _ _ => true
  | .allowanceEnd _ _ => true
  | .lanternSetWrite _ slot n _ _ => okSlot slot && okInst Od.LANTERN_SET n
  | .lanternSetVerifyDone _ n => okOf 12 n
  | .mapImageWrite _ slot k _ _ => okSlot slot && okInst Od.MAP_IMAGE k
  | .mapVerifyDone _ k => okOf 16 k
  | .secondOpinionTimeout _ _ => true
  | .consumerCredit _ l _ b => okOf 4 l && okOctets b
  | .veRxLockRegained _ l => okOf 4 l
  | .egressRecordStart _ l => okOf 4 l
  | .veHeartbeatPeriod _ c => okOf 256 c
  | .releaseWaitTimeout _ c _ => okOf 256 c
  | .compareWord _ k0 k1 _ _ _ _ _ _ => okCompare k0 && okCompare k1
  | .comparatorInjection _ _ _ => true
  | .debugHalt _ => true
  | .debugResume _ => true
  | .splitAppTrap _ => true
  | .corruptFlit _ _ => true
  | .verdictToken _ seq _ _ => okSeq seq
  | .streamState _ seq n _ _ _ _ _ => okSeq seq && okOf 12 n
  | .eventFlits _ seq _ => okSeq seq
  | .configCrc _ seq _ _ => okSeq seq
  | .status _ seq _ _ => okSeq seq
  | .fenceChange _ seq c _ _ => okSeq seq && okOf 16 c
  | .timeSample _ seq _ => okSeq seq
  | .hostWrite _ seq _ _ => okSeq seq
  | .link _ _ _ _ _ => true
  | .configSetFlits _ seq _ _ => okSeq seq
  | .epochAdvance _ seq _ _ => okSeq seq
  | .safeEnter _ seq => okSeq seq
  | .safeExit _ seq => okSeq seq
  | .fence _ seq c _ => okSeq seq && okOf 16 c
  | .marginTest _ seq c => okSeq seq && okOf 16 c
  | .inject _ seq j _ => okSeq seq && okOf 8 j
  | .timeSet _ seq _ => okSeq seq
  | .odResponseFlits _ seq _ => okSeq seq
  | .train _ _ _ => true
  | .linkUpTimeout _ _ => true
  | .ackTimeout _ _ => true
  | .linkAckPeriod _ _ => true
  | .keeperActionQueue _ => true
  | .cdHeartToggle _ _ _ _ _ => true
  | .cdHeartEdge _ => true
  | .heartLossTimeout _ => true
  | .cdSafeDemandLow _ _ => true
  | .cdSafeDemandHigh _ => true
  | .killPowerDelay _ => true
  | .killHoldEnd _ => true
  | .cdResetLockedClear _ slot v => okSlot slot && okValue Od.CD_RESET_LOCKED v
  | .checkDieResetEnd _ _ _ => true
  | .safetyInputEdge _ pair _ _ => okOf 8 pair
  | .inputFilterElapsed _ pair _ _ _ => okOf 8 pair
  | .discrepancyTimeout _ pair => okOf 8 pair
  | .testPulseWindow _ pair _ _ _ _ => okOf 8 pair
  | .testPulseHoldEnd _ pair _ => okOf 8 pair
  | .evaluatorDisagreeTimeout _ pair => okOf 8 pair
  | .autoRestartTimeout _ => true
  | .readbackEdge _ _ _ => true
  | .releaseLapse _ => true
  | .readbackMismatchTimeout _ _ => true
  | .outputPulseStart _ _ => true
  | .outputPulseCheck _ _ => true
  | .brakeFeedbackEdge _ _ _ => true
  | .bfbTimeout _ => true
  | .faultClear _ slot v => okSlot slot && okValue Od.FAULT_CLEAR v
  | .btStart _ slot v => okSlot slot && okValue Od.BT_START v
  | .btTorqueEnd _ => true
  | .btPass _ => true
  | .motionEdge _ _ => true
  | .btOverdue _ => true
  | .btExpired _ => true
  | .holdRequest _ slot v => okSlot slot && okValue Od.HOLD_REQUEST v
  | .wdsServiceStore _ _ => true
  | .wdhSvc _ seq _ => okSeq seq
  | .serviceArmLapse _ _ => true
  | .watchdogExpiry _ _ => true
  | .graceExpiry _ _ => true
  | .clockMonitorTrip _ _ => true
  | .wdhEnable _ seq => okSeq seq
  | .wdhDisable _ seq => okSeq seq
  | .wdhLock _ seq _ => okSeq seq
  | .wdhKey _ seq _ => okSeq seq
  | .disableSequenceLapse _ => true
  | .rcCheckin _ seq _ => okSeq seq
  | .rollCallCycleEnd _ => true
  | .statusImageRefresh _ => true
  | .registerWrite _ _ _ _ => true
  | .coalesceWindowClose _ => true
  | .safetyRecordWaitEnd _ _ => true
  | .overflow _ _ => true
  | .sigBatchPeriod _ => true
  | .batchSigned _ => true
  | .sigBatchRead _ slot _ => okSlot slot
  | .logClear _ slot v => okSlot slot && okValue Od.LOG_CLEAR v
  | .marginDue _ => true
  | .marginStart _ slot v => okSlot slot && okValue Od.MARGIN_START v
  | .marginRetry _ => true
  | .marginStressReady _ => true
  | .marginVectorsDone _ _ _ _ => true
  | .marginRestored _ => true
  | .hello _ path _ seq b => okSeq seq && okPath path && okOctets b
  | .proof _ path _ seq b => okSeq seq && okPath path && okOctets b
  | .read _ path _ seq b => okSeq seq && okPath path && okOctets b
  | .write _ path _ seq b => okSeq seq && okPath path && okOctets b
  | .close _ path _ seq b => okSeq seq && okPath path && okOctets b
  | .sessionIdleTimeout _ slot => okSlot slot
  | .bar0OdWindow _ w b => okOf 64 w && okOctets b
  | .mgmtOdDatagram _ _ b => okOctets b
  | .canUsdoDownload _ bus b => okOf 2 bus && okOctets b
  | .plainUsdoUpload _ bus _ _ => okOf 2 bus
  | .commitCrc _ slot v => okSlot slot && okValue Od.COMMIT_CRC v
  | .commitStored _ _ => true
  | .stageDiscard _ slot v => okSlot slot && okValue Od.STAGE_DISCARD v
  | .roleKey _ slot role key => okSlot slot && okInst Od.ROLE_KEY role && okOctets key
  | .operatorPassphrase _ slot pass => okSlot slot && okOctets pass
  | .partnerSelect _ slot v => okSlot slot && okValue Od.PARTNER_SELECT v
  | .linkHello _ p _ b => okOf 4 p && okOctets b
  | .linkHelloPeriod _ p => okOf 4 p
  | .adjacencyTimeout _ p => okOf 4 p
  | .lsa _ p _ b => okOf 4 p && okOctets b
  | .lsaRefresh _ => true
  | .lsaExpiry _ uid => okOctets uid
  | .claimRoundEnd _ => true
  | .routeComputeDone _ => true
  | .fabricPortDown _ p => okOf 4 p
  | .peerAbsenceTimeout _ _ => true
  | .assign _ p _ b => okOf 4 p && okOctets b
  | .managerLost _ => true
  | .holdingEnd _ => true
  | .claimBackoffEnd _ => true
  | .fabricRestart _ slot v => okSlot slot && okValue Od.FABRIC_RESTART v
  | .put _ p _ b => okOf 4 p && okOctets b
  | .get _ p _ b => okOf 4 p && okOctets b
  | .fetchAdd _ p _ b => okOf 4 p && okOctets b
  | .cmpSwap _ p _ b => okOf 4 p && okOctets b
  | .response _ p _ b => okOf 4 p && okOctets b
  | .ack _ p _ b => okOf 4 p && okOctets b
  | .retransmitTimeout _ _ => true
  | .standaloneAckTimer _ _ => true
  | .soRerunDone _ _ _ _ _ => true
  | .soBudgetExpiry _ _ _ => true
  | .relayDatagram _ _ b => okOctets b
  | .ptpSync _ p _ _ => okOf 5 p
  | .ptpAnnounce _ p _ _ => okOf 5 p
  | .ptpSyncSend _ => true
  | .referenceTimeout _ => true
  | .ppsInEdge _ => true
  | .ppsOutRise _ => true
  | .ppsOutFall _ => true
  | .ptmPeriod _ => true
  | .timeStepNs _ slot v => okSlot slot && okValue Od.TIME_STEP_NS v
  | .rtcSet _ => true
  | .timeSamplePeriod _ => true
  | .configCrcPeriod _ => true
  | .functionLevelReset _ => true
  | .perst _ _ => true
  | .resultIntakeWrite _ _ _ b => okOctets b
  | .slotIncompleteTimeout _ c _ => okOf 256 c
  | .orphanTimeout _ c _ => okOf 256 c
  | .intakeEnable _ slot c v => okSlot slot && okInst Od.INTAKE_ENABLE c && okValue Od.INTAKE_ENABLE v
  | .ringEnable _ r _ => okOf 3 r
  | .ringRead _ r _ => okOf 3 r
  | .ringWriteback _ r => okOf 3 r
  | .ringIrqTimer _ r => okOf 3 r
  | .gtsLoRead _ => true
  | .weightLoadGo _ => true
  | .weightLoadDone _ _ _ => true
  | .por _ _ _ _ => true
  | .supplyMonitorTrip _ => true
  | .resetN _ _ => true
  | .warmReset _ slot v => okSlot slot && okValue Od.WARM_RESET v
  | .checkDieReset _ slot v => okSlot slot && okValue Od.CHECK_DIE_RESET v
  | .bootImageChecked _ _ _ _ => true
  | .selftestDone _ _ _ _ => true
  | .fwImage _ slot _ _ => okSlot slot
  | .fwImageStored _ _ => true
  | .runRequest _ slot v => okSlot slot && okValue Od.RUN_REQUEST v
  | .serviceRequestEnter _ slot => okSlot slot
  | .serviceRequestLeave _ slot => okSlot slot
  | .powerRequest _ slot v => okSlot slot && okValue Od.POWER_REQUEST v
  | .wakeEvent _ _ => true
  | .clusterGateIdle _ c => okOf 16 c
  | .selfRefreshReport _ => true
  | .pgCdRise _ => true
  | .checkDieResetRelease _ => true
  | .pgCdTimeout _ => true
  | .pgCdFall _ => true
  | .thermalWarn _ _ _ => true
  | .thermalClear _ _ _ => true
  | .checkDieThermalTrip _ _ _ => true
  | .safetyDieThermalTrip _ _ _ => true
  | .attestNonce _ slot nonce => okSlot slot && okOctets nonce
  | .attestSigned _ => true
  | .secVersionRaise _ slot v => okSlot slot && okValue Od.SEC_VERSION_RAISE v
  | .deviceCert _ slot _ _ => okSlot slot
  | .arm _ slot j => okSlot slot && okInst Od.ARM j
  | .disarm _ slot j => okSlot slot && okInst Od.ARM j
  | .injectDurationEnd _ j => okOf 8 j
  | .injectHeldRelease _ j => okOf 8 j
  | .veRxLockLost _ l => okOf 4 l
  | .outputPulseEnd _ _ => true
  | .faultTestRelease _ pair => okOf 8 pair
  | .resetNRelease _ _ _ => true
  | .safetyResetEnd _ _ _ => true
  | .bootTemperatureResume _ _ => true
  | .fabricPortUp _ p => okOf 4 p
  | .ptpFollowUp _ p _ _ => okOf 5 p
  | .ptpDelayReq _ p _ _ => okOf 5 p
  | .ptpDelayResp _ p _ _ => okOf 5 p
  | .ptpPdelayReq _ p _ _ => okOf 5 p
  | .ptpPdelayResp _ p _ _ _ => okOf 5 p
  | .ptpManagementGet _ p _ _ => okOf 5 p
  | .ptpAnnounceSend _ => true
  | .ptpDelayRequestSend _ => true
  | .ptmResponse _ _ _ => true
  | .qspiStoreDone _ _ => true
  | .softwareSelfTest _ => true

end Sys2Proof
end

