-- ==== Sys2Proof/Safety.lean ====
section
/-! DEFINITION. The terms in which claims speak of runs: a session ready to be served, a request taken and answered, the limits that
every step keeps. -/

namespace Sys2Proof.Machine

open Host

/-- A session ready to be served: open, heard of within its idle limit, nothing of it unanswered, its path served, SEQ numbers left (R344,
R349, R350, R352). -/
structure Dies.Fresh (x : Dies) (slot : Nat) (ses : Session) : Prop where
  held : x.sd.session slot = some ses
  opened : ses.opened = true
  heard : x.sd.idle ses = false
  idle : ses.waiting = []
  free : ses.busy = none
  seqs : ses.lastSeq < 0xFFFFFFFE
  path : x.reaches ses.path = true

/-- The session's next request (R344, R349); `key` is INDEX × 256 + SUB. -/
def Session.next (ses : Session) (kind key offset : Nat) (data : Octets) (image : Option ImageBody) (last : Bool) : Req :=
  { kind := kind, flags := b01 last, seq := ses.lastSeq + 1, index := key / 256, sub := key % 256, offset := offset, data := data,
    image := image }

/-- The TAG of a session's request (R348). -/
def Session.tag (ses : Session) (slot : Nat) (r : Req) : Octets :=
  tagWanted ses.key (requestHead r.kind r.flags slot r.seq (r.index * 256 + r.sub) r.offset r.data ++ List.replicate 16 0)

/-- The session with that request, of that TAG, taken off its queue, to be answered (R349, R350). -/
def Session.took (ses : Session) (s : SafetyDie) (r : Req) (tag : Octets) : Session :=
  { ses with
    heardAt := s.now
    lastSeq := r.seq
    lastTag := tag
    response := []
    received := ses.received + 1
    lastGts := s.gts
    waiting := [] }

/-- The dies with that request taken. -/
def Dies.taken (x : Dies) (slot : Nat) (ses : Session) (r : Req) (tag : Octets) : Dies :=
  { x with sd := x.sd.setSession slot (some (ses.took x.sd r tag)) }

/-- The request answered, or left busy until a store or a commit ends; what waited behind it is served (R350). -/
def Dies.answered (slot : Nat) (r : Req) (a : Served) : Dies :=
  Dies.pump 5 slot (match a.2 with
    | some p => { a.1 with sd := a.1.sd.respond slot r p.status.code p.data p.last }
    | none => { a.1 with sd := a.1.sd.updSession slot (fun y => { y with busy := some r }) })

/-- The outcome of a command whose session's request `r` does `f` on the dies that have taken it. -/
def State.requested (s : State) (t slot : Nat) (ses : Session) (r : Req) (f : Dies → Served) : Outcome State Fault Refusal :=
  .next { s with dies := Dies.answered slot r (f ((s.dies.tick t).taken slot ses r (ses.tag slot r))) }

/-- The check die takes part: powered, out of reset, clocked, not asleep. -/
def State.Runs (s : State) : Prop := s.dies.cd.runs = true

/-- The outcome of a command after which the dies are `x`; the queue stays as it is. -/
def State.became (s : State) (x : Dies) : Outcome State Fault Refusal := .next { s with dies := x }

/-- The outcome of a command that the check die alone takes: `f` on the check die, the clocks of both dies moved, nothing else. -/
def State.checkDid (s : State) (t : Nat) (f : CheckDie → CheckDie) : Outcome State Fault Refusal :=
  .next { s with dies := { sd := s.dies.sd.tick t, cd := f (s.dies.cd.tick t) } }

/-- The outcome of a command that the safety die takes: `f` on it, and what follows from that on the check die (R257, R372, R427). -/
def State.safetyDid (s : State) (t : Nat) (f : SafetyDie → SafetyDie) : Outcome State Fault Refusal :=
  .next { s with dies := (s.dies.tick t).follow (f (s.dies.sd.tick t)) }

/-- The safety die with `n` flits in order accepted, a LINK sent after 32 (R248). -/
def SafetyDie.accepted (s : SafetyDie) (n : Nat) : SafetyDie :=
  if (s.corRx.accept n).2 then ({ s with corRx := (s.corRx.accept n).1 } : SafetyDie).sendAck else { s with corRx := (s.corRx.accept n).1 }

/-- The check die with `n` flits in order accepted, a LINK sent after 32 (R248). -/
def CheckDie.accepted (d : CheckDie) (n : Nat) : CheckDie :=
  if (d.corRx.accept n).2 then ({ d with corRx := (d.corRx.accept n).1 } : CheckDie).sendAck else { d with corRx := (d.corRx.accept n).1 }

/-- The origin of a message as the safety die keeps it: the CAN controller on path 3. -/
def originOf (path origin : Nat) : Nat := if path = 3 then origin else 0

/-- The dies with the flits of an OD message of path 0 to 2 received (R246, R353). -/
def Dies.carried (x : Dies) (path seq : Nat) (b : Octets) : Dies :=
  if path = 3 then x else x.safety (fun _ => (x.sd.groupAdmit seq (flitsOd (field b 4 1) path b)).1)

/-- An OD message reaches the safety die: its path is served, its flits are accepted, or one of the CAN controllers has it (R353). -/
structure Dies.Hears (x : Dies) (path origin seq : Nat) (b : Octets) : Prop where
  served : x.reaches path = true
  bus : path = 3 → origin < 2
  flits : path ≠ 3 → (x.sd.groupAdmit seq (flitsOd (field b 4 1) path b)).2 = true

/-- A flit `seq` from the check die is received: SD_CD_KILL off, not in RETAIN, the link up, SEQ in order, no injector at the point (R31,
R248, R456). -/
structure State.FromCheck (s : State) (seq : Nat) : Prop where
  released : s.dies.sd.kill.on = false
  awake : s.dies.sd.power ≠ .retain
  order : s.dies.sd.corRx.takes seq = true
  clear : s.dies.sd.injectors = []

/-- A flit `seq` from the safety die is received: the check die out of reset, clocked and not in RETAIN, the link up, SEQ in order, no
injector at the point (R31, R248, R456). -/
structure State.FromSafety (s : State) (seq : Nat) : Prop where
  alive : s.dies.cd.up = true ∧ s.dies.cd.clock = true
  awake : s.dies.cd.power ≠ .retain
  order : s.dies.cd.corRx.takes seq = true
  clear : s.dies.cd.armedAt 3 1 = false

/-- A WRITE of a number to instance `i` of an entry (R340). -/
def Session.write (ses : Session) (r : OdRow) (i v : Nat) : Req := ses.next 0x11 (r.key i) 0 (le (r.type.bits / 8) v) none true

/-- A WRITE of octets to instance `i` of an entry. -/
def Session.writeBytes (ses : Session) (r : OdRow) (i : Nat) (b : Octets) : Req := ses.next 0x11 (r.key i) 0 b none true

/-- A WRITE of an image, or of one of its segments. -/
def Session.writeImage (ses : Session) (r : OdRow) (i : Nat) (b : ImageBody) (last : Bool) : Req :=
  ses.next 0x11 (r.key i) 0 [] (some b) last

/-- What makes a session's write to instance `i` of an entry go through, its value aside: the entry exists, the role and the device
state allow it, the check die serves where it holds the entry (R340, R361, R368, R369). -/
structure Dies.Allows (x : Dies) (ses : Session) (w : OdRow) (i : Nat) : Prop where
  inst : i < w.count
  found : odFind (w.index + i) w.sub = some w
  sub : w.sub ≠ 0 ∧ w.sub < 256
  role : (x.sd.writers (w.index + i) w.sub).contains ses.role = true
  device : admitsWrite x.sd.device (w.index + i) = true
  serves : w.onCheckDie (w.index + i) w.sub = true → x.sd.cdServes = true

/-- The same with a number `v` that the entry takes. -/
structure Dies.Admits (x : Dies) (ses : Session) (w : OdRow) (i v : Nat) : Prop extends Dies.Allows x ses w i where
  numeric : w.type.numeric = true
  bits : w.type.bits = w.type.bits / 8 * 8
  fits : v < 256 ^ (w.type.bits / 8)
  range : w.check (.num v) = .ok

/-- The dies with a segmented write begun (`last` false) or ended (R344). -/
def Dies.wrote (x : Dies) (slot key : Nat) (last : Bool) : Dies :=
  { x with sd := x.sd.updSession slot (fun z => { z with writing := if last then none else some (key, []) }) }

/-- A device state in which sessions may write (R369). -/
def DevState.serves (d : DevState) : Bool := d != .boot && d != .bootWait && d != .selftest

/-- The limits of the safety log and of the staged set (R323, R356). -/
def SafetyDie.Fits (s : SafetyDie) : Prop := s.log.length ≤ 256 ∧ s.staging.entries.length ≤ 2048

/-- BRK_B is energised only with what R263 and R264 ask beside the states of the STOP pairs: the latch clear, BRK_B_ARM set, the
keeper-fault gate open, the device in RUN and ACTIVE or GATED, no demand of the check die, no heartbeat trip, no debug halt of the
keeper pair and no fault of BRK_B. -/
def SafetyDie.Held (s : SafetyDie) : Prop :=
  s.brake.onB = true → s.brake.latch = false ∧ s.brake.arm = true ∧ s.brake.gate = true ∧ s.device = .run ∧ s.power.awake = true
    ∧ s.demand = false ∧ s.heart.tripped = false ∧ s.keeper.halted = false ∧ s.guest.outputFault.testBit 1 = false

/-- The same of the block. -/
def State.Fits (s : State) : Prop := s.dies.sd.Fits

end Sys2Proof.Machine

namespace Sys2Proof

/-- The time of a command that the check die alone takes, or an access of the host to it. -/
def Instr.atCheckDie : Instr → Option Nat
  | .viBlockLockAcquired t _ => some t
  | .viBlockLockLost t _ _ _ => some t
  | .strayDataBlock t _ => some t
  | .passportComplete t _ _ _ => some t
  | .frameT0 t _ _ _ _ _ => some t
  | .frameGapTimeout t _ _ _ => some t
  | .heartbeatItem t _ _ => some t
  | .creditPeriod t _ => some t
  | .timePeriod t _ => some t
  | .resyncReqRepeat t _ => some t
  | .noInputSlot t _ => some t
  | .stallLimitTimeout t _ => some t
  | .stallSafeTimeout t _ => some t
  | .tileComplete t _ _ _ _ => some t
  | .spectralTransformComplete t _ _ _ _ _ _ _ _ _ _ => some t
  | .sentinelReady t _ _ _ _ _ => some t
  | .resultDeadline t _ => some t
  | .macPhaseDeadline t _ _ => some t
  | .boundTest t _ _ _ => some t
  | .watchWindowExpiry t _ _ => some t
  | .replanComplete t => some t
  | .retestClusterDone t _ _ _ => some t
  | .sramScrubPass t _ _ _ => some t
  | .lpddr5xScrubPass t _ _ => some t
  | .packageVerifyDone t _ => some t
  | .manifestVerifyDone t _ => some t
  | .auditEpochEnd t => some t
  | .landingZoneWrite t _ _ _ => some t
  | .deliveryChecksDone t _ => some t
  | .deliverByTimeout t _ => some t
  | .finalPassStart t _ => some t
  | .batchPassDone t _ => some t
  | .allowanceEnd t _ => some t
  | .lanternSetVerifyDone t _ => some t
  | .mapVerifyDone t _ => some t
  | .secondOpinionTimeout t _ => some t
  | .consumerCredit t _ _ _ => some t
  | .veRxLockRegained t _ => some t
  | .egressRecordStart t _ => some t
  | .veHeartbeatPeriod t _ => some t
  | .releaseWaitTimeout t _ _ => some t
  | .cdHeartToggle t _ _ _ _ => some t
  | .registerWrite t _ _ _ => some t
  | .coalesceWindowClose t => some t
  | .safetyRecordWaitEnd t _ => some t
  | .overflow t _ => some t
  | .sigBatchPeriod t => some t
  | .marginStressReady t => some t
  | .marginVectorsDone t _ _ _ => some t
  | .bar0OdWindow t _ _ => some t
  | .mgmtOdDatagram t _ _ => some t
  | .linkHello t _ _ _ => some t
  | .linkHelloPeriod t _ => some t
  | .adjacencyTimeout t _ => some t
  | .lsa t _ _ _ => some t
  | .lsaRefresh t => some t
  | .lsaExpiry t _ => some t
  | .claimRoundEnd t => some t
  | .routeComputeDone t => some t
  | .fabricPortDown t _ => some t
  | .peerAbsenceTimeout t _ => some t
  | .assign t _ _ _ => some t
  | .managerLost t => some t
  | .holdingEnd t => some t
  | .claimBackoffEnd t => some t
  | .put t _ _ _ => some t
  | .get t _ _ _ => some t
  | .fetchAdd t _ _ _ => some t
  | .cmpSwap t _ _ _ => some t
  | .response t _ _ _ => some t
  | .ack t _ _ _ => some t
  | .retransmitTimeout t _ => some t
  | .standaloneAckTimer t _ => some t
  | .soRerunDone t _ _ _ _ => some t
  | .soBudgetExpiry t _ _ => some t
  | .relayDatagram t _ _ => some t
  | .ptpSync t _ _ _ => some t
  | .ptpAnnounce t _ _ _ => some t
  | .ptpSyncSend t => some t
  | .referenceTimeout t => some t
  | .ppsInEdge t => some t
  | .ppsOutRise t => some t
  | .ppsOutFall t => some t
  | .ptmPeriod t => some t
  | .timeSamplePeriod t => some t
  | .configCrcPeriod t => some t
  | .resultIntakeWrite t _ _ _ => some t
  | .slotIncompleteTimeout t _ _ => some t
  | .orphanTimeout t _ _ => some t
  | .ringEnable t _ _ => some t
  | .ringRead t _ _ => some t
  | .ringWriteback t _ => some t
  | .ringIrqTimer t _ => some t
  | .gtsLoRead t => some t
  | .weightLoadGo t => some t
  | .weightLoadDone t _ _ => some t
  | .clusterGateIdle t _ => some t
  | .veRxLockLost t _ => some t
  | .fabricPortUp t _ => some t
  | .ptpFollowUp t _ _ _ => some t
  | .ptpDelayReq t _ _ _ => some t
  | .ptpDelayResp t _ _ _ => some t
  | .ptpPdelayReq t _ _ _ => some t
  | .ptpPdelayResp t _ _ _ _ => some t
  | .ptpManagementGet t _ _ _ => some t
  | .ptpAnnounceSend t => some t
  | .ptpDelayRequestSend t => some t
  | .ptmResponse t _ _ => some t
  | _ => none

/-- The time of a command that the safety die takes: a happening at its pins or inside it, or a flit toward it. -/
def Instr.atSafetyDie : Instr → Option Nat
  | .compareWord t _ _ _ _ _ _ _ _ => some t
  | .comparatorInjection t _ _ => some t
  | .debugHalt t => some t
  | .debugResume t => some t
  | .splitAppTrap t => some t
  | .verdictToken t _ _ _ => some t
  | .streamState t _ _ _ _ _ _ _ => some t
  | .eventFlits t _ _ => some t
  | .configCrc t _ _ _ => some t
  | .status t _ _ _ => some t
  | .fenceChange t _ _ _ _ => some t
  | .timeSample t _ _ => some t
  | .hostWrite t _ _ _ => some t
  | .keeperActionQueue t => some t
  | .cdHeartEdge t => some t
  | .heartLossTimeout t => some t
  | .cdSafeDemandLow t _ => some t
  | .killPowerDelay t => some t
  | .safetyInputEdge t _ _ _ => some t
  | .inputFilterElapsed t _ _ _ _ => some t
  | .discrepancyTimeout t _ => some t
  | .testPulseWindow t _ _ _ _ _ => some t
  | .testPulseHoldEnd t _ _ => some t
  | .evaluatorDisagreeTimeout t _ => some t
  | .autoRestartTimeout t => some t
  | .readbackEdge t _ _ => some t
  | .releaseLapse t => some t
  | .readbackMismatchTimeout t _ => some t
  | .outputPulseStart t _ => some t
  | .outputPulseCheck t _ => some t
  | .brakeFeedbackEdge t _ _ => some t
  | .bfbTimeout t => some t
  | .btTorqueEnd t => some t
  | .btPass t => some t
  | .motionEdge t _ => some t
  | .btOverdue t => some t
  | .btExpired t => some t
  | .wdsServiceStore t _ => some t
  | .wdhSvc t _ _ => some t
  | .serviceArmLapse t _ => some t
  | .watchdogExpiry t _ => some t
  | .graceExpiry t _ => some t
  | .clockMonitorTrip t _ => some t
  | .wdhEnable t _ => some t
  | .wdhDisable t _ => some t
  | .wdhLock t _ _ => some t
  | .wdhKey t _ _ => some t
  | .disableSequenceLapse t => some t
  | .rcCheckin t _ _ => some t
  | .rollCallCycleEnd t => some t
  | .sessionIdleTimeout t _ => some t
  | .por t _ _ _ => some t
  | .resetN t _ => some t
  | .selftestDone t _ _ _ => some t
  | .selfRefreshReport t => some t
  | .pgCdRise t => some t
  | .pgCdTimeout t => some t
  | .pgCdFall t => some t
  | .thermalWarn t _ _ => some t
  | .thermalClear t _ _ => some t
  | .safetyDieThermalTrip t _ _ => some t
  | .outputPulseEnd t _ => some t
  | .faultTestRelease t _ => some t
  | .resetNRelease t _ _ => some t
  | .safetyResetEnd t _ _ => some t
  | .bootTemperatureResume t _ => some t
  | .softwareSelfTest t => some t
  | _ => none

/-- The time and the session slot of a command that is one row written, or read, by a session. -/
def Instr.ofSession : Instr → Option (Nat × Nat)
  | .streamRestart t slot _ _ => some (t, slot)
  | .fenceClear t slot _ => some (t, slot)
  | .arrayRetest t slot _ => some (t, slot)
  | .packageImageWrite t slot _ _ _ => some (t, slot)
  | .manifestImageWrite t slot _ _ _ => some (t, slot)
  | .lanternSetWrite t slot _ _ _ => some (t, slot)
  | .mapImageWrite t slot _ _ _ => some (t, slot)
  | .cdResetLockedClear t slot _ => some (t, slot)
  | .faultClear t slot _ => some (t, slot)
  | .btStart t slot _ => some (t, slot)
  | .holdRequest t slot _ => some (t, slot)
  | .sigBatchRead t slot _ => some (t, slot)
  | .logClear t slot _ => some (t, slot)
  | .marginStart t slot _ => some (t, slot)
  | .commitCrc t slot _ => some (t, slot)
  | .stageDiscard t slot _ => some (t, slot)
  | .roleKey t slot _ _ => some (t, slot)
  | .operatorPassphrase t slot _ => some (t, slot)
  | .partnerSelect t slot _ => some (t, slot)
  | .fabricRestart t slot _ => some (t, slot)
  | .timeStepNs t slot _ => some (t, slot)
  | .intakeEnable t slot _ _ => some (t, slot)
  | .warmReset t slot _ => some (t, slot)
  | .checkDieReset t slot _ => some (t, slot)
  | .fwImage t slot _ _ => some (t, slot)
  | .runRequest t slot _ => some (t, slot)
  | .serviceRequestEnter t slot => some (t, slot)
  | .serviceRequestLeave t slot => some (t, slot)
  | .powerRequest t slot _ => some (t, slot)
  | .attestNonce t slot _ => some (t, slot)
  | .secVersionRaise t slot _ => some (t, slot)
  | .deviceCert t slot _ _ => some (t, slot)
  | .arm t slot _ => some (t, slot)
  | .disarm t slot _ => some (t, slot)
  | _ => none

end Sys2Proof
end

