-- ==== Sys2Proof/Certificates/Slice0/Obligations.lean ====
section
/-! DEFINITION. The statements for the provers. -/

open Sys2Proof Sys2Proof.Machine Host

/-- A step takes the command at the front of the queue and is `exec` of it on the state with the queue's rest. -/
def Obligations.StepRunsTheFrontCommand : Prop :=
  ∀ (s : State) (c : Instr) (rest : List Instr), s.pending = c :: rest → step s = exec c { s with pending := rest }

/-- On an empty queue a step is the check die's own work (log entry 1): the queue stays empty, the safety die is untouched, and while the
check die does not run nothing changes. -/
def Obligations.StepIdlesOnEmptyQueue : Prop :=
  ∀ s : State, s.pending = [] →
    step s = .next s.idle ∧ s.idle.pending = [] ∧ s.idle.dies.sd = s.dies.sd ∧ (¬ s.Runs → s.idle = s)

/-- After reset no command waits, the device is in BOOT, both brake outputs are off with the stop latch set, SD_CD_KILL holds the check
die, which does not run, no session is open, and the invariants of every step hold (log entries 1 and 17 name the values the model chose;
this statement rests on none of them). -/
def Obligations.ResetState : Prop :=
  State.reset.pending = [] ∧ State.reset.dies.sd.device = .boot ∧ State.reset.dies.sd.pinA = false ∧ State.reset.dies.sd.pinB = false ∧
    State.reset.dies.sd.brake.latch = true ∧ State.reset.dies.sd.kill.on = true ∧ ¬ State.reset.Runs ∧
    (∀ slot, State.reset.dies.sd.session slot = none) ∧ State.reset.Fits ∧ State.reset.dies.sd.Held

/-- The safety log never holds more than 256 records and the staged set never more than 2,048 entries, whatever command comes (R326,
R356). -/
def Obligations.LimitsKept : Prop :=
  ∀ s s' : State, s.Fits → step s = .next s' → s'.Fits

/-- No step energises BRK_B against the conditions of the stop path: after every step from a state in which it is so, BRK_B is energised
only with the latch clear, BRK_B_ARM set, the keeper-fault gate open, the device in RUN and awake, and without a demand of the check die,
a heartbeat trip, a debug halt or a fault of BRK_B (R263, R264). -/
def Obligations.BrakeHeldByEveryStep : Prop :=
  ∀ s s' : State, s.dies.sd.Held → step s = .next s' → s'.dies.sd.Held

/-- The SEC_VERSION floor never falls (R447). -/
def Obligations.FloorNeverFalls : Prop :=
  ∀ s s' : State, step s = .next s' → s.dies.sd.floorNow ≤ s'.dies.sd.floorNow

/-- Every command completes, with the queue as it was, in every state, but for an access of the host beyond the end of BAR2, BAR0 or BAR4,
to no address, which faults (R405). -/
def Obligations.EveryCommandCompletes : Prop :=
  (∀ (s : State) (c : Instr),
    (∃ x : Dies, exec c s = .next { s with dies := x }) ∨
    ((∃ (t offset requester : Nat) (b : Octets), c = .landingZoneWrite t offset requester b ∧ 1073741824 < offset + b.length) ∨
      (∃ t offset size v : Nat, c = .registerWrite t offset size v ∧ 67108864 < offset + size) ∨
      (∃ (t offset requester : Nat) (b : Octets), c = .resultIntakeWrite t offset requester b ∧ 16777216 < offset + b.length))) ∧
  (∀ (s : State) (t offset requester size v : Nat) (b : Octets),
    (1073741824 < offset + b.length → exec (.landingZoneWrite t offset requester b) s = .fault .outsideBar) ∧
    (67108864 < offset + size → exec (.registerWrite t offset size v) s = .fault .outsideBar) ∧
    (16777216 < offset + b.length → exec (.resultIntakeWrite t offset requester b) s = .fault .outsideBar))

/-- A command of the check die, or an access of the host to it, leaves the safety die as it was, its clock aside, and the queue; while the
check die does not run it leaves that die alone too. -/
def Obligations.CheckDieCommandsFrame : Prop :=
  ∀ (c : Instr) (t : Nat) (s s' : State), c.atCheckDie = some t → exec c s = .next s' →
    s'.pending = s.pending ∧ s'.dies.sd = s.dies.sd.tick t ∧ (¬ s.Runs → s'.dies.cd = s.dies.cd.tick t)

/-- A command of the safety die, or a flit toward it, leaves the queue, and the check die as it was, its clock aside, unless the device
state changes or SD_CD_KILL is asserted (R257, R427; log entry 11). -/
def Obligations.SafetyDieCommandsFrame : Prop :=
  ∀ (c : Instr) (t : Nat) (s s' : State), c.atSafetyDie = some t → exec c s = .next s' →
    s'.pending = s.pending ∧
    (s'.dies.sd.device = s.dies.sd.device → (s'.dies.sd.kill.on = true → s.dies.sd.kill.on = true) →
      s'.dies.cd = s.dies.cd.tick t)

/-- A row that a session writes does nothing when no session is open in that slot (R344). -/
def Obligations.NoOpenSessionNoEffect : Prop :=
  ∀ (c : Instr) (t slot : Nat) (s : State), c.ofSession = some (t, slot) →
    (∀ ses : Session, s.dies.sd.session slot = some ses → ses.opened = false) →
    exec c s = s.became (s.dies.tick t)

/-- An admitted write to SEC_VERSION_RAISE is of a SERVICE session, raises the floor to the value when that lies above the floor and at or
below the running image's SEC_VERSION, and is otherwise answered RANGE (R447). -/
def Obligations.SecVersionRaise : Prop :=
  ∀ (s : State) (t slot v : Nat) (ses : Session), (s.dies.tick t).Fresh slot ses → s.dies.Admits ses Od.SEC_VERSION_RAISE 0 v →
    ses.role = 4 ∧
    exec (.secVersionRaise t slot v) s = s.requested t slot ses (ses.write Od.SEC_VERSION_RAISE 0 v) (fun y =>
      if s.dies.sd.floorNow < v ∧ v ≤ s.dies.sd.fw.runSec then ({ y with sd := { y.sd with floor := v } } : Dies).done
      else y.say .range)

/-- HEADER_CRC: a 16-bit register, initially 0xFFFF, each byte XORed into its upper half and eight bits shifted out at the top with the
polynomial 0x1021, neither reflected nor inverted at the end; over "123456789" it is 0x29B1 (R44). -/
def Obligations.HeaderCrc : Prop :=
  crc16 [] = 0xFFFF ∧
  (∀ (b : Octets) (x : Nat), crc16 (b ++ [x]) =
    iter (fun c => if c.testBit 15 then ((c <<< 1) % 65536) ^^^ 0x1021 else (c <<< 1) % 65536) 8 (crc16 b ^^^ (x <<< 8))) ∧
  crc16 [0x31, 0x32, 0x33, 0x34, 0x35, 0x36, 0x37, 0x38, 0x39] = 0x29B1 ∧
  ∀ b : Octets, (parsePassport b).crcOk = (field b 62 2 == crc16 (b.take 62))

/-- The check values: kinds 0 and 1 reflected, with initial value and final XOR all ones, kind 2 not reflected, with both 0; their
polynomials, their values over "123456789", and kind 0 the default (R47). -/
def Obligations.CheckValues : Prop :=
  (∀ i : Nat, i < 32 → (0x82F63B78 : Nat).testBit i = (0x1EDC6F41 : Nat).testBit (31 - i)) ∧
  (∀ i : Nat, i < 32 → (0xEDB88320 : Nat).testBit i = (0x04C11DB7 : Nat).testBit (31 - i)) ∧
  (∀ b : Octets, checkValue 0 b
    = (b.foldl (fun c x => iter (fun r => if r % 2 = 1 then (r / 2) ^^^ 0x82F63B78 else r / 2) 8 (c ^^^ x)) 0xFFFFFFFF) ^^^ 0xFFFFFFFF) ∧
  (∀ b : Octets, checkValue 1 b
    = (b.foldl (fun c x => iter (fun r => if r % 2 = 1 then (r / 2) ^^^ 0xEDB88320 else r / 2) 8 (c ^^^ x)) 0xFFFFFFFF) ^^^ 0xFFFFFFFF) ∧
  (∀ b : Octets, checkValue 2 b
    = b.foldl (fun c x => iter (fun r => if r.testBit 63 then ((r <<< 1) % 2 ^ 64) ^^^ 0x42F0E1EBA9EA3693 else (r <<< 1) % 2 ^ 64) 8
        (c ^^^ (x <<< 56))) 0) ∧
  checkValue 0 [0x31, 0x32, 0x33, 0x34, 0x35, 0x36, 0x37, 0x38, 0x39] = 0xE3069283 ∧ checkValue 1 [0x31, 0x32, 0x33, 0x34, 0x35, 0x36, 0x37, 0x38, 0x39] = 0xCBF43926 ∧
  checkValue 2 [0x31, 0x32, 0x33, 0x34, 0x35, 0x36, 0x37, 0x38, 0x39] = 0x6C40DF5F0B497347 ∧ Od.CHECK_KIND.dflt = .num 0

/-- The budget of a stream of share f is floor(f × 12,940,000 / 10,000) × 10,000 MAC per frame: 12,940,000 for f = 1 and 8,620,000 for f =
2/3 (R120). -/
def Obligations.BudgetOfAStream : Prop :=
  (∀ f : Rat, planBudget f = (f * 12940000 / 10000).floor.toNat * 10000) ∧ planBudget 1 = 12940000 ∧ planBudget (2 / 3) = 8620000

/-- BRK_A is energised only while RELEASE stands in its channel register and the keeper-fault gate is open (R265). -/
def Obligations.BrkAConditions : Prop :=
  ∀ s : State, s.dies.sd.pinA = true → s.dies.sd.brake.relA = true ∧ s.dies.sd.brake.gate = true

/-- A stop cause in RUN takes the device to SAFE_HOLD with the latch set and both outputs off; the cause is recorded beside those that
were, SAFE_ENTER goes out, then the epoch advances by EPOCH_ADVANCE, or at the end of the check-die reset in progress; a second cause
changes neither state nor epoch and is recorded too (R199, R280). The epoch and the flits are said of a cycle with no other boundary cause
and no restart event before it (R293, R358). -/
def Obligations.StopInRun : Prop :=
  ∀ (x : SafetyDie) (bit : Nat), x.device = .run →
    (x.stop bit).device = .safeHold ∧ (x.stop bit).brake.latch = true ∧ (x.stop bit).brake.relA = false ∧
    (x.stop bit).driveA = false ∧ (x.stop bit).brake.onB = false ∧
    (x.stop bit).brake.causes = x.brake.causes ||| 2 ^ bit ∧
    (x.kill.on = false → x.kill.wanted = none → x.cdState.serves = true → x.advancedAt ≠ some x.now →
      (x.brake.release = .none ∨ x.brake.restartAt ≠ x.now) → ∀ r : Nat, x.kill.released = some r →
      (x.stop bit).guest.epoch = (x.guest.epoch + 1) % 2 ^ 32 ∧
      (x.stop bit).corTx = (x.corTx.give x.now [flitSafeEnter]).give x.now [flitEpoch ((x.guest.epoch + 1) % 2 ^ 32) 2]) ∧
    (x.kill.on = true ∨ x.kill.wanted.isSome = true ∨ x.cdState.serves = false →
      (x.stop bit).guest.epoch = x.guest.epoch ∧ (x.stop bit).pending = x.pending ||| 2) ∧
    (∀ other : Nat, ((x.stop bit).stop other).device = .safeHold ∧
      ((x.stop bit).stop other).guest.epoch = (x.stop bit).guest.epoch ∧ ((x.stop bit).stop other).corTx = (x.stop bit).corTx ∧
      ((x.stop bit).stop other).brake.causes = x.brake.causes ||| 2 ^ bit ||| 2 ^ other)

/-- CD_SAFE_DEMAND low for less than 130 ns changes nothing; for 130 ns or more it is a safe demand: the latch is set, BRK_B is off, bit 2
of SAFE_CAUSES is set, and BRK_A and the device state wait for the token (R256, R264, R281). A release that began in the same cycle is
stopped with it: SAFE_HOLD, both outputs off (R293). -/
def Obligations.SafeDemand : Prop :=
  ∀ (s : State) (t ns : Nat), s.dies.sd.demand = false →
    (ns < 130 → exec (.cdSafeDemandLow t ns) s = s.safetyDid t id) ∧
    (130 ≤ ns → (s.dies.sd.brake.release = .none ∨ s.dies.sd.brake.restartAt ≠ (s.dies.sd.tick t).now) →
      ∃ s' : State, exec (.cdSafeDemandLow t ns) s = .next s' ∧ s'.dies.sd.demand = true ∧ s'.dies.sd.brake.latch = true ∧
      s'.dies.sd.brake.onB = false ∧ s'.dies.sd.pinB = false ∧ s'.dies.sd.brake.causes = s.dies.sd.brake.causes ||| 4 ∧
      s'.dies.sd.device = s.dies.sd.device ∧ s'.dies.sd.brake.relA = s.dies.sd.brake.relA ∧
      s'.dies.cd = s.dies.cd.tick t) ∧
    (130 ≤ ns → s.dies.sd.device = .run → s.dies.sd.brake.release ≠ .none → s.dies.sd.brake.restartAt = (s.dies.sd.tick t).now →
      ∃ s' : State, exec (.cdSafeDemandLow t ns) s = .next s' ∧ s'.dies.sd.device = .safeHold ∧ s'.dies.sd.brake.relA = false ∧
      s'.dies.sd.brake.onB = false ∧ s'.dies.sd.brake.latch = true)

/-- No edge of CD_HEART for longer than the band below HEART_LOSS_NS, or an edge sooner than 450 ns after the last, trips an armed
monitor: in RUN the device enters SAFE_HOLD with both outputs off and the latch set, bit 3 of SAFE_CAUSES is set, and the kill is wanted
from now (R253, R254, R260). -/
def Obligations.HeartbeatTrip : Prop :=
  ∀ (s : State) (t : Nat), s.dies.sd.heart.armed = true → s.dies.sd.power ≠ .retain → s.dies.sd.kill.on = false →
    s.dies.sd.kill.wanted = none → s.dies.sd.device = .run → ∀ c : Instr,
    (c = .heartLossTimeout t ∧
        s.dies.sd.heart.lastEdge * 100 + s.dies.sd.get Od.HEART_LOSS_NS * 88 < (s.dies.sd.tick t).now * 100) ∨
      (c = .cdHeartEdge t ∧ s.dies.sd.heart.edge = true ∧ (s.dies.sd.tick t).now < s.dies.sd.heart.lastEdge + 450) →
    ∃ s' : State, exec c s = .next s' ∧ s'.dies.sd.heart.tripped = true ∧ s'.dies.sd.kill.wanted = some (s.dies.sd.tick t).now ∧
      s'.dies.sd.device = .safeHold ∧ s'.dies.sd.driveA = false ∧ s'.dies.sd.brake.onB = false ∧ s'.dies.sd.brake.latch = true ∧
      s'.dies.sd.brake.causes.testBit 3 = true

/-- When PG_CD falls while CD_PWR_EN is high and SD_CD_KILL is not asserted, the safety die trips as on a heartbeat loss; the kill a trip
calls for counts its time toward CD_RESET_LIMIT (R486). -/
def Obligations.PowerGoodFall : Prop :=
  (∀ (s : State) (t : Nat), s.dies.sd.kill.pwrEn = true → s.dies.sd.kill.pg = true → s.dies.sd.kill.on = false →
    exec (.pgCdFall t) s = s.safetyDid t (fun y => ({ y with kill := { y.kill with pg := false } } : SafetyDie).trip)) ∧
  (∀ y : SafetyDie, y.heartLoss = if y.heart.armed ∧ y.power ≠ .retain ∧
      y.heart.lastEdge * 100 + y.get Od.HEART_LOSS_NS * 88 < y.now * 100 then y.trip else y) ∧
  (∀ y : SafetyDie, y.kill.on = false → y.kill.wanted = none → y.trip.kill.wanted = some y.now) ∧
  (∀ (y : SafetyDie) (u : Nat), y.kill.wanted = some u → y.kill.on = false → (y.brake.brbA = false ∨ u + 60000 ≤ y.now) →
    y.killIfDue.kill.on = true ∧ y.now ∈ y.killIfDue.kill.times)

/-- A restart event, which ends a running brake test, with an HBL source active leaves the latch and the device state. With none, the
brake is released only when no condition of the release fails: then the latch is clear, RELEASE is written, BRK_B_ARM is not, and the
device is in RUN; otherwise the latch is set again and the device state and RELEASE stay (R284, R285). An AUTOMATIC restart event comes
after 100 ms of calm (R283). The guarding streams are those of log entry 16. -/
def Obligations.RestartConditions : Prop :=
  (∀ x z : SafetyDie, z = x.eventTest →
    (z.hblSource = true → x.restart.brake.latch = x.brake.latch ∧ x.restart.device = x.device ∧ x.restart.brake.relA = x.brake.relA) ∧
    (z.hblSource = false → ∀ y : SafetyDie, y = z.setBrake (fun b => { b with latch := false, causes := z.activeCauses }) →
      (y.releaseFails = none → x.restart.brake.latch = false ∧ x.restart.brake.relA = true ∧ x.restart.brake.arm = false ∧
        x.restart.brake.state = .releasing ∧ (x.device = .safeHold ∨ x.device = .run) ∧ x.restart.device = .run) ∧
      (∀ k : Nat, y.releaseFails = some k → x.restart.brake.latch = true ∧ x.restart.device = x.device ∧
        x.restart.brake.relA = x.brake.relA))) ∧
  (∀ (s : State) (t u : Nat), s.dies.sd.brake.calm = some u → s.dies.sd.get Od.RESTART_MODE = 1 → s.dies.sd.brake.latch = true →
    u + 100000000 ≤ (s.dies.sd.tick t).now →
    exec (.autoRestartTimeout t) s
      = s.safetyDid t (fun y => (y.setBrake (fun b => { b with calm := some y.now })).restart)) ∧
  (∀ (s : State) (t : Nat), s.dies.sd.brake.release = .waitReadback → ∃ s' : State,
    exec (.readbackEdge t false true) s = .next s' ∧ s'.dies.sd.brake.arm = true ∧ s'.dies.sd.brake.onB = s'.dies.sd.mayB)

/-- An output pulse in RELEASED takes its pin low and leaves SAFE_STATE_N as it was, with the output energised as the HBL has it (R282,
R287). -/
def Obligations.PulsesKeepSafeStateN : Prop :=
  ∀ (s : State) (t : Nat) (isB : Bool), s.dies.sd.brake.onB = s.dies.sd.mayB →
    ∃ s' : State, exec (.outputPulseStart t isB) s = .next s' ∧ s'.dies.sd.safeStateN = s.dies.sd.safeStateN ∧
      (s.dies.sd.brake.state = .released → isB = false → s.dies.sd.brake.pulseA = none →
        s.dies.sd.brake.pulsedA + s.dies.sd.get Od.PULSE_PERIOD_MS * 1000000 ≤ (s.dies.sd.tick t).now → s'.dies.sd.pinA = false) ∧
      (s.dies.sd.brake.state = .released → isB = true → s.dies.sd.brake.pulseB = none →
        s.dies.sd.brake.pulsedB + s.dies.sd.get Od.PULSE_PERIOD_MS * 1000000 ≤ (s.dies.sd.tick t).now →
        s.dies.sd.brake.pulsedA + s.dies.sd.get Od.PULSE_PERIOD_MS * 1000000 / 2 ≤ (s.dies.sd.tick t).now → s'.dies.sd.pinB = false)

/-- WDS, running, not halted, with no expiry due: the first key arms it, the second within 16 ticks serves it when its window is open, and
a wrong value is a key error that brings GRACE after its first accepted service; in none of them does anything but the watchdog, its
counter and the log change (R299, R300, R302). -/
def Obligations.WatchdogService : Prop :=
  ∀ (s : State) (t v : Nat) (x : Dog), x = s.dies.sd.wds → x.state = .running → x.held = none → s.dies.sd.keeper.halted = false →
    (s.dies.sd.tick t).now < x.base + x.timeout * 1000 →
    (v % 65536 = 0xA35C → x.armed = none →
      exec (.wdsServiceStore t v) s = s.safetyDid t (fun y => { y with wds := { x with armed := some y.now } })) ∧
    (∀ u : Nat, v % 65536 = 0x5CA3 → x.armed = some u → (s.dies.sd.tick t).now ≤ u + 16000 →
      (x.window = true → x.wopen ≤ ((s.dies.sd.tick t).now - x.base) / 1000) →
      exec (.wdsServiceStore t v) s = s.safetyDid t (fun y =>
        { y with wds := y.loadDog false { x with base := y.now, lastFail := 0, armed := none } })) ∧
    (v % 65536 ≠ 0xA35C → v % 65536 ≠ 0x5CA3 → x.armed = none → x.boot = false →
      exec (.wdsServiceStore t v) s = s.safetyDid t (fun y =>
        (({ y with wds := { x with state := .grace, base := y.now, lastFail := 3 } } : SafetyDie).bump Od.WDS_WARNINGS).raise .wdsWarning
          0 (instOf 0 0xFF) 3))

/-- LOCK refuses to end WDH: EN = 0 from the host leaves it enabled and running, while its expiry is not due, whatever keys came before;
without LOCK a completed sequence of keys within 16 ticks ends it (R306, R307). -/
def Obligations.WatchdogLock : Prop :=
  ∀ (s : State) (t seq : Nat), s.FromCheck seq → s.dies.sd.wdh.due (s.dies.sd.tick t).now = false →
    (s.dies.sd.gate.lock = true → ∃ s' : State, exec (.wdhDisable t seq) s = .next s' ∧ s'.dies.sd.gate.lock = true ∧
      s'.dies.sd.gate.en = s.dies.sd.gate.en ∧ s'.dies.sd.wdh = s.dies.sd.wdh) ∧
    (s.dies.sd.gate.lock = false → s.dies.sd.gate.step = 2 → (s.dies.sd.tick t).now ≤ s.dies.sd.gate.stepAt + 16000 →
      ∃ s' : State, exec (.wdhDisable t seq) s = .next s' ∧ s'.dies.sd.gate.en = false ∧ s'.dies.sd.wdh.state = .off ∧
        s'.dies.sd.gate.step = 0)

/-- A well-formed HELLO for a role that is locked, or without a key, opens no session and changes no lockout record: REFUSE goes out with
its cause and, when locked, the seconds left. A wrong PROOF in time frees its slot, adds 1 to its role's failures and, from the fifth,
locks it for min(2^(f−5), 3,600) s (R345, R346, R351). -/
def Obligations.RefusedHandshakes : Prop :=
  (∀ (x : SafetyDie) (path origin : Nat) (b : Octets), helloFormed path b = true →
    (x.lockLeft (field (dataOf b) 0 1) ≠ 0 ∨ x.roleKey (field (dataOf b) 0 1) = none →
      (x.hello path origin b).sessions = x.sessions ∧ (x.hello path origin b).guest = x.guest) ∧
    (x.lockLeft (field (dataOf b) 0 1) ≠ 0 → x.hello path origin b = x.sendOd 0xFF path origin
      (handshake 0x05 0xFF b ([1, 0, 0, 0] ++ le 4 (x.lockLeft (field (dataOf b) 0 1))) none))) ∧
  (∀ (x : SafetyDie) (path origin : Nat) (b : Octets) (ses : Session) (key : Octets),
    x.session (field b 4 1) = some ses → ses.opened = false → ses.path = path → ses.origin = origin →
    messageFormed path 0 b = true → zeros (tagOf b) = true → (dataOf b).length = 32 → x.lockLeft ses.role = 0 →
    x.now ≤ ses.since + 10000000000 → x.roleKey ses.role = some key →
    dataOf b ≠ padTo 32 (Config.kmac256 key (ses.transcript (field b 4 1)) 256 "OPEN-C") →
    (x.proof path origin b).sessions = (x.setSession (field b 4 1) none).sessions ∧
    (x.proof path origin b).guest = (x.setLock ses.role
      { fails := (x.lockOf ses.role).fails + 1,
        until_ := if 5 ≤ (x.lockOf ses.role).fails + 1 then x.rtcNow + min (2 ^ ((x.lockOf ses.role).fails + 1 - 5)) 3600
          else (x.lockOf ses.role).until_ }).guest)

/-- A READ, a WRITE or a CLOSE of an open session whose TAG is wrong is discarded and counted, and only its session and that counter
change; the eighth ends the session and adds 1 to its role's failures. One with its right TAG and a SEQ that is not later is counted in
REPLAYS, unless it repeats the last request, whose response goes out again (R348, R349). -/
def Obligations.TagFailuresAndReplays : Prop :=
  ∀ (s : State) (t path origin seq : Nat) (b : Octets) (ses : Session) (y : Dies) (c : Instr),
    (s.dies.tick t).Hears path origin seq b → y = (s.dies.tick t).carried path seq b →
    y.sd.session (field b 4 1) = some ses → ses.opened = true → y.sd.idle ses = false → ses.path = path → ses.origin = originOf path origin →
    (kindOf b = 0x10 ∧ c = .read t path origin seq b ∨ kindOf b = 0x11 ∧ c = .write t path origin seq b ∨
      kindOf b = 0x12 ∧ c = .close t path origin seq b) →
    (b.length < 40 ∨ tagOf b ≠ tagWanted ses.key b →
      exec c s = s.became (y.safety (fun z => z.tagFailed (field b 4 1) ses)) ∧
      (ses.tagFails + 1 < 8 → y.sd.tagFailed (field b 4 1) ses = (y.sd.bump Od.TAG_FAILURES).setSession (field b 4 1)
        (some { ses with tagFails := ses.tagFails + 1, discarded := ses.discarded + 1 })) ∧
      (8 ≤ ses.tagFails + 1 → (y.sd.tagFailed (field b 4 1) ses).sessions = (y.sd.setSession (field b 4 1) none).sessions ∧
        (y.sd.tagFailed (field b 4 1) ses).guest.locks = (y.sd.setLock ses.role
          { y.sd.lockOf ses.role with fails := (y.sd.lockOf ses.role).fails + 1 }).guest.locks)) ∧
    (40 ≤ b.length → tagOf b = tagWanted ses.key b → (parseReq path b).seq ≤ ses.lastSeq →
      (¬ ((parseReq path b).seq = ses.lastSeq ∧ tagOf b = ses.lastTag) →
        exec c s = s.became { y with sd :=
          (y.sd.bump Od.REPLAYS).setSession (field b 4 1) (some { ses with discarded := ses.discarded + 1 }) }) ∧
      ((parseReq path b).seq = ses.lastSeq → tagOf b = ses.lastTag → ses.response ≠ [] →
        exec c s = s.became { y with sd :=
          (y.sd.setSession (field b 4 1) (some { ses with heardAt := y.sd.now })).sendOd (field b 4 1) ses.path ses.origin ses.response }))

/-- A record put into the safety log never takes the place of a SAFETY record, and fills a free place of 256. LOG_CLEAR of 1 leaves the
LOG_CLEARED record alone in the ring and the first-fault table as it was; 2 empties that table; 3 does both; a SAFETY record of the
safety die from the same instant stays (R326, R338; log entry 89). -/
def Obligations.SafetyLog : Prop :=
  (∀ (log : List EventRec) (n : Nat) (r e : EventRec), e ∈ log → e.name.severity = .safety → e ∈ (logPush log n r).1) ∧
  (∀ (log : List EventRec) (n : Nat) (r : EventRec), log.length < 256 → (logPush log n r).1 = log ++ [r]) ∧
  (∀ (log : List EventRec) (n : Nat) (r : EventRec), 256 ≤ log.length → (logPush log n r).1.length = log.length) ∧
  (∀ x : SafetyDie, (∀ r ∈ x.log, r.onSafety = true → r.gts ≠ x.gts) →
    ((x.logClear 1).log.map EventRec.name = [.logCleared] ∧ (x.logClear 1).guest.first = x.guest.first) ∧
    (x.logClear 2).guest.first = [] ∧
    ((x.logClear 3).log.map EventRec.name = [.logCleared] ∧ (x.logClear 3).guest.first = [])) ∧
  (∀ (x : SafetyDie) (r : EventRec), r ∈ x.log → r.onSafety = true → r.gts = x.gts → r.name.severity = .safety →
    r ∈ (x.logClear 1).log ∧ r ∈ (x.logClear 3).log)

/-- A sequenced flit toward the safety die whose SEQ is not the next one expected is discarded: the receiver's NAK state alone changes and
at most a NAK goes out, until the fourth NAK of one SEQ (R248, R249). -/
def Obligations.FlitOutOfOrder : Prop :=
  ∀ (s : State) (t seq payload : Nat) (split : Bool) (y : SafetyDie), s.dies.sd.kill.on = false → s.dies.sd.power ≠ .retain → s.dies.sd.injectors = [] →
    s.dies.sd.corRx.up = true → seq % 256 ≠ s.dies.sd.corRx.expected → s.dies.sd.corRx.nakCount < 3 → y = s.dies.sd.tick t →
    exec (.verdictToken t seq payload split) s = s.safetyDid t (fun _ =>
      if (y.corRx.discard y.now).2 then
        { y with corRx := (y.corRx.discard y.now).1, sent := y.sent ++ [.link y.corRx.last true y.corRx.expected] }
      else { y with corRx := (y.corRx.discard y.now).1 })

/-- The first condition that holds decides a real frame's provisional verdict: WITHHELD for a lantern's slot or the safe state, NO_INPUT
without a frame, NOT_BELIEVED for a reason of the stream's mask, NO_RESULT without a result in time, STALE for its age, and BELIEVED for
none; so a BELIEVED frame has none of the reasons that are always NB, has its result, and is neither old nor withheld (R189). -/
def Obligations.ProvisionalVerdict : Prop :=
  ∀ (cfg : OdStore) (n r : Nat) (noFrame onTime : Bool),
    (anyBit r (rLANTERN_SLOT ||| rSAFE_STATE) = true → composeCode (nbMask cfg n) r noFrame onTime = vWITHHELD) ∧
    (anyBit r (rLANTERN_SLOT ||| rSAFE_STATE) = false →
      (noFrame = true → composeCode (nbMask cfg n) r noFrame onTime = vNO_INPUT) ∧
      (noFrame = false → (anyBit r (nbMask cfg n) = true → composeCode (nbMask cfg n) r noFrame onTime = vNOT_BELIEVED) ∧
        (anyBit r (nbMask cfg n) = false →
          (onTime = false → composeCode (nbMask cfg n) r noFrame onTime = vNO_RESULT) ∧
          (onTime = true → anyBit r rAGE_EXCEEDED = true → composeCode (nbMask cfg n) r noFrame onTime = vSTALE) ∧
          (onTime = true → anyBit r rAGE_EXCEEDED = false → composeCode (nbMask cfg n) r noFrame onTime = vBELIEVED)))) ∧
    (composeCode (nbMask cfg n) r noFrame onTime = vBELIEVED →
      noFrame = false ∧ onTime = true ∧
      ∀ k : Nat, k < 32 → alwaysNb.testBit k = true ∨ k = 7 ∨ k = 25 ∨ k = 27 → r.testBit k = false)

/-- A frame that arrives at an enabled fabric port with a failing FCS changes nothing but FRAMES_DISCARDED (R377). -/
def Obligations.BadFabricFrames : Prop :=
  ∀ (s : State) (t p : Nat) (b : Octets) (c : Instr), s.Runs → p < 4 → (s.dies.cd.tick t).fabOn p = true →
    c ∈ [Instr.linkHello t p false b, .lsa t p false b, .assign t p false b, .put t p false b, .get t p false b, .fetchAdd t p false b,
      .cmpSwap t p false b, .response t p false b, .ack t p false b] →
    exec c s = s.checkDid t (fun d => { d with regs := d.regs.bump Od.FRAMES_DISCARDED 0 1 })

/-- RESET_N low for less than 0.5 µs resets nothing. For 0.5 µs or more (the model's choice below 1 µs), and by POR, the safety die is in
BOOT with both outputs off, SD_CD_KILL asserted, every session and staged entry gone and the watchdogs off; role keys, the certificate,
the P store, the SEC_VERSION floor and the verdict epoch stay; WDH's LOCK stays but at POR; LAST_RESET names the reset (R435–R438). -/
def Obligations.ResetsOfTheSafetyDie : Prop :=
  ∀ (s : State) (t ns : Nat),
    (ns < 500 → exec (.resetN t ns) s = s.safetyDid t id) ∧
    (500 ≤ ns → s.dies.sd.boot.heldSince = none → s.dies.sd.stores = [] → ∃ s' : State, exec (.resetN t ns) s = .next s' ∧
      s'.dies.sd.device = .boot ∧ s'.dies.sd.driveA = false ∧ s'.dies.sd.brake.onB = false ∧ s'.dies.sd.kill.on = true ∧
      s'.dies.sd.sessions = [] ∧ s'.dies.sd.staging = {} ∧ s'.dies.sd.wds.state = .off ∧ s'.dies.sd.wdh.state = .off ∧
      s'.dies.sd.keys = s.dies.sd.keys ∧ s'.dies.sd.cert = s.dies.sd.cert ∧ s'.dies.sd.flash = s.dies.sd.flash ∧
      s'.dies.sd.floor = s.dies.sd.floor ∧ s'.dies.sd.guest.epoch = s.dies.sd.guest.epoch ∧
      s'.dies.sd.gate.lock = s.dies.sd.gate.lock ∧ s'.dies.sd.guest.lastReset = 2) ∧
    (s.dies.sd.stores = [] → ∃ s' : State, exec (.por t false [] false) s = .next s' ∧
      s'.dies.sd.driveA = false ∧ s'.dies.sd.brake.onB = false ∧ s'.dies.sd.kill.on = true ∧
      s'.dies.sd.sessions = [] ∧ s'.dies.sd.staging = {} ∧ s'.dies.sd.wdh.state = .off ∧
      s'.dies.sd.keys = s.dies.sd.keys ∧ s'.dies.sd.cert = s.dies.sd.cert ∧ s'.dies.sd.flash = s.dies.sd.flash ∧
      s'.dies.sd.floor = s.dies.sd.floor ∧ s'.dies.sd.guest.epoch = s.dies.sd.guest.epoch ∧
      s'.dies.sd.gate.lock = false ∧ s'.dies.sd.guest.lastReset = 0)

/-- The verdict epoch advances by 1 modulo 2^32 for the causes of one boundary, by EPOCH_ADVANCE to a check die that serves; a cause of
the cycle in which it advanced joins that boundary by another EPOCH_ADVANCE of the same epoch (R358; log entry 85). On the check
die, in RUN and with no injector armed, the boundary of a safe-state entry brings that epoch into force at its instant, with the
configuration as it was; its instant, its causes and the epoch are what the dictionary and the host read (R199, R202). -/
def Obligations.EpochBoundary : Prop :=
  (∀ (x : SafetyDie) (causes r : Nat), x.kill.on = false → x.kill.wanted = none → x.cdState.serves = true → x.kill.released = some r →
    (x.advancedAt ≠ some x.now → (x.advance causes).guest.epoch = (x.guest.epoch + 1) % 2 ^ 32 ∧
      (x.advance causes).corTx = x.corTx.give x.now [flitEpoch ((x.guest.epoch + 1) % 2 ^ 32) causes]) ∧
    (x.advancedAt = some x.now → (x.advance causes).guest.epoch = x.guest.epoch ∧
      (x.advance causes).corTx = x.corTx.give x.now [flitEpoch x.guest.epoch causes])) ∧
  (∀ (d : CheckDie) (epoch : Nat), d.device = .run → d.state = .run → d.injectors = [] →
    (d.boundary epoch 2).epoch = epoch ∧ (d.boundary epoch 2).causes = 2 ∧ (d.boundary epoch 2).boundaryGts = d.gts ∧
    (d.boundary epoch 2).epochImage = epoch ∧ (d.boundary epoch 2).device = .safeHold ∧ (d.boundary epoch 2).cfg = d.cfg)

/-- Commands of the check die whose whole effect is one register or field: a stray block, a bound test that agrees, the end of a watch
window, a read of GTS_LO, the end of PPS_OUT, a PTM response without a dialogue, a weight load while one is busy, and a lost clock (R30,
R41, R87, R101, R399, R400, R407, R420). -/
def Obligations.CheckDieExactEffects : Prop :=
  ∀ (s : State) (t : Nat), s.Runs →
    (∀ n : Nat, n < 12 → exec (.strayDataBlock t n) s
      = s.checkDid t (fun d => { d with regs := d.regs.bump Od.STRAY_AND_DUPLICATE n 1 })) ∧
    (∀ (c m : Nat) (v : TileLane), c < 16 → (s.dies.cd.cluster c).boundAt + s.dies.cd.get Od.BOUND_TEST_PERIOD_MS * 1000000
      ≤ (s.dies.cd.tick t).now → ub24Pattern (v.bound v.run) = m → exec (.boundTest t c v m) s
      = s.checkDid t (fun d => (d.updCluster c (fun x => { x with boundAt := d.now })).composeDue)) ∧
    (∀ c row : Nat, c < 16 → exec (.watchWindowExpiry t c row) s = s.checkDid t (fun d =>
      { d with clusters := d.clusters.upd Cluster.init c (fun x => { x with watch := x.watch.filter (fun w =>
        w.row != row || w.margin || decide (d.now < w.at_ + d.get Od.ROW_FENCE_WINDOW_MS * 1000000)) }) })) ∧
    (s.dies.cd.perst = false → exec (.gtsLoRead t) s
      = s.checkDid t (fun d => { d with time := { d.time with gtsHi := d.gts / 2 ^ 32 } })) ∧
    (s.dies.cd.time.ppsHigh = true →
      s.dies.cd.time.ppsRoseAt + s.dies.cd.get Od.PPS_OUT_WIDTH_US * 1000 ≤ (s.dies.cd.tick t).now →
      exec (.ppsOutFall t) s = s.checkDid t (fun d => { d with time := { d.time with ppsHigh := false } })) ∧
    (∀ master delay : Nat, s.dies.cd.time.ptmAsked = none → exec (.ptmResponse t master delay) s = s.checkDid t id) ∧
    (s.dies.cd.perst = false → s.dies.cd.wl.busy = true → exec (.weightLoadGo t) s = s.checkDid t id) ∧
    (∀ which : Nat, 2 < which → exec (.clockLoss t which) s = s.checkDid t (fun d => { d with clock := false }))

/-- Commands of the safety die whose whole effect is one register or field: a raw edge of an input channel, the end of the brake test's
torque, a motion edge shorter than 1 µs, a TIME_SAMPLE, a watch entry mirrored in the guest book, the first key of WDH's disable sequence
and the lapse of a completed one (R245, R267, R290, R306, R321). -/
def Obligations.SafetyDieExactEffects : Prop :=
  ∀ (s : State) (t : Nat),
    (∀ (i : Nat) (level : Bool), i < 8 → (s.dies.sd.pair i).rawA ≠ level → exec (.safetyInputEdge t i false level) s
      = s.safetyDid t (fun y => { y with pairs := y.pairs.upd {} i (fun p => { p with rawA := level, edgeA := y.now }) })) ∧
    (∀ u : Nat, s.dies.sd.brake.test = some u → u + s.dies.sd.get Od.BT_DURATION_MS * 1000000 ≤ (s.dies.sd.tick t).now →
      exec (.btTorqueEnd t) s = s.safetyDid t (fun y => { y with brake := { y.brake with tq := false } })) ∧
    (∀ ns : Nat, ns < 1000 → exec (.motionEdge t ns) s = s.safetyDid t id) ∧
    (∀ seq gts : Nat, s.FromCheck seq → exec (.timeSample t seq gts) s
      = s.safetyDid t (fun y => { y.accepted 1 with gtsBase := gts, gtsAt := y.now, gtsSet := true })) ∧
    (∀ seq c row : Nat, s.FromCheck seq → c < 256 → row < 256 → exec (.fenceChange t seq c row false) s
      = s.safetyDid t (fun y => { y.accepted 1 with guest := { y.guest with fences := y.guest.fences.upd {} c (fun m =>
          { m with watch := row :: m.watch.filter (fun r => r != row) }) } })) ∧
    (∀ seq v : Nat, s.FromCheck seq → v < 2 ^ 32 → v % 65536 = 0xD15A → s.dies.sd.gate.step = 0 → exec (.wdhKey t seq v) s
      = s.safetyDid t (fun y => { y.accepted 1 with gate := { y.gate with step := 1 } })) ∧
    (s.dies.sd.gate.step = 2 → s.dies.sd.gate.stepAt + 16000 < (s.dies.sd.tick t).now → exec (.disableSequenceLapse t) s
      = s.safetyDid t (fun y => { y with gate := { y.gate with step := 0 }, regs := y.regs.bump Od.WDH_IGNORED 0 1 }))

/-- The residues of a lane's tile. Of an integer tile in which nothing but products goes wrong, and whose sum stays within the 48-bit
accumulator, the comparison at the end agrees just when the errors add up to a multiple of 32,385 = 255 × 127. Of a floating tile in which
nothing goes wrong, with finite operands and block sums within the 64-bit accumulator, each block's predicted residues grow by those of its
accumulated value, whatever the alignments shift out (R76, R80, R81, R83). -/
def Obligations.ResiduesOfALane : Prop :=
  (∀ l : TileLane, l.float = false → (∀ f ∈ l.faults, ∃ k e, f = .product k e) →
    |(((l.pairs.zip (List.range l.pairs.length)).foldl l.takeInt {}).acc)| < 2 ^ 47 →
    (l.mismatch = false ↔
      (32385 : Int) ∣ ((List.range l.pairs.length).map (fun k => l.productErr k)).sum)) ∧
  (∀ (l : TileLane) (r : LaneRun) (b : List ((Operand × Operand) × Nat) × Nat), l.faults = [] →
    (∀ p ∈ b.1, l.special p.1 = none) → |(b.1.foldl (l.takeProduct (l.blockExp b.1)) { r with acc := 0 }).acc| < 2 ^ 63 →
    ((l.takeBlock r b).pred255 : Int) - r.pred255 ≡ (l.takeBlock r b).act255 - r.act255 [ZMOD 255] ∧
    ((l.takeBlock r b).pred127 : Int) - r.pred127 ≡ (l.takeBlock r b).act127 - r.act127 [ZMOD 127])

/-- A mismatch of a row that is not on its cluster's watch list goes onto it; another one within ROW_FENCE_WINDOW_MS fences the row, and
beyond ROW_FENCE_LIMIT rows the whole cluster. A cluster under test counts nothing (R101, R103, R107). -/
def Obligations.RowFences : Prop :=
  ∀ (d : CheckDie) (c row : Nat), row < 96 →
    ((d.cluster c).out = true → d.countAgainst c row = d) ∧
    ((d.cluster c).out = false → (d.cluster c).watch.any (fun w => w.row == 0xFF && w.margin) = false →
      ((d.cluster c).watch.any (fun w => w.row == row) = false →
        d.countAgainst c row = (d.updCluster c (fun x =>
          { x with watch := x.watch.filter (fun w => w.row != row) ++ [{ row := row, at_ := d.now }] })).sendFlit (flitFence c row false)) ∧
      (∀ w ∈ (d.cluster c).watch, w.row = row → d.now ≤ w.at_ + d.get Od.ROW_FENCE_WINDOW_MS * 1000000 →
        row ∈ ((d.countAgainst c row).cluster c).rows ∧
        ((d.cluster c).rows.contains row = false →
          d.get Od.ROW_FENCE_LIMIT < ((d.countAgainst c row).cluster c).rows.length →
          ((d.countAgainst c row).cluster c).fenced = true)))

/-- An entry of one unit goes to its place in an enabled ring with room, and RING_WRITE advances modulo 2^32; a ring that is full or
disabled drops it and counts it in RING_DROPPED, and nothing else changes (R415, R416). -/
def Obligations.HostRingEntry : Prop :=
  ∀ (d : CheckDie) (r : Nat) (b : Octets), d.busMaster = true →
    ((d.ring r).on = true → subMod 32 (d.ring r).write (d.ring r).read < 2 ^ bitsOf (d.ring r).ctrl 16 5 →
      (d.ringPush r [b]).2 = true ∧ (d.ringPush r [b]).1 = d.ringWriteOne r b ∧
      ((d.ringPush r [b]).1.ring r).write = ((d.ring r).write + 1) % 2 ^ 32 ∧
      (d.ringPush r [b]).1.sent = d.sent ++
        [.hostWrite ((d.ring r).base + ((d.ring r).write % 2 ^ bitsOf (d.ring r).ctrl 16 5) * (if r = 2 then 64 else 32)) b]) ∧
    ((d.ring r).on = false ∨ 2 ^ bitsOf (d.ring r).ctrl 16 5 ≤ subMod 32 (d.ring r).write (d.ring r).read →
      d.ringPush r [b] = (d.updRing r (fun x => { x with dropped := (x.dropped + 1) % 2 ^ 32 }), false))

/-- The RESULTs whose wait is over are dropped first. On a lane that is up, with nothing in progress, a RESULT starts only when its consumer's credit covers it, with the number that
follows the last complete record; a RETRACT or an EPOCH_FENCE that is due ends a RESULT in progress and starts, and no other record does;
a lane that is down starts nothing (R210, R213–R215, R224). -/
def Obligations.EgressStart : Prop :=
  ∀ (d : CheckDie) (l : Nat) (x : CheckDie), x = (d.laneCatchUp l).dropOver l →
    ((x.lane l).up = false → d.egressStart l = x) ∧
    ((x.lane l).sending = none → ∀ s : Sending, ((d.egressStart l).lane l).sending = some s →
      (s.item.kind = .result → (x.consumer s.item.consumer).credit = true ∧
        (x.consumer s.item.consumer).used + s.item.units ≤ (x.consumer s.item.consumer).total) ∧
      s.seq = x.egressSeq l s.item.cid ∧ s.start = x.now) ∧
    (∀ s : Sending, (x.lane l).up = true → (x.lane l).sending = some s →
      (s.item.kind ≠ .result ∨ (x.lane l).queue.any (fun y => y.preempts && decide (s.start ≤ y.due)) = false → d.egressStart l = x) ∧
      (s.item.kind = .result → (x.lane l).queue.any (fun y => y.preempts && decide (s.start ≤ y.due)) = true →
        ∃ z : Sending, ((d.egressStart l).lane l).sending = some z ∧ z.item.preempts = true ∧
          ({ s.item with resend := true } : EgItem) ∈ ((d.egressStart l).lane l).queue))

/-- Each command of a stream porter, and each of the check array, its scrubbers and the dispatcher, completes while the check die runs: it
is the operation named, and nothing else changes but the clocks (R40, R41, R49, R52, R55–R57, R61, R64, R66, R68, R83, R94, R126). -/
def Obligations.IngressAndCheckCommandsComplete : Prop :=
  ∀ (s : State) (t : Nat), s.Runs →
    (∀ (n : Nat), n < 12 → exec (.viBlockLockAcquired t n) s = s.checkDid t (fun d => d.lockAcquired n)) ∧
    (∀ (n got last : Nat), n < 12 → exec (.viBlockLockLost t n got last) s = s.checkDid t (fun d => d.lockLost n got last)) ∧
    (∀ (n : Nat), n < 12 → exec (.strayDataBlock t n) s = s.checkDid t (fun d => d.strayBlock n)) ∧
    (∀ (n : Nat) (b : Octets) (lead : Lead), n < 12 → exec (.passportComplete t n b lead) s = s.checkDid t (fun d => d.passportComplete
      n b lead)) ∧
    (∀ (n : Nat) (payload trailer : Octets) (vend errored : Bool), n < 12 → exec (.frameT0 t n payload trailer vend errored) s =
      s.checkDid t (fun d => d.frameEnd n payload trailer vend errored)) ∧
    (∀ (n got last : Nat), n < 12 → exec (.frameGapTimeout t n got last) s = s.checkDid t (fun d => d.gapTimeout n got last)) ∧
    (∀ (n : Nat) (b : HeartItem), n < 12 → exec (.heartbeatItem t n b) s = s.checkDid t (fun d => d.heartbeatItem n b)) ∧
    (∀ (n : Nat), n < 12 → exec (.creditPeriod t n) s = s.checkDid t (fun d => d.creditPeriod n)) ∧
    (∀ (n : Nat), n < 12 → exec (.timePeriod t n) s = s.checkDid t (fun d => d.timePeriod n)) ∧
    (∀ (n : Nat), n < 12 → exec (.resyncReqRepeat t n) s = s.checkDid t (fun d => d.resyncRepeat n)) ∧
    (∀ (n : Nat), n < 12 → exec (.noInputSlot t n) s = s.checkDid t (fun d => d.noInputSlot n)) ∧
    (∀ (q : Quiet), q.stream < 12 → exec (.stallLimitTimeout t q) s = s.checkDid t (fun d => d.stallLimit q)) ∧
    (∀ (q : Quiet), q.stream < 12 → exec (.stallSafeTimeout t q) s = s.checkDid t (fun d => d.stallSafe q)) ∧
    (∀ (entry c opDesc : Nat) (lanes : List TileLane), c < 16 → exec (.tileComplete t entry c opDesc lanes) s = s.checkDid t (fun d =>
      (d.tileComplete entry c opDesc lanes).composeDue)) ∧
    (∀ (entry c opDesc points : Nat) (window : List Nat) (errs : List (Nat × Int)) (re im : List Nat) (faults : List LaneFault)
      (wrongEnergy : Option Nat), c < 16 → exec (.spectralTransformComplete t entry c opDesc points window errs re im faults wrongEnergy) s
      = s.checkDid t (fun d => (d.spectralComplete entry c opDesc points window errs re im faults wrongEnergy).composeDue)) ∧
    (∀ (entry : Nat) (out : HeadIn) (headA headB : Nat) (elems : List PairElem), exec (.sentinelReady t entry out headA headB elems) s =
      s.checkDid t (fun d => d.sentinelReady entry out (headA, headB) elems)) ∧
    (∀ (entry : Nat), exec (.resultDeadline t entry) s = s.checkDid t (fun d => d.resultDeadline entry)) ∧
    (∀ (entry c : Nat), c < 16 → exec (.macPhaseDeadline t entry c) s = s.checkDid t (fun d => (d.cycleStop entry c).composeDue)) ∧
    (∀ (c stored : Nat) (vector : TileLane), c < 16 → exec (.boundTest t c vector stored) s = s.checkDid t (fun d =>
      (d.boundTest c vector stored).composeDue)) ∧
    (∀ (c row : Nat), c < 16 → exec (.watchWindowExpiry t c row) s = s.checkDid t (fun d => d.watchExpiry c row)) ∧
    (exec (.replanComplete t) s = s.checkDid t CheckDie.replanDone) ∧
    (∀ (rows : List Nat) (failed : Bool) (extremes : List Int), exec (.retestClusterDone t rows failed extremes) s = s.checkDid t (fun d
      => d.retestDone rows failed extremes)) ∧
    (∀ (clusterFixed otherFixed : Nat) (bad : List SramRegion), exec (.sramScrubPass t clusterFixed otherFixed bad) s = s.checkDid t (fun
      d => d.sramScrub clusterFixed otherFixed bad)) ∧
    (∀ (fixed : Nat) (bad : List DramRegion), exec (.lpddr5xScrubPass t fixed bad) s = s.checkDid t (fun d => d.dramScrub fixed bad)) ∧
    (∀ (k : Nat), k < 16 → exec (.packageVerifyDone t k) s = s.checkDid t (fun d => d.packageVerified k))

/-- Each command of the audit engine, of verdict composition and of the toll gate completes while the check die runs (R137, R148, R156,
R157, R162–R164, R171, R194, R203, R207, R208, R214, R216, R224). -/
def Obligations.AuditVerdictAndReleaseCommandsComplete : Prop :=
  ∀ (s : State) (t : Nat), s.Runs →
    (∀ (k : Nat), k < 32 → exec (.manifestVerifyDone t k) s = s.checkDid t (fun d => d.manifestVerified k)) ∧
    (exec (.auditEpochEnd t) s = s.checkDid t CheckDie.epochEnd) ∧
    (∀ (audit : Nat), exec (.deliveryChecksDone t audit) s = s.checkDid t (fun d => d.deliveryChecks audit)) ∧
    (∀ (audit : Nat), exec (.deliverByTimeout t audit) s = s.checkDid t (fun d => d.deliverBy audit)) ∧
    (∀ (epoch : Nat), exec (.finalPassStart t epoch) s = s.checkDid t (fun d => d.finalPass epoch)) ∧
    (∀ (p : PassEnd), exec (.batchPassDone t p) s = s.checkDid t (fun d => d.passDone p)) ∧
    (∀ (epoch : Nat), exec (.allowanceEnd t epoch) s = s.checkDid t (fun d => d.allowanceEnd epoch)) ∧
    (∀ (n : Nat), n < 12 → exec (.lanternSetVerifyDone t n) s = s.checkDid t (fun d => d.setVerified n)) ∧
    (∀ (k : Nat), k < 16 → exec (.mapVerifyDone t k) s = s.checkDid t (fun d => d.mapVerified k)) ∧
    (∀ (opinion : Nat), exec (.secondOpinionTimeout t opinion) s = s.checkDid t (fun d => (d.opinionTimeout opinion).composeDue)) ∧
    (∀ (l : Nat) (kindOk : Bool) (b : Octets), l < 4 → exec (.consumerCredit t l kindOk b) s = s.checkDid t (fun d => d.takeCredit l
      kindOk b)) ∧
    (∀ (l : Nat), l < 4 → exec (.veRxLockRegained t l) s = s.checkDid t (fun d => d.veLockRegained l)) ∧
    (∀ (l : Nat), l < 4 → exec (.egressRecordStart t l) s = s.checkDid t (fun d => d.egressStart l)) ∧
    (∀ (c : Nat), c < 256 → exec (.veHeartbeatPeriod t c) s = s.checkDid t (fun d => d.egressHeartbeat c)) ∧
    (∀ (c entry : Nat), c < 256 → exec (.releaseWaitTimeout t c entry) s = s.checkDid t (fun d => d.dropResult c entry)) ∧
    (∀ (l : Nat), l < 4 → exec (.veRxLockLost t l) s = s.checkDid t (fun d => d.veLockLost l))

/-- Each command of the keeper pair and of the input pairs completes: the operation on the safety die, and what follows from it on the
check die (R233, R236, R238, R242, R266–R278). -/
def Obligations.KeeperAndInputCommandsComplete : Prop :=
  ∀ (s : State) (t : Nat),
    (∀ (k0 k1 input : Option Nat) (wrongX wrongY corrected uncorrectable fatal : Bool), exec (.compareWord t k0 k1 wrongX wrongY input
      corrected uncorrectable fatal) s = s.safetyDid t (fun y => y.compareWord k0 k1 wrongX wrongY input corrected uncorrectable fatal)) ∧
    (∀ (wrongX wrongY : Bool), exec (.comparatorInjection t wrongX wrongY) s = s.safetyDid t (fun y => y.injectPair wrongX wrongY)) ∧
    (exec (.debugHalt t) s = s.safetyDid t SafetyDie.debugHalt) ∧
    (exec (.debugResume t) s = s.safetyDid t SafetyDie.debugResume) ∧
    (exec (.splitAppTrap t) s = s.safetyDid t SafetyDie.splitTrap) ∧
    (exec (.softwareSelfTest t) s = s.safetyDid t SafetyDie.libraryTest) ∧
    (∀ (pair : Nat) (isB level : Bool), pair < 8 → exec (.safetyInputEdge t pair isB level) s = s.safetyDid t (fun y => y.inputEdge pair
      isB level)) ∧
    (∀ (pair : Nat) (isB hbl keeper : Bool), pair < 8 → exec (.inputFilterElapsed t pair isB hbl keeper) s = s.safetyDid t (fun y =>
      y.filterElapsed pair isB hbl keeper)) ∧
    (∀ (pair : Nat), pair < 8 → exec (.discrepancyTimeout t pair) s = s.safetyDid t (fun y => y.discrepancy pair)) ∧
    (∀ (pair : Nat) (sourceB a b before : Bool), pair < 8 → exec (.testPulseWindow t pair sourceB a b before) s = s.safetyDid t (fun y =>
      y.pulseWindow pair sourceB a b before)) ∧
    (∀ (pair : Nat) (isB : Bool), pair < 8 → exec (.testPulseHoldEnd t pair isB) s = s.safetyDid t (fun y => y.pulseHoldEnd pair isB)) ∧
    (∀ (pair : Nat), pair < 8 → exec (.evaluatorDisagreeTimeout t pair) s = s.safetyDid t (fun y => y.disagree pair)) ∧
    (∀ (pair : Nat), pair < 8 → exec (.faultTestRelease t pair) s = s.safetyDid t (fun y => y.testRelease pair))

/-- Each command of the brake channels, their feedback, the brake test, the watchdogs and roll call that no flit carries completes
(R283–R293, R296–R302, R306, R313, R314). -/
def Obligations.BrakeAndWatchdogCommandsComplete : Prop :=
  ∀ (s : State) (t : Nat),
    (exec (.autoRestartTimeout t) s = s.safetyDid t SafetyDie.autoRestart) ∧
    (∀ (isB level : Bool), exec (.readbackEdge t isB level) s = s.safetyDid t (fun y => y.readback isB level)) ∧
    (exec (.releaseLapse t) s = s.safetyDid t SafetyDie.releaseLapse) ∧
    (∀ (isB : Bool), exec (.readbackMismatchTimeout t isB) s = s.safetyDid t (fun y => y.readbackTimeout isB)) ∧
    (∀ (isB : Bool), exec (.outputPulseStart t isB) s = s.safetyDid t (fun y => y.pulseStart isB)) ∧
    (∀ (isB : Bool), exec (.outputPulseCheck t isB) s = s.safetyDid t (fun y => y.pulseCheck isB)) ∧
    (∀ (isB level : Bool), exec (.brakeFeedbackEdge t isB level) s = s.safetyDid t (fun y => y.feedback isB level)) ∧
    (exec (.bfbTimeout t) s = s.safetyDid t SafetyDie.feedbackTimeout) ∧
    (exec (.btTorqueEnd t) s = s.safetyDid t SafetyDie.btTorqueEnd) ∧
    (exec (.btPass t) s = s.safetyDid t SafetyDie.btPass) ∧
    (∀ (ns : Nat), exec (.motionEdge t ns) s = s.safetyDid t (fun y => y.motion ns)) ∧
    (exec (.btOverdue t) s = s.safetyDid t SafetyDie.btOverdue) ∧
    (exec (.btExpired t) s = s.safetyDid t SafetyDie.btExpired) ∧
    (∀ (isB : Bool), exec (.outputPulseEnd t isB) s = s.safetyDid t (fun y => y.pulseEnd isB)) ∧
    (∀ (v : Nat), exec (.wdsServiceStore t v) s = s.safetyDid t (fun y => y.wdsStore v)) ∧
    (∀ (host : Bool), exec (.serviceArmLapse t host) s = s.safetyDid t (fun y => y.armLapse host)) ∧
    (∀ (host : Bool), exec (.watchdogExpiry t host) s = s.safetyDid t (fun y => y.dogExpiry host)) ∧
    (∀ (host : Bool), exec (.graceExpiry t host) s = s.safetyDid t (fun y => y.graceExpiry host)) ∧
    (∀ (host : Bool), exec (.clockMonitorTrip t host) s = s.safetyDid t (fun y => y.clockTrip host)) ∧
    (exec (.disableSequenceLapse t) s = s.safetyDid t SafetyDie.disableLapse) ∧
    (exec (.rollCallCycleEnd t) s = s.safetyDid t SafetyDie.cycleEnd)

/-- Each command of the event collector, the signature batches, the margin test that the check die takes alone and the time unit completes
while the check die runs (R324, R326, R327, R331, R335, R395–R403). -/
def Obligations.EventAndTimeCommandsComplete : Prop :=
  ∀ (s : State) (t : Nat), s.Runs →
    (exec (.coalesceWindowClose t) s = s.checkDid t CheckDie.closeWindows) ∧
    (∀ (stage : Nat), exec (.safetyRecordWaitEnd t stage) s = s.checkDid t (fun d => d.admitStage stage)) ∧
    (∀ (stage : Nat), exec (.overflow t stage) s = s.checkDid t (fun d => d.overflow stage)) ∧
    (exec (.sigBatchPeriod t) s = s.checkDid t CheckDie.batchPeriod) ∧
    (exec (.marginStressReady t) s = s.checkDid t CheckDie.marginStress) ∧
    (∀ (rows : List Nat) (failed : Bool) (extremes : List Int), exec (.marginVectorsDone t rows failed extremes) s = s.checkDid t (fun d
      => d.marginVectors rows failed extremes)) ∧
    (∀ (p : Nat) (m : PtpMsg) (residence : Nat), p < 5 → exec (.ptpSync t p m residence) s = s.checkDid t (fun d => d.ptpArrives p { m
      with kind := 0 } residence)) ∧
    (∀ (p : Nat) (m : PtpMsg) (residence : Nat), p < 5 → exec (.ptpAnnounce t p m residence) s = s.checkDid t (fun d => d.ptpArrives p { m
      with kind := 11 } residence)) ∧
    (exec (.ptpSyncSend t) s = s.checkDid t CheckDie.ptpSyncSend) ∧
    (exec (.referenceTimeout t) s = s.checkDid t CheckDie.referenceTimeout) ∧
    (exec (.ppsInEdge t) s = s.checkDid t CheckDie.ppsEdge) ∧
    (exec (.ppsOutRise t) s = s.checkDid t CheckDie.ppsRise) ∧
    (exec (.ppsOutFall t) s = s.checkDid t CheckDie.ppsFall) ∧
    (exec (.ptmPeriod t) s = s.checkDid t CheckDie.ptmPeriod) ∧
    (∀ (p : Nat) (m : PtpMsg) (residence : Nat), p < 5 → exec (.ptpFollowUp t p m residence) s = s.checkDid t (fun d => d.ptpArrives p { m
      with kind := 8 } residence)) ∧
    (∀ (p : Nat) (m : PtpMsg) (residence : Nat), p < 5 → exec (.ptpDelayReq t p m residence) s = s.checkDid t (fun d => d.ptpArrives p { m
      with kind := 1 } residence)) ∧
    (∀ (p : Nat) (m : PtpMsg) (residence : Nat), p < 5 → exec (.ptpDelayResp t p m residence) s = s.checkDid t (fun d => d.ptpArrives p {
      m with kind := 9 } residence)) ∧
    (∀ (p : Nat) (m : PtpMsg) (residence : Nat), p < 5 → exec (.ptpPdelayReq t p m residence) s = s.checkDid t (fun d => d.ptpArrives p {
      m with kind := 2 } residence)) ∧
    (∀ (p : Nat) (m : PtpMsg) (residence : Nat) (followUp : Bool), p < 5 → exec (.ptpPdelayResp t p m residence followUp) s = s.checkDid t
      (fun d => d.ptpArrives p { m with kind := if followUp then 10 else 3 } residence)) ∧
    (∀ (p : Nat) (m : PtpMsg) (residence : Nat), p < 5 → exec (.ptpManagementGet t p m residence) s = s.checkDid t (fun d => d.ptpArrives
      p { m with kind := 13 } residence)) ∧
    (exec (.ptpAnnounceSend t) s = s.checkDid t CheckDie.ptpAnnounceSend) ∧
    (exec (.ptpDelayRequestSend t) s = s.checkDid t CheckDie.ptpDelaySend) ∧
    (∀ (master delay : Nat), exec (.ptmResponse t master delay) s = s.checkDid t (fun d => d.ptmResponse master delay))

/-- Each command of a fabric port, a pair and the router completes while the check die runs. -/
def Obligations.FabricCommandsComplete : Prop :=
  ∀ (s : State) (t : Nat), s.Runs →
    (∀ (p : Nat) (fcsOk : Bool) (b : Octets), p < 4 → exec (.linkHello t p fcsOk b) s = s.checkDid t (fun d => d.fabFrame [1] p fcsOk b)) ∧
    (∀ (p : Nat), p < 4 → exec (.linkHelloPeriod t p) s = s.checkDid t (fun d => d.helloPeriod p)) ∧
    (∀ (p : Nat), p < 4 → exec (.adjacencyTimeout t p) s = s.checkDid t (fun d => d.adjacencyLost p)) ∧
    (∀ (p : Nat) (fcsOk : Bool) (b : Octets), p < 4 → exec (.lsa t p fcsOk b) s = s.checkDid t (fun d => d.fabFrame [2] p fcsOk b)) ∧
    (exec (.lsaRefresh t) s = s.checkDid t CheckDie.lsaRefresh) ∧
    (∀ (uid : Octets), exec (.lsaExpiry t uid) s = s.checkDid t (fun d => d.lsaExpiry uid)) ∧
    (exec (.claimRoundEnd t) s = s.checkDid t CheckDie.claimRound) ∧
    (exec (.routeComputeDone t) s = s.checkDid t CheckDie.routesDone) ∧
    (∀ (p : Nat), p < 4 → exec (.fabricPortDown t p) s = s.checkDid t (fun d => d.portDown p)) ∧
    (∀ (node : Nat), exec (.peerAbsenceTimeout t node) s = s.checkDid t (fun d => d.peerAbsent node)) ∧
    (∀ (p : Nat) (fcsOk : Bool) (b : Octets), p < 4 → exec (.assign t p fcsOk b) s = s.checkDid t (fun d => d.fabFrame [3] p fcsOk b)) ∧
    (exec (.managerLost t) s = s.checkDid t CheckDie.managerLost) ∧
    (exec (.holdingEnd t) s = s.checkDid t CheckDie.holdingEnd) ∧
    (exec (.claimBackoffEnd t) s = s.checkDid t CheckDie.backoffEnd) ∧
    (∀ (p : Nat) (fcsOk : Bool) (b : Octets), p < 4 → exec (.put t p fcsOk b) s = s.checkDid t (fun d => d.fabFrame [0x10] p fcsOk b)) ∧
    (∀ (p : Nat) (fcsOk : Bool) (b : Octets), p < 4 → exec (.get t p fcsOk b) s = s.checkDid t (fun d => d.fabFrame [0x11] p fcsOk b)) ∧
    (∀ (p : Nat) (fcsOk : Bool) (b : Octets), p < 4 → exec (.fetchAdd t p fcsOk b) s = s.checkDid t (fun d => d.fabFrame [0x12] p fcsOk
      b)) ∧
    (∀ (p : Nat) (fcsOk : Bool) (b : Octets), p < 4 → exec (.cmpSwap t p fcsOk b) s = s.checkDid t (fun d => d.fabFrame [0x13] p fcsOk b)) ∧
    (∀ (p : Nat) (fcsOk : Bool) (b : Octets), p < 4 → exec (.response t p fcsOk b) s = s.checkDid t (fun d => d.fabFrame [0x20] p fcsOk
      b)) ∧
    (∀ (p : Nat) (fcsOk : Bool) (b : Octets), p < 4 → exec (.ack t p fcsOk b) s = s.checkDid t (fun d => d.fabFrame [0x21] p fcsOk b)) ∧
    (∀ (node : Nat), exec (.retransmitTimeout t node) s = s.checkDid t (fun d => d.retransmit node)) ∧
    (∀ (node : Nat), exec (.standaloneAckTimer t node) s = s.checkDid t (fun d => d.ackTimer node)) ∧
    (∀ (node request : Nat) (out : Option SentOut) (bad : List (Nat × Nat)), exec (.soRerunDone t node request out bad) s = s.checkDid t
      (fun d => d.soDone node request out bad)) ∧
    (∀ (node request : Nat), exec (.soBudgetExpiry t node request) s = s.checkDid t (fun d => d.soBudget node request)) ∧
    (∀ (origin : Nat) (b : Octets), exec (.relayDatagram t origin b) s = s.checkDid t (fun d => d.relay origin b)) ∧
    (∀ (p : Nat), p < 4 → exec (.fabricPortUp t p) s = s.checkDid t (fun d => d.portUp p))

/-- Each access of the host and each timer of the intake and the rings completes: an access while PERST# is high. -/
def Obligations.HostCommandsComplete : Prop :=
  ∀ (s : State) (t : Nat), s.Runs → s.dies.cd.perst = false →
    (∀ (offset size v : Nat), offset + size ≤ 67108864 → exec (.registerWrite t offset size v) s = s.checkDid t (fun d => d.registerWrite
      offset size v (s.dies.sd.names Od.MANIFEST_SLOT))) ∧
    (exec (.functionLevelReset t) s = s.became
      (({ sd := s.dies.sd.tick t, cd := (s.dies.cd.tick t).functionReset } : Dies).safety SafetyDie.pcieReset)) ∧
    (∀ (offset requester : Nat) (b : Octets), offset + b.length ≤ 16777216 → exec (.resultIntakeWrite t offset requester b) s = s.checkDid
      t (fun d => d.intakeWrite offset requester b)) ∧
    (∀ (c k : Nat), c < 256 → exec (.slotIncompleteTimeout t c k) s = s.checkDid t (fun d => d.slotIncomplete c k)) ∧
    (∀ (c k : Nat), c < 256 → exec (.orphanTimeout t c k) s = s.checkDid t (fun d => d.orphan c k)) ∧
    (∀ (r v : Nat), r < 3 → exec (.ringEnable t r v) s = s.checkDid t (fun d => d.ringControl r v)) ∧
    (∀ (r v : Nat), r < 3 → exec (.ringRead t r v) s = s.checkDid t (fun d => d.ringRead r v)) ∧
    (∀ (r : Nat), r < 3 → exec (.ringWriteback t r) s = s.checkDid t (fun d => d.ringWriteback r)) ∧
    (∀ (r : Nat), r < 3 → exec (.ringIrqTimer t r) s = s.checkDid t (fun d => d.ringTimer r)) ∧
    (exec (.gtsLoRead t) s = s.checkDid t CheckDie.gtsLatch) ∧
    (exec (.weightLoadGo t) s = s.checkDid t (fun d => d.weightGo (s.dies.sd.names Od.MANIFEST_SLOT))) ∧
    (∀ (dma digestOk : Bool), exec (.weightLoadDone t dma digestOk) s = s.checkDid t (fun d => d.weightDone dma digestOk)) ∧
    (∀ (offset requester : Nat) (b : Octets), offset + b.length ≤ 1073741824 → exec (.landingZoneWrite t offset requester b) s =
      s.checkDid t (fun d => d.landingWrite offset requester b))

/-- Each command of the supplies, the resets, boot and the temperatures that the safety die takes completes. -/
def Obligations.PowerCommandsComplete : Prop :=
  ∀ (s : State) (t : Nat), 
    (exec (.killPowerDelay t) s = s.safetyDid t SafetyDie.killPower) ∧
    (∀ (vbat : Bool) (lost : List GuestItem) (repaired : Bool), exec (.por t vbat lost repaired) s = s.safetyDid t (fun y => y.por vbat
      lost repaired)) ∧
    (exec (.supplyMonitorTrip t) s = s.became ((s.dies.tick t).supplyTrip)) ∧
    (∀ (ns : Nat), exec (.resetN t ns) s = s.safetyDid t (fun y => y.resetN ns)) ∧
    (∀ (report : SelftestReport) (outs ms : Nat), exec (.selftestDone t report outs ms) s
      = s.safetyDid t (fun y => y.selftestDone report outs ms)) ∧
    (s.dies.cd.clock = true → exec (.selfRefreshReport t) s = s.safetyDid t SafetyDie.selfRefresh) ∧
    (exec (.pgCdRise t) s = s.safetyDid t SafetyDie.pgRise) ∧
    (exec (.pgCdTimeout t) s = s.safetyDid t SafetyDie.pgTimeout) ∧
    (exec (.pgCdFall t) s = s.safetyDid t SafetyDie.pgFall) ∧
    (∀ (sensor : Nat) (reading : Int), exec (.thermalWarn t sensor reading) s = s.safetyDid t (fun y => y.thermalWarn sensor reading)) ∧
    (∀ (sensor : Nat) (reading : Int), exec (.thermalClear t sensor reading) s = s.safetyDid t (fun y => y.thermalClear sensor reading)) ∧
    (∀ (sensor : Nat) (reading : Int), exec (.safetyDieThermalTrip t sensor reading) s = s.safetyDid t (fun y => y.safetyThermal sensor
      reading)) ∧
    (∀ (lost : List GuestItem) (repaired : Bool), exec (.resetNRelease t lost repaired) s = s.safetyDid t (fun y => y.resetNEnd lost
      repaired)) ∧
    (∀ (lost : List GuestItem) (repaired : Bool), exec (.safetyResetEnd t lost repaired) s = s.safetyDid t (fun y => y.safetyEnd lost
      repaired)) ∧
    (∀ (readings : List (Nat × Int)), exec (.bootTemperatureResume t readings) s = s.safetyDid t (fun y => y.temperatureResume readings))

/-- A flit of the check die received in order acts as R245 has it, with the operands that its payload spells; the receiver counts it as
accepted (R248). -/
def Obligations.FlitsToTheSafetyDieAct : Prop :=
  ∀ (s : State) (t seq : Nat), s.FromCheck seq →
    (∀ payload : Nat, malformedReport (flitToken payload) = false → exec (.verdictToken t seq payload false) s
      = s.safetyDid t (fun y => (y.accepted 1).token (Token.ofPayload payload))) ∧
    (∀ payload : Nat, malformedReport (flitToken payload) = false → exec (.verdictToken t seq payload true) s
      = s.safetyDid t (fun y => ((y.accepted 1).token (Token.ofPayload payload)).keeperFault .sorterSplit 0 0)) ∧
    (∀ (n state gen : Nat) (escalated starved : Bool), malformedReport (flitStream n state escalated starved gen) = false →
      exec (.streamState t seq n state escalated starved gen false) s
      = s.safetyDid t (fun y => (y.accepted 1).streamState (flitStream n state escalated starved gen).payload)) ∧
    (∀ (n state gen : Nat) (escalated starved : Bool), malformedReport (flitStream n state escalated starved gen) = false →
      exec (.streamState t seq n state escalated starved gen true) s
      = s.safetyDid t (fun y => ((y.accepted 1).streamState (flitStream n state escalated starved gen).payload).keeperFault
          .sorterSplit 0 0)) ∧
    (∀ r : EventRec, s.dies.sd.corRx.part 0x03 = 0 → exec (.eventFlits t seq r) s = s.safetyDid t (fun y => (y.accepted 4).takeRecord r)) ∧
    (∀ crc epoch : Nat, crc < 2 ^ 32 → epoch < 2 ^ 32 → exec (.configCrc t seq crc epoch) s
      = s.safetyDid t (fun y => (y.accepted 1).reportedCrc crc epoch)) ∧
    (∀ code demands : Nat, code < 4 → exec (.status t seq code demands) s
      = s.safetyDid t (fun y => (y.accepted 1).status code)) ∧
    (∀ (c row : Nat) (fenced : Bool), c < 256 → row < 256 → exec (.fenceChange t seq c row fenced) s
      = s.safetyDid t (fun y => (y.accepted 1).fenceChange c row fenced)) ∧
    (∀ gts : Nat, exec (.timeSample t seq gts) s = s.safetyDid t (fun y => (y.accepted 1).timeSample gts)) ∧
    (∀ offset v : Nat, offset < 2 ^ 24 → v < 2 ^ 32 → exec (.hostWrite t seq offset v) s
      = s.safetyDid t (fun y => (y.accepted 1).hostRegister offset v))

/-- A write of the host to a register of WDH or of roll call, carried by a flit received in order, acts on that register (R17, R245, R299,
R306, R307, R311). -/
def Obligations.HostWatchdogWritesAct : Prop :=
  ∀ (s : State) (t seq : Nat), s.FromCheck seq →
    exec (.wdhEnable t seq) s = s.safetyDid t (fun y => (y.accepted 1).wdhCtrl 1) ∧
    exec (.wdhDisable t seq) s = s.safetyDid t (fun y => (y.accepted 1).wdhCtrl 0) ∧
    (∀ en : Bool, exec (.wdhLock t seq en) s = s.safetyDid t (fun y => (y.accepted 1).wdhCtrl (2 + b01 en))) ∧
    (∀ v : Nat, v < 2 ^ 32 → exec (.wdhSvc t seq v) s = s.safetyDid t (fun y => (y.accepted 1).wdhSvc v)
      ∧ exec (.wdhKey t seq v) s = s.safetyDid t (fun y => (y.accepted 1).wdhKey v)
      ∧ exec (.rcCheckin t seq v) s = s.safetyDid t (fun y => (y.accepted 1).rcCheckIn v))

/-- A flit of the safety die received in order acts as R245 has it, with the operands that its payload spells; the receiver counts it as
accepted (R248). -/
def Obligations.FlitsToTheCheckDieAct : Prop :=
  ∀ (s : State) (t seq : Nat), s.FromSafety seq →
    (∀ (set : List (Nat × Val)) (ends : SetEnds), s.dies.cd.corRx.part 0x21 = 0 → ends.crc = crc32c (setOctets set) →
      exec (.configSetFlits t seq set ends) s
      = s.checkDid t (fun d => { d.accepted (ceilDiv (setOctets set).length 8 + 2) with delivered := some (ends.epoch, set) })) ∧
    (∀ epoch causes : Nat, epoch < 2 ^ 32 → causes < 256 → epoch ≠ s.dies.cd.epoch → exec (.epochAdvance t seq epoch causes) s
      = s.checkDid t (fun d => (d.accepted 1).boundary epoch causes)) ∧
    (∀ causes : Nat, s.dies.cd.epoch < 2 ^ 32 → causes < 256 → exec (.epochAdvance t seq s.dies.cd.epoch causes) s
      = s.checkDid t (fun d => (d.accepted 1).boundaryJoins causes)) ∧
    exec (.safeEnter t seq) s = s.checkDid t (fun d => (d.accepted 1).setDevice .safeHold) ∧
    exec (.safeExit t seq) s = s.checkDid t (fun d => (d.accepted 1).safeExit) ∧
    (∀ c row : Nat, c < 256 → row < 256 → exec (.fence t seq c row) s = s.checkDid t (fun d => (d.accepted 1).fenceUnit c row)) ∧
    (∀ c : Nat, c < 256 → exec (.marginTest t seq c) s = s.checkDid t (fun d => (d.accepted 1).marginStart c)) ∧
    (∀ (j : Nat) (arm : Bool), j < 256 → exec (.inject t seq j arm) s
      = s.checkDid t (fun d => (d.accepted 1).injectCommand j arm)) ∧
    (∀ gts : Nat, exec (.timeSet t seq gts) s = s.checkDid t (fun d => (d.accepted 1).timeSet gts)) ∧
    (∀ (path : Nat) (b : Octets), s.dies.cd.corRx.part 0x30 = 0 → exec (.odResponseFlits t seq (.response path b)) s
      = s.checkDid t (fun d => (d.accepted (ceilDiv b.length 8 + 2)).answer path b)) ∧
    (∀ r : EventRec, s.dies.cd.corRx.part 0x30 = 0 → exec (.odResponseFlits t seq (.record r)) s = s.checkDid t (fun d => (d.accepted 6).takeRecord r))

/-- What the corridor's receivers and timers see that is no sequenced flit completes at either end: a flit with a failing CRC, a LINK, a
TRAIN flit, and the timers of training and of acknowledgement (R244, R246, R248, R249). -/
def Obligations.LinkCommandsComplete : Prop :=
  ∀ (s : State) (t : Nat),
    (s.dies.cd.up = true → s.dies.cd.clock = true → s.dies.cd.power ≠ .retain →
      exec (.corruptFlit t true) s = s.checkDid t CheckDie.flitCrcError ∧
      (∀ (acked expected : Nat) (nak : Bool), exec (.link t true acked nak expected) s
        = s.checkDid t (fun d => d.linkIn acked nak expected)) ∧
      (∀ crcOk : Bool, ((s.dies.cd.tick t).trainIn crcOk).corRx.up = s.dies.cd.corRx.up →
        exec (.train t true crcOk) s = s.checkDid t (fun d => d.trainIn crcOk)) ∧
      (∀ crcOk : Bool, ((s.dies.cd.tick t).trainIn crcOk).corRx.up = true → s.dies.cd.corRx.up = false →
        exec (.train t true crcOk) s = s.became (({ sd := s.dies.sd.tick t, cd := (s.dies.cd.tick t).trainIn crcOk } : Dies).safety SafetyDie.sendTime)) ∧
      exec (.linkUpTimeout t true) s = s.checkDid t CheckDie.linkTimeout ∧
      exec (.ackTimeout t true) s = s.checkDid t CheckDie.ackTimeout ∧
      exec (.linkAckPeriod t true) s = s.checkDid t CheckDie.ackPeriod) ∧
    (s.dies.sd.kill.on = false → s.dies.sd.power ≠ .retain → exec (.corruptFlit t false) s = s.safetyDid t SafetyDie.flitCrcError) ∧
    (s.dies.sd.kill.on = false → s.dies.sd.power ≠ .retain → ∀ (acked expected : Nat) (nak : Bool), exec (.link t false acked nak expected) s
      = s.became (((s.dies.tick t).safety (fun y => y.linkAcks s.dies.cd.boundaryGts acked nak expected)).pumpAll)) ∧
    (∀ crcOk : Bool, ((s.dies.sd.tick t).trainIn crcOk).corRx.up = s.dies.sd.corRx.up →
      exec (.train t false crcOk) s = s.safetyDid t (fun y => y.trainIn crcOk)) ∧
    exec (.linkUpTimeout t false) s = s.safetyDid t SafetyDie.linkTimeout ∧
    exec (.ackTimeout t false) s = s.safetyDid t SafetyDie.ackTimeout ∧
    exec (.linkAckPeriod t false) s = s.safetyDid t SafetyDie.ackPeriod

/-- The wires CD_HEART and CD_SAFE_DEMAND, the periodic reports of the check die and the keeper firmware's queue: each command completes
(R18, R245, R251, R253, R255, R256, R321). -/
def Obligations.HeartAndDemandCommandsComplete : Prop :=
  ∀ (s : State) (t : Nat),
    (s.Runs → (∀ porter composer gate tx : Bool, exec (.cdHeartToggle t porter composer gate tx) s
        = s.checkDid t (fun d => d.heartToggle porter composer gate tx)) ∧
      exec (.timeSamplePeriod t) s = s.checkDid t CheckDie.timeSamplePeriod ∧
      exec (.configCrcPeriod t) s = s.checkDid t CheckDie.configPeriod) ∧
    exec (.cdHeartEdge t) s = s.safetyDid t SafetyDie.heartEdge ∧
    exec (.heartLossTimeout t) s = s.safetyDid t SafetyDie.heartLoss ∧
    (∀ ns : Nat, exec (.cdSafeDemandLow t ns) s = s.safetyDid t (fun y => y.demandLow ns)) ∧
    (s.dies.cd.up = true → s.dies.cd.demand = false → exec (.cdSafeDemandHigh t) s = s.safetyDid t SafetyDie.demandHigh) ∧
    exec (.keeperActionQueue t) s = s.safetyDid t SafetyDie.serve

/-- The commands that both dies take part in complete: margin tests, signing, the RTC, the image of the watchdog registers, the injectors'
ends (R318, R331, R333–R337, R394, R450, R455, R457). -/
def Obligations.TwoDieCommandsComplete : Prop :=
  ∀ (s : State) (t : Nat),
    exec (.batchSigned t) s = s.became ((s.dies.tick t).batchSigned) ∧
    exec (.attestSigned t) s = s.became ((s.dies.tick t).attestSigned) ∧
    exec (.marginDue t) s = s.became ((s.dies.tick t).marginDue) ∧
    exec (.marginRetry t) s = s.became ((s.dies.tick t).marginRetry) ∧
    exec (.marginRestored t) s = s.became ((s.dies.tick t).marginRestored) ∧
    exec (.rtcSet t) s = s.became ((s.dies.tick t).rtcSet) ∧
    (s.Runs → exec (.statusImageRefresh t) s = s.checkDid t (fun d =>
      d.takeImages (s.dies.sd.tick t).statusImage (s.dies.tick t).devStatus s.dies.sd.guest.epoch)) ∧
    (∀ j : Nat, exec (.injectDurationEnd t j) s = s.became ((s.dies.tick t).durationEnd j)) ∧
    (∀ j : Nat, exec (.injectHeldRelease t j) s = s.became ((s.dies.tick t).heldRelease j))

/-- The clock losses, the release and the end of a check-die reset, the end of image verification, wake events, temperatures of the check
die, PERST# and idle clusters complete (R30, R257, R404, R433, R442, R444, R446, R484, R493). -/
def Obligations.ResetAndPowerEventsComplete : Prop :=
  ∀ (s : State) (t : Nat),
    (∀ which : Nat, which ≤ 2 → ¬ (s.dies.sd.power = .standby ∧ which ≤ 1) → exec (.clockLoss t which) s
      = s.safetyDid t (fun y => y.safetyReset .clockLoss 0xFF which 0xFFFF)) ∧
    (∀ which : Nat, 2 < which → exec (.clockLoss t which) s = s.checkDid t CheckDie.clockStops) ∧
    exec (.killHoldEnd t) s = s.became ((s.dies.tick t).killHoldEnd) ∧
    exec (.checkDieResetRelease t) s = s.became ((s.dies.tick t).resetRelease) ∧
    (∀ bad fails : List (Nat × Nat), exec (.checkDieResetEnd t bad fails) s
      = s.became ((s.dies.tick t).resetEnded bad fails)) ∧
    (∀ (fault : Nat) (store : StoreRead) (keys : List Octets), exec (.bootImageChecked t fault store keys) s
      = s.became ((s.dies.tick t).imageChecked fault store keys)) ∧
    (∀ ok : Bool, exec (.fwImageStored t ok) s = s.became ((s.dies.tick t).imageStored ok)) ∧
    (∀ source : Nat, exec (.wakeEvent t source) s = s.became ((s.dies.tick t).wake source)) ∧
    (∀ (sensor : Nat) (reading : Int), tmax16 + 240 ≤ reading → sensor < 20 → s.dies.sd.kill.on = false →
      exec (.checkDieThermalTrip t sensor reading) s = s.became ({ sd := (s.dies.sd.tick t).reading sensor reading, cd := (s.dies.cd.tick t).clockStops })) ∧
    (∀ low : Bool, exec (.perst t low) s = s.became ((s.dies.tick t).perstLevel low)) ∧
    (s.Runs → ∀ c : Nat, c < 16 → exec (.clusterGateIdle t c) s = s.checkDid t (fun d => d.gateIdle c))

/-- A HELLO and a PROOF that reach the safety die act on its sessions (R344–R346, R353). -/
def Obligations.HandshakeMessagesAct : Prop :=
  ∀ (s : State) (t path origin seq : Nat) (b : Octets), (s.dies.tick t).Hears path origin seq b →
    (kindOf b = 0x01 → exec (.hello t path origin seq b) s = s.became ({ (s.dies.tick t).carried path seq b with sd := ((s.dies.tick t).carried path seq b).sd.hello path (originOf path origin) b })) ∧
    (kindOf b = 0x03 → exec (.proof t path origin seq b) s = s.became ({ (s.dies.tick t).carried path seq b with sd := ((s.dies.tick t).carried path seq b).sd.proof path (originOf path origin) b }))

/-- READ, WRITE, CLOSE and CAN_USDO_DOWNLOAD complete: a message that reaches the safety die, of an open session of its path with nothing
unanswered, with its right TAG and a later SEQ, brings a next state. A READ and a WRITE are taken, served and answered; a CLOSE is answered,
and its session is ended (R344, R348–R350, R352). A download on a CAN bus carries any of the three (R355). -/
def Obligations.SessionMessagesAct : Prop :=
  ∀ (s : State) (t path origin seq : Nat) (b : Octets) (ses : Session) (y : Dies),
    (s.dies.tick t).Hears path origin seq b → y = (s.dies.tick t).carried path seq b →
    y.sd.session (field b 4 1) = some ses → ses.opened = true → y.sd.idle ses = false → ses.path = path → ses.origin = originOf path origin →
    ses.waiting = [] → ses.busy = none → 40 ≤ b.length → tagOf b = tagWanted ses.key b →
    ses.lastSeq < (parseReq path b).seq →
    (kindOf b = 0x10 → ∃ x : Dies, x = Dies.answered (field b 4 1) (parseReq path b)
      ((y.taken (field b 4 1) ses (parseReq path b) (tagOf b)).serve (field b 4 1) (ses.took y.sd (parseReq path b) (tagOf b))
        (parseReq path b)) ∧
      exec (.read t path origin seq b) s = .next { s with dies := x }) ∧
    (kindOf b = 0x11 → ∃ x : Dies, x = Dies.answered (field b 4 1) (parseReq path b)
      ((y.taken (field b 4 1) ses (parseReq path b) (tagOf b)).serve (field b 4 1) (ses.took y.sd (parseReq path b) (tagOf b))
        (parseReq path b)) ∧
      exec (.write t path origin seq b) s = .next { s with dies := x }) ∧
    (kindOf b = 0x12 → (parseReq path b).bad = false → ∃ x : Dies, x = ({ y with sd := (y.taken (field b 4 1) ses (parseReq path b) (tagOf b)).sd.respond (field b 4 1) (parseReq path b) 0 [] false } : Dies).safety (fun z => z.endSession (field b 4 1)) ∧
      exec (.close t path origin seq b) s = .next { s with dies := x } ∧
        x.sd.sessions = (y.sd.setSession (field b 4 1) none).sessions) ∧
    (path = 3 → kindOf b = 0x10 ∨ kindOf b = 0x11 → ∃ x : Dies, x = Dies.answered (field b 4 1) (parseReq path b)
      ((y.taken (field b 4 1) ses (parseReq path b) (tagOf b)).serve (field b 4 1) (ses.took y.sd (parseReq path b) (tagOf b))
        (parseReq path b)) ∧
      exec (.canUsdoDownload t origin b) s = .next { s with dies := x }) ∧
    (path = 3 → kindOf b = 0x12 → (parseReq path b).bad = false → ∃ x : Dies, x = ({ y with sd := (y.taken (field b 4 1) ses (parseReq path b) (tagOf b)).sd.respond (field b 4 1) (parseReq path b) 0 [] false } : Dies).safety (fun z => z.endSession (field b 4 1)) ∧
      exec (.canUsdoDownload t origin b) s = .next { s with dies := x } ∧
        x.sd.sessions = (y.sd.setSession (field b 4 1) none).sessions)

/-- The windows and datagrams that carry OD messages, plain uploads, an idle session and the ends of stores complete (R341, R352–R355,
R357). -/
def Obligations.AccessEventsComplete : Prop :=
  ∀ (s : State) (t : Nat),
    (s.Runs → s.dies.cd.perst = false → ∀ (w : Nat) (b : Octets), exec (.bar0OdWindow t w b) s = s.checkDid t (fun d => d.windowIn w b)) ∧
    (s.Runs → ∀ (origin : Nat) (b : Octets), exec (.mgmtOdDatagram t origin b) s = s.checkDid t (fun d => d.mgmtIn origin b)) ∧
    (∀ (bus idx sub : Nat) (v : Octets), s.dies.reaches 3 = true → bus < 2 → (s.dies.tick t).plainRead bus idx sub = some v →
      exec (.plainUsdoUpload t bus idx sub) s = s.became ({ s.dies.tick t with sd := (s.dies.sd.tick t).put (.canAnswer bus v) })) ∧
    (∀ (slot : Nat) (ses : Session), s.dies.sd.session slot = some ses → ses.opened = true →
      ses.heardAt + s.dies.sd.get Od.SESSION_IDLE_S * 1000000000 ≤ (s.dies.sd.tick t).now → s.dies.sd.keeper.halted = false →
      exec (.sessionIdleTimeout t slot) s = s.safetyDid t (fun y => y.endSession slot)) ∧
    (∀ ok : Bool, exec (.commitStored t ok) s = s.became ((s.dies.tick t).commitStored ok)) ∧
    (∀ ok : Bool, exec (.qspiStoreDone t ok) s = s.became ((s.dies.tick t).storeDone ok))

/-- Admitted writes to the commands of the streams, the clusters and the brake are answered and act (R69, R106, R107, R289, R290, R340). -/
def Obligations.StreamClusterAndBrakeWritesAct : Prop :=
  ∀ (s : State) (t : Nat),
    (∀ (slot n v : Nat) (ses : Session), (s.dies.tick t).Fresh slot ses → s.dies.Admits ses Od.STREAM_RESTART n v →
      exec (.streamRestart t slot n v) s = s.requested t slot ses (ses.write Od.STREAM_RESTART n v) (fun y => (y.check (fun d => d.streamRestart n)).done)) ∧
    (∀ (slot v : Nat) (ses : Session), (s.dies.tick t).Fresh slot ses → s.dies.Admits ses Od.FENCE_CLEAR 0 v → s.dies.sd.device = .service →
      exec (.fenceClear t slot v) s = s.requested t slot ses (ses.write Od.FENCE_CLEAR 0 v) (fun y => (y.fenceClear v).done)) ∧
    (∀ (slot v : Nat) (ses : Session), (s.dies.tick t).Fresh slot ses → s.dies.Admits ses Od.ARRAY_RETEST 0 v → s.dies.sd.device = .service →
      exec (.arrayRetest t slot v) s = s.requested t slot ses (ses.write Od.ARRAY_RETEST 0 v) (fun y => (y.check (fun d => d.arrayRetest v)).done)) ∧
    (∀ (slot v : Nat) (ses : Session), (s.dies.tick t).Fresh slot ses → s.dies.Admits ses Od.FAULT_CLEAR 0 v →
      exec (.faultClear t slot v) s = s.requested t slot ses (ses.write Od.FAULT_CLEAR 0 v) (fun y => (y.safety (fun z => z.faultClear v)).done)) ∧
    (∀ (slot v : Nat) (ses : Session), (s.dies.tick t).Fresh slot ses → s.dies.Admits ses Od.BT_START 0 v →
      exec (.btStart t slot v) s = s.requested t slot ses (ses.write Od.BT_START 0 v) (fun y => (y.safety (fun _ => y.sd.btStart.1)).say (if y.sd.btStart.2 then .ok else .state))) ∧
    (∀ (slot v : Nat) (ses : Session), (s.dies.tick t).Fresh slot ses → s.dies.Admits ses Od.HOLD_REQUEST 0 v →
      exec (.holdRequest t slot v) s = s.requested t slot ses (ses.write Od.HOLD_REQUEST 0 v) (fun y => (y.safety SafetyDie.holdRequest).done))

/-- Admitted writes to LOG_CLEAR and MARGIN_START, a read of the oldest closed batch, and admitted writes that restart the fabric, step
the time, open a context's intake and arm or disarm an injector are answered and act (R331, R333, R338, R378, R398, R402, R408,
R453–R455). -/
def Obligations.LogFabricTimeAndIntakeWritesAct : Prop :=
  ∀ (s : State) (t : Nat),
    (∀ (slot v : Nat) (ses : Session), (s.dies.tick t).Fresh slot ses → s.dies.Admits ses Od.LOG_CLEAR 0 v →
      exec (.logClear t slot v) s = s.requested t slot ses (ses.write Od.LOG_CLEAR 0 v) (fun y => (y.safety (fun z => z.logClear v)).done)) ∧
    (∀ (slot v : Nat) (ses : Session), (s.dies.tick t).Fresh slot ses → s.dies.Admits ses Od.MARGIN_START 0 v →
      exec (.marginStart t slot v) s = s.requested t slot ses (ses.write Od.MARGIN_START 0 v) (fun y => (y.marginStart v).done)) ∧
    (∀ (slot offset : Nat) (ses : Session) (r : Req), (s.dies.tick t).Fresh slot ses → r = ses.next 0x10 0x48000F offset [] none true →
      admitsRead s.dies.sd.device 0x4800 0x0F = true → s.dies.sd.cdServes = true →
      exec (.sigBatchRead t slot offset) s = s.requested t slot ses r (fun y =>
        let a := y.readOctets slot ses.path 0x48000F offset ses.snap (y.value Od.SIG_BATCH_READ 0x4800 0x0F ses.partner).b
        (a.1, some a.2))) ∧
    (∀ (slot v : Nat) (ses : Session), (s.dies.tick t).Fresh slot ses → s.dies.Admits ses Od.FABRIC_RESTART 0 v →
      exec (.fabricRestart t slot v) s = s.requested t slot ses (ses.write Od.FABRIC_RESTART 0 v) (fun y => (y.check CheckDie.fabRestart).done)) ∧
    (∀ (slot v : Nat) (ses : Session), (s.dies.tick t).Fresh slot ses → s.dies.Admits ses Od.TIME_STEP_NS 0 v → s.dies.sd.device ≠ .run →
      exec (.timeStepNs t slot v) s = s.requested t slot ses (ses.write Od.TIME_STEP_NS 0 v) (fun y => (y.check (fun d => d.timeStep (signedOf 64 v))).done)) ∧
    (∀ (slot c v : Nat) (ses : Session), (s.dies.tick t).Fresh slot ses → s.dies.Admits ses Od.INTAKE_ENABLE c v →
      exec (.intakeEnable t slot c v) s = s.requested t slot ses (ses.write Od.INTAKE_ENABLE c v) (fun y => ({ sd := { y.sd with values := y.sd.values.putKey (Od.INTAKE_ENABLE.key c) (.num v) }, cd := y.cd.setIntake c (v == 1) } : Dies).done)) ∧
    (∀ (slot j : Nat) (ses : Session), (s.dies.tick t).Fresh slot ses → s.dies.Admits ses Od.ARM j 1 →
      exec (.arm t slot j) s = s.requested t slot ses (ses.write Od.ARM j 1) (fun y => y.arm slot j)) ∧
    (∀ (slot j : Nat) (ses : Session), (s.dies.tick t).Fresh slot ses → s.dies.Admits ses Od.ARM j 0 →
      exec (.disarm t slot j) s = s.requested t slot ses (ses.write Od.ARM j 0) (fun y => y.disarm slot j))

/-- Admitted writes that commit or discard the staged set, select a partner, and change keys are answered, at once or when stored, and act
(R341, R342, R347, R356, R357, R372). -/
def Obligations.CommitAndKeyWritesAct : Prop :=
  ∀ (s : State) (t : Nat),
    (∀ (slot v : Nat) (ses : Session), (s.dies.tick t).Fresh slot ses → s.dies.Admits ses Od.COMMIT_CRC 0 v →
      exec (.commitCrc t slot v) s = s.requested t slot ses (ses.write Od.COMMIT_CRC 0 v) (fun y => y.writeCommit slot v)) ∧
    (∀ (slot v : Nat) (ses : Session), (s.dies.tick t).Fresh slot ses → s.dies.Admits ses Od.STAGE_DISCARD 0 v → s.dies.sd.stageBusy slot = false →
      exec (.stageDiscard t slot v) s = s.requested t slot ses (ses.write Od.STAGE_DISCARD 0 v) (fun y => ({ y with sd := y.sd.discardStage } : Dies).done)) ∧
    (∀ (slot v : Nat) (ses : Session), (s.dies.tick t).Fresh slot ses → s.dies.Admits ses Od.PARTNER_SELECT 0 v →
      exec (.partnerSelect t slot v) s = s.requested t slot ses (ses.write Od.PARTNER_SELECT 0 v) (fun y => ({ y with sd := y.sd.updSession slot (fun z => { z with partner := v }) } : Dies).done)) ∧
    (∀ (slot role : Nat) (key : Octets) (ses : Session), (s.dies.tick t).Fresh slot ses → s.dies.Allows ses Od.ROLE_KEY role → key.length = 32 →
      exec (.roleKey t slot role key) s = s.requested t slot ses (ses.writeBytes Od.ROLE_KEY role key) (fun y =>
        ({ y.wrote slot (Od.ROLE_KEY.key role) true with sd :=
          { (y.wrote slot (Od.ROLE_KEY.key role) true).sd with keys := y.sd.keys.set [] role key } } : Dies).storing slot
            (.roleKey role (y.sd.keys.get [] role)))) ∧
    (∀ (slot : Nat) (pass : Octets) (ses : Session), (s.dies.tick t).Fresh slot ses → s.dies.Allows ses Od.OPERATOR_PASSPHRASE 0 →
      8 ≤ pass.length → pass.length ≤ 64 →
      exec (.operatorPassphrase t slot pass) s = s.requested t slot ses (ses.writeBytes Od.OPERATOR_PASSPHRASE 0 pass) (fun y =>
        ({ y with sd := { y.sd with keys := y.sd.keys.set [] 1 (passKey pass) } } : Dies).storing slot (.roleKey 1 (y.sd.keys.get [] 1))))

/-- RUN_REQUEST, SERVICE_REQUEST_ENTER, SERVICE_REQUEST_LEAVE, POWER_REQUEST, WARM_RESET, CHECK_DIE_RESET, CD_RESET_LOCKED_CLEAR and
ATTEST_NONCE complete: an admitted write brings a next state, in which it has acted and is answered. RUN is entered, SERVICE entered or
left; the safety die restarts in BOOT with the check die held in reset; SD_CD_KILL is asserted; CD_RESET_LOCKED is 0; the nonce is kept
(R258, R259, R427, R428, R430–R433, R435, R450). -/
def Obligations.PowerWritesAct : Prop :=
  ∀ (s : State) (t : Nat),
    (∀ (slot v : Nat) (ses : Session), (s.dies.tick t).Fresh slot ses → s.dies.Admits ses Od.RUN_REQUEST 0 v → s.dies.sd.device = .ready →
      ∃ y x : Dies, y = (s.dies.tick t).taken slot ses (ses.write Od.RUN_REQUEST 0 v) (ses.tag slot (ses.write Od.RUN_REQUEST 0 v)) ∧
        x = y.safety SafetyDie.toRun ∧
        exec (.runRequest t slot v) s = .next { s with dies := Dies.answered slot (ses.write Od.RUN_REQUEST 0 v) x.done } ∧
        x.sd.device = .run) ∧
    (∀ (slot : Nat) (ses : Session), (s.dies.tick t).Fresh slot ses → s.dies.Admits ses Od.SERVICE_REQUEST 0 1 →
      (s.dies.sd.device = .ready ∨ s.dies.sd.device = .safeHold) →
      ∃ y x : Dies, y = (s.dies.tick t).taken slot ses (ses.write Od.SERVICE_REQUEST 0 1) (ses.tag slot (ses.write Od.SERVICE_REQUEST 0 1)) ∧
        x = y.safety (fun z => { z with device := .service, serviceOwner := some slot }) ∧
        exec (.serviceRequestEnter t slot) s = .next { s with dies := Dies.answered slot (ses.write Od.SERVICE_REQUEST 0 1) x.done } ∧
        x.sd.device = .service) ∧
    (∀ (slot : Nat) (ses : Session), (s.dies.tick t).Fresh slot ses → s.dies.Admits ses Od.SERVICE_REQUEST 0 0 →
      ∃ y x : Dies, y = (s.dies.tick t).taken slot ses (ses.write Od.SERVICE_REQUEST 0 0) (ses.tag slot (ses.write Od.SERVICE_REQUEST 0 0)) ∧
        x = y.safety SafetyDie.leaveService ∧
        exec (.serviceRequestLeave t slot) s = .next { s with dies := Dies.answered slot (ses.write Od.SERVICE_REQUEST 0 0) x.done } ∧
        x.sd.device ≠ .service) ∧
    (∀ (slot v : Nat) (ses : Session), (s.dies.tick t).Fresh slot ses → s.dies.Admits ses Od.POWER_REQUEST 0 v →
      ∃ x : Dies, x = Dies.answered slot (ses.write Od.POWER_REQUEST 0 v)
          (((s.dies.tick t).taken slot ses (ses.write Od.POWER_REQUEST 0 v) (ses.tag slot (ses.write Od.POWER_REQUEST 0 v))).powerRequest v) ∧
        exec (.powerRequest t slot v) s = .next { s with dies := x }) ∧
    (∀ (slot v : Nat) (ses : Session), (s.dies.tick t).Fresh slot ses → s.dies.Admits ses Od.WARM_RESET 0 v → s.dies.sd.device ≠ .run → s.dies.sd.staging.status ≠ 2 →
      ∃ y x : Dies, y = (s.dies.tick t).taken slot ses (ses.write Od.WARM_RESET 0 v) (ses.tag slot (ses.write Od.WARM_RESET 0 v)) ∧
        x = y.safety SafetyDie.warmReset ∧
        exec (.warmReset t slot v) s = .next { s with dies := Dies.answered slot (ses.write Od.WARM_RESET 0 v) x.done } ∧
        x.sd.device = .boot ∧
        x.sd.kill.on = true ∧
        x.sd.guest.lastReset = 4) ∧
    (∀ (slot v : Nat) (ses : Session), (s.dies.tick t).Fresh slot ses → s.dies.Admits ses Od.CHECK_DIE_RESET 0 v →
      ∃ y x : Dies, y = (s.dies.tick t).taken slot ses (ses.write Od.CHECK_DIE_RESET 0 v) (ses.tag slot (ses.write Od.CHECK_DIE_RESET 0 v)) ∧
        x = y.safety SafetyDie.commandReset ∧
        exec (.checkDieReset t slot v) s = .next { s with dies := Dies.answered slot (ses.write Od.CHECK_DIE_RESET 0 v) x.done } ∧
        x.sd.kill.on = true) ∧
    (∀ (slot v : Nat) (ses : Session), (s.dies.tick t).Fresh slot ses → s.dies.Admits ses Od.CD_RESET_LOCKED 0 v →
      ∃ y x : Dies, y = (s.dies.tick t).taken slot ses (ses.write Od.CD_RESET_LOCKED 0 v) (ses.tag slot (ses.write Od.CD_RESET_LOCKED 0 v)) ∧
        x = { y with sd := y.sd.unlockReset } ∧
        exec (.cdResetLockedClear t slot v) s = .next { s with dies := Dies.answered slot (ses.write Od.CD_RESET_LOCKED 0 v) x.done } ∧
        x.sd.guest.cdLocked = false) ∧
    (∀ (slot : Nat) (nonce : Octets) (ses : Session), (s.dies.tick t).Fresh slot ses → s.dies.Allows ses Od.ATTEST_NONCE 0 → nonce.length = 32 →
      s.dies.sd.boot.failed.testBit 5 = false →
      ∃ y x : Dies, y = (s.dies.tick t).taken slot ses (ses.writeBytes Od.ATTEST_NONCE 0 nonce) (ses.tag slot (ses.writeBytes Od.ATTEST_NONCE 0 nonce)) ∧
        x = { y.wrote slot (Od.ATTEST_NONCE.key 0) true with sd := { (y.wrote slot (Od.ATTEST_NONCE.key 0) true).sd with
          attest := { state := 1, nonce := nonce, askedAt := y.sd.now } } } ∧
        exec (.attestNonce t slot nonce) s = .next { s with dies := Dies.answered slot (ses.writeBytes Od.ATTEST_NONCE 0 nonce) x.done } ∧
        x.sd.attest.nonce = nonce)

/-- PACKAGE_IMAGE_WRITE, MANIFEST_IMAGE_WRITE, LANTERN_SET_WRITE, MAP_IMAGE_WRITE, FW_IMAGE and DEVICE_CERT complete: an admitted write
of an image, or of a segment of it, is answered and acts, when no binding in force or staged names what it writes and no judgement or
audit uses it (a package slot emptied by a reset takes it although it is named); otherwise it is answered IN_USE (R114, R115, R135, R138,
R170, R185, R203, R446, R449). -/
def Obligations.ImageWritesAct : Prop :=
  ∀ (s : State) (t : Nat),
    (∀ (slot k : Nat) (image : Package) (last : Bool) (ses : Session), (s.dies.tick t).Fresh slot ses → s.dies.Allows ses Od.SLOT_IMAGE k → (s.dies.cd.package k).vacant = true ∨ (s.dies.sd.names Od.PRIMARY_SLOT k = false ∧ s.dies.sd.names Od.FALLBACK_SLOT k = false) →
      exec (.packageImageWrite t slot k image last) s = s.requested t slot ses (ses.writeImage Od.SLOT_IMAGE k (.package image) last) (fun y => 
        ({ y.wrote slot (Od.SLOT_IMAGE.key k) last with cd := (y.wrote slot (Od.SLOT_IMAGE.key k) last).cd.packageWrite k image last } : Dies).done)) ∧
    (∀ (slot k : Nat) (image : Manifest) (last : Bool) (ses : Session), (s.dies.tick t).Fresh slot ses → s.dies.Allows ses Od.MANIFEST_IMAGE k → s.dies.sd.names Od.MANIFEST_SLOT k = false →
      s.dies.cd.audit.open_.any (fun a => a.manifest == k) = false →
      exec (.manifestImageWrite t slot k image last) s = s.requested t slot ses (ses.writeImage Od.MANIFEST_IMAGE k (.manifest image) last) (fun y => 
        ({ y.wrote slot (Od.MANIFEST_IMAGE.key k) last with cd := (y.wrote slot (Od.MANIFEST_IMAGE.key k) last).cd.manifestWrite k image last } : Dies).done)) ∧
    (∀ (slot n : Nat) (image : LanternSet) (last : Bool) (ses : Session), (s.dies.tick t).Fresh slot ses → s.dies.Allows ses Od.LANTERN_SET n → s.dies.sd.namesSet n = false → s.dies.cd.setPending n = false →
      exec (.lanternSetWrite t slot n image last) s = s.requested t slot ses (ses.writeImage Od.LANTERN_SET n (.lanterns image) last) (fun y => 
        ({ y.wrote slot (Od.LANTERN_SET.key n) last with cd := (y.wrote slot (Od.LANTERN_SET.key n) last).cd.setWrite n image last } : Dies).done)) ∧
    (∀ (slot k : Nat) (image : CompatMap) (last : Bool) (ses : Session), (s.dies.tick t).Fresh slot ses → s.dies.Allows ses Od.MAP_IMAGE k → s.dies.sd.names Od.MAP_SLOT k = false → s.dies.sd.names Od.FALLBACK_MAP_SLOT k = false →
      s.dies.cd.mapPending k = false →
      exec (.mapImageWrite t slot k image last) s = s.requested t slot ses (ses.writeImage Od.MAP_IMAGE k (.map image) last) (fun y => 
        ({ y.wrote slot (Od.MAP_IMAGE.key k) last with cd := (y.wrote slot (Od.MAP_IMAGE.key k) last).cd.mapWrite k image last } : Dies).done)) ∧
    (∀ (slot k : Nat) (image : Package) (last : Bool) (ses : Session), (s.dies.tick t).Fresh slot ses → s.dies.Allows ses Od.SLOT_IMAGE k →
      (s.dies.cd.package k).vacant = false → s.dies.sd.names Od.PRIMARY_SLOT k = true ∨ s.dies.sd.names Od.FALLBACK_SLOT k = true →
      exec (.packageImageWrite t slot k image last) s = s.requested t slot ses (ses.writeImage Od.SLOT_IMAGE k (.package image) last) (fun y => (y.wrote slot (Od.SLOT_IMAGE.key k) last).say .inUse)) ∧
    (∀ (slot k : Nat) (image : Manifest) (last : Bool) (ses : Session), (s.dies.tick t).Fresh slot ses → s.dies.Allows ses Od.MANIFEST_IMAGE k →
      s.dies.sd.names Od.MANIFEST_SLOT k = true ∨ s.dies.cd.audit.open_.any (fun a => a.manifest == k) = true →
      exec (.manifestImageWrite t slot k image last) s = s.requested t slot ses (ses.writeImage Od.MANIFEST_IMAGE k (.manifest image) last) (fun y => (y.wrote slot (Od.MANIFEST_IMAGE.key k) last).say .inUse)) ∧
    (∀ (slot n : Nat) (image : LanternSet) (last : Bool) (ses : Session), (s.dies.tick t).Fresh slot ses → s.dies.Allows ses Od.LANTERN_SET n →
      s.dies.sd.namesSet n = true ∨ s.dies.cd.setPending n = true →
      exec (.lanternSetWrite t slot n image last) s = s.requested t slot ses (ses.writeImage Od.LANTERN_SET n (.lanterns image) last) (fun y => (y.wrote slot (Od.LANTERN_SET.key n) last).say .inUse)) ∧
    (∀ (slot k : Nat) (image : CompatMap) (last : Bool) (ses : Session), (s.dies.tick t).Fresh slot ses → s.dies.Allows ses Od.MAP_IMAGE k →
      s.dies.sd.names Od.MAP_SLOT k = true ∨ s.dies.sd.names Od.FALLBACK_MAP_SLOT k = true ∨ s.dies.cd.mapPending k = true →
      exec (.mapImageWrite t slot k image last) s = s.requested t slot ses (ses.writeImage Od.MAP_IMAGE k (.map image) last) (fun y => (y.wrote slot (Od.MAP_IMAGE.key k) last).say .inUse)) ∧
    (∀ (slot : Nat) (image : ImageBody) (last : Bool) (ses : Session), (s.dies.tick t).Fresh slot ses → s.dies.Allows ses Od.FW_IMAGE 0 → s.dies.sd.device ≠ .run → s.dies.sd.fw.next = none →
      exec (.fwImage t slot image last) s = s.requested t slot ses (ses.writeImage Od.FW_IMAGE 0 image last) (fun y => (y.wrote slot (Od.FW_IMAGE.key 0) last).writeFirmware slot image last)) ∧
    (∀ (slot : Nat) (o uid key : Octets) (ses : Session), (s.dies.tick t).Fresh slot ses → s.dies.Allows ses Od.DEVICE_CERT 0 → uid = ownUid →
      key = padTo 64 Config.identityKey →
      exec (.deviceCert t slot (.cert o uid key) true) s = s.requested t slot ses (ses.writeImage Od.DEVICE_CERT 0 (.cert o uid key) true)
        (fun y => ({ y.wrote slot (Od.DEVICE_CERT.key 0) true with sd :=
          { (y.wrote slot (Od.DEVICE_CERT.key 0) true).sd with cert := o } } : Dies).storing slot (.cert y.sd.cert)))
end

