-- ==== Sys2Proof/Laws/Table.lean ====
section
/-! SUPPORT. The laws of sparse tables and memories: a read after a write, other keys, and the canonical form. -/

namespace Sys2Proof.Machine

/-- A value other than the default, read back at its key. -/
theorem Tbl.get_set_same {α : Type} [DecidableEq α] (d : α) (t : Tbl α) (i : Nat) (v : α) (h : v ≠ d) :
    (Tbl.set d t i v).get d i = v := by
  induction t with
  | nil => simp [Tbl.set, Tbl.get, h]
  | cons x t ih =>
    obtain ⟨k, w⟩ := x
    simp only [Tbl.set, h, if_false]
    split_ifs with h1 h2
    · simp [Tbl.get]
    · simp [Tbl.get]
    · simp [Tbl.get, h1, ih]

/-- The default under every key below which a canonical list starts. -/
theorem Tbl.get_low {α : Type} [DecidableEq α] (d : α) (t : Tbl α) (lo i : Nat) (h : Tbl.wfFrom d lo t = true) (hi : i < lo) :
    t.get d i = d := by
  induction t generalizing lo with
  | nil => rfl
  | cons x t ih =>
    obtain ⟨k, w⟩ := x
    simp only [Tbl.wfFrom, Bool.and_eq_true, decide_eq_true_eq] at h
    have : i ≠ k := by omega
    simp only [Tbl.get, this, if_false]
    exact ih (k + 1) h.2 (by omega)

/-- Any value read back at its key, in a canonical table. -/
theorem Tbl.get_set_self {α : Type} [DecidableEq α] (d : α) (t : Tbl α) (lo i : Nat) (v : α) (h : Tbl.wfFrom d lo t = true) :
    (Tbl.set d t i v).get d i = v := by
  induction t generalizing lo with
  | nil => by_cases hv : v = d <;> simp [Tbl.set, Tbl.get, hv]
  | cons x t ih =>
    obtain ⟨k, w⟩ := x
    simp only [Tbl.wfFrom, Bool.and_eq_true, decide_eq_true_eq] at h
    simp only [Tbl.set]
    split_ifs with h1 h2 h3 h4
    · subst h1; subst h2; exact Tbl.get_low v t (i + 1) i h.2 (by omega)
    · simp [Tbl.get]
    · subst h4; simp only [Tbl.get, h1, if_false]; exact Tbl.get_low v t (k + 1) i h.2 (by omega)
    · simp [Tbl.get]
    · simp only [Tbl.get, h1, if_false]; exact ih (k + 1) h.2

/-- A write leaves every other key alone. -/
theorem Tbl.get_set_other {α : Type} [DecidableEq α] (d : α) (t : Tbl α) (i j : Nat) (v : α) (h : j ≠ i) :
    (Tbl.set d t i v).get d j = t.get d j := by
  induction t with
  | nil => by_cases hv : v = d <;> simp [Tbl.set, Tbl.get, hv, h]
  | cons x t ih =>
    obtain ⟨k, w⟩ := x
    simp only [Tbl.set]
    split_ifs with h1 h2 h3 h4
    · subst h1; simp [Tbl.get, h]
    · subst h1; simp [Tbl.get, h]
    · rfl
    · simp [Tbl.get, h]
    · simp [Tbl.get, ih]

/-- Of two writes to one key the later stands. -/
theorem Tbl.set_set {α : Type} [DecidableEq α] (d : α) (t : Tbl α) (i : Nat) (v w : α) (hv : v ≠ d) (hw : w ≠ d) :
    Tbl.set d (Tbl.set d t i v) i w = Tbl.set d t i w := by
  induction t with
  | nil => simp [Tbl.set, hv, hw]
  | cons x t ih =>
    obtain ⟨k, u⟩ := x
    simp only [Tbl.set, hv, hw, if_false]
    split_ifs with h1 h2
    · simp [Tbl.set, hw]
    · simp [Tbl.set, hw]
    · simp [Tbl.set, h1, h2, ih]

/-- A write keeps the canonical form. -/
theorem Tbl.set_wfFrom {α : Type} [DecidableEq α] (d : α) (t : Tbl α) (lo i : Nat) (v : α) (h : Tbl.wfFrom d lo t = true)
    (hi : lo ≤ i) : Tbl.wfFrom d lo (Tbl.set d t i v) = true := by
  induction t generalizing lo with
  | nil => by_cases hv : v = d <;> simp [Tbl.set, Tbl.wfFrom, hv, hi]
  | cons x t ih =>
    obtain ⟨k, w⟩ := x
    have h0 := h
    simp only [Tbl.wfFrom, Bool.and_eq_true, decide_eq_true_eq] at h
    obtain ⟨⟨h1, h2⟩, h3⟩ := h
    have low : ∀ (a b : Nat) (u : Tbl α), a ≤ b → Tbl.wfFrom d b u = true → Tbl.wfFrom d a u = true := by
      intro a b u hab hu
      cases u with
      | nil => rfl
      | cons y u =>
        obtain ⟨k', w'⟩ := y
        simp only [Tbl.wfFrom, Bool.and_eq_true, decide_eq_true_eq] at hu ⊢
        exact ⟨⟨by omega, hu.1.2⟩, hu.2⟩
    simp only [Tbl.set]
    split_ifs with e1 e2 e3 e4
    · exact low lo (k + 1) t (by omega) h3
    · subst e1; simp [Tbl.wfFrom, h1, e2, h3]
    · exact h0
    · simp [Tbl.wfFrom, hi, e4, h2, h3]; omega
    · simp only [Tbl.wfFrom, Bool.and_eq_true, decide_eq_true_eq]
      exact ⟨⟨h1, h2⟩, ih (k + 1) h3 (by omega)⟩

/-- One byte written keeps a memory canonical. -/
theorem Memory.writeByte_wf (m : Memory) (a : Nat) (b : Byte) (h : m.wf = true) : (m.writeByte a b).wf = true :=
  Tbl.set_wfFrom 0 m 0 a b h (Nat.zero_le _)

/-- Bytes written keep a memory canonical. -/
theorem Memory.write_wf (m : Memory) (a : Nat) (bs : Octets) (h : m.wf = true) : (m.write a bs).wf = true := by
  induction bs generalizing m a with
  | nil => exact h
  | cons b bs ih => exact ih _ _ (m.writeByte_wf a _ h)

/-- A byte read back. -/
theorem Memory.read_same (m : Memory) (a : Nat) (b : Byte) (h : m.wf = true) : (m.writeByte a b).readByte a = b :=
  Tbl.get_set_self 0 m 0 a b h

/-- A byte elsewhere. -/
theorem Memory.read_other (m : Memory) (a c : Nat) (b : Byte) (h : c ≠ a) : (m.writeByte a b).readByte c = m.readByte c :=
  Tbl.get_set_other 0 m a c b h

/-- Bytes outside a write are unchanged. -/
theorem Memory.write_other (m : Memory) (a c : Nat) (bs : Octets) (h : c < a ∨ a + bs.length ≤ c) :
    (m.write a bs).readByte c = m.readByte c := by
  induction bs generalizing m a with
  | nil => rfl
  | cons b bs ih =>
    simp only [List.length_cons] at h
    simp only [Memory.write]
    rw [ih _ _ (by omega), Memory.read_other _ _ _ _ (by omega)]

end Sys2Proof.Machine
end

