-- ==== Sys2Proof/Laws/Arrays.lean ====
section
/-! SUPPORT. Laws of the check arrays: the residues of a lane (R80-R83), what a recorded happening and a fence change. -/

namespace Sys2Proof.Machine

/-- A residue as an integer. -/
theorem residue_cast (m : Nat) (hm : 0 < m) (v : Int) : (residue m v : Int) = v % m := by
  unfold residue
  rw [Int.toNat_of_nonneg (Int.emod_nonneg _ (by omega))]

/-- A residue is congruent to its value. -/
theorem residue_modEq (m : Nat) (hm : 0 < m) (v : Int) : (residue m v : Int) ≡ v [ZMOD m] := by
  rw [residue_cast m hm]; exact Int.mod_modEq _ _

/-- A value that fits a register of `w` bits reads back from it. -/
theorem flipBits_zero (w : Nat) (v : Int) (hw : 0 < w) (h : |v| < 2 ^ (w - 1)) : flipBits w v 0 = v := by
  obtain ⟨n, rfl⟩ : ∃ n, w = n + 1 := ⟨w - 1, by omega⟩
  simp only [Nat.add_sub_cancel] at h
  obtain ⟨h1, h2⟩ := abs_lt.1 h
  have hp : (2 : Int) ^ (n + 1) = 2 * 2 ^ n := by ring
  have hb : 0 ≤ v % ((2 ^ (n + 1) : Nat) : Int) := Int.emod_nonneg _ (by positivity)
  have hl : v % ((2 ^ (n + 1) : Nat) : Int) < 2 ^ (n + 1) := by
    have := Int.emod_lt_of_pos v (show (0 : Int) < ((2 ^ (n + 1) : Nat) : Int) by positivity)
    exact_mod_cast this
  unfold flipBits signedOf
  simp only [Nat.zero_mod, Nat.xor_zero, Nat.add_sub_cancel]
  generalize hg : v % ((2 ^ (n + 1) : Nat) : Int) = g at hb hl
  obtain ⟨k, rfl⟩ := Int.eq_ofNat_of_zero_le hb
  have hk : k < 2 ^ (n + 1) := by exact_mod_cast hl
  simp only [Int.toNat_natCast, Nat.mod_eq_of_lt hk]
  have hmod : ((k : Int)) % 2 ^ (n + 1) = k := Int.emod_eq_of_lt hb hl
  rcases lt_or_ge v 0 with hv | hv
  · have e : v % ((2 ^ (n + 1) : Nat) : Int) = v + 2 ^ (n + 1) := by
      rw [← Int.add_emod_right, show (((2 ^ (n + 1) : Nat)) : Int) = 2 ^ (n + 1) by push_cast; ring]
      exact Int.emod_eq_of_lt (by omega) (by omega)
    have hk2 : ¬ k < 2 ^ n := by
      intro hc
      have : (k : Int) < 2 ^ n := by exact_mod_cast hc
      omega
    rw [if_neg hk2]; push_cast at *; omega
  · have e : v % ((2 ^ (n + 1) : Nat) : Int) = v := by
      rw [show (((2 ^ (n + 1) : Nat)) : Int) = 2 ^ (n + 1) by push_cast; ring]
      exact Int.emod_eq_of_lt hv (by omega)
    have hk2 : k < 2 ^ n := by
      have : (k : Int) < 2 ^ n := by omega
      exact_mod_cast this
    rw [if_pos hk2]; push_cast at *; omega

/-- An alignment by `d` is undone modulo `m` by a rotation, when 2^k is 1 modulo m (R81). -/
theorem shift_residue (m k : Nat) (hk : 0 < k) (h : (2 : Int) ^ k ≡ 1 [ZMOD m]) (q d : Int) :
    (q - shiftedOut q d) * ((2 ^ ((-d) % (k : Int)).toNat : Nat) : Int) ≡ shiftBy q d [ZMOD m] := by
  have hp (n : Nat) : (2 : Int) ^ (k * n) ≡ 1 [ZMOD m] := by rw [pow_mul]; simpa using h.pow n
  have hr : 0 ≤ (-d) % (k : Int) := Int.emod_nonneg _ (by omega)
  have hd := Int.emod_add_mul_ediv (-d) k
  unfold shiftedOut shiftBy
  push_cast
  by_cases hc : 0 ≤ d
  · rw [if_pos hc, if_pos hc]
    obtain ⟨n, rfl⟩ := Int.eq_ofNat_of_zero_le hc
    simp only [Int.toNat_natCast]
    have e : q - q % 2 ^ n = q / 2 ^ n * 2 ^ n := by
      have := Int.emod_add_mul_ediv q (2 ^ n); linarith
    rw [e, mul_assoc, ← pow_add]
    have hj : (-(n : Int)) / k ≤ 0 := by
      apply Int.le_of_lt_add_one
      have : (-(n : Int)) / k < 1 := Int.ediv_lt_of_lt_mul (by omega) (by omega)
      omega
    obtain ⟨j, hj2⟩ := Int.eq_ofNat_of_zero_le (show 0 ≤ -((-(n : Int)) / k) by omega)
    have : n + ((-(n : Int)) % (k : Int)).toNat = k * j := by
      have : ((n + ((-(n : Int)) % (k : Int)).toNat : Nat) : Int) = ((k * j : Nat) : Int) := by
        push_cast
        rw [Int.toNat_of_nonneg hr, ← hj2]
        linarith [mul_neg (k : Int) (-(n : Int) / k)]
      exact_mod_cast this
    rw [this]
    simpa using (hp j).mul_left (q / 2 ^ n)
  · rw [if_neg hc, if_neg hc, sub_zero]
    obtain ⟨n, hn⟩ := Int.eq_ofNat_of_zero_le (show 0 ≤ -d by omega)
    rw [hn]
    simp only [Int.toNat_natCast]
    have : (2 : Int) ^ n = 2 ^ ((n : Int) % (k : Int)).toNat * 2 ^ (k * (n / k)) := by
      rw [← pow_add]; congr 1
      have := Nat.mod_add_div n k
      omega
    rw [this, ← mul_assoc]
    simpa using ((hp (n / k)).mul_left (q * 2 ^ ((n : Int) % (k : Int)).toNat)).symm

/-- A rotation by d mod 8 undoes an alignment by d modulo 255 (R81). -/
theorem shift_residue255 (q d : Int) : (q - shiftedOut q d) * (inv255 d : Int) ≡ shiftBy q d [ZMOD 255] :=
  shift_residue 255 8 (by decide) (by decide) q d
/-- A rotation by d mod 7 undoes an alignment by d modulo 127 (R81). -/
theorem shift_residue127 (q d : Int) : (q - shiftedOut q d) * (inv127 d : Int) ≡ shiftBy q d [ZMOD 127] :=
  shift_residue 127 7 (by decide) (by decide) q d

/-- The residue of a product less a part, as the residue sub-lane forms it. -/
theorem residue_product (m : Nat) (hm : 0 < m) (w x lo : Int) :
    ((residue m w * residue m x + m - residue m lo : Nat) : Int) ≡ w * x - lo [ZMOD m] := by
  have hlt : residue m lo < m := by
    have := residue_cast m hm lo
    have h2 := Int.emod_lt_of_pos lo (show (0 : Int) < m by omega)
    omega
  rw [Nat.cast_sub (by omega)]
  push_cast
  have := ((residue_modEq m hm w).mul (residue_modEq m hm x)).add (Int.modEq_zero_iff_dvd.2 (dvd_refl (m : Int)))
  simpa using this.sub (residue_modEq m hm lo)

/-- A lane in which nothing goes wrong has no error of its products or alignments. -/
theorem TileLane.errs_nil (l : TileLane) (h : l.faults = []) (k : Nat) (dup : Bool) :
    l.productErr k = 0 ∧ l.alignErr k dup = 0 ∧ l.accMask k = 0 := by
  simp [productErr, alignErr, accMask, faultSum, h]

/-- A product of a floating tile in which nothing goes wrong adds the same to the predicted residue and to the accumulator (R81). -/
theorem TileLane.takeProduct_residue (l : TileLane) (top : Int) (r : LaneRun) (p : (Operand × Operand) × Nat) (h : l.faults = [])
    (hs : l.special p.1 = none) :
    ((l.takeProduct top r p).pred255 : Int) - r.pred255 ≡ (l.takeProduct top r p).acc - r.acc [ZMOD 255] ∧
    ((l.takeProduct top r p).pred127 : Int) - r.pred127 ≡ (l.takeProduct top r p).acc - r.acc [ZMOD 127] ∧
    (l.takeProduct top r p).act255 = r.act255 ∧ (l.takeProduct top r p).act127 = r.act127 := by
  have e := l.errs_nil h
  unfold takeProduct
  simp only [hs, (e p.2 false).1, (e p.2 false).2.1, (e p.2 true).2.1, add_zero]
  refine ⟨?_, ?_, trivial, trivial⟩
  · rw [Nat.cast_add, add_sub_cancel_left, add_sub_cancel_left, Nat.cast_mul]
    exact ((residue_product 255 (by decide) _ _ _).mul_right _).trans (shift_residue255 _ _)
  · rw [Nat.cast_add, add_sub_cancel_left, add_sub_cancel_left, Nat.cast_mul]
    exact ((residue_product 127 (by decide) _ _ _).mul_right _).trans (shift_residue127 _ _)

/-- So do the products of a block. -/
theorem TileLane.block_residue (l : TileLane) (top : Int) (h : l.faults = []) (b : List ((Operand × Operand) × Nat))
    (hs : ∀ p ∈ b, l.special p.1 = none) (r : LaneRun) :
    ((b.foldl (l.takeProduct top) r).pred255 : Int) - r.pred255 ≡ (b.foldl (l.takeProduct top) r).acc - r.acc [ZMOD 255] ∧
    ((b.foldl (l.takeProduct top) r).pred127 : Int) - r.pred127 ≡ (b.foldl (l.takeProduct top) r).acc - r.acc [ZMOD 127] ∧
    (b.foldl (l.takeProduct top) r).act255 = r.act255 ∧ (b.foldl (l.takeProduct top) r).act127 = r.act127 := by
  induction b generalizing r with
  | nil => simp [Int.ModEq.refl]
  | cons p b ih =>
    obtain ⟨a1, a2, a3, a4⟩ := l.takeProduct_residue top r p h (hs p List.mem_cons_self)
    obtain ⟨b1, b2, b3, b4⟩ := ih (fun q hq => hs q (List.mem_cons_of_mem _ hq)) (l.takeProduct top r p)
    simp only [List.foldl_cons]
    refine ⟨?_, ?_, b3.trans a3, b4.trans a4⟩
    · have := b1.add a1; simpa using this
    · have := b2.add a2; simpa using this

/-- A product of an integer tile, with its error (R76, R83). -/
theorem TileLane.int_residue (l : TileLane) (b : List ((Operand × Operand) × Nat)) (r : LaneRun) :
    ((b.foldl l.takeInt r).acc - (b.map (fun p => l.productErr p.2)).sum - (b.foldl l.takeInt r).pred255 : Int)
      ≡ r.acc - r.pred255 [ZMOD 255] ∧
    ((b.foldl l.takeInt r).acc - (b.map (fun p => l.productErr p.2)).sum - (b.foldl l.takeInt r).pred127 : Int)
      ≡ r.acc - r.pred127 [ZMOD 127] ∧
    (b.foldl l.takeInt r).sum = r.sum ∧ (b.foldl l.takeInt r).special = r.special ∧ (b.foldl l.takeInt r).bad = r.bad := by
  induction b generalizing r with
  | nil => simp [Int.ModEq.refl]
  | cons p b ih =>
    obtain ⟨b1, b2, b3, b4, b5⟩ := ih (l.takeInt r p)
    simp only [List.foldl_cons, List.map_cons, List.sum_cons]
    refine ⟨?_, ?_, b3, b4, b5⟩
    · have e := ((residue_modEq 255 (by decide) (significand l.fmtW p.1.1.word).1).mul
        (residue_modEq 255 (by decide) (significand l.fmtX p.1.2.word).1))
      have e2 := (Int.ModEq.refl (r.acc - r.pred255 + (significand l.fmtW p.1.1.word).1 * (significand l.fmtX p.1.2.word).1)).sub e
      have e3 := b1.sub_right (l.productErr p.2)
      rw [show ∀ a s q x : Int, a - (x + s) - q = a - s - q - x from fun a s q x => by ring]
      refine e3.trans ?_
      simp only [takeInt]
      push_cast at e2 ⊢
      convert e2 using 1 <;> ring
    · have e := ((residue_modEq 127 (by decide) (significand l.fmtW p.1.1.word).1).mul
        (residue_modEq 127 (by decide) (significand l.fmtX p.1.2.word).1))
      have e2 := (Int.ModEq.refl (r.acc - r.pred127 + (significand l.fmtW p.1.1.word).1 * (significand l.fmtX p.1.2.word).1)).sub e
      have e3 := b2.sub_right (l.productErr p.2)
      rw [show ∀ a s q x : Int, a - (x + s) - q = a - s - q - x from fun a s q x => by ring]
      refine e3.trans ?_
      simp only [takeInt]
      push_cast at e2 ⊢
      convert e2 using 1 <;> ring

/-- An updated entry read back at its key. -/
theorem Tbl.get_upd {α : Type} [DecidableEq α] (d : α) (t : Tbl α) (i : Nat) (f : α → α) (h : f (Tbl.get d t i) ≠ d) :
    Tbl.get d (Tbl.upd d t i f) i = f (Tbl.get d t i) := Tbl.get_set_same _ _ _ _ h

/-- A closed window leaves the clusters. -/
theorem CheckDie.closeWindow_clusters (d : CheckDie) (w : Window) : (d.closeWindow w).clusters = d.clusters := by
  unfold CheckDie.closeWindow CheckDie.collect
  simp only
  split <;> rfl
/-- An occurrence leaves the clusters. -/
theorem CheckDie.occur_clusters (d : CheckDie) (r : EventRec) : (d.occur r).clusters = d.clusters := by
  unfold CheckDie.occur CheckDie.collect
  simp only
  repeat' split
  all_goals first | rfl | exact CheckDie.closeWindow_clusters _ _
/-- A recorded happening leaves the clusters. -/
theorem CheckDie.raise_clusters (d : CheckDie) (n : EventName) (a b : Nat) : (d.raise n a b).clusters = d.clusters := CheckDie.occur_clusters _ _
/-- An aborted margin test leaves the clusters. -/
theorem CheckDie.abortMargin_clusters (d : CheckDie) : d.abortMargin.clusters = d.clusters := by
  unfold CheckDie.abortMargin
  split
  · exact CheckDie.raise_clusters _ _ _ _
  · rfl
/-- Ended runs leave the clusters. -/
theorem CheckDie.endRuns_clusters (d : CheckDie) (p : Entry → Bool) (r : Nat) : (d.endRuns p r).clusters = d.clusters := by
  unfold CheckDie.endRuns CheckDie.noteEnded
  simp only
  split <;> rfl
/-- Streams moved away leave the clusters. -/
theorem CheckDie.displace_clusters (d : CheckDie) (c : Nat) : (d.displace c).clusters = d.clusters := by
  unfold CheckDie.displace
  simp only
  repeat' split
  all_goals first | rfl | (simp only [CheckDie.abortMargin_clusters, CheckDie.endRuns_clusters])
/-- A cluster that is ungated keeps its fences, where it has some. -/
theorem CheckDie.ungateCluster_fences (d : CheckDie) (c k : Nat) (h : (d.cluster k).rows ≠ [] ∨ (d.cluster k).fenced = true) :
    ((d.ungateCluster c).cluster k).rows = (d.cluster k).rows ∧ ((d.ungateCluster c).cluster k).fenced = (d.cluster k).fenced := by
  have e : ∀ f : Cluster → Cluster, (∀ x, (f x).rows = x.rows ∧ (f x).fenced = x.fenced) →
      (((d.updCluster c f).cluster k).rows = (d.cluster k).rows ∧ ((d.updCluster c f).cluster k).fenced = (d.cluster k).fenced) := by
    intro f hf
    by_cases hk : k = c
    · subst hk
      have hn : f (d.cluster k) ≠ Cluster.init := by
        intro hc
        have h1 := (hf (d.cluster k)).1
        have h2 := (hf (d.cluster k)).2
        rw [hc] at h1 h2
        rcases h with h | h
        · exact h (h1.symm.trans rfl)
        · rw [← h2] at h; exact absurd h (by decide)
      have : (d.updCluster k f).cluster k = f (d.cluster k) := Tbl.get_upd _ _ _ _ hn
      rw [this]; exact hf _
    · have : (d.updCluster c f).cluster k = d.cluster k := Tbl.get_set_other _ _ _ _ _ hk
      rw [this]; exact ⟨rfl, rfl⟩
  unfold CheckDie.ungateCluster
  simp only
  split
  · exact e (fun x => { x with gated := false, lastWork := d.now }) (fun _ => ⟨rfl, rfl⟩)
  · exact e (fun x => { x with gated := false, lastWork := d.now }) (fun _ => ⟨rfl, rfl⟩)
/-- A pass that moves keeps a cluster's fences, where it has some. -/
theorem CheckDie.movePass_fences (d : CheckDie) (c k : Nat) (h : (d.cluster k).rows ≠ [] ∨ (d.cluster k).fenced = true) :
    ((d.movePass c).cluster k).rows = (d.cluster k).rows ∧ ((d.movePass c).cluster k).fenced = (d.cluster k).fenced := by
  unfold CheckDie.movePass
  split
  · exact CheckDie.ungateCluster_fences _ _ _ h
  · exact ⟨rfl, rfl⟩
/-- A cluster read through equal tables. -/
theorem CheckDie.cluster_of (a b : CheckDie) (k : Nat) (h : a.clusters = b.clusters) : a.cluster k = b.cluster k := by
  unfold CheckDie.cluster; rw [h]
/-- A cluster fence fences that cluster, and takes no row of its fences away when no margin test just started. -/
theorem CheckDie.fenceCluster_fences (d : CheckDie) (c : Nat) : ((d.fenceCluster c).cluster c).fenced = true ∧
    ((d.cluster c).fenced = false → ((d.fenceCluster c).cluster c).rows = (d.fencing.cluster c).rows) := by
  unfold CheckDie.fenceCluster
  split
  · rename_i h; exact ⟨h, fun e => by rw [e] at h; cases h⟩
  · generalize hf : (fun x : Cluster => { x with fenced := true, watch := x.watch.filter (fun w => w.row != 0xFF) }) = f
    have h1 : (d.fencing.updCluster c f).cluster c = f (d.fencing.cluster c) :=
      Tbl.get_upd _ _ _ _ (by subst hf; intro hc; have := congrArg Cluster.fenced hc; cases this)
    have h2 : ((d.fencing.updCluster c f).endRuns (fun e => e.clusters.contains c) (2 ^ 19)).cluster c = f (d.fencing.cluster c) := by
      rw [CheckDie.cluster_of _ _ c (CheckDie.endRuns_clusters _ _ _), h1]
    have hff : (f (d.fencing.cluster c)).fenced = true := by subst hf; rfl
    have hfr : (f (d.fencing.cluster c)).rows = (d.fencing.cluster c).rows := by subst hf; rfl
    have h3 := CheckDie.movePass_fences _ c c (Or.inr (by rw [h2]; exact hff))
    rw [h2, hff, hfr] at h3
    simp only
    rw [CheckDie.cluster_of _ _ c (CheckDie.displace_clusters _ c)]
    exact ⟨h3.2, fun _ => h3.1⟩
/-- An inserted row is there. -/
theorem mem_insertRow (r : Nat) (l : List Nat) : r ∈ insertRow r l := by
  induction l with
  | nil => simp [insertRow]
  | cons x xs ih => unfold insertRow; split; simp; split <;> simp_all

end Sys2Proof.Machine
end

