-- ==== Sys2Proof/Laws/Boundary.lean ====
section
/-! SUPPORT. What an EPOCH_FENCE leaves alone at an epoch boundary (R221). -/

namespace Sys2Proof.Machine

/-- The two check dies agree on the epoch in force, its boundary, the configuration, the states and the injectors. -/
def CheckDie.SameForce (d e : CheckDie) : Prop :=
  e.epoch = d.epoch ∧ e.causes = d.causes ∧ e.boundaryGts = d.boundaryGts ∧ e.epochImage = d.epochImage ∧ e.device = d.device ∧
    e.cfg = d.cfg ∧ e.injectors = d.injectors ∧ e.state = d.state

/-- Every check die agrees with itself. -/
theorem CheckDie.SameForce.refl (d : CheckDie) : d.SameForce d := ⟨rfl, rfl, rfl, rfl, rfl, rfl, rfl, rfl⟩

/-- Agreement carries on. -/
theorem CheckDie.SameForce.trans {d e f : CheckDie} (h : d.SameForce e) (k : e.SameForce f) : d.SameForce f := by
  obtain ⟨a, b, c, d, e, f, g, h⟩ := h
  obtain ⟨a2, b2, c2, d2, e2, f2, g2, h2⟩ := k
  exact ⟨a2.trans a, b2.trans b, c2.trans c, d2.trans d, e2.trans e, f2.trans f, g2.trans g, h2.trans h⟩

/-- A fold of updates that each keep the agreement keeps it. -/
theorem CheckDie.sameForce_forEach {α : Type} (f : CheckDie → α → CheckDie) (h : ∀ (d : CheckDie) (a : α), d.SameForce (f d a))
    (l : List α) (d : CheckDie) : d.SameForce (d.forEach l f) := by
  induction l generalizing d with
  | nil => exact .refl d
  | cons a l ih => exact (h d a).trans (ih (f d a))

/-- A record in progress abandoned. -/
theorem CheckDie.sameForce_abandon (d : CheckDie) (l : Nat) : d.SameForce (d.abandon l) := by
  unfold CheckDie.abandon
  split
  · exact .refl d
  · exact .refl d

/-- A record that leaves a lane, with no injector armed. -/
theorem CheckDie.sameForce_leaveLane (d : CheckDie) (l : Nat) (k : EgKind) (b : Octets) (h : d.injectors = []) :
    d.SameForce (d.leaveLane l k b) := by
  unfold CheckDie.leaveLane CheckDie.atPoint CheckDie.presentVe
  rw [h]
  exact .refl d

/-- What a record's VEND brings, with no injector armed. -/
theorem CheckDie.sameForce_recordSent (d : CheckDie) (l : Nat) (s : Sending) (h : d.injectors = []) :
    d.SameForce (d.recordSent l s) := by
  unfold CheckDie.recordSent
  extract_lets x d1
  have h1 : d.SameForce d1 := d.sameForce_leaveLane l x.kind s.octets h
  clear_value d1
  refine h1.trans ?_
  split
  · exact ⟨rfl, rfl, rfl, rfl, rfl, rfl, rfl, rfl⟩
  · split
    · exact .refl d1
    · exact ⟨rfl, rfl, rfl, rfl, rfl, rfl, rfl, rfl⟩
  · exact ⟨rfl, rfl, rfl, rfl, rfl, rfl, rfl, rfl⟩
  · exact ⟨rfl, rfl, rfl, rfl, rfl, rfl, rfl, rfl⟩
  · exact .refl d1

/-- A lane brought up to now, with no injector armed. -/
theorem CheckDie.sameForce_laneCatchUp (d : CheckDie) (l : Nat) (h : d.injectors = []) : d.SameForce (d.laneCatchUp l) := by
  unfold CheckDie.laneCatchUp
  split
  · split
    · exact d.sameForce_recordSent l _ h
    · exact .refl d
  · exact .refl d

/-- Every lane brought up to now, with no injector armed. -/
theorem CheckDie.sameForce_gateCatchUp (d : CheckDie) (h : d.injectors = []) : d.SameForce d.gateCatchUp := by
  unfold CheckDie.gateCatchUp CheckDie.forEach
  suffices ∀ (l : List Nat) (d : CheckDie), d.injectors = [] → d.SameForce (l.foldl CheckDie.laneCatchUp d) from this _ d h
  intro l
  induction l with
  | nil => exact fun d _ => .refl d
  | cons a l ih =>
    intro d h
    have k := d.sameForce_laneCatchUp a h
    exact k.trans (ih _ (k.2.2.2.2.2.2.1.trans h))

/-- The fence of one consumer, and of all, with no injector armed. -/
theorem CheckDie.sameForce_fence (d : CheckDie) (cs : List Nat) (closing new causes gts : Nat) (h : d.injectors = []) :
    d.SameForce (d.fence cs closing new causes gts) := by
  unfold CheckDie.fence
  refine (d.sameForce_gateCatchUp h).trans (CheckDie.sameForce_forEach _ (fun d c => ?_) cs _)
  extract_lets l old d1 gone fly late settled d2 live body d3
  have h1 : d.SameForce d1 := by
    unfold d1
    split
    · split
      · exact CheckDie.sameForce_abandon d l
      · exact .refl d
    · exact .refl d
  have h2 : d1.SameForce d2 := by
    unfold d2
    exact .refl d1
  have h3 : d2.SameForce d3 := by
    unfold d3
    exact .refl d2
  have h4 : d3.SameForce (d3.enqueue { kind := .fence, consumer := c, due := d.now, epoch := closing, body := body }) := .refl d3
  exact ((h1.trans h2).trans h3).trans h4

/-- Without an injector armed a change of the device state disarms none (R455). -/
theorem CheckDie.checkPermit_none (d : CheckDie) (cause : Nat) (h : d.injectors = []) : d.checkPermit cause = d := by
  unfold CheckDie.checkPermit
  split
  · rfl
  · rw [h]
    rfl

end Sys2Proof.Machine
end

