-- ==== Sys2Proof/Laws/State.lean ====
section
/-! SUPPORT. What each update of the state leaves alone, field by field, so that no proof unfolds a record update. -/

namespace Sys2Proof.Machine

/-- Moving a clock to the same time again changes nothing. -/
@[simp] theorem SafetyDie.tick_tick (s : SafetyDie) (t : Nat) : (s.tick t).tick t = s.tick t := by simp [SafetyDie.tick]
/-- Moving a clock to the same time again changes nothing. -/
@[simp] theorem CheckDie.tick_tick (d : CheckDie) (t : Nat) : (d.tick t).tick t = d.tick t := by simp [CheckDie.tick]
/-- A clock moved to its own time stays. -/
@[simp] theorem SafetyDie.tick_self (s : SafetyDie) : s.tick s.now = s := by simp [SafetyDie.tick]
/-- A clock moved to the time it has been moved to stays. -/
@[simp] theorem SafetyDie.tick_max (s : SafetyDie) (t : Nat) : (s.tick t).tick (max s.now t) = s.tick t := by simp [SafetyDie.tick]
/-- A clock moved to its own time stays. -/
@[simp] theorem CheckDie.tick_self (d : CheckDie) : d.tick d.now = d := by simp [CheckDie.tick]
/-- A clock moved to the time it has been moved to stays. -/
@[simp] theorem CheckDie.tick_max (d : CheckDie) (t : Nat) : (d.tick t).tick (max d.now t) = d.tick t := by simp [CheckDie.tick]
/-- The safety die of both dies at a time. -/
@[simp] theorem Dies.tick_sd (x : Dies) (t : Nat) : (x.tick t).sd = x.sd.tick t := rfl
/-- The check die of both dies at a time. -/
@[simp] theorem Dies.tick_cd (x : Dies) (t : Nat) : (x.tick t).cd = x.cd.tick t := rfl
/-- Its clock. -/
@[simp] theorem SafetyDie.tick_now (s : SafetyDie) (t : Nat) : (s.tick t).now = max s.now t := rfl
/-- Its clock. -/
@[simp] theorem CheckDie.tick_now (d : CheckDie) (t : Nat) : (d.tick t).now = max d.now t := rfl
/-- Whether the check die runs does not depend on the time. -/
@[simp] theorem CheckDie.tick_runs (d : CheckDie) (t : Nat) : (d.tick t).runs = d.runs := rfl

-- the clock moves
@[simp] theorem SafetyDie.tick_draws (s : SafetyDie) (t : Nat) : (s.tick t).draws = s.draws := rfl
@[simp] theorem SafetyDie.tick_sent (s : SafetyDie) (t : Nat) : (s.tick t).sent = s.sent := rfl
@[simp] theorem SafetyDie.tick_device (s : SafetyDie) (t : Nat) : (s.tick t).device = s.device := rfl
@[simp] theorem SafetyDie.tick_power (s : SafetyDie) (t : Nat) : (s.tick t).power = s.power := rfl
@[simp] theorem SafetyDie.tick_values (s : SafetyDie) (t : Nat) : (s.tick t).values = s.values := rfl
@[simp] theorem SafetyDie.tick_flash (s : SafetyDie) (t : Nat) : (s.tick t).flash = s.flash := rfl
@[simp] theorem SafetyDie.tick_regs (s : SafetyDie) (t : Nat) : (s.tick t).regs = s.regs := rfl
@[simp] theorem SafetyDie.tick_bootCfg (s : SafetyDie) (t : Nat) : (s.tick t).bootCfg = s.bootCfg := rfl
@[simp] theorem SafetyDie.tick_keys (s : SafetyDie) (t : Nat) : (s.tick t).keys = s.keys := rfl
@[simp] theorem SafetyDie.tick_splitApp (s : SafetyDie) (t : Nat) : (s.tick t).splitApp = s.splitApp := rfl
@[simp] theorem SafetyDie.tick_cert (s : SafetyDie) (t : Nat) : (s.tick t).cert = s.cert := rfl
@[simp] theorem SafetyDie.tick_floor (s : SafetyDie) (t : Nat) : (s.tick t).floor = s.floor := rfl
@[simp] theorem SafetyDie.tick_guest (s : SafetyDie) (t : Nat) : (s.tick t).guest = s.guest := rfl
@[simp] theorem SafetyDie.tick_rtc (s : SafetyDie) (t : Nat) : (s.tick t).rtc = s.rtc := rfl
@[simp] theorem SafetyDie.tick_rtcAt (s : SafetyDie) (t : Nat) : (s.tick t).rtcAt = s.rtcAt := rfl
@[simp] theorem SafetyDie.tick_rtcSet (s : SafetyDie) (t : Nat) : (s.tick t).rtcSet = s.rtcSet := rfl
@[simp] theorem SafetyDie.tick_gtsBase (s : SafetyDie) (t : Nat) : (s.tick t).gtsBase = s.gtsBase := rfl
@[simp] theorem SafetyDie.tick_gtsAt (s : SafetyDie) (t : Nat) : (s.tick t).gtsAt = s.gtsAt := rfl
@[simp] theorem SafetyDie.tick_gtsSet (s : SafetyDie) (t : Nat) : (s.tick t).gtsSet = s.gtsSet := rfl
@[simp] theorem SafetyDie.tick_resetEnd (s : SafetyDie) (t : Nat) : (s.tick t).resetEnd = s.resetEnd := rfl
@[simp] theorem SafetyDie.tick_keeper (s : SafetyDie) (t : Nat) : (s.tick t).keeper = s.keeper := rfl
@[simp] theorem SafetyDie.tick_corTx (s : SafetyDie) (t : Nat) : (s.tick t).corTx = s.corTx := rfl
@[simp] theorem SafetyDie.tick_corRx (s : SafetyDie) (t : Nat) : (s.tick t).corRx = s.corRx := rfl
@[simp] theorem SafetyDie.tick_cdState (s : SafetyDie) (t : Nat) : (s.tick t).cdState = s.cdState := rfl
@[simp] theorem SafetyDie.tick_sorter (s : SafetyDie) (t : Nat) : (s.tick t).sorter = s.sorter := rfl
@[simp] theorem SafetyDie.tick_heart (s : SafetyDie) (t : Nat) : (s.tick t).heart = s.heart := rfl
@[simp] theorem SafetyDie.tick_demand (s : SafetyDie) (t : Nat) : (s.tick t).demand = s.demand := rfl
@[simp] theorem SafetyDie.tick_kill (s : SafetyDie) (t : Nat) : (s.tick t).kill = s.kill := rfl
@[simp] theorem SafetyDie.tick_pairs (s : SafetyDie) (t : Nat) : (s.tick t).pairs = s.pairs := rfl
@[simp] theorem SafetyDie.tick_pulseAt (s : SafetyDie) (t : Nat) : (s.tick t).pulseAt = s.pulseAt := rfl
@[simp] theorem SafetyDie.tick_brake (s : SafetyDie) (t : Nat) : (s.tick t).brake = s.brake := rfl
@[simp] theorem SafetyDie.tick_wds (s : SafetyDie) (t : Nat) : (s.tick t).wds = s.wds := rfl
@[simp] theorem SafetyDie.tick_wdh (s : SafetyDie) (t : Nat) : (s.tick t).wdh = s.wdh := rfl
@[simp] theorem SafetyDie.tick_gate (s : SafetyDie) (t : Nat) : (s.tick t).gate = s.gate := rfl
@[simp] theorem SafetyDie.tick_rc (s : SafetyDie) (t : Nat) : (s.tick t).rc = s.rc := rfl
@[simp] theorem SafetyDie.tick_log (s : SafetyDie) (t : Nat) : (s.tick t).log = s.log := rfl
@[simp] theorem SafetyDie.tick_logSent (s : SafetyDie) (t : Nat) : (s.tick t).logSent = s.logSent := rfl
@[simp] theorem SafetyDie.tick_logLost (s : SafetyDie) (t : Nat) : (s.tick t).logLost = s.logLost := rfl
@[simp] theorem SafetyDie.tick_sessions (s : SafetyDie) (t : Nat) : (s.tick t).sessions = s.sessions := rfl
@[simp] theorem SafetyDie.tick_staging (s : SafetyDie) (t : Nat) : (s.tick t).staging = s.staging := rfl
@[simp] theorem SafetyDie.tick_stores (s : SafetyDie) (t : Nat) : (s.tick t).stores = s.stores := rfl
@[simp] theorem SafetyDie.tick_boundaryGts (s : SafetyDie) (t : Nat) : (s.tick t).boundaryGts = s.boundaryGts := rfl
@[simp] theorem SafetyDie.tick_boundaryCauses (s : SafetyDie) (t : Nat) : (s.tick t).boundaryCauses = s.boundaryCauses := rfl
@[simp] theorem SafetyDie.tick_pending (s : SafetyDie) (t : Nat) : (s.tick t).pending = s.pending := rfl
@[simp] theorem SafetyDie.tick_fw (s : SafetyDie) (t : Nat) : (s.tick t).fw = s.fw := rfl
@[simp] theorem SafetyDie.tick_attest (s : SafetyDie) (t : Nat) : (s.tick t).attest = s.attest := rfl
@[simp] theorem SafetyDie.tick_boot (s : SafetyDie) (t : Nat) : (s.tick t).boot = s.boot := rfl
@[simp] theorem SafetyDie.tick_thermLow (s : SafetyDie) (t : Nat) : (s.tick t).thermLow = s.thermLow := rfl
@[simp] theorem SafetyDie.tick_temps (s : SafetyDie) (t : Nat) : (s.tick t).temps = s.temps := rfl
@[simp] theorem SafetyDie.tick_injectOwner (s : SafetyDie) (t : Nat) : (s.tick t).injectOwner = s.injectOwner := rfl
@[simp] theorem SafetyDie.tick_armed (s : SafetyDie) (t : Nat) : (s.tick t).armed = s.armed := rfl
@[simp] theorem SafetyDie.tick_injectors (s : SafetyDie) (t : Nat) : (s.tick t).injectors = s.injectors := rfl
@[simp] theorem SafetyDie.tick_margin (s : SafetyDie) (t : Nat) : (s.tick t).margin = s.margin := rfl
@[simp] theorem SafetyDie.tick_sleepAt (s : SafetyDie) (t : Nat) : (s.tick t).sleepAt = s.sleepAt := rfl
@[simp] theorem SafetyDie.tick_wakeWaits (s : SafetyDie) (t : Nat) : (s.tick t).wakeWaits = s.wakeWaits := rfl
@[simp] theorem SafetyDie.tick_partners (s : SafetyDie) (t : Nat) : (s.tick t).partners = s.partners := rfl
@[simp] theorem SafetyDie.tick_serviceOwner (s : SafetyDie) (t : Nat) : (s.tick t).serviceOwner = s.serviceOwner := rfl
@[simp] theorem SafetyDie.tick_tunnel (s : SafetyDie) (t : Nat) : (s.tick t).tunnel = s.tunnel := rfl
@[simp] theorem SafetyDie.tick_older (s : SafetyDie) (t : Nat) : (s.tick t).older = s.older := rfl
@[simp] theorem SafetyDie.tick_olderKeys (s : SafetyDie) (t : Nat) : (s.tick t).olderKeys = s.olderKeys := rfl
@[simp] theorem SafetyDie.tick_firstFrom (s : SafetyDie) (t : Nat) : (s.tick t).firstFrom = s.firstFrom := rfl
@[simp] theorem SafetyDie.tick_boundaryEpoch (s : SafetyDie) (t : Nat) : (s.tick t).boundaryEpoch = s.boundaryEpoch := rfl
@[simp] theorem SafetyDie.tick_advancedAt (s : SafetyDie) (t : Nat) : (s.tick t).advancedAt = s.advancedAt := rfl
@[simp] theorem SafetyDie.tick_prior (s : SafetyDie) (t : Nat) : (s.tick t).prior = s.prior := rfl

-- a brake field changes
@[simp] theorem SafetyDie.setBrake_now (s : SafetyDie) (f : Brake → Brake) : (s.setBrake f).now = s.now := rfl
@[simp] theorem SafetyDie.setBrake_draws (s : SafetyDie) (f : Brake → Brake) : (s.setBrake f).draws = s.draws := rfl
@[simp] theorem SafetyDie.setBrake_sent (s : SafetyDie) (f : Brake → Brake) : (s.setBrake f).sent = s.sent := rfl
@[simp] theorem SafetyDie.setBrake_device (s : SafetyDie) (f : Brake → Brake) : (s.setBrake f).device = s.device := rfl
@[simp] theorem SafetyDie.setBrake_power (s : SafetyDie) (f : Brake → Brake) : (s.setBrake f).power = s.power := rfl
@[simp] theorem SafetyDie.setBrake_values (s : SafetyDie) (f : Brake → Brake) : (s.setBrake f).values = s.values := rfl
@[simp] theorem SafetyDie.setBrake_flash (s : SafetyDie) (f : Brake → Brake) : (s.setBrake f).flash = s.flash := rfl
@[simp] theorem SafetyDie.setBrake_regs (s : SafetyDie) (f : Brake → Brake) : (s.setBrake f).regs = s.regs := rfl
@[simp] theorem SafetyDie.setBrake_bootCfg (s : SafetyDie) (f : Brake → Brake) : (s.setBrake f).bootCfg = s.bootCfg := rfl
@[simp] theorem SafetyDie.setBrake_keys (s : SafetyDie) (f : Brake → Brake) : (s.setBrake f).keys = s.keys := rfl
@[simp] theorem SafetyDie.setBrake_splitApp (s : SafetyDie) (f : Brake → Brake) : (s.setBrake f).splitApp = s.splitApp := rfl
@[simp] theorem SafetyDie.setBrake_cert (s : SafetyDie) (f : Brake → Brake) : (s.setBrake f).cert = s.cert := rfl
@[simp] theorem SafetyDie.setBrake_floor (s : SafetyDie) (f : Brake → Brake) : (s.setBrake f).floor = s.floor := rfl
@[simp] theorem SafetyDie.setBrake_guest (s : SafetyDie) (f : Brake → Brake) : (s.setBrake f).guest = s.guest := rfl
@[simp] theorem SafetyDie.setBrake_rtc (s : SafetyDie) (f : Brake → Brake) : (s.setBrake f).rtc = s.rtc := rfl
@[simp] theorem SafetyDie.setBrake_rtcAt (s : SafetyDie) (f : Brake → Brake) : (s.setBrake f).rtcAt = s.rtcAt := rfl
@[simp] theorem SafetyDie.setBrake_rtcSet (s : SafetyDie) (f : Brake → Brake) : (s.setBrake f).rtcSet = s.rtcSet := rfl
@[simp] theorem SafetyDie.setBrake_gtsBase (s : SafetyDie) (f : Brake → Brake) : (s.setBrake f).gtsBase = s.gtsBase := rfl
@[simp] theorem SafetyDie.setBrake_gtsAt (s : SafetyDie) (f : Brake → Brake) : (s.setBrake f).gtsAt = s.gtsAt := rfl
@[simp] theorem SafetyDie.setBrake_gtsSet (s : SafetyDie) (f : Brake → Brake) : (s.setBrake f).gtsSet = s.gtsSet := rfl
@[simp] theorem SafetyDie.setBrake_resetEnd (s : SafetyDie) (f : Brake → Brake) : (s.setBrake f).resetEnd = s.resetEnd := rfl
@[simp] theorem SafetyDie.setBrake_keeper (s : SafetyDie) (f : Brake → Brake) : (s.setBrake f).keeper = s.keeper := rfl
@[simp] theorem SafetyDie.setBrake_corTx (s : SafetyDie) (f : Brake → Brake) : (s.setBrake f).corTx = s.corTx := rfl
@[simp] theorem SafetyDie.setBrake_corRx (s : SafetyDie) (f : Brake → Brake) : (s.setBrake f).corRx = s.corRx := rfl
@[simp] theorem SafetyDie.setBrake_cdState (s : SafetyDie) (f : Brake → Brake) : (s.setBrake f).cdState = s.cdState := rfl
@[simp] theorem SafetyDie.setBrake_sorter (s : SafetyDie) (f : Brake → Brake) : (s.setBrake f).sorter = s.sorter := rfl
@[simp] theorem SafetyDie.setBrake_heart (s : SafetyDie) (f : Brake → Brake) : (s.setBrake f).heart = s.heart := rfl
@[simp] theorem SafetyDie.setBrake_demand (s : SafetyDie) (f : Brake → Brake) : (s.setBrake f).demand = s.demand := rfl
@[simp] theorem SafetyDie.setBrake_kill (s : SafetyDie) (f : Brake → Brake) : (s.setBrake f).kill = s.kill := rfl
@[simp] theorem SafetyDie.setBrake_pairs (s : SafetyDie) (f : Brake → Brake) : (s.setBrake f).pairs = s.pairs := rfl
@[simp] theorem SafetyDie.setBrake_pulseAt (s : SafetyDie) (f : Brake → Brake) : (s.setBrake f).pulseAt = s.pulseAt := rfl
@[simp] theorem SafetyDie.setBrake_wds (s : SafetyDie) (f : Brake → Brake) : (s.setBrake f).wds = s.wds := rfl
@[simp] theorem SafetyDie.setBrake_wdh (s : SafetyDie) (f : Brake → Brake) : (s.setBrake f).wdh = s.wdh := rfl
@[simp] theorem SafetyDie.setBrake_gate (s : SafetyDie) (f : Brake → Brake) : (s.setBrake f).gate = s.gate := rfl
@[simp] theorem SafetyDie.setBrake_rc (s : SafetyDie) (f : Brake → Brake) : (s.setBrake f).rc = s.rc := rfl
@[simp] theorem SafetyDie.setBrake_log (s : SafetyDie) (f : Brake → Brake) : (s.setBrake f).log = s.log := rfl
@[simp] theorem SafetyDie.setBrake_logSent (s : SafetyDie) (f : Brake → Brake) : (s.setBrake f).logSent = s.logSent := rfl
@[simp] theorem SafetyDie.setBrake_logLost (s : SafetyDie) (f : Brake → Brake) : (s.setBrake f).logLost = s.logLost := rfl
@[simp] theorem SafetyDie.setBrake_sessions (s : SafetyDie) (f : Brake → Brake) : (s.setBrake f).sessions = s.sessions := rfl
@[simp] theorem SafetyDie.setBrake_staging (s : SafetyDie) (f : Brake → Brake) : (s.setBrake f).staging = s.staging := rfl
@[simp] theorem SafetyDie.setBrake_stores (s : SafetyDie) (f : Brake → Brake) : (s.setBrake f).stores = s.stores := rfl
@[simp] theorem SafetyDie.setBrake_boundaryGts (s : SafetyDie) (f : Brake → Brake) : (s.setBrake f).boundaryGts = s.boundaryGts := rfl
@[simp] theorem SafetyDie.setBrake_boundaryCauses (s : SafetyDie) (f : Brake → Brake) : (s.setBrake f).boundaryCauses = s.boundaryCauses := rfl
@[simp] theorem SafetyDie.setBrake_pending (s : SafetyDie) (f : Brake → Brake) : (s.setBrake f).pending = s.pending := rfl
@[simp] theorem SafetyDie.setBrake_fw (s : SafetyDie) (f : Brake → Brake) : (s.setBrake f).fw = s.fw := rfl
@[simp] theorem SafetyDie.setBrake_attest (s : SafetyDie) (f : Brake → Brake) : (s.setBrake f).attest = s.attest := rfl
@[simp] theorem SafetyDie.setBrake_boot (s : SafetyDie) (f : Brake → Brake) : (s.setBrake f).boot = s.boot := rfl
@[simp] theorem SafetyDie.setBrake_thermLow (s : SafetyDie) (f : Brake → Brake) : (s.setBrake f).thermLow = s.thermLow := rfl
@[simp] theorem SafetyDie.setBrake_temps (s : SafetyDie) (f : Brake → Brake) : (s.setBrake f).temps = s.temps := rfl
@[simp] theorem SafetyDie.setBrake_injectOwner (s : SafetyDie) (f : Brake → Brake) : (s.setBrake f).injectOwner = s.injectOwner := rfl
@[simp] theorem SafetyDie.setBrake_armed (s : SafetyDie) (f : Brake → Brake) : (s.setBrake f).armed = s.armed := rfl
@[simp] theorem SafetyDie.setBrake_injectors (s : SafetyDie) (f : Brake → Brake) : (s.setBrake f).injectors = s.injectors := rfl
@[simp] theorem SafetyDie.setBrake_margin (s : SafetyDie) (f : Brake → Brake) : (s.setBrake f).margin = s.margin := rfl
@[simp] theorem SafetyDie.setBrake_sleepAt (s : SafetyDie) (f : Brake → Brake) : (s.setBrake f).sleepAt = s.sleepAt := rfl
@[simp] theorem SafetyDie.setBrake_wakeWaits (s : SafetyDie) (f : Brake → Brake) : (s.setBrake f).wakeWaits = s.wakeWaits := rfl
@[simp] theorem SafetyDie.setBrake_partners (s : SafetyDie) (f : Brake → Brake) : (s.setBrake f).partners = s.partners := rfl
@[simp] theorem SafetyDie.setBrake_serviceOwner (s : SafetyDie) (f : Brake → Brake) : (s.setBrake f).serviceOwner = s.serviceOwner := rfl
@[simp] theorem SafetyDie.setBrake_tunnel (s : SafetyDie) (f : Brake → Brake) : (s.setBrake f).tunnel = s.tunnel := rfl

-- a guest-book item changes
@[simp] theorem SafetyDie.setGuest_now (s : SafetyDie) (f : GuestBook → GuestBook) : (s.setGuest f).now = s.now := rfl
@[simp] theorem SafetyDie.setGuest_draws (s : SafetyDie) (f : GuestBook → GuestBook) : (s.setGuest f).draws = s.draws := rfl
@[simp] theorem SafetyDie.setGuest_sent (s : SafetyDie) (f : GuestBook → GuestBook) : (s.setGuest f).sent = s.sent := rfl
@[simp] theorem SafetyDie.setGuest_device (s : SafetyDie) (f : GuestBook → GuestBook) : (s.setGuest f).device = s.device := rfl
@[simp] theorem SafetyDie.setGuest_power (s : SafetyDie) (f : GuestBook → GuestBook) : (s.setGuest f).power = s.power := rfl
@[simp] theorem SafetyDie.setGuest_values (s : SafetyDie) (f : GuestBook → GuestBook) : (s.setGuest f).values = s.values := rfl
@[simp] theorem SafetyDie.setGuest_flash (s : SafetyDie) (f : GuestBook → GuestBook) : (s.setGuest f).flash = s.flash := rfl
@[simp] theorem SafetyDie.setGuest_regs (s : SafetyDie) (f : GuestBook → GuestBook) : (s.setGuest f).regs = s.regs := rfl
@[simp] theorem SafetyDie.setGuest_bootCfg (s : SafetyDie) (f : GuestBook → GuestBook) : (s.setGuest f).bootCfg = s.bootCfg := rfl
@[simp] theorem SafetyDie.setGuest_keys (s : SafetyDie) (f : GuestBook → GuestBook) : (s.setGuest f).keys = s.keys := rfl
@[simp] theorem SafetyDie.setGuest_splitApp (s : SafetyDie) (f : GuestBook → GuestBook) : (s.setGuest f).splitApp = s.splitApp := rfl
@[simp] theorem SafetyDie.setGuest_cert (s : SafetyDie) (f : GuestBook → GuestBook) : (s.setGuest f).cert = s.cert := rfl
@[simp] theorem SafetyDie.setGuest_floor (s : SafetyDie) (f : GuestBook → GuestBook) : (s.setGuest f).floor = s.floor := rfl
@[simp] theorem SafetyDie.setGuest_rtc (s : SafetyDie) (f : GuestBook → GuestBook) : (s.setGuest f).rtc = s.rtc := rfl
@[simp] theorem SafetyDie.setGuest_rtcAt (s : SafetyDie) (f : GuestBook → GuestBook) : (s.setGuest f).rtcAt = s.rtcAt := rfl
@[simp] theorem SafetyDie.setGuest_rtcSet (s : SafetyDie) (f : GuestBook → GuestBook) : (s.setGuest f).rtcSet = s.rtcSet := rfl
@[simp] theorem SafetyDie.setGuest_gtsBase (s : SafetyDie) (f : GuestBook → GuestBook) : (s.setGuest f).gtsBase = s.gtsBase := rfl
@[simp] theorem SafetyDie.setGuest_gtsAt (s : SafetyDie) (f : GuestBook → GuestBook) : (s.setGuest f).gtsAt = s.gtsAt := rfl
@[simp] theorem SafetyDie.setGuest_gtsSet (s : SafetyDie) (f : GuestBook → GuestBook) : (s.setGuest f).gtsSet = s.gtsSet := rfl
@[simp] theorem SafetyDie.setGuest_resetEnd (s : SafetyDie) (f : GuestBook → GuestBook) : (s.setGuest f).resetEnd = s.resetEnd := rfl
@[simp] theorem SafetyDie.setGuest_keeper (s : SafetyDie) (f : GuestBook → GuestBook) : (s.setGuest f).keeper = s.keeper := rfl
@[simp] theorem SafetyDie.setGuest_corTx (s : SafetyDie) (f : GuestBook → GuestBook) : (s.setGuest f).corTx = s.corTx := rfl
@[simp] theorem SafetyDie.setGuest_corRx (s : SafetyDie) (f : GuestBook → GuestBook) : (s.setGuest f).corRx = s.corRx := rfl
@[simp] theorem SafetyDie.setGuest_cdState (s : SafetyDie) (f : GuestBook → GuestBook) : (s.setGuest f).cdState = s.cdState := rfl
@[simp] theorem SafetyDie.setGuest_sorter (s : SafetyDie) (f : GuestBook → GuestBook) : (s.setGuest f).sorter = s.sorter := rfl
@[simp] theorem SafetyDie.setGuest_heart (s : SafetyDie) (f : GuestBook → GuestBook) : (s.setGuest f).heart = s.heart := rfl
@[simp] theorem SafetyDie.setGuest_demand (s : SafetyDie) (f : GuestBook → GuestBook) : (s.setGuest f).demand = s.demand := rfl
@[simp] theorem SafetyDie.setGuest_kill (s : SafetyDie) (f : GuestBook → GuestBook) : (s.setGuest f).kill = s.kill := rfl
@[simp] theorem SafetyDie.setGuest_pairs (s : SafetyDie) (f : GuestBook → GuestBook) : (s.setGuest f).pairs = s.pairs := rfl
@[simp] theorem SafetyDie.setGuest_pulseAt (s : SafetyDie) (f : GuestBook → GuestBook) : (s.setGuest f).pulseAt = s.pulseAt := rfl
@[simp] theorem SafetyDie.setGuest_brake (s : SafetyDie) (f : GuestBook → GuestBook) : (s.setGuest f).brake = s.brake := rfl
@[simp] theorem SafetyDie.setGuest_wds (s : SafetyDie) (f : GuestBook → GuestBook) : (s.setGuest f).wds = s.wds := rfl
@[simp] theorem SafetyDie.setGuest_wdh (s : SafetyDie) (f : GuestBook → GuestBook) : (s.setGuest f).wdh = s.wdh := rfl
@[simp] theorem SafetyDie.setGuest_gate (s : SafetyDie) (f : GuestBook → GuestBook) : (s.setGuest f).gate = s.gate := rfl
@[simp] theorem SafetyDie.setGuest_rc (s : SafetyDie) (f : GuestBook → GuestBook) : (s.setGuest f).rc = s.rc := rfl
@[simp] theorem SafetyDie.setGuest_log (s : SafetyDie) (f : GuestBook → GuestBook) : (s.setGuest f).log = s.log := rfl
@[simp] theorem SafetyDie.setGuest_logSent (s : SafetyDie) (f : GuestBook → GuestBook) : (s.setGuest f).logSent = s.logSent := rfl
@[simp] theorem SafetyDie.setGuest_logLost (s : SafetyDie) (f : GuestBook → GuestBook) : (s.setGuest f).logLost = s.logLost := rfl
@[simp] theorem SafetyDie.setGuest_sessions (s : SafetyDie) (f : GuestBook → GuestBook) : (s.setGuest f).sessions = s.sessions := rfl
@[simp] theorem SafetyDie.setGuest_staging (s : SafetyDie) (f : GuestBook → GuestBook) : (s.setGuest f).staging = s.staging := rfl
@[simp] theorem SafetyDie.setGuest_stores (s : SafetyDie) (f : GuestBook → GuestBook) : (s.setGuest f).stores = s.stores := rfl
@[simp] theorem SafetyDie.setGuest_boundaryGts (s : SafetyDie) (f : GuestBook → GuestBook) : (s.setGuest f).boundaryGts = s.boundaryGts := rfl
@[simp] theorem SafetyDie.setGuest_boundaryCauses (s : SafetyDie) (f : GuestBook → GuestBook) : (s.setGuest f).boundaryCauses = s.boundaryCauses := rfl
@[simp] theorem SafetyDie.setGuest_pending (s : SafetyDie) (f : GuestBook → GuestBook) : (s.setGuest f).pending = s.pending := rfl
@[simp] theorem SafetyDie.setGuest_fw (s : SafetyDie) (f : GuestBook → GuestBook) : (s.setGuest f).fw = s.fw := rfl
@[simp] theorem SafetyDie.setGuest_attest (s : SafetyDie) (f : GuestBook → GuestBook) : (s.setGuest f).attest = s.attest := rfl
@[simp] theorem SafetyDie.setGuest_boot (s : SafetyDie) (f : GuestBook → GuestBook) : (s.setGuest f).boot = s.boot := rfl
@[simp] theorem SafetyDie.setGuest_thermLow (s : SafetyDie) (f : GuestBook → GuestBook) : (s.setGuest f).thermLow = s.thermLow := rfl
@[simp] theorem SafetyDie.setGuest_temps (s : SafetyDie) (f : GuestBook → GuestBook) : (s.setGuest f).temps = s.temps := rfl
@[simp] theorem SafetyDie.setGuest_injectOwner (s : SafetyDie) (f : GuestBook → GuestBook) : (s.setGuest f).injectOwner = s.injectOwner := rfl
@[simp] theorem SafetyDie.setGuest_armed (s : SafetyDie) (f : GuestBook → GuestBook) : (s.setGuest f).armed = s.armed := rfl
@[simp] theorem SafetyDie.setGuest_injectors (s : SafetyDie) (f : GuestBook → GuestBook) : (s.setGuest f).injectors = s.injectors := rfl
@[simp] theorem SafetyDie.setGuest_margin (s : SafetyDie) (f : GuestBook → GuestBook) : (s.setGuest f).margin = s.margin := rfl
@[simp] theorem SafetyDie.setGuest_sleepAt (s : SafetyDie) (f : GuestBook → GuestBook) : (s.setGuest f).sleepAt = s.sleepAt := rfl
@[simp] theorem SafetyDie.setGuest_wakeWaits (s : SafetyDie) (f : GuestBook → GuestBook) : (s.setGuest f).wakeWaits = s.wakeWaits := rfl
@[simp] theorem SafetyDie.setGuest_partners (s : SafetyDie) (f : GuestBook → GuestBook) : (s.setGuest f).partners = s.partners := rfl
@[simp] theorem SafetyDie.setGuest_serviceOwner (s : SafetyDie) (f : GuestBook → GuestBook) : (s.setGuest f).serviceOwner = s.serviceOwner := rfl
@[simp] theorem SafetyDie.setGuest_tunnel (s : SafetyDie) (f : GuestBook → GuestBook) : (s.setGuest f).tunnel = s.tunnel := rfl

-- a session changes
@[simp] theorem SafetyDie.setSession_now (s : SafetyDie) (i : Nat) (x : Option Session) : (s.setSession i x).now = s.now := rfl
@[simp] theorem SafetyDie.setSession_draws (s : SafetyDie) (i : Nat) (x : Option Session) : (s.setSession i x).draws = s.draws := rfl
@[simp] theorem SafetyDie.setSession_sent (s : SafetyDie) (i : Nat) (x : Option Session) : (s.setSession i x).sent = s.sent := rfl
@[simp] theorem SafetyDie.setSession_device (s : SafetyDie) (i : Nat) (x : Option Session) : (s.setSession i x).device = s.device := rfl
@[simp] theorem SafetyDie.setSession_power (s : SafetyDie) (i : Nat) (x : Option Session) : (s.setSession i x).power = s.power := rfl
@[simp] theorem SafetyDie.setSession_values (s : SafetyDie) (i : Nat) (x : Option Session) : (s.setSession i x).values = s.values := rfl
@[simp] theorem SafetyDie.setSession_flash (s : SafetyDie) (i : Nat) (x : Option Session) : (s.setSession i x).flash = s.flash := rfl
@[simp] theorem SafetyDie.setSession_regs (s : SafetyDie) (i : Nat) (x : Option Session) : (s.setSession i x).regs = s.regs := rfl
@[simp] theorem SafetyDie.setSession_bootCfg (s : SafetyDie) (i : Nat) (x : Option Session) : (s.setSession i x).bootCfg = s.bootCfg := rfl
@[simp] theorem SafetyDie.setSession_keys (s : SafetyDie) (i : Nat) (x : Option Session) : (s.setSession i x).keys = s.keys := rfl
@[simp] theorem SafetyDie.setSession_splitApp (s : SafetyDie) (i : Nat) (x : Option Session) : (s.setSession i x).splitApp = s.splitApp := rfl
@[simp] theorem SafetyDie.setSession_cert (s : SafetyDie) (i : Nat) (x : Option Session) : (s.setSession i x).cert = s.cert := rfl
@[simp] theorem SafetyDie.setSession_floor (s : SafetyDie) (i : Nat) (x : Option Session) : (s.setSession i x).floor = s.floor := rfl
@[simp] theorem SafetyDie.setSession_guest (s : SafetyDie) (i : Nat) (x : Option Session) : (s.setSession i x).guest = s.guest := rfl
@[simp] theorem SafetyDie.setSession_rtc (s : SafetyDie) (i : Nat) (x : Option Session) : (s.setSession i x).rtc = s.rtc := rfl
@[simp] theorem SafetyDie.setSession_rtcAt (s : SafetyDie) (i : Nat) (x : Option Session) : (s.setSession i x).rtcAt = s.rtcAt := rfl
@[simp] theorem SafetyDie.setSession_rtcSet (s : SafetyDie) (i : Nat) (x : Option Session) : (s.setSession i x).rtcSet = s.rtcSet := rfl
@[simp] theorem SafetyDie.setSession_gtsBase (s : SafetyDie) (i : Nat) (x : Option Session) : (s.setSession i x).gtsBase = s.gtsBase := rfl
@[simp] theorem SafetyDie.setSession_gtsAt (s : SafetyDie) (i : Nat) (x : Option Session) : (s.setSession i x).gtsAt = s.gtsAt := rfl
@[simp] theorem SafetyDie.setSession_gtsSet (s : SafetyDie) (i : Nat) (x : Option Session) : (s.setSession i x).gtsSet = s.gtsSet := rfl
@[simp] theorem SafetyDie.setSession_resetEnd (s : SafetyDie) (i : Nat) (x : Option Session) : (s.setSession i x).resetEnd = s.resetEnd := rfl
@[simp] theorem SafetyDie.setSession_keeper (s : SafetyDie) (i : Nat) (x : Option Session) : (s.setSession i x).keeper = s.keeper := rfl
@[simp] theorem SafetyDie.setSession_corTx (s : SafetyDie) (i : Nat) (x : Option Session) : (s.setSession i x).corTx = s.corTx := rfl
@[simp] theorem SafetyDie.setSession_corRx (s : SafetyDie) (i : Nat) (x : Option Session) : (s.setSession i x).corRx = s.corRx := rfl
@[simp] theorem SafetyDie.setSession_cdState (s : SafetyDie) (i : Nat) (x : Option Session) : (s.setSession i x).cdState = s.cdState := rfl
@[simp] theorem SafetyDie.setSession_sorter (s : SafetyDie) (i : Nat) (x : Option Session) : (s.setSession i x).sorter = s.sorter := rfl
@[simp] theorem SafetyDie.setSession_heart (s : SafetyDie) (i : Nat) (x : Option Session) : (s.setSession i x).heart = s.heart := rfl
@[simp] theorem SafetyDie.setSession_demand (s : SafetyDie) (i : Nat) (x : Option Session) : (s.setSession i x).demand = s.demand := rfl
@[simp] theorem SafetyDie.setSession_kill (s : SafetyDie) (i : Nat) (x : Option Session) : (s.setSession i x).kill = s.kill := rfl
@[simp] theorem SafetyDie.setSession_pairs (s : SafetyDie) (i : Nat) (x : Option Session) : (s.setSession i x).pairs = s.pairs := rfl
@[simp] theorem SafetyDie.setSession_pulseAt (s : SafetyDie) (i : Nat) (x : Option Session) : (s.setSession i x).pulseAt = s.pulseAt := rfl
@[simp] theorem SafetyDie.setSession_brake (s : SafetyDie) (i : Nat) (x : Option Session) : (s.setSession i x).brake = s.brake := rfl
@[simp] theorem SafetyDie.setSession_wds (s : SafetyDie) (i : Nat) (x : Option Session) : (s.setSession i x).wds = s.wds := rfl
@[simp] theorem SafetyDie.setSession_wdh (s : SafetyDie) (i : Nat) (x : Option Session) : (s.setSession i x).wdh = s.wdh := rfl
@[simp] theorem SafetyDie.setSession_gate (s : SafetyDie) (i : Nat) (x : Option Session) : (s.setSession i x).gate = s.gate := rfl
@[simp] theorem SafetyDie.setSession_rc (s : SafetyDie) (i : Nat) (x : Option Session) : (s.setSession i x).rc = s.rc := rfl
@[simp] theorem SafetyDie.setSession_log (s : SafetyDie) (i : Nat) (x : Option Session) : (s.setSession i x).log = s.log := rfl
@[simp] theorem SafetyDie.setSession_logSent (s : SafetyDie) (i : Nat) (x : Option Session) : (s.setSession i x).logSent = s.logSent := rfl
@[simp] theorem SafetyDie.setSession_logLost (s : SafetyDie) (i : Nat) (x : Option Session) : (s.setSession i x).logLost = s.logLost := rfl
@[simp] theorem SafetyDie.setSession_staging (s : SafetyDie) (i : Nat) (x : Option Session) : (s.setSession i x).staging = s.staging := rfl
@[simp] theorem SafetyDie.setSession_stores (s : SafetyDie) (i : Nat) (x : Option Session) : (s.setSession i x).stores = s.stores := rfl
@[simp] theorem SafetyDie.setSession_boundaryGts (s : SafetyDie) (i : Nat) (x : Option Session) : (s.setSession i x).boundaryGts = s.boundaryGts := rfl
@[simp] theorem SafetyDie.setSession_boundaryCauses (s : SafetyDie) (i : Nat) (x : Option Session) : (s.setSession i x).boundaryCauses = s.boundaryCauses := rfl
@[simp] theorem SafetyDie.setSession_pending (s : SafetyDie) (i : Nat) (x : Option Session) : (s.setSession i x).pending = s.pending := rfl
@[simp] theorem SafetyDie.setSession_fw (s : SafetyDie) (i : Nat) (x : Option Session) : (s.setSession i x).fw = s.fw := rfl
@[simp] theorem SafetyDie.setSession_attest (s : SafetyDie) (i : Nat) (x : Option Session) : (s.setSession i x).attest = s.attest := rfl
@[simp] theorem SafetyDie.setSession_boot (s : SafetyDie) (i : Nat) (x : Option Session) : (s.setSession i x).boot = s.boot := rfl
@[simp] theorem SafetyDie.setSession_thermLow (s : SafetyDie) (i : Nat) (x : Option Session) : (s.setSession i x).thermLow = s.thermLow := rfl
@[simp] theorem SafetyDie.setSession_temps (s : SafetyDie) (i : Nat) (x : Option Session) : (s.setSession i x).temps = s.temps := rfl
@[simp] theorem SafetyDie.setSession_injectOwner (s : SafetyDie) (i : Nat) (x : Option Session) : (s.setSession i x).injectOwner = s.injectOwner := rfl
@[simp] theorem SafetyDie.setSession_armed (s : SafetyDie) (i : Nat) (x : Option Session) : (s.setSession i x).armed = s.armed := rfl
@[simp] theorem SafetyDie.setSession_injectors (s : SafetyDie) (i : Nat) (x : Option Session) : (s.setSession i x).injectors = s.injectors := rfl
@[simp] theorem SafetyDie.setSession_margin (s : SafetyDie) (i : Nat) (x : Option Session) : (s.setSession i x).margin = s.margin := rfl
@[simp] theorem SafetyDie.setSession_sleepAt (s : SafetyDie) (i : Nat) (x : Option Session) : (s.setSession i x).sleepAt = s.sleepAt := rfl
@[simp] theorem SafetyDie.setSession_wakeWaits (s : SafetyDie) (i : Nat) (x : Option Session) : (s.setSession i x).wakeWaits = s.wakeWaits := rfl
@[simp] theorem SafetyDie.setSession_partners (s : SafetyDie) (i : Nat) (x : Option Session) : (s.setSession i x).partners = s.partners := rfl
@[simp] theorem SafetyDie.setSession_serviceOwner (s : SafetyDie) (i : Nat) (x : Option Session) : (s.setSession i x).serviceOwner = s.serviceOwner := rfl
@[simp] theorem SafetyDie.setSession_tunnel (s : SafetyDie) (i : Nat) (x : Option Session) : (s.setSession i x).tunnel = s.tunnel := rfl
@[simp] theorem SafetyDie.setSession_older (s : SafetyDie) (i : Nat) (x : Option Session) : (s.setSession i x).older = s.older := rfl
@[simp] theorem SafetyDie.setSession_olderKeys (s : SafetyDie) (i : Nat) (x : Option Session) : (s.setSession i x).olderKeys = s.olderKeys := rfl
@[simp] theorem SafetyDie.setSession_firstFrom (s : SafetyDie) (i : Nat) (x : Option Session) : (s.setSession i x).firstFrom = s.firstFrom := rfl
@[simp] theorem SafetyDie.setSession_boundaryEpoch (s : SafetyDie) (i : Nat) (x : Option Session) : (s.setSession i x).boundaryEpoch = s.boundaryEpoch := rfl
@[simp] theorem SafetyDie.setSession_advancedAt (s : SafetyDie) (i : Nat) (x : Option Session) : (s.setSession i x).advancedAt = s.advancedAt := rfl
@[simp] theorem SafetyDie.setSession_prior (s : SafetyDie) (i : Nat) (x : Option Session) : (s.setSession i x).prior = s.prior := rfl

-- an output
@[simp] theorem SafetyDie.put_now (s : SafetyDie) (x : Sent) : (s.put x).now = s.now := rfl
@[simp] theorem SafetyDie.put_draws (s : SafetyDie) (x : Sent) : (s.put x).draws = s.draws := rfl
@[simp] theorem SafetyDie.put_device (s : SafetyDie) (x : Sent) : (s.put x).device = s.device := rfl
@[simp] theorem SafetyDie.put_power (s : SafetyDie) (x : Sent) : (s.put x).power = s.power := rfl
@[simp] theorem SafetyDie.put_values (s : SafetyDie) (x : Sent) : (s.put x).values = s.values := rfl
@[simp] theorem SafetyDie.put_flash (s : SafetyDie) (x : Sent) : (s.put x).flash = s.flash := rfl
@[simp] theorem SafetyDie.put_regs (s : SafetyDie) (x : Sent) : (s.put x).regs = s.regs := rfl
@[simp] theorem SafetyDie.put_bootCfg (s : SafetyDie) (x : Sent) : (s.put x).bootCfg = s.bootCfg := rfl
@[simp] theorem SafetyDie.put_keys (s : SafetyDie) (x : Sent) : (s.put x).keys = s.keys := rfl
@[simp] theorem SafetyDie.put_splitApp (s : SafetyDie) (x : Sent) : (s.put x).splitApp = s.splitApp := rfl
@[simp] theorem SafetyDie.put_cert (s : SafetyDie) (x : Sent) : (s.put x).cert = s.cert := rfl
@[simp] theorem SafetyDie.put_floor (s : SafetyDie) (x : Sent) : (s.put x).floor = s.floor := rfl
@[simp] theorem SafetyDie.put_guest (s : SafetyDie) (x : Sent) : (s.put x).guest = s.guest := rfl
@[simp] theorem SafetyDie.put_rtc (s : SafetyDie) (x : Sent) : (s.put x).rtc = s.rtc := rfl
@[simp] theorem SafetyDie.put_rtcAt (s : SafetyDie) (x : Sent) : (s.put x).rtcAt = s.rtcAt := rfl
@[simp] theorem SafetyDie.put_rtcSet (s : SafetyDie) (x : Sent) : (s.put x).rtcSet = s.rtcSet := rfl
@[simp] theorem SafetyDie.put_gtsBase (s : SafetyDie) (x : Sent) : (s.put x).gtsBase = s.gtsBase := rfl
@[simp] theorem SafetyDie.put_gtsAt (s : SafetyDie) (x : Sent) : (s.put x).gtsAt = s.gtsAt := rfl
@[simp] theorem SafetyDie.put_gtsSet (s : SafetyDie) (x : Sent) : (s.put x).gtsSet = s.gtsSet := rfl
@[simp] theorem SafetyDie.put_resetEnd (s : SafetyDie) (x : Sent) : (s.put x).resetEnd = s.resetEnd := rfl
@[simp] theorem SafetyDie.put_keeper (s : SafetyDie) (x : Sent) : (s.put x).keeper = s.keeper := rfl
@[simp] theorem SafetyDie.put_corTx (s : SafetyDie) (x : Sent) : (s.put x).corTx = s.corTx := rfl
@[simp] theorem SafetyDie.put_corRx (s : SafetyDie) (x : Sent) : (s.put x).corRx = s.corRx := rfl
@[simp] theorem SafetyDie.put_cdState (s : SafetyDie) (x : Sent) : (s.put x).cdState = s.cdState := rfl
@[simp] theorem SafetyDie.put_sorter (s : SafetyDie) (x : Sent) : (s.put x).sorter = s.sorter := rfl
@[simp] theorem SafetyDie.put_heart (s : SafetyDie) (x : Sent) : (s.put x).heart = s.heart := rfl
@[simp] theorem SafetyDie.put_demand (s : SafetyDie) (x : Sent) : (s.put x).demand = s.demand := rfl
@[simp] theorem SafetyDie.put_kill (s : SafetyDie) (x : Sent) : (s.put x).kill = s.kill := rfl
@[simp] theorem SafetyDie.put_pairs (s : SafetyDie) (x : Sent) : (s.put x).pairs = s.pairs := rfl
@[simp] theorem SafetyDie.put_pulseAt (s : SafetyDie) (x : Sent) : (s.put x).pulseAt = s.pulseAt := rfl
@[simp] theorem SafetyDie.put_brake (s : SafetyDie) (x : Sent) : (s.put x).brake = s.brake := rfl
@[simp] theorem SafetyDie.put_wds (s : SafetyDie) (x : Sent) : (s.put x).wds = s.wds := rfl
@[simp] theorem SafetyDie.put_wdh (s : SafetyDie) (x : Sent) : (s.put x).wdh = s.wdh := rfl
@[simp] theorem SafetyDie.put_gate (s : SafetyDie) (x : Sent) : (s.put x).gate = s.gate := rfl
@[simp] theorem SafetyDie.put_rc (s : SafetyDie) (x : Sent) : (s.put x).rc = s.rc := rfl
@[simp] theorem SafetyDie.put_log (s : SafetyDie) (x : Sent) : (s.put x).log = s.log := rfl
@[simp] theorem SafetyDie.put_logSent (s : SafetyDie) (x : Sent) : (s.put x).logSent = s.logSent := rfl
@[simp] theorem SafetyDie.put_logLost (s : SafetyDie) (x : Sent) : (s.put x).logLost = s.logLost := rfl
@[simp] theorem SafetyDie.put_sessions (s : SafetyDie) (x : Sent) : (s.put x).sessions = s.sessions := rfl
@[simp] theorem SafetyDie.put_staging (s : SafetyDie) (x : Sent) : (s.put x).staging = s.staging := rfl
@[simp] theorem SafetyDie.put_stores (s : SafetyDie) (x : Sent) : (s.put x).stores = s.stores := rfl
@[simp] theorem SafetyDie.put_boundaryGts (s : SafetyDie) (x : Sent) : (s.put x).boundaryGts = s.boundaryGts := rfl
@[simp] theorem SafetyDie.put_boundaryCauses (s : SafetyDie) (x : Sent) : (s.put x).boundaryCauses = s.boundaryCauses := rfl
@[simp] theorem SafetyDie.put_pending (s : SafetyDie) (x : Sent) : (s.put x).pending = s.pending := rfl
@[simp] theorem SafetyDie.put_fw (s : SafetyDie) (x : Sent) : (s.put x).fw = s.fw := rfl
@[simp] theorem SafetyDie.put_attest (s : SafetyDie) (x : Sent) : (s.put x).attest = s.attest := rfl
@[simp] theorem SafetyDie.put_boot (s : SafetyDie) (x : Sent) : (s.put x).boot = s.boot := rfl
@[simp] theorem SafetyDie.put_thermLow (s : SafetyDie) (x : Sent) : (s.put x).thermLow = s.thermLow := rfl
@[simp] theorem SafetyDie.put_temps (s : SafetyDie) (x : Sent) : (s.put x).temps = s.temps := rfl
@[simp] theorem SafetyDie.put_injectOwner (s : SafetyDie) (x : Sent) : (s.put x).injectOwner = s.injectOwner := rfl
@[simp] theorem SafetyDie.put_armed (s : SafetyDie) (x : Sent) : (s.put x).armed = s.armed := rfl
@[simp] theorem SafetyDie.put_injectors (s : SafetyDie) (x : Sent) : (s.put x).injectors = s.injectors := rfl
@[simp] theorem SafetyDie.put_margin (s : SafetyDie) (x : Sent) : (s.put x).margin = s.margin := rfl
@[simp] theorem SafetyDie.put_sleepAt (s : SafetyDie) (x : Sent) : (s.put x).sleepAt = s.sleepAt := rfl
@[simp] theorem SafetyDie.put_wakeWaits (s : SafetyDie) (x : Sent) : (s.put x).wakeWaits = s.wakeWaits := rfl
@[simp] theorem SafetyDie.put_partners (s : SafetyDie) (x : Sent) : (s.put x).partners = s.partners := rfl
@[simp] theorem SafetyDie.put_serviceOwner (s : SafetyDie) (x : Sent) : (s.put x).serviceOwner = s.serviceOwner := rfl
@[simp] theorem SafetyDie.put_tunnel (s : SafetyDie) (x : Sent) : (s.put x).tunnel = s.tunnel := rfl
@[simp] theorem SafetyDie.put_sent (s : SafetyDie) (x : Sent) : (s.put x).sent = s.sent ++ [x] := rfl
@[simp] theorem SafetyDie.put_older (s : SafetyDie) (x : Sent) : (s.put x).older = s.older := rfl
@[simp] theorem SafetyDie.put_olderKeys (s : SafetyDie) (x : Sent) : (s.put x).olderKeys = s.olderKeys := rfl
@[simp] theorem SafetyDie.put_firstFrom (s : SafetyDie) (x : Sent) : (s.put x).firstFrom = s.firstFrom := rfl
@[simp] theorem SafetyDie.put_boundaryEpoch (s : SafetyDie) (x : Sent) : (s.put x).boundaryEpoch = s.boundaryEpoch := rfl
@[simp] theorem SafetyDie.put_advancedAt (s : SafetyDie) (x : Sent) : (s.put x).advancedAt = s.advancedAt := rfl
@[simp] theorem SafetyDie.put_prior (s : SafetyDie) (x : Sent) : (s.put x).prior = s.prior := rfl

-- the clock of the check die moves
@[simp] theorem CheckDie.tick_draws (d : CheckDie) (t : Nat) : (d.tick t).draws = d.draws := rfl
@[simp] theorem CheckDie.tick_sent (d : CheckDie) (t : Nat) : (d.tick t).sent = d.sent := rfl
@[simp] theorem CheckDie.tick_up (d : CheckDie) (t : Nat) : (d.tick t).up = d.up := rfl
@[simp] theorem CheckDie.tick_clock (d : CheckDie) (t : Nat) : (d.tick t).clock = d.clock := rfl
@[simp] theorem CheckDie.tick_state (d : CheckDie) (t : Nat) : (d.tick t).state = d.state := rfl
@[simp] theorem CheckDie.tick_device (d : CheckDie) (t : Nat) : (d.tick t).device = d.device := rfl
@[simp] theorem CheckDie.tick_power (d : CheckDie) (t : Nat) : (d.tick t).power = d.power := rfl
@[simp] theorem CheckDie.tick_cfg (d : CheckDie) (t : Nat) : (d.tick t).cfg = d.cfg := rfl
@[simp] theorem CheckDie.tick_history (d : CheckDie) (t : Nat) : (d.tick t).history = d.history := rfl
@[simp] theorem CheckDie.tick_delivered (d : CheckDie) (t : Nat) : (d.tick t).delivered = d.delivered := rfl
@[simp] theorem CheckDie.tick_regs (d : CheckDie) (t : Nat) : (d.tick t).regs = d.regs := rfl
@[simp] theorem CheckDie.tick_split (d : CheckDie) (t : Nat) : (d.tick t).split = d.split := rfl
@[simp] theorem CheckDie.tick_streams (d : CheckDie) (t : Nat) : (d.tick t).streams = d.streams := rfl
@[simp] theorem CheckDie.tick_ledger (d : CheckDie) (t : Nat) : (d.tick t).ledger = d.ledger := rfl
@[simp] theorem CheckDie.tick_nextEntry (d : CheckDie) (t : Nat) : (d.tick t).nextEntry = d.nextEntry := rfl
@[simp] theorem CheckDie.tick_missed (d : CheckDie) (t : Nat) : (d.tick t).missed = d.missed := rfl
@[simp] theorem CheckDie.tick_clusters (d : CheckDie) (t : Nat) : (d.tick t).clusters = d.clusters := rfl
@[simp] theorem CheckDie.tick_disp (d : CheckDie) (t : Nat) : (d.tick t).disp = d.disp := rfl
@[simp] theorem CheckDie.tick_packages (d : CheckDie) (t : Nat) : (d.tick t).packages = d.packages := rfl
@[simp] theorem CheckDie.tick_audit (d : CheckDie) (t : Nat) : (d.tick t).audit = d.audit := rfl
@[simp] theorem CheckDie.tick_lanterns (d : CheckDie) (t : Nat) : (d.tick t).lanterns = d.lanterns := rfl
@[simp] theorem CheckDie.tick_esc (d : CheckDie) (t : Nat) : (d.tick t).esc = d.esc := rfl
@[simp] theorem CheckDie.tick_maps (d : CheckDie) (t : Nat) : (d.tick t).maps = d.maps := rfl
@[simp] theorem CheckDie.tick_opinions (d : CheckDie) (t : Nat) : (d.tick t).opinions = d.opinions := rfl
@[simp] theorem CheckDie.tick_nextOpinion (d : CheckDie) (t : Nat) : (d.tick t).nextOpinion = d.nextOpinion := rfl
@[simp] theorem CheckDie.tick_epoch (d : CheckDie) (t : Nat) : (d.tick t).epoch = d.epoch := rfl
@[simp] theorem CheckDie.tick_boundaryGts (d : CheckDie) (t : Nat) : (d.tick t).boundaryGts = d.boundaryGts := rfl
@[simp] theorem CheckDie.tick_causes (d : CheckDie) (t : Nat) : (d.tick t).causes = d.causes := rfl
@[simp] theorem CheckDie.tick_policy (d : CheckDie) (t : Nat) : (d.tick t).policy = d.policy := rfl
@[simp] theorem CheckDie.tick_lanes (d : CheckDie) (t : Nat) : (d.tick t).lanes = d.lanes := rfl
@[simp] theorem CheckDie.tick_consumers (d : CheckDie) (t : Nat) : (d.tick t).consumers = d.consumers := rfl
@[simp] theorem CheckDie.tick_mirrorSeq (d : CheckDie) (t : Nat) : (d.tick t).mirrorSeq = d.mirrorSeq := rfl
@[simp] theorem CheckDie.tick_contexts (d : CheckDie) (t : Nat) : (d.tick t).contexts = d.contexts := rfl
@[simp] theorem CheckDie.tick_rings (d : CheckDie) (t : Nat) : (d.tick t).rings = d.rings := rfl
@[simp] theorem CheckDie.tick_wl (d : CheckDie) (t : Nat) : (d.tick t).wl = d.wl := rfl
@[simp] theorem CheckDie.tick_busMaster (d : CheckDie) (t : Nat) : (d.tick t).busMaster = d.busMaster := rfl
@[simp] theorem CheckDie.tick_perst (d : CheckDie) (t : Nat) : (d.tick t).perst = d.perst := rfl
@[simp] theorem CheckDie.tick_badWrites (d : CheckDie) (t : Nat) : (d.tick t).badWrites = d.badWrites := rfl
@[simp] theorem CheckDie.tick_devStatus (d : CheckDie) (t : Nat) : (d.tick t).devStatus = d.devStatus := rfl
@[simp] theorem CheckDie.tick_epochImage (d : CheckDie) (t : Nat) : (d.tick t).epochImage = d.epochImage := rfl
@[simp] theorem CheckDie.tick_safetyImage (d : CheckDie) (t : Nat) : (d.tick t).safetyImage = d.safetyImage := rfl
@[simp] theorem CheckDie.tick_corTx (d : CheckDie) (t : Nat) : (d.tick t).corTx = d.corTx := rfl
@[simp] theorem CheckDie.tick_corRx (d : CheckDie) (t : Nat) : (d.tick t).corRx = d.corRx := rfl
@[simp] theorem CheckDie.tick_corFailed (d : CheckDie) (t : Nat) : (d.tick t).corFailed = d.corFailed := rfl
@[simp] theorem CheckDie.tick_heart (d : CheckDie) (t : Nat) : (d.tick t).heart = d.heart := rfl
@[simp] theorem CheckDie.tick_heartAt (d : CheckDie) (t : Nat) : (d.tick t).heartAt = d.heartAt := rfl
@[simp] theorem CheckDie.tick_demand (d : CheckDie) (t : Nat) : (d.tick t).demand = d.demand := rfl
@[simp] theorem CheckDie.tick_openDemands (d : CheckDie) (t : Nat) : (d.tick t).openDemands = d.openDemands := rfl
@[simp] theorem CheckDie.tick_configCrcAt (d : CheckDie) (t : Nat) : (d.tick t).configCrcAt = d.configCrcAt := rfl
@[simp] theorem CheckDie.tick_ev (d : CheckDie) (t : Nat) : (d.tick t).ev = d.ev := rfl
@[simp] theorem CheckDie.tick_sig (d : CheckDie) (t : Nat) : (d.tick t).sig = d.sig := rfl
@[simp] theorem CheckDie.tick_margin (d : CheckDie) (t : Nat) : (d.tick t).margin = d.margin := rfl
@[simp] theorem CheckDie.tick_fab (d : CheckDie) (t : Nat) : (d.tick t).fab = d.fab := rfl
@[simp] theorem CheckDie.tick_time (d : CheckDie) (t : Nat) : (d.tick t).time = d.time := rfl
@[simp] theorem CheckDie.tick_injectors (d : CheckDie) (t : Nat) : (d.tick t).injectors = d.injectors := rfl
@[simp] theorem CheckDie.tick_marks (d : CheckDie) (t : Nat) : (d.tick t).marks = d.marks := rfl
@[simp] theorem CheckDie.tick_injectOwner (d : CheckDie) (t : Nat) : (d.tick t).injectOwner = d.injectOwner := rfl
@[simp] theorem CheckDie.tick_windows (d : CheckDie) (t : Nat) : (d.tick t).windows = d.windows := rfl
@[simp] theorem CheckDie.tick_thermalWarned (d : CheckDie) (t : Nat) : (d.tick t).thermalWarned = d.thermalWarned := rfl
@[simp] theorem CheckDie.tick_retainAt (d : CheckDie) (t : Nat) : (d.tick t).retainAt = d.retainAt := rfl
@[simp] theorem CheckDie.tick_ended (d : CheckDie) (t : Nat) : (d.tick t).ended = d.ended := rfl
@[simp] theorem CheckDie.tick_endedAt (d : CheckDie) (t : Nat) : (d.tick t).endedAt = d.endedAt := rfl
@[simp] theorem CheckDie.tick_imageAt (d : CheckDie) (t : Nat) : (d.tick t).imageAt = d.imageAt := rfl
@[simp] theorem CheckDie.tick_releasedAt (d : CheckDie) (t : Nat) : (d.tick t).releasedAt = d.releasedAt := rfl

-- an output of the check die
@[simp] theorem CheckDie.put_now (d : CheckDie) (x : Sent) : (d.put x).now = d.now := rfl
@[simp] theorem CheckDie.put_draws (d : CheckDie) (x : Sent) : (d.put x).draws = d.draws := rfl
@[simp] theorem CheckDie.put_up (d : CheckDie) (x : Sent) : (d.put x).up = d.up := rfl
@[simp] theorem CheckDie.put_clock (d : CheckDie) (x : Sent) : (d.put x).clock = d.clock := rfl
@[simp] theorem CheckDie.put_state (d : CheckDie) (x : Sent) : (d.put x).state = d.state := rfl
@[simp] theorem CheckDie.put_device (d : CheckDie) (x : Sent) : (d.put x).device = d.device := rfl
@[simp] theorem CheckDie.put_power (d : CheckDie) (x : Sent) : (d.put x).power = d.power := rfl
@[simp] theorem CheckDie.put_cfg (d : CheckDie) (x : Sent) : (d.put x).cfg = d.cfg := rfl
@[simp] theorem CheckDie.put_history (d : CheckDie) (x : Sent) : (d.put x).history = d.history := rfl
@[simp] theorem CheckDie.put_delivered (d : CheckDie) (x : Sent) : (d.put x).delivered = d.delivered := rfl
@[simp] theorem CheckDie.put_regs (d : CheckDie) (x : Sent) : (d.put x).regs = d.regs := rfl
@[simp] theorem CheckDie.put_split (d : CheckDie) (x : Sent) : (d.put x).split = d.split := rfl
@[simp] theorem CheckDie.put_streams (d : CheckDie) (x : Sent) : (d.put x).streams = d.streams := rfl
@[simp] theorem CheckDie.put_ledger (d : CheckDie) (x : Sent) : (d.put x).ledger = d.ledger := rfl
@[simp] theorem CheckDie.put_nextEntry (d : CheckDie) (x : Sent) : (d.put x).nextEntry = d.nextEntry := rfl
@[simp] theorem CheckDie.put_missed (d : CheckDie) (x : Sent) : (d.put x).missed = d.missed := rfl
@[simp] theorem CheckDie.put_clusters (d : CheckDie) (x : Sent) : (d.put x).clusters = d.clusters := rfl
@[simp] theorem CheckDie.put_disp (d : CheckDie) (x : Sent) : (d.put x).disp = d.disp := rfl
@[simp] theorem CheckDie.put_packages (d : CheckDie) (x : Sent) : (d.put x).packages = d.packages := rfl
@[simp] theorem CheckDie.put_audit (d : CheckDie) (x : Sent) : (d.put x).audit = d.audit := rfl
@[simp] theorem CheckDie.put_lanterns (d : CheckDie) (x : Sent) : (d.put x).lanterns = d.lanterns := rfl
@[simp] theorem CheckDie.put_esc (d : CheckDie) (x : Sent) : (d.put x).esc = d.esc := rfl
@[simp] theorem CheckDie.put_maps (d : CheckDie) (x : Sent) : (d.put x).maps = d.maps := rfl
@[simp] theorem CheckDie.put_opinions (d : CheckDie) (x : Sent) : (d.put x).opinions = d.opinions := rfl
@[simp] theorem CheckDie.put_nextOpinion (d : CheckDie) (x : Sent) : (d.put x).nextOpinion = d.nextOpinion := rfl
@[simp] theorem CheckDie.put_epoch (d : CheckDie) (x : Sent) : (d.put x).epoch = d.epoch := rfl
@[simp] theorem CheckDie.put_boundaryGts (d : CheckDie) (x : Sent) : (d.put x).boundaryGts = d.boundaryGts := rfl
@[simp] theorem CheckDie.put_causes (d : CheckDie) (x : Sent) : (d.put x).causes = d.causes := rfl
@[simp] theorem CheckDie.put_policy (d : CheckDie) (x : Sent) : (d.put x).policy = d.policy := rfl
@[simp] theorem CheckDie.put_lanes (d : CheckDie) (x : Sent) : (d.put x).lanes = d.lanes := rfl
@[simp] theorem CheckDie.put_consumers (d : CheckDie) (x : Sent) : (d.put x).consumers = d.consumers := rfl
@[simp] theorem CheckDie.put_mirrorSeq (d : CheckDie) (x : Sent) : (d.put x).mirrorSeq = d.mirrorSeq := rfl
@[simp] theorem CheckDie.put_contexts (d : CheckDie) (x : Sent) : (d.put x).contexts = d.contexts := rfl
@[simp] theorem CheckDie.put_rings (d : CheckDie) (x : Sent) : (d.put x).rings = d.rings := rfl
@[simp] theorem CheckDie.put_wl (d : CheckDie) (x : Sent) : (d.put x).wl = d.wl := rfl
@[simp] theorem CheckDie.put_busMaster (d : CheckDie) (x : Sent) : (d.put x).busMaster = d.busMaster := rfl
@[simp] theorem CheckDie.put_perst (d : CheckDie) (x : Sent) : (d.put x).perst = d.perst := rfl
@[simp] theorem CheckDie.put_badWrites (d : CheckDie) (x : Sent) : (d.put x).badWrites = d.badWrites := rfl
@[simp] theorem CheckDie.put_devStatus (d : CheckDie) (x : Sent) : (d.put x).devStatus = d.devStatus := rfl
@[simp] theorem CheckDie.put_epochImage (d : CheckDie) (x : Sent) : (d.put x).epochImage = d.epochImage := rfl
@[simp] theorem CheckDie.put_safetyImage (d : CheckDie) (x : Sent) : (d.put x).safetyImage = d.safetyImage := rfl
@[simp] theorem CheckDie.put_corTx (d : CheckDie) (x : Sent) : (d.put x).corTx = d.corTx := rfl
@[simp] theorem CheckDie.put_corRx (d : CheckDie) (x : Sent) : (d.put x).corRx = d.corRx := rfl
@[simp] theorem CheckDie.put_corFailed (d : CheckDie) (x : Sent) : (d.put x).corFailed = d.corFailed := rfl
@[simp] theorem CheckDie.put_heart (d : CheckDie) (x : Sent) : (d.put x).heart = d.heart := rfl
@[simp] theorem CheckDie.put_heartAt (d : CheckDie) (x : Sent) : (d.put x).heartAt = d.heartAt := rfl
@[simp] theorem CheckDie.put_demand (d : CheckDie) (x : Sent) : (d.put x).demand = d.demand := rfl
@[simp] theorem CheckDie.put_openDemands (d : CheckDie) (x : Sent) : (d.put x).openDemands = d.openDemands := rfl
@[simp] theorem CheckDie.put_configCrcAt (d : CheckDie) (x : Sent) : (d.put x).configCrcAt = d.configCrcAt := rfl
@[simp] theorem CheckDie.put_ev (d : CheckDie) (x : Sent) : (d.put x).ev = d.ev := rfl
@[simp] theorem CheckDie.put_sig (d : CheckDie) (x : Sent) : (d.put x).sig = d.sig := rfl
@[simp] theorem CheckDie.put_margin (d : CheckDie) (x : Sent) : (d.put x).margin = d.margin := rfl
@[simp] theorem CheckDie.put_fab (d : CheckDie) (x : Sent) : (d.put x).fab = d.fab := rfl
@[simp] theorem CheckDie.put_time (d : CheckDie) (x : Sent) : (d.put x).time = d.time := rfl
@[simp] theorem CheckDie.put_injectors (d : CheckDie) (x : Sent) : (d.put x).injectors = d.injectors := rfl
@[simp] theorem CheckDie.put_marks (d : CheckDie) (x : Sent) : (d.put x).marks = d.marks := rfl
@[simp] theorem CheckDie.put_injectOwner (d : CheckDie) (x : Sent) : (d.put x).injectOwner = d.injectOwner := rfl
@[simp] theorem CheckDie.put_windows (d : CheckDie) (x : Sent) : (d.put x).windows = d.windows := rfl
@[simp] theorem CheckDie.put_thermalWarned (d : CheckDie) (x : Sent) : (d.put x).thermalWarned = d.thermalWarned := rfl
@[simp] theorem CheckDie.put_sent (d : CheckDie) (x : Sent) : (d.put x).sent = d.sent ++ [x] := rfl
@[simp] theorem CheckDie.put_retainAt (d : CheckDie) (x : Sent) : (d.put x).retainAt = d.retainAt := rfl
@[simp] theorem CheckDie.put_ended (d : CheckDie) (x : Sent) : (d.put x).ended = d.ended := rfl
@[simp] theorem CheckDie.put_endedAt (d : CheckDie) (x : Sent) : (d.put x).endedAt = d.endedAt := rfl
@[simp] theorem CheckDie.put_imageAt (d : CheckDie) (x : Sent) : (d.put x).imageAt = d.imageAt := rfl
@[simp] theorem CheckDie.put_releasedAt (d : CheckDie) (x : Sent) : (d.put x).releasedAt = d.releasedAt := rfl

/-- A brake field that changes. -/
@[simp] theorem SafetyDie.setBrake_brake (s : SafetyDie) (f : Brake → Brake) : (s.setBrake f).brake = f s.brake := rfl
@[simp] theorem SafetyDie.setBrake_older (s : SafetyDie) (f : Brake → Brake) : (s.setBrake f).older = s.older := rfl
@[simp] theorem SafetyDie.setBrake_olderKeys (s : SafetyDie) (f : Brake → Brake) : (s.setBrake f).olderKeys = s.olderKeys := rfl
@[simp] theorem SafetyDie.setBrake_firstFrom (s : SafetyDie) (f : Brake → Brake) : (s.setBrake f).firstFrom = s.firstFrom := rfl
@[simp] theorem SafetyDie.setBrake_boundaryEpoch (s : SafetyDie) (f : Brake → Brake) : (s.setBrake f).boundaryEpoch = s.boundaryEpoch := rfl
@[simp] theorem SafetyDie.setBrake_advancedAt (s : SafetyDie) (f : Brake → Brake) : (s.setBrake f).advancedAt = s.advancedAt := rfl
@[simp] theorem SafetyDie.setBrake_prior (s : SafetyDie) (f : Brake → Brake) : (s.setBrake f).prior = s.prior := rfl
/-- A guest-book item that changes. -/
@[simp] theorem SafetyDie.setGuest_guest (s : SafetyDie) (f : GuestBook → GuestBook) : (s.setGuest f).guest = f s.guest := rfl
@[simp] theorem SafetyDie.setGuest_older (s : SafetyDie) (f : GuestBook → GuestBook) : (s.setGuest f).older = s.older := rfl
@[simp] theorem SafetyDie.setGuest_olderKeys (s : SafetyDie) (f : GuestBook → GuestBook) : (s.setGuest f).olderKeys = s.olderKeys := rfl
@[simp] theorem SafetyDie.setGuest_firstFrom (s : SafetyDie) (f : GuestBook → GuestBook) : (s.setGuest f).firstFrom = s.firstFrom := rfl
@[simp] theorem SafetyDie.setGuest_boundaryEpoch (s : SafetyDie) (f : GuestBook → GuestBook) : (s.setGuest f).boundaryEpoch = s.boundaryEpoch := rfl
@[simp] theorem SafetyDie.setGuest_advancedAt (s : SafetyDie) (f : GuestBook → GuestBook) : (s.setGuest f).advancedAt = s.advancedAt := rfl
@[simp] theorem SafetyDie.setGuest_prior (s : SafetyDie) (f : GuestBook → GuestBook) : (s.setGuest f).prior = s.prior := rfl

end Sys2Proof.Machine
end

