-- ==== Sys2Proof/Laws/Brake.lean ====
section
/-! SUPPORT. Every operation on the safety die keeps BRK_B as R263 and R264 have it (`SafetyDie.Held`): one lemma per operation,
which the next ones cite. -/

-- One theorem after another: run side by side they ask for more threads than the check allows.
set_option Elab.async false
set_option linter.unusedTactic false
set_option linter.unreachableTactic false
set_option linter.unusedSimpArgs false
set_option linter.unusedVariables false

namespace Sys2Proof.Machine

/-- BRK_B is energised only with what R263 and R264 ask beside the input pairs. -/
def BrakeHeld (onB latch arm gate : Bool) (device : DevState) (power : PowerState) (demand tripped halted : Bool) (faults : Nat) : Prop :=
  onB = true → latch = false ∧ arm = true ∧ gate = true ∧ device = .run ∧ power.awake = true ∧ demand = false ∧ tripped = false
    ∧ halted = false ∧ faults.testBit 1 = false

/-- Its fields. -/
theorem SafetyDie.held_mk (now : Nat) (draws : Nat) (sent : List Sent) (device : DevState) (power : PowerState) (values : OdStore) (flash : OdStore) (older : OdStore) (olderKeys : Tbl Octets) (regs : OdStore) (bootCfg : OdStore) (keys : Tbl Octets) (splitApp : Octets) (cert : Octets) (floor : Nat) (guest : GuestBook) (rtc : Nat) (rtcAt : Nat) (rtcSet : Nat) (gtsBase : Nat) (gtsAt : Nat) (gtsSet : Bool) (resetEnd : Nat) (firstFrom : Option (Nat × Nat)) (keeper : Keeper) (corTx : CorTx) (corRx : CorRx) (cdState : CdState) (sorter : Sorter) (heart : HeartMon) (demand : Bool) (kill : Kill) (pairs : Tbl InputPair) (pulseAt : Nat) (brake : Brake) (wds : Dog) (wdh : Dog) (gate : DogGate) (rc : RollCall) (log : List EventRec) (logSent : Nat) (logLost : LostCounts) (sessions : Tbl (Option Session)) (staging : Staging) (stores : List PendingStore) (boundaryGts : Nat) (boundaryCauses : Nat) (boundaryEpoch : Nat) (advancedAt : Option Nat) (prior : Option (Nat × List (Nat × Val))) (pending : Nat) (fw : Firmware) (attest : Attest) (boot : Boot) (thermLow : Bool) (temps : List (Nat × Int)) (injectOwner : Nat) (armed : List ArmedInj) (injectors : List Injector) (margin : MarginPlan) (sleepAt : Nat) (wakeWaits : Bool) (partners : Tbl Octets) (serviceOwner : Option Nat) (tunnel : Tbl Octets) :
    (SafetyDie.mk now draws sent device power values flash older olderKeys regs bootCfg keys splitApp cert floor guest rtc rtcAt rtcSet gtsBase gtsAt gtsSet resetEnd firstFrom keeper corTx corRx cdState sorter heart demand kill pairs pulseAt brake wds wdh gate rc log logSent logLost sessions staging stores boundaryGts boundaryCauses boundaryEpoch advancedAt prior pending fw attest boot thermLow temps injectOwner armed injectors margin sleepAt wakeWaits partners serviceOwner tunnel).Held ↔ BrakeHeld brake.onB brake.latch brake.arm brake.gate device power demand heart.tripped keeper.halted guest.outputFault := Iff.rfl

/-- Its fields. -/
theorem SafetyDie.Held.fields {s : SafetyDie} (h : s.Held) :
    BrakeHeld s.brake.onB s.brake.latch s.brake.arm s.brake.gate s.device s.power s.demand s.heart.tripped s.keeper.halted s.guest.outputFault := h

/-- Nothing is asked of a de-energised BRK_B. -/
theorem BrakeHeld.off (latch arm gate : Bool) (device : DevState) (power : PowerState) (demand tripped halted : Bool) (faults : Nat) :
    BrakeHeld false latch arm gate device power demand tripped halted faults := fun h => nomatch h

/-- After `settle` BRK_B is as R264 has it. -/
theorem SafetyDie.settled (s : SafetyDie) : s.settle.Held := by
  intro h
  have h : s.mayB = true := h
  simp only [SafetyDie.mayB, SafetyDie.hblSource, SafetyDie.mayDrive, Bool.and_eq_true, Bool.not_eq_true', Bool.or_eq_false_iff, beq_iff_eq,
    Bool.not_eq_false'] at h
  exact ⟨h.1.1.1.1, h.1.2, h.1.1.1.2.1.1.2, h.2.1, h.2.2, h.1.1.2, h.1.1.1.2.1.1.1.2, h.1.1.1.2.1.2, h.1.1.1.2.2⟩

/-- Both channels off. -/
theorem SafetyDie.channelsOff_onB (s : SafetyDie) : s.channelsOff.brake.onB = false := rfl

/-- A fold of operations that keep it keeps them. -/
theorem SafetyDie.foldl_held {α : Type} (l : List α) (s : SafetyDie) (f : SafetyDie → α → SafetyDie) (h : s.Held)
    (hf : ∀ (y : SafetyDie) (a : α), y.Held → (f y a).Held) : (l.foldl f s).Held := by
  induction l generalizing s with
  | nil => exact h
  | cons a l ih => exact ih _ (hf _ _ h)


/-- Sent flits leave BRK_B. -/
theorem SafetyDie.sendFlits_onB (s : SafetyDie) (fs : List Flit) : (s.sendFlits fs).brake.onB = s.brake.onB := by
  unfold SafetyDie.sendFlits; split <;> rfl

/-- A recorded event leaves BRK_B. -/
theorem SafetyDie.raise_onB (s : SafetyDie) (n : EventName) (ctx inst detail opDesc : Nat) :
    (s.raise n ctx inst detail opDesc).brake.onB = s.brake.onB := by
  have key : ∀ (l : List EventRec) (y : SafetyDie), (l.foldl (fun s r => s.sendRecord r) y).brake.onB = y.brake.onB := by
    intro l
    induction l with
    | nil => exact fun _ => rfl
    | cons a l ih => exact fun y => (ih _).trans (SafetyDie.sendFlits_onB _ _)
  unfold SafetyDie.raise SafetyDie.flushLog SafetyDie.forEach
  split
  · rfl
  · refine (key _ _).trans ?_
    dsimp only
    split
    · exact SafetyDie.sendFlits_onB _ _
    · rfl

/-- Outside RUN BRK_B is off. -/
theorem SafetyDie.Held.off {s : SafetyDie} (h : s.Held) (d : s.device ≠ .run) : s.brake.onB = false := by
  cases e : s.brake.onB with
  | false => rfl
  | true => exact absurd (h e).2.2.2.1 d

/-- With BRK_B off all is held. -/
theorem SafetyDie.Held.of_off {s : SafetyDie} (h : s.brake.onB = false) : s.Held := fun e => by rw [h] at e; cases e

/-- An advance of the epoch leaves BRK_B. -/
theorem SafetyDie.advance_onB (s : SafetyDie) (causes : Nat) : (s.advance causes).brake.onB = s.brake.onB := by
  unfold SafetyDie.advance SafetyDie.sendEpoch SafetyDie.sendFlit
  split
  · rfl
  · refine (SafetyDie.sendFlits_onB _ _).trans ?_
    show s.stepEpoch.brake.onB = s.brake.onB
    unfold SafetyDie.stepEpoch
    split <;> rfl

/-- A stop ends with the outputs as R264 has them. -/
theorem SafetyDie.stop_settled (s : SafetyDie) (bit : Nat) (merge : Bool) : (s.stop bit merge).Held := by
  unfold SafetyDie.stop
  extract_lets s1 y s3
  split
  · exact SafetyDie.settled _
  · have h3 : s3.brake.onB = false := SafetyDie.sendFlits_onB _ _
    split
    · exact SafetyDie.Held.of_off h3
    · exact SafetyDie.Held.of_off ((SafetyDie.advance_onB _ _).trans h3)

/-- Outside RUN `settle` leaves BRK_B off. -/
theorem SafetyDie.settle_off (s : SafetyDie) (h : DevState.run ≠ s.device) : s.settle.brake.onB = false := by
  show s.mayB = false
  unfold SafetyDie.mayB SafetyDie.mayDrive
  have : (s.device == .run) = false := by simpa using fun e => h e.symm
  rw [this]
  simp
theorem SafetyDie.tick_held (s : SafetyDie) (t : Nat) (h : s.Held) : (SafetyDie.tick s t).Held := by
  unfold SafetyDie.tick
  try dsimp only
  repeat' (first
    | with_reducible assumption
    | with_reducible apply SafetyDie.foldl_held
    | (simp only [↓SafetyDie.held_mk])
    | with_reducible apply SafetyDie.Held.fields
    | with_reducible exact BrakeHeld.off _ _ _ _ _ _ _ _ _
    | split
    | (rw [id_eq])
    | (intro _))

theorem SafetyDie.when_held (s : SafetyDie) (b : Bool) (f : SafetyDie → SafetyDie) (h : s.Held) (h1 : ∀ y : SafetyDie, y.Held → (f y).Held) : (SafetyDie.when s b f).Held := by
  unfold SafetyDie.when
  try dsimp only
  repeat' (first
    | with_reducible assumption
    | with_reducible apply h1
    | with_reducible apply SafetyDie.foldl_held
    | (simp only [↓SafetyDie.held_mk])
    | with_reducible apply SafetyDie.Held.fields
    | with_reducible exact BrakeHeld.off _ _ _ _ _ _ _ _ _
    | split
    | (rw [id_eq])
    | (intro _))

theorem SafetyDie.forEach_held {α : Type} (s : SafetyDie) (l : List α) (f : SafetyDie → α → SafetyDie) (h : s.Held) (h1 : ∀ (y : SafetyDie) (a : α), y.Held → (f y a).Held) : (SafetyDie.forEach s l f).Held := by
  exact SafetyDie.foldl_held l s f h h1

theorem SafetyDie.bump_held (s : SafetyDie) (r : OdRow) (i : Nat) (n : Nat) (h : s.Held) : (SafetyDie.bump s r i n).Held := by
  unfold SafetyDie.bump
  try dsimp only
  repeat' (first
    | with_reducible assumption
    | with_reducible apply SafetyDie.foldl_held
    | (simp only [↓SafetyDie.held_mk])
    | with_reducible apply SafetyDie.Held.fields
    | with_reducible exact BrakeHeld.off _ _ _ _ _ _ _ _ _
    | split
    | (rw [id_eq])
    | (intro _))

theorem SafetyDie.put_held (s : SafetyDie) (x : Sent) (h : s.Held) : (SafetyDie.put s x).Held := by
  unfold SafetyDie.put
  try dsimp only
  repeat' (first
    | with_reducible assumption
    | with_reducible apply SafetyDie.foldl_held
    | (simp only [↓SafetyDie.held_mk])
    | with_reducible apply SafetyDie.Held.fields
    | with_reducible exact BrakeHeld.off _ _ _ _ _ _ _ _ _
    | split
    | (rw [id_eq])
    | (intro _))

theorem SafetyDie.draw_held (s : SafetyDie) (h : s.Held) : (SafetyDie.draw s).2.Held := by
  unfold SafetyDie.draw
  try dsimp only
  repeat' (first
    | with_reducible assumption
    | with_reducible apply SafetyDie.foldl_held
    | (simp only [↓SafetyDie.held_mk])
    | with_reducible apply SafetyDie.Held.fields
    | with_reducible exact BrakeHeld.off _ _ _ _ _ _ _ _ _
    | split
    | (rw [id_eq])
    | (intro _))

theorem SafetyDie.sendFlits_held (s : SafetyDie) (fs : List Flit) (h : s.Held) : (SafetyDie.sendFlits s fs).Held := by
  unfold SafetyDie.sendFlits
  try dsimp only
  repeat' (first
    | with_reducible assumption
    | with_reducible apply SafetyDie.foldl_held
    | (simp only [↓SafetyDie.held_mk])
    | with_reducible apply SafetyDie.Held.fields
    | with_reducible exact BrakeHeld.off _ _ _ _ _ _ _ _ _
    | split
    | (rw [id_eq])
    | (intro _))

theorem SafetyDie.sendFlit_held (s : SafetyDie) (f : Flit) (h : s.Held) : (SafetyDie.sendFlit s f).Held := by
  unfold SafetyDie.sendFlit
  try dsimp only
  repeat' (first
    | with_reducible assumption
    | with_reducible apply SafetyDie.sendFlits_held
    | with_reducible apply SafetyDie.foldl_held
    | (simp only [↓SafetyDie.held_mk])
    | with_reducible apply SafetyDie.Held.fields
    | with_reducible exact BrakeHeld.off _ _ _ _ _ _ _ _ _
    | split
    | (rw [id_eq])
    | (intro _))

theorem SafetyDie.store_held (s : SafetyDie) (r : EventRec) (h : s.Held) : (SafetyDie.store s r).Held := by
  unfold SafetyDie.store
  try dsimp only
  repeat' (first
    | with_reducible assumption
    | with_reducible apply SafetyDie.foldl_held
    | (simp only [↓SafetyDie.held_mk])
    | with_reducible apply SafetyDie.Held.fields
    | with_reducible exact BrakeHeld.off _ _ _ _ _ _ _ _ _
    | split
    | (rw [id_eq])
    | (intro _))

theorem SafetyDie.sendRecord_held (s : SafetyDie) (r : EventRec) (h : s.Held) : (SafetyDie.sendRecord s r).Held := by
  unfold SafetyDie.sendRecord
  try dsimp only
  repeat' (first
    | with_reducible assumption
    | with_reducible apply SafetyDie.sendFlits_held
    | with_reducible apply SafetyDie.foldl_held
    | (simp only [↓SafetyDie.held_mk])
    | with_reducible apply SafetyDie.Held.fields
    | with_reducible exact BrakeHeld.off _ _ _ _ _ _ _ _ _
    | split
    | (rw [id_eq])
    | (intro _))

theorem SafetyDie.flushLog_held (s : SafetyDie) (h : s.Held) : (SafetyDie.flushLog s).Held := by
  unfold SafetyDie.flushLog
  try dsimp only
  repeat' (first
    | with_reducible assumption
    | with_reducible apply SafetyDie.forEach_held
    | with_reducible apply SafetyDie.sendRecord_held
    | with_reducible apply SafetyDie.foldl_held
    | (simp only [↓SafetyDie.held_mk])
    | with_reducible apply SafetyDie.Held.fields
    | with_reducible exact BrakeHeld.off _ _ _ _ _ _ _ _ _
    | split
    | (rw [id_eq])
    | (intro _))

theorem SafetyDie.raise_held (s : SafetyDie) (n : EventName) (ctx : Nat) (inst : Nat) (detail : Nat) (opDesc : Nat) (h : s.Held) : (SafetyDie.raise s n ctx inst detail opDesc).Held := by
  unfold SafetyDie.raise
  try dsimp only
  repeat' (first
    | with_reducible assumption
    | with_reducible apply SafetyDie.flushLog_held
    | with_reducible apply SafetyDie.store_held
    | with_reducible apply SafetyDie.foldl_held
    | (simp only [↓SafetyDie.held_mk])
    | with_reducible apply SafetyDie.Held.fields
    | with_reducible exact BrakeHeld.off _ _ _ _ _ _ _ _ _
    | split
    | (rw [id_eq])
    | (intro _))

theorem SafetyDie.logClear_held (s : SafetyDie) (v : Nat) (h : s.Held) : (SafetyDie.logClear s v).Held := by
  unfold SafetyDie.logClear
  try dsimp only
  repeat' (first
    | with_reducible assumption
    | with_reducible apply SafetyDie.raise_held
    | with_reducible apply SafetyDie.foldl_held
    | (simp only [↓SafetyDie.held_mk])
    | with_reducible apply SafetyDie.Held.fields
    | with_reducible exact BrakeHeld.off _ _ _ _ _ _ _ _ _
    | split
    | (rw [id_eq])
    | (intro _))

theorem SafetyDie.sendAck_held (s : SafetyDie) (h : s.Held) : (SafetyDie.sendAck s).Held := by
  unfold SafetyDie.sendAck
  try dsimp only
  repeat' (first
    | with_reducible assumption
    | with_reducible apply SafetyDie.put_held
    | with_reducible apply SafetyDie.foldl_held
    | (simp only [↓SafetyDie.held_mk])
    | with_reducible apply SafetyDie.Held.fields
    | with_reducible exact BrakeHeld.off _ _ _ _ _ _ _ _ _
    | split
    | (rw [id_eq])
    | (intro _))

theorem SafetyDie.sendEpoch_held (s : SafetyDie) (causes : Nat) (h : s.Held) : (SafetyDie.sendEpoch s causes).Held := by
  unfold SafetyDie.sendEpoch
  try dsimp only
  repeat' (first
    | with_reducible assumption
    | with_reducible apply SafetyDie.sendFlit_held
    | with_reducible apply SafetyDie.foldl_held
    | (simp only [↓SafetyDie.held_mk])
    | with_reducible apply SafetyDie.Held.fields
    | with_reducible exact BrakeHeld.off _ _ _ _ _ _ _ _ _
    | split
    | (rw [id_eq])
    | (intro _))

theorem SafetyDie.stepEpoch_held (s : SafetyDie) (h : s.Held) : (SafetyDie.stepEpoch s).Held := by
  unfold SafetyDie.stepEpoch
  try dsimp only
  repeat' (first
    | with_reducible assumption
    | with_reducible apply SafetyDie.foldl_held
    | (simp only [↓SafetyDie.held_mk])
    | with_reducible apply SafetyDie.Held.fields
    | with_reducible exact BrakeHeld.off _ _ _ _ _ _ _ _ _
    | split
    | (rw [id_eq])
    | (intro _))

theorem SafetyDie.advance_held (s : SafetyDie) (causes : Nat) (h : s.Held) : (SafetyDie.advance s causes).Held := by
  unfold SafetyDie.advance
  try dsimp only
  repeat' (first
    | with_reducible assumption
    | with_reducible apply SafetyDie.sendEpoch_held
    | with_reducible apply SafetyDie.stepEpoch_held
    | with_reducible apply SafetyDie.foldl_held
    | (simp only [↓SafetyDie.held_mk])
    | with_reducible apply SafetyDie.Held.fields
    | with_reducible exact BrakeHeld.off _ _ _ _ _ _ _ _ _
    | split
    | (rw [id_eq])
    | (intro _))

theorem SafetyDie.settle_held (s : SafetyDie)  : (SafetyDie.settle s).Held := by
  exact SafetyDie.settled s

theorem SafetyDie.channelsOff_held (s : SafetyDie)  : (SafetyDie.channelsOff s).Held := by
  exact SafetyDie.settled _

theorem SafetyDie.btPass_held (s : SafetyDie) (h : s.Held) : (SafetyDie.btPass s).Held := by
  unfold SafetyDie.btPass SafetyDie.setBrake SafetyDie.setGuest
  try dsimp only
  repeat' (first
    | with_reducible assumption
    | with_reducible apply SafetyDie.foldl_held
    | (simp only [↓SafetyDie.held_mk])
    | with_reducible apply SafetyDie.Held.fields
    | with_reducible exact BrakeHeld.off _ _ _ _ _ _ _ _ _
    | split
    | (rw [id_eq])
    | (intro _))

theorem SafetyDie.endTest_held (s : SafetyDie) (result : Nat) (h : s.Held) : (SafetyDie.endTest s result).Held := by
  unfold SafetyDie.endTest SafetyDie.setBrake SafetyDie.setGuest
  try dsimp only
  repeat' (first
    | with_reducible assumption
    | with_reducible apply SafetyDie.foldl_held
    | (simp only [↓SafetyDie.held_mk])
    | with_reducible apply SafetyDie.Held.fields
    | with_reducible exact BrakeHeld.off _ _ _ _ _ _ _ _ _
    | split
    | (rw [id_eq])
    | (intro _))

theorem SafetyDie.abortTest_held (s : SafetyDie) (h : s.Held) : (SafetyDie.abortTest s).Held :=
  SafetyDie.endTest_held _ _ (SafetyDie.btPass_held _ h)

theorem SafetyDie.eventTest_held (s : SafetyDie) (h : s.Held) : (SafetyDie.eventTest s).Held := by
  have k : (if s.brake.test = some s.now then s.endTest 4 else s.abortTest).Held := by
    split
    · exact SafetyDie.endTest_held _ _ h
    · exact SafetyDie.abortTest_held _ h
  exact k

theorem SafetyDie.stop_held (s : SafetyDie) (bit : Nat) (merge : Bool)  : (SafetyDie.stop s bit merge).Held := by
  exact SafetyDie.stop_settled s bit merge

theorem SafetyDie.hblStop_held (s : SafetyDie) (bit : Nat) (merge : Bool)  : (SafetyDie.hblStop s bit merge).Held := by
  exact SafetyDie.stop_settled _ bit merge

theorem SafetyDie.release_held (s : SafetyDie) (h : s.Held) : (SafetyDie.release s).Held := by
  unfold SafetyDie.release SafetyDie.setBrake
  try dsimp only
  repeat' (first
    | with_reducible assumption
    | with_reducible apply SafetyDie.advance_held
    | with_reducible apply SafetyDie.sendFlit_held
    | with_reducible apply SafetyDie.settle_held
    | with_reducible apply SafetyDie.foldl_held
    | (simp only [↓SafetyDie.held_mk])
    | with_reducible apply SafetyDie.Held.fields
    | with_reducible exact BrakeHeld.off _ _ _ _ _ _ _ _ _
    | split
    | (rw [id_eq])
    | (intro _))

theorem SafetyDie.restart_held (s0 : SafetyDie) (h : s0.Held) : (SafetyDie.restart s0).Held := by
  unfold SafetyDie.restart
  have h0 := SafetyDie.eventTest_held s0 h
  dsimp only
  split
  · exact SafetyDie.raise_held _ _ _ _ _ _ h0
  · split
    · exact SafetyDie.release_held _ (fun e => ⟨rfl, (h0 e).2⟩)
    · exact SafetyDie.raise_held _ _ _ _ _ _ (SafetyDie.settle_held _)

theorem SafetyDie.autoRestart_held (s : SafetyDie) (h : s.Held) : (SafetyDie.autoRestart s).Held := by
  unfold SafetyDie.autoRestart SafetyDie.setBrake
  try dsimp only
  repeat' (first
    | with_reducible assumption
    | with_reducible apply SafetyDie.restart_held
    | with_reducible apply SafetyDie.foldl_held
    | (simp only [↓SafetyDie.held_mk])
    | with_reducible apply SafetyDie.Held.fields
    | with_reducible exact BrakeHeld.off _ _ _ _ _ _ _ _ _
    | split
    | (rw [id_eq])
    | (intro _))

theorem SafetyDie.releaseLapse_held (s : SafetyDie) (h : s.Held) : (SafetyDie.releaseLapse s).Held := by
  unfold SafetyDie.releaseLapse
  try dsimp only
  repeat' (first
    | with_reducible assumption
    | with_reducible apply SafetyDie.channelsOff_held
    | with_reducible apply SafetyDie.raise_held
    | with_reducible apply SafetyDie.release_held
    | with_reducible apply SafetyDie.foldl_held
    | (simp only [↓SafetyDie.held_mk])
    | with_reducible apply SafetyDie.Held.fields
    | with_reducible exact BrakeHeld.off _ _ _ _ _ _ _ _ _
    | split
    | (rw [id_eq])
    | (intro _))

theorem SafetyDie.readback_held (s : SafetyDie) (isB level : Bool) (h : s.Held) : (SafetyDie.readback s isB level).Held := by
  unfold SafetyDie.readback
  split
  · exact SafetyDie.settle_held _
  · dsimp only
    split <;> exact SafetyDie.settle_held _

theorem SafetyDie.outputFault_held (s : SafetyDie) (channel bit : Nat) (h : s.Held) : (SafetyDie.outputFault s channel bit).Held := by
  unfold SafetyDie.outputFault
  dsimp only
  split
  · exact SafetyDie.hblStop_held _ _ _
  · exact SafetyDie.stop_held _ _ _

theorem SafetyDie.readbackTimeout_held (s : SafetyDie) (isB : Bool) (h : s.Held) : (SafetyDie.readbackTimeout s isB).Held := by
  unfold SafetyDie.readbackTimeout
  try dsimp only
  repeat' (first
    | with_reducible assumption
    | with_reducible apply SafetyDie.outputFault_held
    | with_reducible apply SafetyDie.foldl_held
    | (simp only [↓SafetyDie.held_mk])
    | with_reducible apply SafetyDie.Held.fields
    | with_reducible exact BrakeHeld.off _ _ _ _ _ _ _ _ _
    | split
    | (rw [id_eq])
    | (intro _))

theorem SafetyDie.pulseStart_held (s : SafetyDie) (isB : Bool) (h : s.Held) : (SafetyDie.pulseStart s isB).Held := by
  unfold SafetyDie.pulseStart SafetyDie.setBrake
  try dsimp only
  repeat' (first
    | with_reducible assumption
    | with_reducible apply SafetyDie.settle_held
    | with_reducible apply SafetyDie.foldl_held
    | (simp only [↓SafetyDie.held_mk])
    | with_reducible apply SafetyDie.Held.fields
    | with_reducible exact BrakeHeld.off _ _ _ _ _ _ _ _ _
    | split
    | (rw [id_eq])
    | (intro _))

theorem SafetyDie.pulseCheck_held (s : SafetyDie) (isB : Bool) (h : s.Held) : (SafetyDie.pulseCheck s isB).Held := by
  unfold SafetyDie.pulseCheck SafetyDie.setBrake
  try dsimp only
  repeat' (first
    | with_reducible assumption
    | with_reducible apply SafetyDie.outputFault_held
    | with_reducible apply SafetyDie.foldl_held
    | (simp only [↓SafetyDie.held_mk])
    | with_reducible apply SafetyDie.Held.fields
    | with_reducible exact BrakeHeld.off _ _ _ _ _ _ _ _ _
    | split
    | (rw [id_eq])
    | (intro _))

theorem SafetyDie.pulseEnd_held (s : SafetyDie) (isB : Bool) (h : s.Held) : (SafetyDie.pulseEnd s isB).Held := by
  unfold SafetyDie.pulseEnd SafetyDie.setBrake
  try dsimp only
  repeat' (first
    | with_reducible assumption
    | with_reducible apply SafetyDie.settle_held
    | with_reducible apply SafetyDie.foldl_held
    | (simp only [↓SafetyDie.held_mk])
    | with_reducible apply SafetyDie.Held.fields
    | with_reducible exact BrakeHeld.off _ _ _ _ _ _ _ _ _
    | split
    | (rw [id_eq])
    | (intro _))

theorem SafetyDie.feedbackFault_held (s : SafetyDie) (h : s.Held) : (SafetyDie.feedbackFault s).Held := by
  unfold SafetyDie.feedbackFault
  try dsimp only
  repeat' (first
    | with_reducible assumption
    | with_reducible apply SafetyDie.outputFault_held
    | with_reducible apply SafetyDie.foldl_held
    | (simp only [↓SafetyDie.held_mk])
    | with_reducible apply SafetyDie.Held.fields
    | with_reducible exact BrakeHeld.off _ _ _ _ _ _ _ _ _
    | split
    | (rw [id_eq])
    | (intro _))

theorem SafetyDie.feedback_held (s : SafetyDie) (isB level : Bool) (h : s.Held) : (SafetyDie.feedback s isB level).Held := by
  unfold SafetyDie.feedback SafetyDie.setBrake
  try dsimp only
  repeat' (first
    | with_reducible assumption
    | with_reducible apply SafetyDie.feedbackFault_held
    | with_reducible apply SafetyDie.settle_held
    | with_reducible apply SafetyDie.foldl_held
    | (simp only [↓SafetyDie.held_mk])
    | with_reducible apply SafetyDie.Held.fields
    | with_reducible exact BrakeHeld.off _ _ _ _ _ _ _ _ _
    | split
    | (rw [id_eq])
    | (intro _))

theorem SafetyDie.feedbackTimeout_held (s : SafetyDie) (h : s.Held) : (SafetyDie.feedbackTimeout s).Held := by
  unfold SafetyDie.feedbackTimeout
  try dsimp only
  repeat' (first
    | with_reducible assumption
    | with_reducible apply SafetyDie.feedbackFault_held
    | with_reducible apply SafetyDie.foldl_held
    | (simp only [↓SafetyDie.held_mk])
    | with_reducible apply SafetyDie.Held.fields
    | with_reducible exact BrakeHeld.off _ _ _ _ _ _ _ _ _
    | split
    | (rw [id_eq])
    | (intro _))

theorem SafetyDie.faultClear_held (s : SafetyDie) (bits : Nat) (h : s.Held) : (SafetyDie.faultClear s bits).Held := by
  unfold SafetyDie.faultClear SafetyDie.setBrake SafetyDie.setGuest
  try dsimp only
  repeat' (first
    | with_reducible assumption
    | with_reducible apply SafetyDie.outputFault_held
    | with_reducible apply SafetyDie.settle_held
    | with_reducible apply SafetyDie.foldl_held
    | (simp only [↓SafetyDie.held_mk])
    | with_reducible apply SafetyDie.Held.fields
    | with_reducible exact BrakeHeld.off _ _ _ _ _ _ _ _ _
    | split
    | (rw [id_eq])
    | (intro _))

theorem SafetyDie.btStart_held (s : SafetyDie) (h : s.Held) : (SafetyDie.btStart s).1.Held := by
  unfold SafetyDie.btStart SafetyDie.setBrake SafetyDie.setGuest
  try dsimp only
  repeat' (first
    | with_reducible assumption
    | with_reducible apply SafetyDie.foldl_held
    | (simp only [↓SafetyDie.held_mk])
    | with_reducible apply SafetyDie.Held.fields
    | with_reducible exact BrakeHeld.off _ _ _ _ _ _ _ _ _
    | split
    | (rw [id_eq])
    | (intro _))

theorem SafetyDie.btTorqueEnd_held (s : SafetyDie) (h : s.Held) : (SafetyDie.btTorqueEnd s).Held := by
  unfold SafetyDie.btTorqueEnd SafetyDie.setBrake
  try dsimp only
  repeat' (first
    | with_reducible assumption
    | with_reducible apply SafetyDie.foldl_held
    | (simp only [↓SafetyDie.held_mk])
    | with_reducible apply SafetyDie.Held.fields
    | with_reducible exact BrakeHeld.off _ _ _ _ _ _ _ _ _
    | split
    | (rw [id_eq])
    | (intro _))

theorem SafetyDie.motion_held (s : SafetyDie) (ns : Nat) (h : s.Held) : (SafetyDie.motion s ns).Held := by
  unfold SafetyDie.motion SafetyDie.setBrake SafetyDie.setGuest
  try dsimp only
  repeat' (first
    | with_reducible assumption
    | with_reducible apply SafetyDie.raise_held
    | with_reducible apply SafetyDie.foldl_held
    | (simp only [↓SafetyDie.held_mk])
    | with_reducible apply SafetyDie.Held.fields
    | with_reducible exact BrakeHeld.off _ _ _ _ _ _ _ _ _
    | split
    | (rw [id_eq])
    | (intro _))

theorem SafetyDie.btOverdue_held (s : SafetyDie) (h : s.Held) : (SafetyDie.btOverdue s).Held := by
  unfold SafetyDie.btOverdue SafetyDie.setBrake SafetyDie.setGuest
  try dsimp only
  repeat' (first
    | with_reducible assumption
    | with_reducible apply SafetyDie.raise_held
    | with_reducible apply SafetyDie.foldl_held
    | (simp only [↓SafetyDie.held_mk])
    | with_reducible apply SafetyDie.Held.fields
    | with_reducible exact BrakeHeld.off _ _ _ _ _ _ _ _ _
    | split
    | (rw [id_eq])
    | (intro _))

theorem SafetyDie.btExpired_held (s : SafetyDie) (h : s.Held) : (SafetyDie.btExpired s).Held := by
  unfold SafetyDie.btExpired
  split
  · dsimp only
    split
    · exact SafetyDie.stop_held _ _ _
    · exact SafetyDie.raise_held _ _ _ _ _ _ (fun e => h e)
  · exact h

theorem SafetyDie.holdRequest_held (s : SafetyDie) (h : s.Held) : (SafetyDie.holdRequest s).Held := by
  unfold SafetyDie.holdRequest
  try dsimp only
  repeat' (first
    | with_reducible assumption
    | with_reducible apply SafetyDie.stop_held
    | with_reducible apply SafetyDie.foldl_held
    | (simp only [↓SafetyDie.held_mk])
    | with_reducible apply SafetyDie.Held.fields
    | with_reducible exact BrakeHeld.off _ _ _ _ _ _ _ _ _
    | split
    | (rw [id_eq])
    | (intro _))

theorem Dies.release_held (x : Dies) (h : x.sd.Held) : (Dies.release x).sd.Held := by
  unfold Dies.release
  try dsimp only
  repeat' (first
    | with_reducible assumption
    | with_reducible apply SafetyDie.tick_held
    | with_reducible apply SafetyDie.foldl_held
    | (simp only [↓SafetyDie.held_mk])
    | with_reducible apply SafetyDie.Held.fields
    | with_reducible exact BrakeHeld.off _ _ _ _ _ _ _ _ _
    | split
    | (rw [id_eq])
    | (intro _))

theorem SafetyDie.demandLow_held (s : SafetyDie) (ns : Nat) (h : s.Held) : (SafetyDie.demandLow s ns).Held := by
  unfold SafetyDie.demandLow SafetyDie.setBrake
  try dsimp only
  repeat' (first
    | with_reducible assumption
    | with_reducible apply Dies.release_held
    | with_reducible apply SafetyDie.release_held
    | with_reducible apply SafetyDie.settle_held
    | with_reducible apply SafetyDie.stop_held
    | with_reducible apply SafetyDie.foldl_held
    | (simp only [↓SafetyDie.held_mk])
    | with_reducible apply SafetyDie.Held.fields
    | with_reducible exact BrakeHeld.off _ _ _ _ _ _ _ _ _
    | split
    | (rw [id_eq])
    | (intro _))

theorem SafetyDie.demandHigh_held (s : SafetyDie) (h : s.Held) : (SafetyDie.demandHigh s).Held := by
  unfold SafetyDie.demandHigh
  try dsimp only
  repeat' (first
    | with_reducible assumption
    | with_reducible apply SafetyDie.settle_held
    | with_reducible apply SafetyDie.foldl_held
    | (simp only [↓SafetyDie.held_mk])
    | with_reducible apply SafetyDie.Held.fields
    | with_reducible exact BrakeHeld.off _ _ _ _ _ _ _ _ _
    | split
    | (rw [id_eq])
    | (intro _))

theorem SafetyDie.pairEffect_held (s : SafetyDie) (i : Nat) (old new : InputPair) (h : s.Held) : (SafetyDie.pairEffect s i old new).Held := by
  unfold SafetyDie.pairEffect
  try dsimp only
  repeat' (first
    | with_reducible assumption
    | with_reducible apply SafetyDie.bump_held
    | with_reducible apply SafetyDie.hblStop_held
    | with_reducible apply SafetyDie.restart_held
    | with_reducible apply SafetyDie.stop_held
    | with_reducible apply SafetyDie.when_held
    | with_reducible apply SafetyDie.foldl_held
    | (simp only [↓SafetyDie.held_mk])
    | with_reducible apply SafetyDie.Held.fields
    | with_reducible exact BrakeHeld.off _ _ _ _ _ _ _ _ _
    | split
    | (rw [id_eq])
    | (intro _))

theorem SafetyDie.evaluate_held (s : SafetyDie) (i : Nat) (f : InputPair → InputPair) (h : s.Held) : (SafetyDie.evaluate s i f).Held := by
  unfold SafetyDie.evaluate
  try dsimp only
  repeat' (first
    | with_reducible assumption
    | with_reducible apply SafetyDie.pairEffect_held
    | with_reducible apply SafetyDie.settle_held
    | with_reducible apply SafetyDie.foldl_held
    | (simp only [↓SafetyDie.held_mk])
    | with_reducible apply SafetyDie.Held.fields
    | with_reducible exact BrakeHeld.off _ _ _ _ _ _ _ _ _
    | split
    | (rw [id_eq])
    | (intro _))

theorem SafetyDie.inputEdge_held (s : SafetyDie) (i : Nat) (isB level : Bool) (h : s.Held) : (SafetyDie.inputEdge s i isB level).Held := by
  unfold SafetyDie.inputEdge
  try dsimp only
  repeat' (first
    | with_reducible assumption
    | with_reducible apply SafetyDie.foldl_held
    | (simp only [↓SafetyDie.held_mk])
    | with_reducible apply SafetyDie.Held.fields
    | with_reducible exact BrakeHeld.off _ _ _ _ _ _ _ _ _
    | split
    | (rw [id_eq])
    | (intro _))

theorem SafetyDie.filterElapsed_held (s : SafetyDie) (i : Nat) (isB hbl keeper : Bool) (h : s.Held) : (SafetyDie.filterElapsed s i isB hbl keeper).Held := by
  unfold SafetyDie.filterElapsed
  try dsimp only
  repeat' (first
    | with_reducible assumption
    | with_reducible apply SafetyDie.evaluate_held
    | with_reducible apply SafetyDie.foldl_held
    | (simp only [↓SafetyDie.held_mk])
    | with_reducible apply SafetyDie.Held.fields
    | with_reducible exact BrakeHeld.off _ _ _ _ _ _ _ _ _
    | split
    | (rw [id_eq])
    | (intro _))

theorem SafetyDie.pulseHoldEnd_held (s : SafetyDie) (i : Nat) (isB : Bool) (h : s.Held) : (SafetyDie.pulseHoldEnd s i isB).Held := by
  unfold SafetyDie.pulseHoldEnd
  try dsimp only
  repeat' (first
    | with_reducible assumption
    | with_reducible apply SafetyDie.filterElapsed_held
    | with_reducible apply SafetyDie.foldl_held
    | (simp only [↓SafetyDie.held_mk])
    | with_reducible apply SafetyDie.Held.fields
    | with_reducible exact BrakeHeld.off _ _ _ _ _ _ _ _ _
    | split
    | (rw [id_eq])
    | (intro _))

theorem SafetyDie.pairFault_held (s : SafetyDie) (i : Nat) (n : EventName) (f : InputPair → InputPair) (h : s.Held) : (SafetyDie.pairFault s i n f).Held := by
  unfold SafetyDie.pairFault
  try dsimp only
  repeat' (first
    | with_reducible assumption
    | with_reducible apply SafetyDie.bump_held
    | with_reducible apply SafetyDie.evaluate_held
    | with_reducible apply SafetyDie.raise_held
    | with_reducible apply SafetyDie.foldl_held
    | (simp only [↓SafetyDie.held_mk])
    | with_reducible apply SafetyDie.Held.fields
    | with_reducible exact BrakeHeld.off _ _ _ _ _ _ _ _ _
    | split
    | (rw [id_eq])
    | (intro _))

theorem SafetyDie.discrepancy_held (s : SafetyDie) (i : Nat) (h : s.Held) : (SafetyDie.discrepancy s i).Held := by
  unfold SafetyDie.discrepancy
  try dsimp only
  repeat' (first
    | with_reducible assumption
    | with_reducible apply SafetyDie.pairFault_held
    | with_reducible apply SafetyDie.foldl_held
    | (simp only [↓SafetyDie.held_mk])
    | with_reducible apply SafetyDie.Held.fields
    | with_reducible exact BrakeHeld.off _ _ _ _ _ _ _ _ _
    | split
    | (rw [id_eq])
    | (intro _))

theorem SafetyDie.pulseWindow_held (s : SafetyDie) (i : Nat) (sourceB a b before : Bool) (h : s.Held) : (SafetyDie.pulseWindow s i sourceB a b before).Held := by
  unfold SafetyDie.pulseWindow
  try dsimp only
  repeat' (first
    | with_reducible assumption
    | with_reducible apply SafetyDie.pairFault_held
    | with_reducible apply SafetyDie.foldl_held
    | (simp only [↓SafetyDie.held_mk])
    | with_reducible apply SafetyDie.Held.fields
    | with_reducible exact BrakeHeld.off _ _ _ _ _ _ _ _ _
    | split
    | (rw [id_eq])
    | (intro _))

theorem SafetyDie.testRelease_held (s : SafetyDie) (i : Nat) (h : s.Held) : (SafetyDie.testRelease s i).Held := by
  unfold SafetyDie.testRelease
  try dsimp only
  repeat' (first
    | with_reducible assumption
    | with_reducible apply SafetyDie.evaluate_held
    | with_reducible apply SafetyDie.foldl_held
    | (simp only [↓SafetyDie.held_mk])
    | with_reducible apply SafetyDie.Held.fields
    | with_reducible exact BrakeHeld.off _ _ _ _ _ _ _ _ _
    | split
    | (rw [id_eq])
    | (intro _))

theorem SafetyDie.disagree_held (s : SafetyDie) (i : Nat) (h : s.Held) : (SafetyDie.disagree s i).Held := by
  unfold SafetyDie.disagree
  try dsimp only
  repeat' (first
    | with_reducible assumption
    | with_reducible apply SafetyDie.pairFault_held
    | with_reducible apply SafetyDie.foldl_held
    | (simp only [↓SafetyDie.held_mk])
    | with_reducible apply SafetyDie.Held.fields
    | with_reducible exact BrakeHeld.off _ _ _ _ _ _ _ _ _
    | split
    | (rw [id_eq])
    | (intro _))

theorem SafetyDie.restartPairs_held (s : SafetyDie) (is : List Nat) (h : s.Held) : (SafetyDie.restartPairs s is).Held := by
  unfold SafetyDie.restartPairs
  try dsimp only
  repeat' (first
    | with_reducible assumption
    | with_reducible apply SafetyDie.when_held
    | with_reducible apply SafetyDie.hblStop_held
    | with_reducible apply SafetyDie.evaluate_held
    | with_reducible apply SafetyDie.forEach_held
    | with_reducible apply SafetyDie.restart_held
    | with_reducible apply SafetyDie.foldl_held
    | (simp only [↓SafetyDie.held_mk])
    | with_reducible apply SafetyDie.Held.fields
    | with_reducible exact BrakeHeld.off _ _ _ _ _ _ _ _ _
    | split
    | (rw [id_eq])
    | (intro _))

theorem SafetyDie.resetPairs_held (s : SafetyDie) (h : s.Held) : (SafetyDie.resetPairs s).Held := by
  unfold SafetyDie.resetPairs
  try dsimp only
  repeat' (first
    | with_reducible assumption
    | with_reducible apply SafetyDie.restart_held
    | with_reducible apply SafetyDie.foldl_held
    | (simp only [↓SafetyDie.held_mk])
    | with_reducible apply SafetyDie.Held.fields
    | with_reducible exact BrakeHeld.off _ _ _ _ _ _ _ _ _
    | split
    | (rw [id_eq])
    | (intro _))

theorem SafetyDie.setSession_held (s : SafetyDie) (i : Nat) (x : Option Session) (h : s.Held) : (SafetyDie.setSession s i x).Held := by
  unfold SafetyDie.setSession
  try dsimp only
  repeat' (first
    | with_reducible assumption
    | with_reducible apply SafetyDie.foldl_held
    | (simp only [↓SafetyDie.held_mk])
    | with_reducible apply SafetyDie.Held.fields
    | with_reducible exact BrakeHeld.off _ _ _ _ _ _ _ _ _
    | split
    | (rw [id_eq])
    | (intro _))

theorem SafetyDie.updSession_held (s : SafetyDie) (i : Nat) (f : Session → Session) (h : s.Held) : (SafetyDie.updSession s i f).Held := by
  unfold SafetyDie.updSession
  try dsimp only
  repeat' (first
    | with_reducible assumption
    | with_reducible apply SafetyDie.setSession_held
    | with_reducible apply SafetyDie.foldl_held
    | (simp only [↓SafetyDie.held_mk])
    | with_reducible apply SafetyDie.Held.fields
    | with_reducible exact BrakeHeld.off _ _ _ _ _ _ _ _ _
    | split
    | (rw [id_eq])
    | (intro _))

theorem SafetyDie.disarmOne_held (s : SafetyDie) (cause : Nat) (x : ArmedInj) (h : s.Held) : (SafetyDie.disarmOne s cause x).Held := by
  unfold SafetyDie.disarmOne
  try dsimp only
  repeat' (first
    | with_reducible assumption
    | with_reducible apply SafetyDie.raise_held
    | with_reducible apply SafetyDie.sendFlit_held
    | with_reducible apply SafetyDie.foldl_held
    | (simp only [↓SafetyDie.held_mk])
    | with_reducible apply SafetyDie.Held.fields
    | with_reducible exact BrakeHeld.off _ _ _ _ _ _ _ _ _
    | split
    | (rw [id_eq])
    | (intro _))

theorem SafetyDie.disarmInjector_held (s : SafetyDie) (j cause : Nat) (h : s.Held) : (SafetyDie.disarmInjector s j cause).Held := by
  unfold SafetyDie.disarmInjector
  try dsimp only
  repeat' (first
    | with_reducible assumption
    | with_reducible apply SafetyDie.disarmOne_held
    | with_reducible apply SafetyDie.foldl_held
    | (simp only [↓SafetyDie.held_mk])
    | with_reducible apply SafetyDie.Held.fields
    | with_reducible exact BrakeHeld.off _ _ _ _ _ _ _ _ _
    | split
    | (rw [id_eq])
    | (intro _))

theorem SafetyDie.dropInjectors_held (s0 : SafetyDie) (h : s0.Held) : (SafetyDie.dropInjectors s0).Held := by
  unfold SafetyDie.dropInjectors
  try dsimp only
  repeat' (first
    | with_reducible assumption
    | with_reducible apply SafetyDie.forEach_held
    | with_reducible apply SafetyDie.raise_held
    | with_reducible apply SafetyDie.foldl_held
    | (simp only [↓SafetyDie.held_mk])
    | with_reducible apply SafetyDie.Held.fields
    | with_reducible exact BrakeHeld.off _ _ _ _ _ _ _ _ _
    | split
    | (rw [id_eq])
    | (intro _))

theorem SafetyDie.discardStage_held (s : SafetyDie) (h : s.Held) : (SafetyDie.discardStage s).Held := by
  unfold SafetyDie.discardStage
  try dsimp only
  repeat' (first
    | with_reducible assumption
    | with_reducible apply SafetyDie.foldl_held
    | (simp only [↓SafetyDie.held_mk])
    | with_reducible apply SafetyDie.Held.fields
    | with_reducible exact BrakeHeld.off _ _ _ _ _ _ _ _ _
    | split
    | (rw [id_eq])
    | (intro _))

theorem SafetyDie.leaveService_held (s : SafetyDie) (h : s.Held) : (SafetyDie.leaveService s).Held := by
  unfold SafetyDie.leaveService
  split
  · next d => exact SafetyDie.Held.of_off (h.off (by rw [d]; decide))
  · exact h

theorem SafetyDie.endSession_held (s : SafetyDie) (i : Nat) (h : s.Held) : (SafetyDie.endSession s i).Held := by
  unfold SafetyDie.endSession
  split
  · exact h
  · extract_lets y f s1 g s2 z s3
    have h1 : s1.Held := SafetyDie.setSession_held s i none h
    clear_value s1
    have h2 : s2.Held := by
      unfold s2
      split
      · split
        · exact SafetyDie.discardStage_held _ h1
        · exact h1
      · exact h1
    clear_value s2
    have h3 : s3.Held := by
      unfold s3
      split
      · exact SafetyDie.forEach_held _ _ _ h2 (fun _ _ hy => SafetyDie.disarmOne_held _ _ _ hy)
      · exact h2
    clear_value s3
    split
    · exact SafetyDie.leaveService_held _ h3
    · exact h3

theorem SafetyDie.endCheckSessions_held (s : SafetyDie) (h : s.Held) : (SafetyDie.endCheckSessions s).Held := by
  unfold SafetyDie.endCheckSessions
  try dsimp only
  repeat' (first
    | with_reducible assumption
    | with_reducible apply SafetyDie.endSession_held
    | with_reducible apply SafetyDie.forEach_held
    | with_reducible apply SafetyDie.foldl_held
    | (simp only [↓SafetyDie.held_mk])
    | with_reducible apply SafetyDie.Held.fields
    | with_reducible exact BrakeHeld.off _ _ _ _ _ _ _ _ _
    | split
    | (rw [id_eq])
    | (intro _))

theorem SafetyDie.assertKill_held (s : SafetyDie) (counted power keep : Bool) (h : s.Held) : (SafetyDie.assertKill s counted power keep).Held := by
  unfold SafetyDie.assertKill SafetyDie.setGuest
  try dsimp only
  repeat' (first
    | with_reducible assumption
    | with_reducible apply SafetyDie.bump_held
    | with_reducible apply SafetyDie.demandLow_held
    | with_reducible apply SafetyDie.dropInjectors_held
    | with_reducible apply SafetyDie.endCheckSessions_held
    | with_reducible apply SafetyDie.raise_held
    | with_reducible apply SafetyDie.foldl_held
    | (simp only [↓SafetyDie.held_mk])
    | with_reducible apply SafetyDie.Held.fields
    | with_reducible exact BrakeHeld.off _ _ _ _ _ _ _ _ _
    | split
    | (rw [id_eq])
    | (intro _))

theorem SafetyDie.trip_held (s : SafetyDie) (h : s.Held) : (SafetyDie.trip s).Held := by
  unfold SafetyDie.trip
  split
  · exact h
  · exact SafetyDie.hblStop_held _ _ _

theorem SafetyDie.killIfDue_held (s : SafetyDie) (h : s.Held) : (SafetyDie.killIfDue s).Held := by
  unfold SafetyDie.killIfDue
  try dsimp only
  repeat' (first
    | with_reducible assumption
    | with_reducible apply SafetyDie.assertKill_held
    | with_reducible apply SafetyDie.foldl_held
    | (simp only [↓SafetyDie.held_mk])
    | with_reducible apply SafetyDie.Held.fields
    | with_reducible exact BrakeHeld.off _ _ _ _ _ _ _ _ _
    | split
    | (rw [id_eq])
    | (intro _))

theorem SafetyDie.undoStore_held (s : SafetyDie) (w : StoreWork) (h : s.Held) : (SafetyDie.undoStore s w).Held := by
  unfold SafetyDie.undoStore
  try dsimp only
  repeat' (first
    | with_reducible assumption
    | with_reducible apply SafetyDie.foldl_held
    | (simp only [↓SafetyDie.held_mk])
    | with_reducible apply SafetyDie.Held.fields
    | with_reducible exact BrakeHeld.off _ _ _ _ _ _ _ _ _
    | split
    | (rw [id_eq])
    | (intro _))

theorem SafetyDie.undoStores_held (s : SafetyDie) (h : s.Held) : (SafetyDie.undoStores s).Held := by
  unfold SafetyDie.undoStores
  induction s.stores with
  | nil => exact h
  | cons a l ih => exact SafetyDie.undoStore_held _ _ ih

theorem SafetyDie.restartAll_held (s0 : SafetyDie) (kind : Nat) (g : GuestBook) (h : s0.Held) : (SafetyDie.restartAll s0 kind g).Held := by
  unfold SafetyDie.restartAll
  try dsimp only
  repeat' (first
    | with_reducible assumption
    | with_reducible apply SafetyDie.resetPairs_held
    | with_reducible apply SafetyDie.settle_held
    | with_reducible apply SafetyDie.undoStores_held
    | with_reducible apply SafetyDie.foldl_held
    | (simp only [↓SafetyDie.held_mk])
    | with_reducible apply SafetyDie.Held.fields
    | with_reducible exact BrakeHeld.off _ _ _ _ _ _ _ _ _
    | split
    | (rw [id_eq])
    | (intro _))

theorem SafetyDie.safetyReset_held (s : SafetyDie) (n : EventName) (inst detail opDesc : Nat) (h : s.Held) : (SafetyDie.safetyReset s n inst detail opDesc).Held := by
  unfold SafetyDie.safetyReset
  try dsimp only
  repeat' (first
    | with_reducible assumption
    | with_reducible apply SafetyDie.restartAll_held
    | with_reducible apply SafetyDie.store_held
    | with_reducible apply SafetyDie.foldl_held
    | (simp only [↓SafetyDie.held_mk])
    | with_reducible apply SafetyDie.Held.fields
    | with_reducible exact BrakeHeld.off _ _ _ _ _ _ _ _ _
    | split
    | (rw [id_eq])
    | (intro _))

theorem SafetyDie.setDog_held (s : SafetyDie) (host : Bool) (x : Dog) (h : s.Held) : (SafetyDie.setDog s host x).Held := by
  unfold SafetyDie.setDog
  try dsimp only
  repeat' (first
    | with_reducible assumption
    | with_reducible apply SafetyDie.foldl_held
    | (simp only [↓SafetyDie.held_mk])
    | with_reducible apply SafetyDie.Held.fields
    | with_reducible exact BrakeHeld.off _ _ _ _ _ _ _ _ _
    | split
    | (rw [id_eq])
    | (intro _))

theorem SafetyDie.dogReset_held (s : SafetyDie) (host : Bool) (cause : Nat) (h : s.Held) : (SafetyDie.dogReset s host cause).Held := by
  unfold SafetyDie.dogReset SafetyDie.setGuest
  try dsimp only
  repeat' (first
    | with_reducible assumption
    | with_reducible apply SafetyDie.safetyReset_held
    | with_reducible apply SafetyDie.foldl_held
    | (simp only [↓SafetyDie.held_mk])
    | with_reducible apply SafetyDie.Held.fields
    | with_reducible exact BrakeHeld.off _ _ _ _ _ _ _ _ _
    | split
    | (rw [id_eq])
    | (intro _))

theorem SafetyDie.dogFail_held (s : SafetyDie) (host : Bool) (cause at_ : Nat) (h : s.Held) : (SafetyDie.dogFail s host cause at_).Held := by
  unfold SafetyDie.dogFail
  try dsimp only
  repeat' (first
    | with_reducible assumption
    | with_reducible apply SafetyDie.bump_held
    | with_reducible apply SafetyDie.dogReset_held
    | with_reducible apply SafetyDie.put_held
    | with_reducible apply SafetyDie.raise_held
    | with_reducible apply SafetyDie.setDog_held
    | with_reducible apply SafetyDie.foldl_held
    | (simp only [↓SafetyDie.held_mk])
    | with_reducible apply SafetyDie.Held.fields
    | with_reducible exact BrakeHeld.off _ _ _ _ _ _ _ _ _
    | split
    | (rw [id_eq])
    | (intro _))

theorem SafetyDie.dogDue_held (s : SafetyDie) (host : Bool) (h : s.Held) : (SafetyDie.dogDue s host).Held := by
  unfold SafetyDie.dogDue
  try dsimp only
  repeat' (first
    | with_reducible assumption
    | with_reducible apply SafetyDie.dogFail_held
    | with_reducible apply SafetyDie.dogReset_held
    | with_reducible apply SafetyDie.foldl_held
    | (simp only [↓SafetyDie.held_mk])
    | with_reducible apply SafetyDie.Held.fields
    | with_reducible exact BrakeHeld.off _ _ _ _ _ _ _ _ _
    | split
    | (rw [id_eq])
    | (intro _))

theorem SafetyDie.dogExpiry_held (s : SafetyDie) (host : Bool) (h : s.Held) : (SafetyDie.dogExpiry s host).Held := by
  unfold SafetyDie.dogExpiry
  try dsimp only
  repeat' (first
    | with_reducible assumption
    | with_reducible apply SafetyDie.dogDue_held
    | with_reducible apply SafetyDie.foldl_held
    | (simp only [↓SafetyDie.held_mk])
    | with_reducible apply SafetyDie.Held.fields
    | with_reducible exact BrakeHeld.off _ _ _ _ _ _ _ _ _
    | split
    | (rw [id_eq])
    | (intro _))

theorem SafetyDie.graceExpiry_held (s : SafetyDie) (host : Bool) (h : s.Held) : (SafetyDie.graceExpiry s host).Held := by
  unfold SafetyDie.graceExpiry
  try dsimp only
  repeat' (first
    | with_reducible assumption
    | with_reducible apply SafetyDie.dogDue_held
    | with_reducible apply SafetyDie.foldl_held
    | (simp only [↓SafetyDie.held_mk])
    | with_reducible apply SafetyDie.Held.fields
    | with_reducible exact BrakeHeld.off _ _ _ _ _ _ _ _ _
    | split
    | (rw [id_eq])
    | (intro _))

theorem SafetyDie.dogService_held (s : SafetyDie) (host : Bool) (h : s.Held) : (SafetyDie.dogService s host).Held := by
  unfold SafetyDie.dogService
  try dsimp only
  repeat' (first
    | with_reducible assumption
    | with_reducible apply SafetyDie.dogFail_held
    | with_reducible apply SafetyDie.setDog_held
    | with_reducible apply SafetyDie.foldl_held
    | (simp only [↓SafetyDie.held_mk])
    | with_reducible apply SafetyDie.Held.fields
    | with_reducible exact BrakeHeld.off _ _ _ _ _ _ _ _ _
    | split
    | (rw [id_eq])
    | (intro _))

theorem SafetyDie.dogServe_held (s : SafetyDie) (host : Bool) (h : s.Held) : (SafetyDie.dogServe s host).Held := by
  unfold SafetyDie.dogServe
  try dsimp only
  repeat' (first
    | with_reducible assumption
    | with_reducible apply SafetyDie.dogDue_held
    | with_reducible apply SafetyDie.dogService_held
    | with_reducible apply SafetyDie.foldl_held
    | (simp only [↓SafetyDie.held_mk])
    | with_reducible apply SafetyDie.Held.fields
    | with_reducible exact BrakeHeld.off _ _ _ _ _ _ _ _ _
    | split
    | (rw [id_eq])
    | (intro _))

theorem SafetyDie.armLapse_held (s : SafetyDie) (host : Bool) (h : s.Held) : (SafetyDie.armLapse s host).Held := by
  unfold SafetyDie.armLapse
  try dsimp only
  repeat' (first
    | with_reducible assumption
    | with_reducible apply SafetyDie.dogFail_held
    | with_reducible apply SafetyDie.setDog_held
    | with_reducible apply SafetyDie.foldl_held
    | (simp only [↓SafetyDie.held_mk])
    | with_reducible apply SafetyDie.Held.fields
    | with_reducible exact BrakeHeld.off _ _ _ _ _ _ _ _ _
    | split
    | (rw [id_eq])
    | (intro _))

theorem SafetyDie.dogKey_held (s0 : SafetyDie) (host : Bool) (v : Nat) (h : s0.Held) : (SafetyDie.dogKey s0 host v).Held := by
  unfold SafetyDie.dogKey
  try dsimp only
  repeat' (first
    | with_reducible assumption
    | with_reducible apply SafetyDie.armLapse_held
    | with_reducible apply SafetyDie.dogDue_held
    | with_reducible apply SafetyDie.dogFail_held
    | with_reducible apply SafetyDie.dogServe_held
    | with_reducible apply SafetyDie.setDog_held
    | with_reducible apply SafetyDie.foldl_held
    | (simp only [↓SafetyDie.held_mk])
    | with_reducible apply SafetyDie.Held.fields
    | with_reducible exact BrakeHeld.off _ _ _ _ _ _ _ _ _
    | split
    | (rw [id_eq])
    | (intro _))

theorem SafetyDie.wdsStore_held (s : SafetyDie) (v : Nat) (h : s.Held) : (SafetyDie.wdsStore s v).Held := by
  unfold SafetyDie.wdsStore
  try dsimp only
  repeat' (first
    | with_reducible assumption
    | with_reducible apply SafetyDie.dogKey_held
    | with_reducible apply SafetyDie.foldl_held
    | (simp only [↓SafetyDie.held_mk])
    | with_reducible apply SafetyDie.Held.fields
    | with_reducible exact BrakeHeld.off _ _ _ _ _ _ _ _ _
    | split
    | (rw [id_eq])
    | (intro _))

theorem SafetyDie.wdhSvc_held (s : SafetyDie) (v : Nat) (h : s.Held) : (SafetyDie.wdhSvc s v).Held := by
  unfold SafetyDie.wdhSvc
  try dsimp only
  repeat' (first
    | with_reducible assumption
    | with_reducible apply SafetyDie.bump_held
    | with_reducible apply SafetyDie.dogKey_held
    | with_reducible apply SafetyDie.raise_held
    | with_reducible apply SafetyDie.foldl_held
    | (simp only [↓SafetyDie.held_mk])
    | with_reducible apply SafetyDie.Held.fields
    | with_reducible exact BrakeHeld.off _ _ _ _ _ _ _ _ _
    | split
    | (rw [id_eq])
    | (intro _))

theorem SafetyDie.wdhStart_held (s : SafetyDie) (h : s.Held) : (SafetyDie.wdhStart s).Held := by
  unfold SafetyDie.wdhStart
  try dsimp only
  repeat' (first
    | with_reducible assumption
    | with_reducible apply SafetyDie.foldl_held
    | (simp only [↓SafetyDie.held_mk])
    | with_reducible apply SafetyDie.Held.fields
    | with_reducible exact BrakeHeld.off _ _ _ _ _ _ _ _ _
    | split
    | (rw [id_eq])
    | (intro _))

theorem SafetyDie.wdhDisable_held (s0 : SafetyDie) (h : s0.Held) : (SafetyDie.wdhDisable s0).Held := by
  unfold SafetyDie.wdhDisable
  try dsimp only
  repeat' (first
    | with_reducible assumption
    | with_reducible apply SafetyDie.bump_held
    | with_reducible apply SafetyDie.dogDue_held
    | with_reducible apply SafetyDie.raise_held
    | with_reducible apply SafetyDie.foldl_held
    | (simp only [↓SafetyDie.held_mk])
    | with_reducible apply SafetyDie.Held.fields
    | with_reducible exact BrakeHeld.off _ _ _ _ _ _ _ _ _
    | split
    | (rw [id_eq])
    | (intro _))

theorem SafetyDie.wdhLock_held (s : SafetyDie) (h : s.Held) : (SafetyDie.wdhLock s).Held := by
  unfold SafetyDie.wdhLock
  try dsimp only
  repeat' (first
    | with_reducible assumption
    | with_reducible apply SafetyDie.wdhStart_held
    | with_reducible apply SafetyDie.foldl_held
    | (simp only [↓SafetyDie.held_mk])
    | with_reducible apply SafetyDie.Held.fields
    | with_reducible exact BrakeHeld.off _ _ _ _ _ _ _ _ _
    | split
    | (rw [id_eq])
    | (intro _))

theorem SafetyDie.wdhKey_held (s : SafetyDie) (v : Nat) (h : s.Held) : (SafetyDie.wdhKey s v).Held := by
  unfold SafetyDie.wdhKey
  try dsimp only
  repeat' (first
    | with_reducible assumption
    | with_reducible apply SafetyDie.bump_held
    | with_reducible apply SafetyDie.foldl_held
    | (simp only [↓SafetyDie.held_mk])
    | with_reducible apply SafetyDie.Held.fields
    | with_reducible exact BrakeHeld.off _ _ _ _ _ _ _ _ _
    | split
    | (rw [id_eq])
    | (intro _))

theorem SafetyDie.disableLapse_held (s : SafetyDie) (h : s.Held) : (SafetyDie.disableLapse s).Held := by
  unfold SafetyDie.disableLapse
  try dsimp only
  repeat' (first
    | with_reducible assumption
    | with_reducible apply SafetyDie.bump_held
    | with_reducible apply SafetyDie.foldl_held
    | (simp only [↓SafetyDie.held_mk])
    | with_reducible apply SafetyDie.Held.fields
    | with_reducible exact BrakeHeld.off _ _ _ _ _ _ _ _ _
    | split
    | (rw [id_eq])
    | (intro _))

theorem SafetyDie.breakSequence_held (s : SafetyDie) (h : s.Held) : (SafetyDie.breakSequence s).Held := by
  unfold SafetyDie.breakSequence
  try dsimp only
  repeat' (first
    | with_reducible assumption
    | with_reducible apply SafetyDie.bump_held
    | with_reducible apply SafetyDie.foldl_held
    | (simp only [↓SafetyDie.held_mk])
    | with_reducible apply SafetyDie.Held.fields
    | with_reducible exact BrakeHeld.off _ _ _ _ _ _ _ _ _
    | split
    | (rw [id_eq])
    | (intro _))

theorem SafetyDie.wdhCtrl_held (s : SafetyDie) (v : Nat) (h : s.Held) : (SafetyDie.wdhCtrl s v).Held := by
  unfold SafetyDie.wdhCtrl
  try dsimp only
  repeat' (first
    | with_reducible assumption
    | with_reducible apply SafetyDie.breakSequence_held
    | with_reducible apply SafetyDie.wdhDisable_held
    | with_reducible apply SafetyDie.wdhLock_held
    | with_reducible apply SafetyDie.wdhStart_held
    | with_reducible apply SafetyDie.foldl_held
    | (simp only [↓SafetyDie.held_mk])
    | with_reducible apply SafetyDie.Held.fields
    | with_reducible exact BrakeHeld.off _ _ _ _ _ _ _ _ _
    | split
    | (rw [id_eq])
    | (intro _))

theorem SafetyDie.clockTrip_held (s : SafetyDie) (host : Bool) (h : s.Held) : (SafetyDie.clockTrip s host).Held := by
  unfold SafetyDie.clockTrip SafetyDie.setGuest
  try dsimp only
  repeat' (first
    | with_reducible assumption
    | with_reducible apply SafetyDie.safetyReset_held
    | with_reducible apply SafetyDie.foldl_held
    | (simp only [↓SafetyDie.held_mk])
    | with_reducible apply SafetyDie.Held.fields
    | with_reducible exact BrakeHeld.off _ _ _ _ _ _ _ _ _
    | split
    | (rw [id_eq])
    | (intro _))

theorem SafetyDie.hostResume_held (s : SafetyDie) (h : s.Held) : (SafetyDie.hostResume s).Held := by
  unfold SafetyDie.hostResume
  try dsimp only
  repeat' (first
    | with_reducible assumption
    | with_reducible apply SafetyDie.restart_held
    | with_reducible apply SafetyDie.foldl_held
    | (simp only [↓SafetyDie.held_mk])
    | with_reducible apply SafetyDie.Held.fields
    | with_reducible exact BrakeHeld.off _ _ _ _ _ _ _ _ _
    | split
    | (rw [id_eq])
    | (intro _))

theorem SafetyDie.hostHold_held (s : SafetyDie) (h : s.Held) : (SafetyDie.hostHold s).Held := by
  unfold SafetyDie.hostHold
  try dsimp only
  repeat' (first
    | with_reducible assumption
    | with_reducible apply SafetyDie.foldl_held
    | (simp only [↓SafetyDie.held_mk])
    | with_reducible apply SafetyDie.Held.fields
    | with_reducible exact BrakeHeld.off _ _ _ _ _ _ _ _ _
    | split
    | (rw [id_eq])
    | (intro _))

theorem SafetyDie.debugHalt_held (s0 : SafetyDie) (h : s0.Held) : (SafetyDie.debugHalt s0).Held := by
  unfold SafetyDie.debugHalt
  dsimp only
  split
  · exact SafetyDie.dogDue_held _ _ (SafetyDie.dogDue_held _ _ h)
  · exact SafetyDie.hblStop_held _ _ _

theorem SafetyDie.debugResume_held (s : SafetyDie) (h : s.Held) : (SafetyDie.debugResume s).Held := by
  unfold SafetyDie.debugResume
  try dsimp only
  repeat' (first
    | with_reducible assumption
    | with_reducible apply SafetyDie.hostResume_held
    | with_reducible apply SafetyDie.settle_held
    | with_reducible apply SafetyDie.foldl_held
    | (simp only [↓SafetyDie.held_mk])
    | with_reducible apply SafetyDie.Held.fields
    | with_reducible exact BrakeHeld.off _ _ _ _ _ _ _ _ _
    | split
    | (rw [id_eq])
    | (intro _))

theorem SafetyDie.rcFollow_held (s : SafetyDie) (h : s.Held) : (SafetyDie.rcFollow s).Held := by
  unfold SafetyDie.rcFollow
  try dsimp only
  repeat' (first
    | with_reducible assumption
    | with_reducible apply SafetyDie.foldl_held
    | (simp only [↓SafetyDie.held_mk])
    | with_reducible apply SafetyDie.Held.fields
    | with_reducible exact BrakeHeld.off _ _ _ _ _ _ _ _ _
    | split
    | (rw [id_eq])
    | (intro _))

theorem SafetyDie.rcFail_held (s : SafetyDie) (e test value : Nat) (h : s.Held) : (SafetyDie.rcFail s e test value).Held := by
  unfold SafetyDie.rcFail
  try dsimp only
  repeat' (first
    | with_reducible assumption
    | with_reducible apply SafetyDie.bump_held
    | with_reducible apply SafetyDie.raise_held
    | with_reducible apply SafetyDie.foldl_held
    | (simp only [↓SafetyDie.held_mk])
    | with_reducible apply SafetyDie.Held.fields
    | with_reducible exact BrakeHeld.off _ _ _ _ _ _ _ _ _
    | split
    | (rw [id_eq])
    | (intro _))

theorem SafetyDie.cycleEnd_held (s : SafetyDie) (h : s.Held) : (SafetyDie.cycleEnd s).Held := by
  unfold SafetyDie.cycleEnd
  try dsimp only
  repeat' (first
    | with_reducible assumption
    | with_reducible apply SafetyDie.bump_held
    | with_reducible apply SafetyDie.dogServe_held
    | with_reducible apply SafetyDie.forEach_held
    | with_reducible apply SafetyDie.rcFail_held
    | with_reducible apply SafetyDie.when_held
    | with_reducible apply SafetyDie.foldl_held
    | (simp only [↓SafetyDie.held_mk])
    | with_reducible apply SafetyDie.Held.fields
    | with_reducible exact BrakeHeld.off _ _ _ _ _ _ _ _ _
    | split
    | (rw [id_eq])
    | (intro _))

theorem SafetyDie.rcCheckIn_held (s0 : SafetyDie) (v : Nat) (h : s0.Held) : (SafetyDie.rcCheckIn s0 v).Held := by
  unfold SafetyDie.rcCheckIn
  try dsimp only
  repeat' (first
    | with_reducible assumption
    | with_reducible apply SafetyDie.bump_held
    | with_reducible apply SafetyDie.cycleEnd_held
    | with_reducible apply SafetyDie.foldl_held
    | (simp only [↓SafetyDie.held_mk])
    | with_reducible apply SafetyDie.Held.fields
    | with_reducible exact BrakeHeld.off _ _ _ _ _ _ _ _ _
    | split
    | (rw [id_eq])
    | (intro _))

theorem SafetyDie.hostRegister_held (s : SafetyDie) (offset v : Nat) (h : s.Held) : (SafetyDie.hostRegister s offset v).Held := by
  unfold SafetyDie.hostRegister
  try dsimp only
  repeat' (first
    | with_reducible assumption
    | with_reducible apply SafetyDie.rcCheckIn_held
    | with_reducible apply SafetyDie.wdhCtrl_held
    | with_reducible apply SafetyDie.wdhKey_held
    | with_reducible apply SafetyDie.wdhSvc_held
    | with_reducible apply SafetyDie.foldl_held
    | (simp only [↓SafetyDie.held_mk])
    | with_reducible apply SafetyDie.Held.fields
    | with_reducible exact BrakeHeld.off _ _ _ _ _ _ _ _ _
    | split
    | (rw [id_eq])
    | (intro _))

theorem SafetyDie.keeperFault_held (s : SafetyDie) (n : EventName) (word which : Nat) (h : s.Held) : (SafetyDie.keeperFault s n word which).Held := by
  exact SafetyDie.safetyReset_held _ _ _ _ _ (SafetyDie.settled _)

theorem SafetyDie.storeLeaves_held (s : SafetyDie) (w : Nat) (h : s.Held) : (SafetyDie.storeLeaves s w).Held := by
  unfold SafetyDie.storeLeaves
  try dsimp only
  repeat' (first
    | with_reducible assumption
    | with_reducible apply SafetyDie.put_held
    | with_reducible apply SafetyDie.foldl_held
    | (simp only [↓SafetyDie.held_mk])
    | with_reducible apply SafetyDie.Held.fields
    | with_reducible exact BrakeHeld.off _ _ _ _ _ _ _ _ _
    | split
    | (rw [id_eq])
    | (intro _))

theorem SafetyDie.compareCommit_held (s : SafetyDie) (w : Nat) (wrongX wrongY : Bool) (h : s.Held) : (SafetyDie.compareCommit s w wrongX wrongY).Held := by
  unfold SafetyDie.compareCommit
  dsimp only
  split
  · exact SafetyDie.keeperFault_held _ _ _ _ h
  split
  · exact SafetyDie.keeperFault_held _ _ _ _ h
  split
  · exact SafetyDie.keeperFault_held _ _ _ _ h
  split
  · exact SafetyDie.storeLeaves_held _ _ h
  · exact h

theorem SafetyDie.splitTrap_held (s : SafetyDie) (h : s.Held) : (SafetyDie.splitTrap s).Held := by
  unfold SafetyDie.splitTrap
  try dsimp only
  repeat' (first
    | with_reducible assumption
    | with_reducible apply SafetyDie.raise_held
    | with_reducible apply SafetyDie.foldl_held
    | (simp only [↓SafetyDie.held_mk])
    | with_reducible apply SafetyDie.Held.fields
    | with_reducible exact BrakeHeld.off _ _ _ _ _ _ _ _ _
    | split
    | (rw [id_eq])
    | (intro _))

theorem SafetyDie.splitCycle_held (s : SafetyDie) (k0 k1 : Option Nat) (h : s.Held) : (SafetyDie.splitCycle s k0 k1).Held := by
  unfold SafetyDie.splitCycle
  extract_lets s1
  have h1 : s1.Held := by
    unfold s1
    repeat' split
    all_goals first
      | exact h
      | exact SafetyDie.storeLeaves_held _ _ h
  clear_value s1
  repeat' split
  all_goals first
    | exact h1
    | exact SafetyDie.splitTrap_held _ h1

theorem SafetyDie.compareWord_held (s : SafetyDie) (k0 k1 : Option Nat) (wrongX wrongY : Bool) (input : Option Nat)
    (corrected uncorrectable fatal : Bool) (h : s.Held) :
    (s.compareWord k0 k1 wrongX wrongY input corrected uncorrectable fatal).Held := by
  unfold SafetyDie.compareWord
  extract_lets word s1 go s2
  have h1 : s1.Held := by
    unfold s1
    split
    · exact SafetyDie.bump_held _ _ _ _ h
    · exact h
  have h2 : s2.Held := by
    unfold s2
    split
    · exact h1
    · exact h1
  clear_value s2 s1
  split
  · exact h
  split
  · exact SafetyDie.keeperFault_held _ _ _ _ h
  split
  · exact SafetyDie.splitCycle_held _ _ _ h
  split
  · exact SafetyDie.keeperFault_held _ _ _ _ h1
  split
  · exact SafetyDie.compareCommit_held _ _ _ _ h2
  · exact h2

theorem SafetyDie.injectPair_held (s : SafetyDie) (wrongX wrongY : Bool) (h : s.Held) : (SafetyDie.injectPair s wrongX wrongY).Held := by
  unfold SafetyDie.injectPair
  try dsimp only
  repeat' (first
    | with_reducible assumption
    | with_reducible apply SafetyDie.bump_held
    | with_reducible apply SafetyDie.keeperFault_held
    | with_reducible apply SafetyDie.foldl_held
    | (simp only [↓SafetyDie.held_mk])
    | with_reducible apply SafetyDie.Held.fields
    | with_reducible exact BrakeHeld.off _ _ _ _ _ _ _ _ _
    | split
    | (rw [id_eq])
    | (intro _))

theorem SafetyDie.libraryTest_held (s : SafetyDie) (h : s.Held) : (SafetyDie.libraryTest s).Held := by
  unfold SafetyDie.libraryTest
  try dsimp only
  repeat' (first
    | with_reducible assumption
    | with_reducible apply SafetyDie.foldl_held
    | (simp only [↓SafetyDie.held_mk])
    | with_reducible apply SafetyDie.Held.fields
    | with_reducible exact BrakeHeld.off _ _ _ _ _ _ _ _ _
    | split
    | (rw [id_eq])
    | (intro _))

theorem SafetyDie.corridorFailure_held (s : SafetyDie) (item : Nat) (h : s.Held) : (SafetyDie.corridorFailure s item).Held := by
  unfold SafetyDie.corridorFailure
  try dsimp only
  repeat' (first
    | with_reducible assumption
    | with_reducible apply SafetyDie.safetyReset_held
    | with_reducible apply SafetyDie.foldl_held
    | (simp only [↓SafetyDie.held_mk])
    | with_reducible apply SafetyDie.Held.fields
    | with_reducible exact BrakeHeld.off _ _ _ _ _ _ _ _ _
    | split
    | (rw [id_eq])
    | (intro _))

theorem SafetyDie.refuseFlit_held (s : SafetyDie) (h : s.Held) : (SafetyDie.refuseFlit s).Held := by
  unfold SafetyDie.refuseFlit
  try dsimp only
  repeat' (first
    | with_reducible assumption
    | with_reducible apply SafetyDie.corridorFailure_held
    | with_reducible apply SafetyDie.put_held
    | with_reducible apply SafetyDie.foldl_held
    | (simp only [↓SafetyDie.held_mk])
    | with_reducible apply SafetyDie.Held.fields
    | with_reducible exact BrakeHeld.off _ _ _ _ _ _ _ _ _
    | split
    | (rw [id_eq])
    | (intro _))

theorem SafetyDie.flitCrcError_held (s : SafetyDie) (h : s.Held) : (SafetyDie.flitCrcError s).Held := by
  unfold SafetyDie.flitCrcError
  try dsimp only
  repeat' (first
    | with_reducible assumption
    | with_reducible apply SafetyDie.bump_held
    | with_reducible apply SafetyDie.corridorFailure_held
    | with_reducible apply SafetyDie.refuseFlit_held
    | with_reducible apply SafetyDie.foldl_held
    | (simp only [↓SafetyDie.held_mk])
    | with_reducible apply SafetyDie.Held.fields
    | with_reducible exact BrakeHeld.off _ _ _ _ _ _ _ _ _
    | split
    | (rw [id_eq])
    | (intro _))

theorem SafetyDie.receive_held (s : SafetyDie) (seq n : Nat) (f : SafetyDie → SafetyDie) (h : s.Held) (h1 : ∀ y : SafetyDie, y.Held → (f y).Held) : (SafetyDie.receive s seq n f).Held := by
  unfold SafetyDie.receive
  try dsimp only
  repeat' (first
    | with_reducible assumption
    | with_reducible apply SafetyDie.refuseFlit_held
    | with_reducible apply SafetyDie.sendAck_held
    | with_reducible apply h1
    | with_reducible apply SafetyDie.foldl_held
    | (simp only [↓SafetyDie.held_mk])
    | with_reducible apply SafetyDie.Held.fields
    | with_reducible exact BrakeHeld.off _ _ _ _ _ _ _ _ _
    | split
    | (rw [id_eq])
    | (intro _))

theorem SafetyDie.setSort_held (s : SafetyDie) (n : Nat) (x : SortStream) (h : s.Held) : (SafetyDie.setSort s n x).Held := by
  unfold SafetyDie.setSort
  try dsimp only
  repeat' (first
    | with_reducible assumption
    | with_reducible apply SafetyDie.foldl_held
    | (simp only [↓SafetyDie.held_mk])
    | with_reducible apply SafetyDie.Held.fields
    | with_reducible exact BrakeHeld.off _ _ _ _ _ _ _ _ _
    | split
    | (rw [id_eq])
    | (intro _))

theorem SafetyDie.queueAction_held (s : SafetyDie) (x : ActionItem) (h : s.Held) : (SafetyDie.queueAction s x).Held := by
  unfold SafetyDie.queueAction
  try dsimp only
  repeat' (first
    | with_reducible assumption
    | with_reducible apply SafetyDie.foldl_held
    | (simp only [↓SafetyDie.held_mk])
    | with_reducible apply SafetyDie.Held.fields
    | with_reducible exact BrakeHeld.off _ _ _ _ _ _ _ _ _
    | split
    | (rw [id_eq])
    | (intro _))

theorem SafetyDie.token_held (s : SafetyDie) (t : Token) (h : s.Held) : (SafetyDie.token s t).Held := by
  unfold SafetyDie.token
  try dsimp only
  repeat' (first
    | with_reducible assumption
    | with_reducible apply SafetyDie.queueAction_held
    | with_reducible apply SafetyDie.raise_held
    | with_reducible apply SafetyDie.setSort_held
    | with_reducible apply SafetyDie.foldl_held
    | (simp only [↓SafetyDie.held_mk])
    | with_reducible apply SafetyDie.Held.fields
    | with_reducible exact BrakeHeld.off _ _ _ _ _ _ _ _ _
    | split
    | (rw [id_eq])
    | (intro _))

theorem SafetyDie.streamState_held (s : SafetyDie) (p : Nat) (h : s.Held) : (SafetyDie.streamState s p).Held := by
  unfold SafetyDie.streamState
  try dsimp only
  repeat' (first
    | with_reducible assumption
    | with_reducible apply SafetyDie.queueAction_held
    | with_reducible apply SafetyDie.setSort_held
    | with_reducible apply SafetyDie.settle_held
    | with_reducible apply SafetyDie.foldl_held
    | (simp only [↓SafetyDie.held_mk])
    | with_reducible apply SafetyDie.Held.fields
    | with_reducible exact BrakeHeld.off _ _ _ _ _ _ _ _ _
    | split
    | (rw [id_eq])
    | (intro _))

theorem SafetyDie.toRun_held (s : SafetyDie) (h : s.Held) : (SafetyDie.toRun s).Held := by
  unfold SafetyDie.toRun
  exact SafetyDie.advance_held _ _ (SafetyDie.sendFlit_held _ _ (fun e => let q := h e; ⟨q.1, q.2.1, q.2.2.1, rfl, q.2.2.2.2⟩))

theorem SafetyDie.tryReady_held (s : SafetyDie) (h : s.Held) : (SafetyDie.tryReady s).Held := by
  unfold SafetyDie.tryReady
  split
  · next d =>
    have h0 := h.off (by rw [d.1]; decide)
    extract_lets b s1 s2
    have h1 : s1.Held := SafetyDie.Held.of_off h0
    have h2 : s2.Held := by
      unfold s2
      split
      · exact SafetyDie.wdhStart_held _ h1
      · exact h1
    split
    · exact SafetyDie.toRun_held _ h2
    · exact h2
  · exact h

theorem SafetyDie.reportedCrc_held (s : SafetyDie) (crc epoch : Nat) (h : s.Held) : (SafetyDie.reportedCrc s crc epoch).Held := by
  unfold SafetyDie.reportedCrc
  try dsimp only
  repeat' (first
    | with_reducible assumption
    | with_reducible apply SafetyDie.assertKill_held
    | with_reducible apply SafetyDie.raise_held
    | with_reducible apply SafetyDie.stop_held
    | with_reducible apply SafetyDie.tryReady_held
    | with_reducible apply SafetyDie.foldl_held
    | (simp only [↓SafetyDie.held_mk])
    | with_reducible apply SafetyDie.Held.fields
    | with_reducible exact BrakeHeld.off _ _ _ _ _ _ _ _ _
    | split
    | (rw [id_eq])
    | (intro _))

theorem SafetyDie.status_held (s : SafetyDie) (code : Nat) (h : s.Held) : (SafetyDie.status s code).Held := by
  unfold SafetyDie.status
  try dsimp only
  repeat' (first
    | with_reducible assumption
    | with_reducible apply SafetyDie.flushLog_held
    | with_reducible apply SafetyDie.hostResume_held
    | with_reducible apply SafetyDie.settle_held
    | with_reducible apply SafetyDie.tryReady_held
    | with_reducible apply SafetyDie.foldl_held
    | (simp only [↓SafetyDie.held_mk])
    | with_reducible apply SafetyDie.Held.fields
    | with_reducible exact BrakeHeld.off _ _ _ _ _ _ _ _ _
    | split
    | (rw [id_eq])
    | (intro _))

theorem SafetyDie.fenceChange_held (s : SafetyDie) (cluster row : Nat) (fenced : Bool) (h : s.Held) : (SafetyDie.fenceChange s cluster row fenced).Held := by
  unfold SafetyDie.fenceChange SafetyDie.setGuest
  try dsimp only
  repeat' (first
    | with_reducible assumption
    | with_reducible apply SafetyDie.foldl_held
    | (simp only [↓SafetyDie.held_mk])
    | with_reducible apply SafetyDie.Held.fields
    | with_reducible exact BrakeHeld.off _ _ _ _ _ _ _ _ _
    | split
    | (rw [id_eq])
    | (intro _))

theorem SafetyDie.timeSample_held (s : SafetyDie) (gts : Nat) (h : s.Held) : (SafetyDie.timeSample s gts).Held := by
  unfold SafetyDie.timeSample
  try dsimp only
  repeat' (first
    | with_reducible assumption
    | with_reducible apply SafetyDie.foldl_held
    | (simp only [↓SafetyDie.held_mk])
    | with_reducible apply SafetyDie.Held.fields
    | with_reducible exact BrakeHeld.off _ _ _ _ _ _ _ _ _
    | split
    | (rw [id_eq])
    | (intro _))

theorem SafetyDie.takeRecord_held (s : SafetyDie) (r : EventRec) (h : s.Held) : (SafetyDie.takeRecord s r).Held := by
  unfold SafetyDie.takeRecord
  try dsimp only
  repeat' (first
    | with_reducible assumption
    | with_reducible apply SafetyDie.store_held
    | with_reducible apply SafetyDie.foldl_held
    | (simp only [↓SafetyDie.held_mk])
    | with_reducible apply SafetyDie.Held.fields
    | with_reducible exact BrakeHeld.off _ _ _ _ _ _ _ _ _
    | split
    | (rw [id_eq])
    | (intro _))

theorem SafetyDie.flitEffect_held (f : Flit) (s : SafetyDie) (h : s.Held) : (SafetyDie.flitEffect f s).Held := by
  unfold SafetyDie.flitEffect
  try dsimp only
  repeat' (first
    | with_reducible assumption
    | with_reducible apply SafetyDie.corridorFailure_held
    | with_reducible apply SafetyDie.fenceChange_held
    | with_reducible apply SafetyDie.flitCrcError_held
    | with_reducible apply SafetyDie.hostRegister_held
    | with_reducible apply SafetyDie.reportedCrc_held
    | with_reducible apply SafetyDie.status_held
    | with_reducible apply SafetyDie.streamState_held
    | with_reducible apply SafetyDie.timeSample_held
    | with_reducible apply SafetyDie.token_held
    | with_reducible apply SafetyDie.foldl_held
    | (simp only [↓SafetyDie.held_mk])
    | with_reducible apply SafetyDie.Held.fields
    | with_reducible exact BrakeHeld.off _ _ _ _ _ _ _ _ _
    | split
    | (rw [id_eq])
    | (intro _))

theorem SafetyDie.permitFollow_held (s : SafetyDie) (cause : Nat) (h : s.Held) : (SafetyDie.permitFollow s cause).Held := by
  unfold SafetyDie.permitFollow
  try dsimp only
  repeat' (first
    | with_reducible assumption
    | with_reducible apply SafetyDie.forEach_held
    | with_reducible apply SafetyDie.raise_held
    | with_reducible apply SafetyDie.foldl_held
    | (simp only [↓SafetyDie.held_mk])
    | with_reducible apply SafetyDie.Held.fields
    | with_reducible exact BrakeHeld.off _ _ _ _ _ _ _ _ _
    | split
    | (rw [id_eq])
    | (intro _))

theorem SafetyDie.takeSet_held (s : SafetyDie) (h : s.Held) : (SafetyDie.takeSet s).Held := by
  unfold SafetyDie.takeSet
  try dsimp only
  repeat' (first
    | with_reducible assumption
    | with_reducible apply SafetyDie.permitFollow_held
    | with_reducible apply SafetyDie.rcFollow_held
    | with_reducible apply SafetyDie.restartPairs_held
    | with_reducible apply SafetyDie.settle_held
    | with_reducible apply SafetyDie.foldl_held
    | (simp only [↓SafetyDie.held_mk])
    | with_reducible apply SafetyDie.Held.fields
    | with_reducible exact BrakeHeld.off _ _ _ _ _ _ _ _ _
    | split
    | (rw [id_eq])
    | (intro _))

theorem SafetyDie.boundaryPassed_held (s : SafetyDie) (f : Flit) (h : s.Held) : (SafetyDie.boundaryPassed s f).Held := by
  unfold SafetyDie.boundaryPassed
  try dsimp only
  repeat' (first
    | with_reducible assumption
    | with_reducible apply SafetyDie.takeSet_held
    | with_reducible apply SafetyDie.foldl_held
    | (simp only [↓SafetyDie.held_mk])
    | with_reducible apply SafetyDie.Held.fields
    | with_reducible exact BrakeHeld.off _ _ _ _ _ _ _ _ _
    | split
    | (rw [id_eq])
    | (intro _))

theorem SafetyDie.linkIn_held (s : SafetyDie) (ack : Nat) (nak : Bool) (expected : Nat) (h : s.Held) : (SafetyDie.linkIn s ack nak expected).Held := by
  unfold SafetyDie.linkIn
  try dsimp only
  repeat' (first
    | with_reducible assumption
    | with_reducible apply SafetyDie.boundaryPassed_held
    | with_reducible apply SafetyDie.bump_held
    | with_reducible apply SafetyDie.corridorFailure_held
    | with_reducible apply SafetyDie.forEach_held
    | with_reducible apply SafetyDie.put_held
    | with_reducible apply SafetyDie.foldl_held
    | (simp only [↓SafetyDie.held_mk])
    | with_reducible apply SafetyDie.Held.fields
    | with_reducible exact BrakeHeld.off _ _ _ _ _ _ _ _ _
    | split
    | (rw [id_eq])
    | (intro _))

theorem SafetyDie.takeFlit_held (s : SafetyDie) (b : Octets) (h : s.Held) : (SafetyDie.takeFlit s b).Held := by
  unfold SafetyDie.takeFlit
  try dsimp only
  repeat' (first
    | with_reducible assumption
    | with_reducible apply SafetyDie.corridorFailure_held
    | with_reducible apply SafetyDie.flitCrcError_held
    | with_reducible apply SafetyDie.flitEffect_held
    | with_reducible apply SafetyDie.linkIn_held
    | with_reducible apply SafetyDie.receive_held
    | with_reducible apply SafetyDie.foldl_held
    | (simp only [↓SafetyDie.held_mk])
    | with_reducible apply SafetyDie.Held.fields
    | with_reducible exact BrakeHeld.off _ _ _ _ _ _ _ _ _
    | split
    | (rw [id_eq])
    | (intro _))

theorem SafetyDie.afterItem_held (s : SafetyDie) (i : Injector) (spent : Bool) (h : s.Held) : (SafetyDie.afterItem s i spent).1.Held := by
  unfold SafetyDie.afterItem
  try dsimp only
  repeat' (first
    | with_reducible assumption
    | with_reducible apply SafetyDie.disarmInjector_held
    | with_reducible apply SafetyDie.foldl_held
    | (simp only [↓SafetyDie.held_mk])
    | with_reducible apply SafetyDie.Held.fields
    | with_reducible exact BrakeHeld.off _ _ _ _ _ _ _ _ _
    | split
    | (rw [id_eq])
    | (intro _))

theorem SafetyDie.through_held (s : SafetyDie) (j : Nat) (x : PointItem) (h : s.Held) : (SafetyDie.through s j x).1.Held := by
  unfold SafetyDie.through
  try dsimp only
  repeat' (first
    | with_reducible assumption
    | with_reducible apply SafetyDie.afterItem_held
    | with_reducible apply SafetyDie.bump_held
    | with_reducible apply SafetyDie.draw_held
    | with_reducible apply SafetyDie.foldl_held
    | (simp only [↓SafetyDie.held_mk])
    | with_reducible apply SafetyDie.Held.fields
    | with_reducible exact BrakeHeld.off _ _ _ _ _ _ _ _ _
    | split
    | (rw [id_eq])
    | (intro _))

/-- A chain of injectors keeps the limits. -/
theorem SafetyDie.chain_held (js : List Nat) (s : SafetyDie) (xs : List PointItem) (h : s.Held) : (SafetyDie.chain js s xs).1.Held := by
  induction js generalizing s xs with
  | nil => exact h
  | cons j js ih =>
    refine ih _ _ ?_
    have key : ∀ (l : List PointItem) (a : SafetyDie × List PointItem), a.1.Held →
        (l.foldl (fun (a : SafetyDie × List PointItem) x => let r := a.1.through j x; (r.1, a.2 ++ r.2)) a).1.Held := by
      intro l
      induction l with
      | nil => exact fun a ha => ha
      | cons x l ihl => exact fun a ha => ihl _ (SafetyDie.through_held _ _ _ ha)
    exact key xs (s, []) h

theorem SafetyDie.atPoint_held (s : SafetyDie) (x : PointItem) (h : s.Held) : (SafetyDie.atPoint s x).1.Held := by
  unfold SafetyDie.atPoint
  try dsimp only
  repeat' (first
    | with_reducible assumption
    | with_reducible apply SafetyDie.chain_held
    | with_reducible apply SafetyDie.foldl_held
    | (simp only [↓SafetyDie.held_mk])
    | with_reducible apply SafetyDie.Held.fields
    | with_reducible exact BrakeHeld.off _ _ _ _ _ _ _ _ _
    | split
    | (rw [id_eq])
    | (intro _))

theorem SafetyDie.flitArrives_held (s : SafetyDie) (seq : Nat) (f : Flit) (h : s.Held) : (SafetyDie.flitArrives s seq f).Held := by
  unfold SafetyDie.flitArrives
  try dsimp only
  repeat' (first
    | with_reducible assumption
    | with_reducible apply SafetyDie.atPoint_held
    | with_reducible apply SafetyDie.flitEffect_held
    | with_reducible apply SafetyDie.receive_held
    | with_reducible apply SafetyDie.takeFlit_held
    | with_reducible apply SafetyDie.foldl_held
    | (simp only [↓SafetyDie.held_mk])
    | with_reducible apply SafetyDie.Held.fields
    | with_reducible exact BrakeHeld.off _ _ _ _ _ _ _ _ _
    | split
    | (rw [id_eq])
    | (intro _))

theorem SafetyDie.itemFlits_held : ∀ (fs : List Flit) (seq : Nat) (s : SafetyDie), s.Held → (SafetyDie.itemFlits fs seq s).1.Held
  | [], _, _, h => h
  | f :: fs, seq, s, h => by
    unfold SafetyDie.itemFlits
    dsimp only
    split
    · refine SafetyDie.itemFlits_held fs (seq + 1) _ ?_
      apply SafetyDie.foldl_held
      · exact SafetyDie.receive_held _ _ _ _ (SafetyDie.atPoint_held _ _ h) (fun _ e => e)
      · exact fun y a hy => SafetyDie.takeFlit_held _ _ hy
    · apply SafetyDie.foldl_held
      · exact SafetyDie.atPoint_held _ _ h
      · exact fun y a hy => SafetyDie.takeFlit_held _ _ hy

theorem SafetyDie.groupAdmit_held (s : SafetyDie) (seq : Nat) (fs : List Flit) (h : s.Held) : (SafetyDie.groupAdmit s seq fs).1.Held := by
  unfold SafetyDie.groupAdmit
  try dsimp only
  repeat' (first
    | with_reducible assumption
    | with_reducible apply SafetyDie.flitCrcError_held
    | with_reducible apply SafetyDie.itemFlits_held
    | with_reducible apply SafetyDie.receive_held
    | with_reducible apply SafetyDie.refuseFlit_held
    | with_reducible apply SafetyDie.foldl_held
    | (simp only [↓SafetyDie.held_mk])
    | with_reducible apply SafetyDie.Held.fields
    | with_reducible exact BrakeHeld.off _ _ _ _ _ _ _ _ _
    | split
    | (rw [id_eq])
    | (intro _))

theorem SafetyDie.groupArrives_held (s : SafetyDie) (seq : Nat) (fs : List Flit) (f : SafetyDie → SafetyDie) (h : s.Held) (h1 : ∀ y : SafetyDie, y.Held → (f y).Held) : (SafetyDie.groupArrives s seq fs f).Held := by
  unfold SafetyDie.groupArrives
  try dsimp only
  repeat' (first
    | with_reducible assumption
    | with_reducible apply SafetyDie.groupAdmit_held
    | with_reducible apply h1
    | with_reducible apply SafetyDie.foldl_held
    | (simp only [↓SafetyDie.held_mk])
    | with_reducible apply SafetyDie.Held.fields
    | with_reducible exact BrakeHeld.off _ _ _ _ _ _ _ _ _
    | split
    | (rw [id_eq])
    | (intro _))

theorem SafetyDie.sorterFlit_held (s : SafetyDie) (seq : Nat) (f : Flit) (split : Bool) (h : s.Held) : (SafetyDie.sorterFlit s seq f split).Held := by
  unfold SafetyDie.sorterFlit
  try dsimp only
  repeat' (first
    | with_reducible assumption
    | with_reducible apply SafetyDie.flitArrives_held
    | with_reducible apply SafetyDie.keeperFault_held
    | with_reducible apply SafetyDie.foldl_held
    | (simp only [↓SafetyDie.held_mk])
    | with_reducible apply SafetyDie.Held.fields
    | with_reducible exact BrakeHeld.off _ _ _ _ _ _ _ _ _
    | split
    | (rw [id_eq])
    | (intro _))

theorem SafetyDie.recordArrives_held (s : SafetyDie) (seq : Nat) (r : EventRec) (h : s.Held) : (SafetyDie.recordArrives s seq r).Held := by
  unfold SafetyDie.recordArrives
  try dsimp only
  repeat' (first
    | with_reducible assumption
    | with_reducible apply SafetyDie.groupArrives_held
    | with_reducible apply SafetyDie.takeRecord_held
    | with_reducible apply SafetyDie.foldl_held
    | (simp only [↓SafetyDie.held_mk])
    | with_reducible apply SafetyDie.Held.fields
    | with_reducible exact BrakeHeld.off _ _ _ _ _ _ _ _ _
    | split
    | (rw [id_eq])
    | (intro _))

theorem SafetyDie.releaseNow_held (s : SafetyDie) (j : Nat) (h : s.Held) : (SafetyDie.releaseNow s j).Held := by
  unfold SafetyDie.releaseNow
  try dsimp only
  repeat' (first
    | with_reducible assumption
    | with_reducible apply SafetyDie.afterItem_held
    | with_reducible apply SafetyDie.chain_held
    | with_reducible apply SafetyDie.takeFlit_held
    | with_reducible apply SafetyDie.foldl_held
    | (simp only [↓SafetyDie.held_mk])
    | with_reducible apply SafetyDie.Held.fields
    | with_reducible exact BrakeHeld.off _ _ _ _ _ _ _ _ _
    | split
    | (rw [id_eq])
    | (intro _))

theorem SafetyDie.trainIn_held (s : SafetyDie) (crcOk : Bool) (h : s.Held) : (SafetyDie.trainIn s crcOk).Held := by
  unfold SafetyDie.trainIn
  try dsimp only
  repeat' (first
    | with_reducible assumption
    | with_reducible apply SafetyDie.put_held
    | with_reducible apply SafetyDie.foldl_held
    | (simp only [↓SafetyDie.held_mk])
    | with_reducible apply SafetyDie.Held.fields
    | with_reducible exact BrakeHeld.off _ _ _ _ _ _ _ _ _
    | split
    | (rw [id_eq])
    | (intro _))

theorem SafetyDie.sendTime_held (s : SafetyDie) (h : s.Held) : (SafetyDie.sendTime s).Held := by
  unfold SafetyDie.sendTime
  try dsimp only
  repeat' (first
    | with_reducible assumption
    | with_reducible apply SafetyDie.sendFlit_held
    | with_reducible apply SafetyDie.foldl_held
    | (simp only [↓SafetyDie.held_mk])
    | with_reducible apply SafetyDie.Held.fields
    | with_reducible exact BrakeHeld.off _ _ _ _ _ _ _ _ _
    | split
    | (rw [id_eq])
    | (intro _))

theorem SafetyDie.ackTimeout_held (s : SafetyDie) (h : s.Held) : (SafetyDie.ackTimeout s).Held := by
  unfold SafetyDie.ackTimeout
  try dsimp only
  repeat' (first
    | with_reducible assumption
    | with_reducible apply SafetyDie.corridorFailure_held
    | with_reducible apply SafetyDie.foldl_held
    | (simp only [↓SafetyDie.held_mk])
    | with_reducible apply SafetyDie.Held.fields
    | with_reducible exact BrakeHeld.off _ _ _ _ _ _ _ _ _
    | split
    | (rw [id_eq])
    | (intro _))

theorem SafetyDie.ackPeriod_held (s : SafetyDie) (h : s.Held) : (SafetyDie.ackPeriod s).Held := by
  unfold SafetyDie.ackPeriod
  try dsimp only
  repeat' (first
    | with_reducible assumption
    | with_reducible apply SafetyDie.sendAck_held
    | with_reducible apply SafetyDie.foldl_held
    | (simp only [↓SafetyDie.held_mk])
    | with_reducible apply SafetyDie.Held.fields
    | with_reducible exact BrakeHeld.off _ _ _ _ _ _ _ _ _
    | split
    | (rw [id_eq])
    | (intro _))

theorem SafetyDie.linkTimeout_held (s : SafetyDie) (h : s.Held) : (SafetyDie.linkTimeout s).Held := by
  unfold SafetyDie.linkTimeout
  try dsimp only
  repeat' (first
    | with_reducible assumption
    | with_reducible apply SafetyDie.corridorFailure_held
    | with_reducible apply SafetyDie.foldl_held
    | (simp only [↓SafetyDie.held_mk])
    | with_reducible apply SafetyDie.Held.fields
    | with_reducible exact BrakeHeld.off _ _ _ _ _ _ _ _ _
    | split
    | (rw [id_eq])
    | (intro _))

theorem SafetyDie.serveQueue_held (s : SafetyDie) (h : s.Held) : (SafetyDie.serveQueue s).Held := by
  unfold SafetyDie.serveQueue
  try dsimp only
  repeat' (first
    | with_reducible assumption
    | with_reducible apply SafetyDie.forEach_held
    | with_reducible apply SafetyDie.killIfDue_held
    | with_reducible apply SafetyDie.stop_held
    | with_reducible apply SafetyDie.token_held
    | with_reducible apply SafetyDie.foldl_held
    | (simp only [↓SafetyDie.held_mk])
    | with_reducible apply SafetyDie.Held.fields
    | with_reducible exact BrakeHeld.off _ _ _ _ _ _ _ _ _
    | split
    | (rw [id_eq])
    | (intro _))

theorem SafetyDie.heartEdge_held (s : SafetyDie) (h : s.Held) : (SafetyDie.heartEdge s).Held := by
  unfold SafetyDie.heartEdge
  try dsimp only
  repeat' (first
    | with_reducible assumption
    | with_reducible apply SafetyDie.trip_held
    | with_reducible apply SafetyDie.foldl_held
    | (simp only [↓SafetyDie.held_mk])
    | with_reducible apply SafetyDie.Held.fields
    | with_reducible exact BrakeHeld.off _ _ _ _ _ _ _ _ _
    | split
    | (rw [id_eq])
    | (intro _))

theorem SafetyDie.heartLoss_held (s : SafetyDie) (h : s.Held) : (SafetyDie.heartLoss s).Held := by
  unfold SafetyDie.heartLoss
  try dsimp only
  repeat' (first
    | with_reducible assumption
    | with_reducible apply SafetyDie.trip_held
    | with_reducible apply SafetyDie.foldl_held
    | (simp only [↓SafetyDie.held_mk])
    | with_reducible apply SafetyDie.Held.fields
    | with_reducible exact BrakeHeld.off _ _ _ _ _ _ _ _ _
    | split
    | (rw [id_eq])
    | (intro _))

theorem SafetyDie.runClock_held (s : SafetyDie) (was : DevState) (h : s.Held) : (SafetyDie.runClock s was).Held := by
  unfold SafetyDie.runClock
  try dsimp only
  repeat' (first
    | with_reducible assumption
    | with_reducible apply SafetyDie.foldl_held
    | (simp only [↓SafetyDie.held_mk])
    | with_reducible apply SafetyDie.Held.fields
    | with_reducible exact BrakeHeld.off _ _ _ _ _ _ _ _ _
    | split
    | (rw [id_eq])
    | (intro _))

theorem Dies.follow_held (x : Dies) (s : SafetyDie) (h : x.sd.Held) (h1 : s.Held) : (Dies.follow x s).sd.Held := by
  unfold Dies.follow
  try dsimp only
  repeat' (first
    | with_reducible assumption
    | with_reducible apply SafetyDie.permitFollow_held
    | with_reducible apply SafetyDie.runClock_held
    | with_reducible apply SafetyDie.tick_held
    | with_reducible apply SafetyDie.foldl_held
    | (simp only [↓SafetyDie.held_mk])
    | with_reducible apply SafetyDie.Held.fields
    | with_reducible exact BrakeHeld.off _ _ _ _ _ _ _ _ _
    | split
    | (rw [id_eq])
    | (intro _))

theorem Dies.onSafety_held (x : Dies) (t : Nat) (f : SafetyDie → SafetyDie) (h : x.sd.Held) (h1 : ∀ y : SafetyDie, y.Held → (f y).Held) : (Dies.onSafety x t f).sd.Held := by
  unfold Dies.onSafety
  try dsimp only
  repeat' (first
    | with_reducible assumption
    | with_reducible apply Dies.follow_held
    | with_reducible apply SafetyDie.tick_held
    | with_reducible apply h1
    | with_reducible apply SafetyDie.foldl_held
    | (simp only [↓SafetyDie.held_mk])
    | with_reducible apply SafetyDie.Held.fields
    | with_reducible exact BrakeHeld.off _ _ _ _ _ _ _ _ _
    | split
    | (rw [id_eq])
    | (intro _))

theorem Dies.onCheck_held (x : Dies) (t : Nat) (f : CheckDie → CheckDie) (h : x.sd.Held) : (Dies.onCheck x t f).sd.Held := by
  unfold Dies.onCheck
  try dsimp only
  repeat' (first
    | with_reducible assumption
    | with_reducible apply SafetyDie.tick_held
    | with_reducible apply SafetyDie.foldl_held
    | (simp only [↓SafetyDie.held_mk])
    | with_reducible apply SafetyDie.Held.fields
    | with_reducible exact BrakeHeld.off _ _ _ _ _ _ _ _ _
    | split
    | (rw [id_eq])
    | (intro _))

theorem Dies.onCheckAny_held (x : Dies) (t : Nat) (f : CheckDie → CheckDie) (h : x.sd.Held) : (Dies.onCheckAny x t f).sd.Held := by
  unfold Dies.onCheckAny
  try dsimp only
  repeat' (first
    | with_reducible assumption
    | with_reducible apply SafetyDie.tick_held
    | with_reducible apply SafetyDie.foldl_held
    | (simp only [↓SafetyDie.held_mk])
    | with_reducible apply SafetyDie.Held.fields
    | with_reducible exact BrakeHeld.off _ _ _ _ _ _ _ _ _
    | split
    | (rw [id_eq])
    | (intro _))

theorem Dies.onLinks_held (x : Dies) (t : Nat) (f : CheckDie → CheckDie) (h : x.sd.Held) : (Dies.onLinks x t f).sd.Held := by
  unfold Dies.onLinks
  try dsimp only
  repeat' (first
    | with_reducible assumption
    | with_reducible apply SafetyDie.tick_held
    | with_reducible apply SafetyDie.foldl_held
    | (simp only [↓SafetyDie.held_mk])
    | with_reducible apply SafetyDie.Held.fields
    | with_reducible exact BrakeHeld.off _ _ _ _ _ _ _ _ _
    | split
    | (rw [id_eq])
    | (intro _))

theorem Dies.onCheckLink_held (x : Dies) (t : Nat) (f : CheckDie → CheckDie) (h : x.sd.Held) : (Dies.onCheckLink x t f).sd.Held := by
  unfold Dies.onCheckLink
  try dsimp only
  repeat' (first
    | with_reducible assumption
    | with_reducible apply Dies.boundaryFollow_held
    | with_reducible apply Dies.onLinks_held
    | with_reducible apply SafetyDie.foldl_held
    | (simp only [↓SafetyDie.held_mk])
    | with_reducible apply SafetyDie.Held.fields
    | with_reducible exact BrakeHeld.off _ _ _ _ _ _ _ _ _
    | split
    | (rw [id_eq])
    | (intro _))

theorem Dies.onSafetyLink_held (x : Dies) (t : Nat) (f : SafetyDie → SafetyDie) (h : x.sd.Held) (h1 : ∀ y : SafetyDie, y.Held → (f y).Held) : (Dies.onSafetyLink x t f).sd.Held := by
  unfold Dies.onSafetyLink
  try dsimp only
  repeat' (first
    | with_reducible assumption
    | with_reducible apply Dies.onSafety_held
    | with_reducible apply SafetyDie.tick_held
    | with_reducible apply h1
    | with_reducible apply SafetyDie.foldl_held
    | (simp only [↓SafetyDie.held_mk])
    | with_reducible apply SafetyDie.Held.fields
    | with_reducible exact BrakeHeld.off _ _ _ _ _ _ _ _ _
    | split
    | (rw [id_eq])
    | (intro _))

theorem SafetyDie.reading_held (s : SafetyDie) (sensor : Nat) (t : Int) (h : s.Held) : (SafetyDie.reading s sensor t).Held := by
  unfold SafetyDie.reading
  try dsimp only
  repeat' (first
    | with_reducible assumption
    | with_reducible apply SafetyDie.foldl_held
    | (simp only [↓SafetyDie.held_mk])
    | with_reducible apply SafetyDie.Held.fields
    | with_reducible exact BrakeHeld.off _ _ _ _ _ _ _ _ _
    | split
    | (rw [id_eq])
    | (intro _))

theorem SafetyDie.startBoot_held (s : SafetyDie) (vbat : Bool) (lost : List GuestItem) (repaired : Bool) (h : s.Held) : (SafetyDie.startBoot s vbat lost repaired).Held := by
  unfold SafetyDie.startBoot
  dsimp only
  split
  · exact SafetyDie.raise_held _ _ _ _ _ _ (SafetyDie.settled _)
  · exact SafetyDie.settled _

theorem SafetyDie.por_held (s : SafetyDie) (vbat : Bool) (lost : List GuestItem) (repaired : Bool) (h : s.Held) : (SafetyDie.por s vbat lost repaired).Held := by
  unfold SafetyDie.por
  try dsimp only
  repeat' (first
    | with_reducible assumption
    | with_reducible apply SafetyDie.restartAll_held
    | with_reducible apply SafetyDie.startBoot_held
    | with_reducible apply SafetyDie.foldl_held
    | (simp only [↓SafetyDie.held_mk])
    | with_reducible apply SafetyDie.Held.fields
    | with_reducible exact BrakeHeld.off _ _ _ _ _ _ _ _ _
    | split
    | (rw [id_eq])
    | (intro _))

theorem SafetyDie.supplyTrip_held (s : SafetyDie) (h : s.Held) : (SafetyDie.supplyTrip s).Held := by
  unfold SafetyDie.supplyTrip
  try dsimp only
  repeat' (first
    | with_reducible assumption
    | with_reducible apply SafetyDie.restartAll_held
    | with_reducible apply SafetyDie.foldl_held
    | (simp only [↓SafetyDie.held_mk])
    | with_reducible apply SafetyDie.Held.fields
    | with_reducible exact BrakeHeld.off _ _ _ _ _ _ _ _ _
    | split
    | (rw [id_eq])
    | (intro _))

theorem SafetyDie.resetN_held (s : SafetyDie) (ns : Nat) (h : s.Held) : (SafetyDie.resetN s ns).Held := by
  unfold SafetyDie.resetN
  try dsimp only
  repeat' (first
    | with_reducible assumption
    | with_reducible apply SafetyDie.restartAll_held
    | with_reducible apply SafetyDie.foldl_held
    | (simp only [↓SafetyDie.held_mk])
    | with_reducible apply SafetyDie.Held.fields
    | with_reducible exact BrakeHeld.off _ _ _ _ _ _ _ _ _
    | split
    | (rw [id_eq])
    | (intro _))

theorem SafetyDie.resetNEnd_held (s : SafetyDie) (lost : List GuestItem) (repaired : Bool) (h : s.Held) : (SafetyDie.resetNEnd s lost repaired).Held := by
  unfold SafetyDie.resetNEnd
  try dsimp only
  repeat' (first
    | with_reducible assumption
    | with_reducible apply SafetyDie.startBoot_held
    | with_reducible apply SafetyDie.foldl_held
    | (simp only [↓SafetyDie.held_mk])
    | with_reducible apply SafetyDie.Held.fields
    | with_reducible exact BrakeHeld.off _ _ _ _ _ _ _ _ _
    | split
    | (rw [id_eq])
    | (intro _))

theorem SafetyDie.safetyEnd_held (s : SafetyDie) (lost : List GuestItem) (repaired : Bool) (h : s.Held) : (SafetyDie.safetyEnd s lost repaired).Held := by
  unfold SafetyDie.safetyEnd
  try dsimp only
  repeat' (first
    | with_reducible assumption
    | with_reducible apply SafetyDie.startBoot_held
    | with_reducible apply SafetyDie.foldl_held
    | (simp only [↓SafetyDie.held_mk])
    | with_reducible apply SafetyDie.Held.fields
    | with_reducible exact BrakeHeld.off _ _ _ _ _ _ _ _ _
    | split
    | (rw [id_eq])
    | (intro _))

theorem SafetyDie.warmRestart_held (s : SafetyDie) (g : GuestBook) (h : s.Held) : (SafetyDie.warmRestart s g).Held := by
  unfold SafetyDie.warmRestart
  try dsimp only
  repeat' (first
    | with_reducible assumption
    | with_reducible apply SafetyDie.restartAll_held
    | with_reducible apply SafetyDie.startBoot_held
    | with_reducible apply SafetyDie.foldl_held
    | (simp only [↓SafetyDie.held_mk])
    | with_reducible apply SafetyDie.Held.fields
    | with_reducible exact BrakeHeld.off _ _ _ _ _ _ _ _ _
    | split
    | (rw [id_eq])
    | (intro _))

theorem SafetyDie.warmReset_held (s : SafetyDie) (h : s.Held) : (SafetyDie.warmReset s).Held := by
  unfold SafetyDie.warmReset
  try dsimp only
  repeat' (first
    | with_reducible assumption
    | with_reducible apply SafetyDie.warmRestart_held
    | with_reducible apply SafetyDie.foldl_held
    | (simp only [↓SafetyDie.held_mk])
    | with_reducible apply SafetyDie.Held.fields
    | with_reducible exact BrakeHeld.off _ _ _ _ _ _ _ _ _
    | split
    | (rw [id_eq])
    | (intro _))

theorem SafetyDie.powerOn_held (s : SafetyDie) (h : s.Held) : (SafetyDie.powerOn s).Held := by
  unfold SafetyDie.powerOn
  try dsimp only
  repeat' (first
    | with_reducible assumption
    | with_reducible apply SafetyDie.foldl_held
    | (simp only [↓SafetyDie.held_mk])
    | with_reducible apply SafetyDie.Held.fields
    | with_reducible exact BrakeHeld.off _ _ _ _ _ _ _ _ _
    | split
    | (rw [id_eq])
    | (intro _))

theorem SafetyDie.bootKeeper_held (s : SafetyDie) (keys : List Octets) (h : s.Held) : (SafetyDie.bootKeeper s keys).Held := by
  unfold SafetyDie.bootKeeper
  dsimp only
  split
  · exact SafetyDie.raise_held _ _ _ _ _ _ (fun e => let ⟨a1, a2, a3, a4, a5, a6, a7, _, a9⟩ := h e; ⟨a1, a2, a3, a4, a5, a6, a7, rfl, a9⟩)
  · exact fun e => let ⟨a1, a2, a3, a4, a5, a6, a7, _, a9⟩ := h e; ⟨a1, a2, a3, a4, a5, a6, a7, rfl, a9⟩

theorem SafetyDie.readStore_held (s : SafetyDie) (c : StoreRead) (h : s.Held) : (SafetyDie.readStore s c).Held := by
  unfold SafetyDie.readStore
  try dsimp only
  repeat' (first
    | with_reducible assumption
    | with_reducible apply SafetyDie.raise_held
    | with_reducible apply SafetyDie.foldl_held
    | (simp only [↓SafetyDie.held_mk])
    | with_reducible apply SafetyDie.Held.fields
    | with_reducible exact BrakeHeld.off _ _ _ _ _ _ _ _ _
    | split
    | (rw [id_eq])
    | (intro _))

/-- The P store read and the keeper configured leave BRK_B. -/
theorem SafetyDie.bootKeeper_onB (s : SafetyDie) (store : StoreRead) (keys : List Octets) :
    ((s.readStore store).bootKeeper keys).brake.onB = s.brake.onB := by
  have h1 : (s.readStore store).brake.onB = s.brake.onB := by
    unfold SafetyDie.readStore
    split
    · rfl
    · rfl
    · exact SafetyDie.raise_onB _ _ _ _ _ _
  unfold SafetyDie.bootKeeper
  dsimp only
  split
  · exact (SafetyDie.raise_onB _ _ _ _ _ _).trans h1
  · exact h1


theorem SafetyDie.imageChecked_held (s : SafetyDie) (fault : Nat) (store : StoreRead) (keys : List Octets) (h : s.Held) : (SafetyDie.imageChecked s fault store keys).Held := by
  unfold SafetyDie.imageChecked
  split
  · exact h
  · next d =>
    have h0 : s.brake.onB = false := by
      apply h.off
      intro e
      apply d
      left
      rw [e]
      decide
    extract_lets code b s1
    split
    · exact SafetyDie.powerOn_held _ (SafetyDie.Held.of_off h0)
    · have h1 : s1.brake.onB = false := (SafetyDie.bootKeeper_onB _ _ _).trans h0
      clear_value s1
      exact SafetyDie.powerOn_held _ (SafetyDie.rcFollow_held _ (SafetyDie.Held.of_off h1))

theorem Dies.bootFences_held (x : Dies) (store : StoreRead) (h : x.sd.Held) : (Dies.bootFences x store).sd.Held := by
  unfold Dies.bootFences SafetyDie.setGuest
  try dsimp only
  repeat' (first
    | with_reducible assumption
    | with_reducible apply SafetyDie.forEach_held
    | with_reducible apply SafetyDie.foldl_held
    | (simp only [↓SafetyDie.held_mk])
    | with_reducible apply SafetyDie.Held.fields
    | with_reducible exact BrakeHeld.off _ _ _ _ _ _ _ _ _
    | split
    | (rw [id_eq])
    | (intro _))

theorem Dies.imageChecked_held (x : Dies) (fault : Nat) (store : StoreRead) (keys : List Octets) (h : x.sd.Held) : (Dies.imageChecked x fault store keys).sd.Held := by
  unfold Dies.imageChecked
  try dsimp only
  repeat' (first
    | with_reducible assumption
    | with_reducible apply Dies.bootFences_held
    | with_reducible apply Dies.follow_held
    | with_reducible apply SafetyDie.imageChecked_held
    | with_reducible apply SafetyDie.foldl_held
    | (simp only [↓SafetyDie.held_mk])
    | with_reducible apply SafetyDie.Held.fields
    | with_reducible exact BrakeHeld.off _ _ _ _ _ _ _ _ _
    | split
    | (rw [id_eq])
    | (intro _))

theorem SafetyDie.selftestDone_held (s : SafetyDie) (report : SelftestReport) (outs ms : Nat) (h : s.Held) : (SafetyDie.selftestDone s report outs ms).Held := by
  unfold SafetyDie.selftestDone
  split
  · exact h
  · next d =>
    extract_lets f b s1 s2 s3 s4
    have h0 : s.brake.onB = false := h.off (fun e => d (.inl (by rw [e]; decide)))
    have h2 : s2.brake.onB = false := by
      unfold s2
      split
      · exact SafetyDie.settle_off _ (by show DevState.run ≠ s.device; intro e; exact d (.inl (by rw [← e]; decide)))
      · exact h0
    have h3 : s3.brake.onB = false := by
      unfold s3
      split
      · exact (SafetyDie.raise_onB _ _ _ _ _ _).trans h2
      · exact h2
    have h4 : s4.brake.onB = false := by
      unfold s4
      split <;> exact h3
    split
    · exact SafetyDie.Held.of_off h4
    · exact SafetyDie.tryReady_held _ (SafetyDie.Held.of_off h4)

theorem Dies.killHoldEnd_held (x : Dies) (h : x.sd.Held) : (Dies.killHoldEnd x).sd.Held := by
  unfold Dies.killHoldEnd
  try dsimp only
  repeat' (first
    | with_reducible assumption
    | with_reducible apply Dies.release_held
    | with_reducible apply SafetyDie.powerOn_held
    | with_reducible apply SafetyDie.release_held
    | with_reducible apply SafetyDie.foldl_held
    | (simp only [↓SafetyDie.held_mk])
    | with_reducible apply SafetyDie.Held.fields
    | with_reducible exact BrakeHeld.off _ _ _ _ _ _ _ _ _
    | split
    | (rw [id_eq])
    | (intro _))

theorem SafetyDie.pgRise_held (s : SafetyDie) (h : s.Held) : (SafetyDie.pgRise s).Held := by
  unfold SafetyDie.pgRise
  try dsimp only
  repeat' (first
    | with_reducible assumption
    | with_reducible apply SafetyDie.foldl_held
    | (simp only [↓SafetyDie.held_mk])
    | with_reducible apply SafetyDie.Held.fields
    | with_reducible exact BrakeHeld.off _ _ _ _ _ _ _ _ _
    | split
    | (rw [id_eq])
    | (intro _))

theorem SafetyDie.pgFall_held (s : SafetyDie) (h : s.Held) : (SafetyDie.pgFall s).Held := by
  unfold SafetyDie.pgFall
  try dsimp only
  repeat' (first
    | with_reducible assumption
    | with_reducible apply SafetyDie.trip_held
    | with_reducible apply SafetyDie.foldl_held
    | (simp only [↓SafetyDie.held_mk])
    | with_reducible apply SafetyDie.Held.fields
    | with_reducible exact BrakeHeld.off _ _ _ _ _ _ _ _ _
    | split
    | (rw [id_eq])
    | (intro _))

theorem SafetyDie.pgTimeout_held (s : SafetyDie) (h : s.Held) : (SafetyDie.pgTimeout s).Held := by
  unfold SafetyDie.pgTimeout
  split
  · dsimp only
    split
    · next d => exact SafetyDie.Held.of_off (h.off (by rw [d]; decide))
    · exact h
  · exact h

theorem Dies.resetRelease_held (x : Dies) (h : x.sd.Held) : (Dies.resetRelease x).sd.Held := by
  unfold Dies.resetRelease
  try dsimp only
  repeat' (first
    | with_reducible assumption
    | with_reducible apply Dies.release_held
    | with_reducible apply SafetyDie.release_held
    | with_reducible apply SafetyDie.foldl_held
    | (simp only [↓SafetyDie.held_mk])
    | with_reducible apply SafetyDie.Held.fields
    | with_reducible exact BrakeHeld.off _ _ _ _ _ _ _ _ _
    | split
    | (rw [id_eq])
    | (intro _))

theorem SafetyDie.sendOd_held (s : SafetyDie) (slot path origin : Nat) (b : Octets) (h : s.Held) : (SafetyDie.sendOd s slot path origin b).Held := by
  unfold SafetyDie.sendOd
  try dsimp only
  repeat' (first
    | with_reducible assumption
    | with_reducible apply SafetyDie.put_held
    | with_reducible apply SafetyDie.sendFlits_held
    | with_reducible apply SafetyDie.foldl_held
    | (simp only [↓SafetyDie.held_mk])
    | with_reducible apply SafetyDie.Held.fields
    | with_reducible exact BrakeHeld.off _ _ _ _ _ _ _ _ _
    | split
    | (rw [id_eq])
    | (intro _))

theorem SafetyDie.respond_held (s : SafetyDie) (slot : Nat) (r : Req) (status : Nat) (data : Octets) (last : Bool) (h : s.Held) : (SafetyDie.respond s slot r status data last).Held := by
  unfold SafetyDie.respond
  try dsimp only
  repeat' (first
    | with_reducible assumption
    | with_reducible apply SafetyDie.sendOd_held
    | with_reducible apply SafetyDie.setSession_held
    | with_reducible apply SafetyDie.status_held
    | with_reducible apply SafetyDie.foldl_held
    | (simp only [↓SafetyDie.held_mk])
    | with_reducible apply SafetyDie.Held.fields
    | with_reducible exact BrakeHeld.off _ _ _ _ _ _ _ _ _
    | split
    | (rw [id_eq])
    | (intro _))

theorem SafetyDie.answerBusy_held (s : SafetyDie) (slot status : Nat) (data : Octets) (h : s.Held) : (SafetyDie.answerBusy s slot status data).Held := by
  unfold SafetyDie.answerBusy
  try dsimp only
  repeat' (first
    | with_reducible assumption
    | with_reducible apply SafetyDie.respond_held
    | with_reducible apply SafetyDie.status_held
    | with_reducible apply SafetyDie.updSession_held
    | with_reducible apply SafetyDie.foldl_held
    | (simp only [↓SafetyDie.held_mk])
    | with_reducible apply SafetyDie.Held.fields
    | with_reducible exact BrakeHeld.off _ _ _ _ _ _ _ _ _
    | split
    | (rw [id_eq])
    | (intro _))

theorem SafetyDie.commitDone_held (s : SafetyDie) (h : s.Held) : (SafetyDie.commitDone s).Held := by
  unfold SafetyDie.commitDone SafetyDie.setGuest
  try dsimp only
  repeat' (first
    | with_reducible assumption
    | with_reducible apply SafetyDie.answerBusy_held
    | with_reducible apply SafetyDie.status_held
    | with_reducible apply SafetyDie.foldl_held
    | (simp only [↓SafetyDie.held_mk])
    | with_reducible apply SafetyDie.Held.fields
    | with_reducible exact BrakeHeld.off _ _ _ _ _ _ _ _ _
    | split
    | (rw [id_eq])
    | (intro _))

theorem SafetyDie.commitAcked_held (s : SafetyDie) (h : s.Held) : (SafetyDie.commitAcked s).Held := by
  unfold SafetyDie.commitAcked
  try dsimp only
  repeat' (first
    | with_reducible assumption
    | with_reducible apply SafetyDie.commitDone_held
    | with_reducible apply SafetyDie.foldl_held
    | (simp only [↓SafetyDie.held_mk])
    | with_reducible apply SafetyDie.Held.fields
    | with_reducible exact BrakeHeld.off _ _ _ _ _ _ _ _ _
    | split
    | (rw [id_eq])
    | (intro _))

theorem Dies.tick_held (x : Dies) (t : Nat) (h : x.sd.Held) : (Dies.tick x t).sd.Held := by
  unfold Dies.tick
  try dsimp only
  repeat' (first
    | with_reducible assumption
    | with_reducible apply SafetyDie.tick_held
    | with_reducible apply SafetyDie.foldl_held
    | (simp only [↓SafetyDie.held_mk])
    | with_reducible apply SafetyDie.Held.fields
    | with_reducible exact BrakeHeld.off _ _ _ _ _ _ _ _ _
    | split
    | (rw [id_eq])
    | (intro _))

theorem Dies.resetEnd_held (x : Dies) (bad fails : List (Nat × Nat)) (h : x.sd.Held) : (Dies.resetEnd x bad fails).sd.Held := by
  unfold Dies.resetEnd SafetyDie.setGuest
  try dsimp only
  repeat' (first
    | with_reducible assumption
    | with_reducible apply Dies.follow_held
    | with_reducible apply Dies.tick_held
    | with_reducible apply SafetyDie.commitDone_held
    | with_reducible apply SafetyDie.raise_held
    | with_reducible apply SafetyDie.takeSet_held
    | with_reducible apply SafetyDie.tick_held
    | with_reducible apply SafetyDie.foldl_held
    | (simp only [↓SafetyDie.held_mk])
    | with_reducible apply SafetyDie.Held.fields
    | with_reducible exact BrakeHeld.off _ _ _ _ _ _ _ _ _
    | split
    | (rw [id_eq])
    | (intro _))

theorem SafetyDie.selfRefresh_held (s : SafetyDie) (h : s.Held) : (SafetyDie.selfRefresh s).Held := by
  unfold SafetyDie.selfRefresh
  try dsimp only
  repeat' (first
    | with_reducible assumption
    | with_reducible apply SafetyDie.assertKill_held
    | with_reducible apply SafetyDie.foldl_held
    | (simp only [↓SafetyDie.held_mk])
    | with_reducible apply SafetyDie.Held.fields
    | with_reducible exact BrakeHeld.off _ _ _ _ _ _ _ _ _
    | split
    | (rw [id_eq])
    | (intro _))

theorem SafetyDie.wakeDeep_held (s : SafetyDie) (h : s.Held) : (SafetyDie.wakeDeep s).Held := by
  exact SafetyDie.powerOn_held _ (fun e => let ⟨a1, a2, a3, a4, _, a6⟩ := h e; ⟨a1, a2, a3, a4, rfl, a6⟩)

theorem SafetyDie.sleepDone_held (s : SafetyDie) (h : s.Held) : (SafetyDie.sleepDone s).Held := by
  unfold SafetyDie.sleepDone
  try dsimp only
  repeat' (first
    | with_reducible assumption
    | with_reducible apply SafetyDie.wakeDeep_held
    | with_reducible apply SafetyDie.foldl_held
    | (simp only [↓SafetyDie.held_mk])
    | with_reducible apply SafetyDie.Held.fields
    | with_reducible exact BrakeHeld.off _ _ _ _ _ _ _ _ _
    | split
    | (rw [id_eq])
    | (intro _))

theorem SafetyDie.killPower_held (s : SafetyDie) (h : s.Held) : (SafetyDie.killPower s).Held := by
  unfold SafetyDie.killPower
  try dsimp only
  repeat' (first
    | with_reducible assumption
    | with_reducible apply SafetyDie.sleepDone_held
    | with_reducible apply SafetyDie.foldl_held
    | (simp only [↓SafetyDie.held_mk])
    | with_reducible apply SafetyDie.Held.fields
    | with_reducible exact BrakeHeld.off _ _ _ _ _ _ _ _ _
    | split
    | (rw [id_eq])
    | (intro _))

theorem SafetyDie.sleepDue_held (s : SafetyDie) (h : s.Held) : (SafetyDie.sleepDue s).Held := by
  unfold SafetyDie.sleepDue
  try dsimp only
  repeat' (first
    | with_reducible assumption
    | with_reducible apply SafetyDie.assertKill_held
    | with_reducible apply SafetyDie.foldl_held
    | (simp only [↓SafetyDie.held_mk])
    | with_reducible apply SafetyDie.Held.fields
    | with_reducible exact BrakeHeld.off _ _ _ _ _ _ _ _ _
    | split
    | (rw [id_eq])
    | (intro _))

/-- Disarming leaves BRK_B. -/
theorem SafetyDie.dropInjectors_onB (s : SafetyDie) : s.dropInjectors.brake.onB = s.brake.onB := by
  have key : ∀ (l : List ArmedInj) (f : SafetyDie → ArmedInj → SafetyDie) (_ : ∀ y a, (f y a).brake.onB = y.brake.onB) (y : SafetyDie),
      (l.foldl f y).brake.onB = y.brake.onB := by
    intro l f hf
    induction l with
    | nil => exact fun _ => rfl
    | cons a l ih => exact fun y => (ih _).trans (hf _ _)
  exact key _ _ (fun _ _ => SafetyDie.raise_onB _ _ _ _ _ _) s

theorem Dies.sleep_held (x : Dies) (p : PowerState) (h : x.sd.Held) : (Dies.sleep x p).sd.Held := by
  unfold Dies.sleep
  extract_lets s0 s1 z s2 w g s3 y c c2
  have h3 : s3.Held := SafetyDie.Held.of_off ((SafetyDie.dropInjectors_onB s2).trans (SafetyDie.channelsOff_onB s1))
  clear_value s3
  have hy : y.sd.Held := Dies.follow_held _ _ h h3
  clear_value y
  split
  · exact hy
  · exact hy

theorem Dies.wakeRetain_held (x : Dies) (h : x.sd.Held) : (Dies.wakeRetain x).sd.Held := by
  unfold Dies.wakeRetain
  try dsimp only
  repeat' (first
    | with_reducible assumption
    | with_reducible apply SafetyDie.flushLog_held
    | with_reducible apply SafetyDie.hostResume_held
    | with_reducible apply SafetyDie.sendTime_held
    | with_reducible apply SafetyDie.settle_held
    | with_reducible apply SafetyDie.tick_held
    | with_reducible apply SafetyDie.foldl_held
    | (simp only [↓SafetyDie.held_mk])
    | with_reducible apply SafetyDie.Held.fields
    | with_reducible exact BrakeHeld.off _ _ _ _ _ _ _ _ _
    | split
    | (rw [id_eq])
    | (intro _))

theorem Dies.wake_held (x : Dies) (source : Nat) (h : x.sd.Held) : (Dies.wake x source).sd.Held := by
  unfold Dies.wake
  try dsimp only
  repeat' (first
    | with_reducible assumption
    | with_reducible apply Dies.wakeRetain_held
    | with_reducible apply SafetyDie.wakeDeep_held
    | with_reducible apply SafetyDie.foldl_held
    | (simp only [↓SafetyDie.held_mk])
    | with_reducible apply SafetyDie.Held.fields
    | with_reducible exact BrakeHeld.off _ _ _ _ _ _ _ _ _
    | split
    | (rw [id_eq])
    | (intro _))

theorem Dies.clockLoss_held (x : Dies) (t which : Nat) (h : x.sd.Held) : (Dies.clockLoss x t which).sd.Held := by
  unfold Dies.clockLoss
  try dsimp only
  repeat' (first
    | with_reducible assumption
    | with_reducible apply Dies.onCheckAny_held
    | with_reducible apply Dies.onSafety_held
    | with_reducible apply SafetyDie.safetyReset_held
    | with_reducible apply SafetyDie.foldl_held
    | (simp only [↓SafetyDie.held_mk])
    | with_reducible apply SafetyDie.Held.fields
    | with_reducible exact BrakeHeld.off _ _ _ _ _ _ _ _ _
    | split
    | (rw [id_eq])
    | (intro _))

theorem SafetyDie.thermalWarn_held (s : SafetyDie) (sensor : Nat) (t : Int) (h : s.Held) : (SafetyDie.thermalWarn s sensor t).Held := by
  unfold SafetyDie.thermalWarn
  try dsimp only
  repeat' (first
    | with_reducible assumption
    | with_reducible apply SafetyDie.raise_held
    | with_reducible apply SafetyDie.reading_held
    | with_reducible apply SafetyDie.foldl_held
    | (simp only [↓SafetyDie.held_mk])
    | with_reducible apply SafetyDie.Held.fields
    | with_reducible exact BrakeHeld.off _ _ _ _ _ _ _ _ _
    | split
    | (rw [id_eq])
    | (intro _))

theorem SafetyDie.thermalClear_held (s : SafetyDie) (sensor : Nat) (t : Int) (h : s.Held) : (SafetyDie.thermalClear s sensor t).Held := by
  unfold SafetyDie.thermalClear
  try dsimp only
  repeat' (first
    | with_reducible assumption
    | with_reducible apply SafetyDie.raise_held
    | with_reducible apply SafetyDie.reading_held
    | with_reducible apply SafetyDie.foldl_held
    | (simp only [↓SafetyDie.held_mk])
    | with_reducible apply SafetyDie.Held.fields
    | with_reducible exact BrakeHeld.off _ _ _ _ _ _ _ _ _
    | split
    | (rw [id_eq])
    | (intro _))

theorem Dies.checkThermal_held (x : Dies) (t sensor : Nat) (v : Int) (h : x.sd.Held) : (Dies.checkThermal x t sensor v).sd.Held := by
  unfold Dies.checkThermal
  try dsimp only
  repeat' (first
    | with_reducible assumption
    | with_reducible apply Dies.onCheckAny_held
    | with_reducible apply SafetyDie.reading_held
    | with_reducible apply SafetyDie.tick_held
    | with_reducible apply SafetyDie.foldl_held
    | (simp only [↓SafetyDie.held_mk])
    | with_reducible apply SafetyDie.Held.fields
    | with_reducible exact BrakeHeld.off _ _ _ _ _ _ _ _ _
    | split
    | (rw [id_eq])
    | (intro _))

theorem SafetyDie.safetyThermal_held (s : SafetyDie) (sensor : Nat) (v : Int) (h : s.Held) : (SafetyDie.safetyThermal s sensor v).Held := by
  unfold SafetyDie.safetyThermal
  try dsimp only
  repeat' (first
    | with_reducible assumption
    | with_reducible apply Dies.clockLoss_held
    | with_reducible apply SafetyDie.reading_held
    | with_reducible apply SafetyDie.safetyReset_held
    | with_reducible apply SafetyDie.foldl_held
    | (simp only [↓SafetyDie.held_mk])
    | with_reducible apply SafetyDie.Held.fields
    | with_reducible exact BrakeHeld.off _ _ _ _ _ _ _ _ _
    | split
    | (rw [id_eq])
    | (intro _))

theorem SafetyDie.temperatureResume_held (s : SafetyDie) (l : List (Nat × Int)) (h : s.Held) : (SafetyDie.temperatureResume s l).Held := by
  unfold SafetyDie.temperatureResume
  try dsimp only
  repeat' (first
    | with_reducible assumption
    | with_reducible apply SafetyDie.forEach_held
    | with_reducible apply SafetyDie.reading_held
    | with_reducible apply SafetyDie.foldl_held
    | (simp only [↓SafetyDie.held_mk])
    | with_reducible apply SafetyDie.Held.fields
    | with_reducible exact BrakeHeld.off _ _ _ _ _ _ _ _ _
    | split
    | (rw [id_eq])
    | (intro _))

theorem SafetyDie.setRtc_held (s : SafetyDie) (gts : Nat) (h : s.Held) : (SafetyDie.setRtc s gts).Held := by
  unfold SafetyDie.setRtc SafetyDie.setGuest
  try dsimp only
  repeat' (first
    | with_reducible assumption
    | with_reducible apply SafetyDie.btPass_held
    | with_reducible apply SafetyDie.foldl_held
    | (simp only [↓SafetyDie.held_mk])
    | with_reducible apply SafetyDie.Held.fields
    | with_reducible exact BrakeHeld.off _ _ _ _ _ _ _ _ _
    | split
    | (rw [id_eq])
    | (intro _))

theorem Dies.rtcSet_held (x : Dies) (h : x.sd.Held) : (Dies.rtcSet x).sd.Held := by
  unfold Dies.rtcSet
  try dsimp only
  repeat' (first
    | with_reducible assumption
    | with_reducible apply SafetyDie.setRtc_held
    | with_reducible apply SafetyDie.foldl_held
    | (simp only [↓SafetyDie.held_mk])
    | with_reducible apply SafetyDie.Held.fields
    | with_reducible exact BrakeHeld.off _ _ _ _ _ _ _ _ _
    | split
    | (rw [id_eq])
    | (intro _))

theorem SafetyDie.serve_held (s : SafetyDie) (h : s.Held) : (SafetyDie.serve s).Held := by
  unfold SafetyDie.serve
  try dsimp only
  repeat' (first
    | with_reducible assumption
    | with_reducible apply SafetyDie.serveQueue_held
    | with_reducible apply SafetyDie.sleepDone_held
    | with_reducible apply SafetyDie.sleepDue_held
    | with_reducible apply SafetyDie.foldl_held
    | (simp only [↓SafetyDie.held_mk])
    | with_reducible apply SafetyDie.Held.fields
    | with_reducible exact BrakeHeld.off _ _ _ _ _ _ _ _ _
    | split
    | (rw [id_eq])
    | (intro _))

theorem Dies.pruneArmed_held (x : Dies) (h : x.sd.Held) : (Dies.pruneArmed x).sd.Held := by
  unfold Dies.pruneArmed
  try dsimp only
  repeat' (first
    | with_reducible assumption
    | with_reducible apply SafetyDie.foldl_held
    | (simp only [↓SafetyDie.held_mk])
    | with_reducible apply SafetyDie.Held.fields
    | with_reducible exact BrakeHeld.off _ _ _ _ _ _ _ _ _
    | split
    | (rw [id_eq])
    | (intro _))

theorem SafetyDie.refuseSet_held (s : SafetyDie) (why : Nat × Nat) (h : s.Held) : (SafetyDie.refuseSet s why).Held := by
  unfold SafetyDie.refuseSet
  try dsimp only
  repeat' (first
    | with_reducible assumption
    | with_reducible apply SafetyDie.status_held
    | with_reducible apply SafetyDie.foldl_held
    | (simp only [↓SafetyDie.held_mk])
    | with_reducible apply SafetyDie.Held.fields
    | with_reducible exact BrakeHeld.off _ _ _ _ _ _ _ _ _
    | split
    | (rw [id_eq])
    | (intro _))

theorem Dies.commitCrc_held (x : Dies) (crc : Nat) (h : x.sd.Held) : (Dies.commitCrc x crc).1.sd.Held := by
  unfold Dies.commitCrc
  try dsimp only
  repeat' (first
    | with_reducible assumption
    | with_reducible apply SafetyDie.refuseSet_held
    | with_reducible apply SafetyDie.status_held
    | with_reducible apply SafetyDie.foldl_held
    | (simp only [↓SafetyDie.held_mk])
    | with_reducible apply SafetyDie.Held.fields
    | with_reducible exact BrakeHeld.off _ _ _ _ _ _ _ _ _
    | split
    | (rw [id_eq])
    | (intro _))

theorem Dies.storing_held (x : Dies) (slot : Nat) (w : StoreWork) (h : x.sd.Held) : (Dies.storing x slot w).1.sd.Held := by
  unfold Dies.storing
  try dsimp only
  repeat' (first
    | with_reducible assumption
    | with_reducible apply SafetyDie.foldl_held
    | (simp only [↓SafetyDie.held_mk])
    | with_reducible apply SafetyDie.Held.fields
    | with_reducible exact BrakeHeld.off _ _ _ _ _ _ _ _ _
    | split
    | (rw [id_eq])
    | (intro _))

theorem SafetyDie.writeStore_held (s : SafetyDie) (f : OdStore → OdStore) (keys : Tbl Octets) (h : s.Held) : (SafetyDie.writeStore s f keys).Held := by
  unfold SafetyDie.writeStore
  try dsimp only
  repeat' (first
    | with_reducible assumption
    | with_reducible apply SafetyDie.foldl_held
    | (simp only [↓SafetyDie.held_mk])
    | with_reducible apply SafetyDie.Held.fields
    | with_reducible exact BrakeHeld.off _ _ _ _ _ _ _ _ _
    | split
    | (rw [id_eq])
    | (intro _))

theorem SafetyDie.commitStored_held (s : SafetyDie) (ok : Bool) (h : s.Held) : (SafetyDie.commitStored s ok).Held := by
  unfold SafetyDie.commitStored
  try dsimp only
  repeat' (first
    | with_reducible assumption
    | with_reducible apply Dies.storing_held
    | with_reducible apply SafetyDie.answerBusy_held
    | with_reducible apply SafetyDie.discardStage_held
    | with_reducible apply SafetyDie.refuseSet_held
    | with_reducible apply SafetyDie.sendEpoch_held
    | with_reducible apply SafetyDie.sendFlits_held
    | with_reducible apply SafetyDie.stepEpoch_held
    | with_reducible apply SafetyDie.undoStores_held
    | with_reducible apply SafetyDie.writeStore_held
    | with_reducible apply SafetyDie.foldl_held
    | (simp only [↓SafetyDie.held_mk])
    | with_reducible apply SafetyDie.Held.fields
    | with_reducible exact BrakeHeld.off _ _ _ _ _ _ _ _ _
    | split
    | (rw [id_eq])
    | (intro _))

theorem Dies.say_held (x : Dies) (st : OdStatus) (h : x.sd.Held) : (Dies.say x st).1.sd.Held := by
  unfold Dies.say
  try dsimp only
  repeat' (first
    | with_reducible assumption
    | with_reducible apply SafetyDie.status_held
    | with_reducible apply SafetyDie.foldl_held
    | (simp only [↓SafetyDie.held_mk])
    | with_reducible apply SafetyDie.Held.fields
    | with_reducible exact BrakeHeld.off _ _ _ _ _ _ _ _ _
    | split
    | (rw [id_eq])
    | (intro _))

theorem Dies.done_held (x : Dies) (h : x.sd.Held) : (Dies.done x).1.sd.Held := by
  unfold Dies.done
  try dsimp only
  repeat' (first
    | with_reducible assumption
    | with_reducible apply SafetyDie.status_held
    | with_reducible apply SafetyDie.foldl_held
    | (simp only [↓SafetyDie.held_mk])
    | with_reducible apply SafetyDie.Held.fields
    | with_reducible exact BrakeHeld.off _ _ _ _ _ _ _ _ _
    | split
    | (rw [id_eq])
    | (intro _))

theorem Dies.safety_held (x : Dies) (f : SafetyDie → SafetyDie) (h : x.sd.Held) (h1 : ∀ y : SafetyDie, y.Held → (f y).Held) : (Dies.safety x f).sd.Held := by
  unfold Dies.safety
  try dsimp only
  repeat' (first
    | with_reducible assumption
    | with_reducible apply Dies.follow_held
    | with_reducible apply h1
    | with_reducible apply SafetyDie.foldl_held
    | (simp only [↓SafetyDie.held_mk])
    | with_reducible apply SafetyDie.Held.fields
    | with_reducible exact BrakeHeld.off _ _ _ _ _ _ _ _ _
    | split
    | (rw [id_eq])
    | (intro _))

theorem Dies.check_held (x : Dies) (f : CheckDie → CheckDie) (h : x.sd.Held) : (Dies.check x f).sd.Held := by
  unfold Dies.check
  try dsimp only
  repeat' (first
    | with_reducible assumption
    | with_reducible apply SafetyDie.foldl_held
    | (simp only [↓SafetyDie.held_mk])
    | with_reducible apply SafetyDie.Held.fields
    | with_reducible exact BrakeHeld.off _ _ _ _ _ _ _ _ _
    | split
    | (rw [id_eq])
    | (intro _))

theorem Dies.readOctets_held (x : Dies) (slot path key off : Nat) (snap : Option (Nat × Octets × Nat × Nat)) (v : Octets) (h : x.sd.Held) : (Dies.readOctets x slot path key off snap v).1.sd.Held := by
  unfold Dies.readOctets
  try dsimp only
  repeat' (first
    | with_reducible assumption
    | with_reducible apply SafetyDie.status_held
    | with_reducible apply SafetyDie.updSession_held
    | with_reducible apply SafetyDie.foldl_held
    | (simp only [↓SafetyDie.held_mk])
    | with_reducible apply SafetyDie.Held.fields
    | with_reducible exact BrakeHeld.off _ _ _ _ _ _ _ _ _
    | split
    | (rw [id_eq])
    | (intro _))

theorem Dies.serveRead_held (x : Dies) (slot : Nat) (ses : Session) (r : Req) (h : x.sd.Held) : (Dies.serveRead x slot ses r).1.sd.Held := by
  unfold Dies.serveRead
  try dsimp only
  repeat' (first
    | with_reducible assumption
    | with_reducible apply Dies.readOctets_held
    | with_reducible apply SafetyDie.status_held
    | with_reducible apply SafetyDie.updSession_held
    | with_reducible apply SafetyDie.foldl_held
    | (simp only [↓SafetyDie.held_mk])
    | with_reducible apply SafetyDie.Held.fields
    | with_reducible exact BrakeHeld.off _ _ _ _ _ _ _ _ _
    | split
    | (rw [id_eq])
    | (intro _))

theorem Dies.stage_held (x : Dies) (slot k : Nat) (v : Val) (h : x.sd.Held) : (Dies.stage x slot k v).1.sd.Held := by
  unfold Dies.stage
  try dsimp only
  repeat' (first
    | with_reducible assumption
    | with_reducible apply Dies.done_held
    | with_reducible apply Dies.say_held
    | with_reducible apply SafetyDie.status_held
    | with_reducible apply SafetyDie.foldl_held
    | (simp only [↓SafetyDie.held_mk])
    | with_reducible apply SafetyDie.Held.fields
    | with_reducible exact BrakeHeld.off _ _ _ _ _ _ _ _ _
    | split
    | (rw [id_eq])
    | (intro _))

theorem Dies.writeImage_held (x : Dies) (idx : Nat) (b : ImageBody) (last : Bool) (h : x.sd.Held) : (Dies.writeImage x idx b last).1.sd.Held := by
  unfold Dies.writeImage
  try dsimp only
  repeat' (first
    | with_reducible assumption
    | with_reducible apply Dies.done_held
    | with_reducible apply Dies.say_held
    | with_reducible apply SafetyDie.put_held
    | with_reducible apply SafetyDie.foldl_held
    | (simp only [↓SafetyDie.held_mk])
    | with_reducible apply SafetyDie.Held.fields
    | with_reducible exact BrakeHeld.off _ _ _ _ _ _ _ _ _
    | split
    | (rw [id_eq])
    | (intro _))

theorem Dies.writeFirmware_held (x : Dies) (slot : Nat) (b : ImageBody) (last : Bool) (h : x.sd.Held) : (Dies.writeFirmware x slot b last).1.sd.Held := by
  unfold Dies.writeFirmware
  try dsimp only
  repeat' (first
    | with_reducible assumption
    | with_reducible apply Dies.done_held
    | with_reducible apply Dies.say_held
    | with_reducible apply SafetyDie.foldl_held
    | (simp only [↓SafetyDie.held_mk])
    | with_reducible apply SafetyDie.Held.fields
    | with_reducible exact BrakeHeld.off _ _ _ _ _ _ _ _ _
    | split
    | (rw [id_eq])
    | (intro _))

theorem Dies.writeCert_held (x : Dies) (slot : Nat) (b : ImageBody) (h : x.sd.Held) : (Dies.writeCert x slot b).1.sd.Held := by
  unfold Dies.writeCert
  try dsimp only
  repeat' (first
    | with_reducible assumption
    | with_reducible apply Dies.say_held
    | with_reducible apply Dies.storing_held
    | with_reducible apply SafetyDie.foldl_held
    | (simp only [↓SafetyDie.held_mk])
    | with_reducible apply SafetyDie.Held.fields
    | with_reducible exact BrakeHeld.off _ _ _ _ _ _ _ _ _
    | split
    | (rw [id_eq])
    | (intro _))

theorem Dies.writeDomain_held (x : Dies) (slot idx sub : Nat) (image : Option ImageBody) (b : Octets) (last : Bool) (h : x.sd.Held) : (Dies.writeDomain x slot idx sub image b last).1.sd.Held := by
  unfold Dies.writeDomain
  try dsimp only
  repeat' (first
    | with_reducible assumption
    | with_reducible apply Dies.done_held
    | with_reducible apply Dies.say_held
    | with_reducible apply Dies.storing_held
    | with_reducible apply Dies.writeCert_held
    | with_reducible apply Dies.writeFirmware_held
    | with_reducible apply Dies.writeImage_held
    | with_reducible apply SafetyDie.foldl_held
    | (simp only [↓SafetyDie.held_mk])
    | with_reducible apply SafetyDie.Held.fields
    | with_reducible exact BrakeHeld.off _ _ _ _ _ _ _ _ _
    | split
    | (rw [id_eq])
    | (intro _))

theorem Dies.arm_held (x0 : Dies) (slot j : Nat) (h : x0.sd.Held) : (Dies.arm x0 slot j).1.sd.Held := by
  unfold Dies.arm
  try dsimp only
  repeat' (first
    | with_reducible assumption
    | with_reducible apply Dies.done_held
    | with_reducible apply Dies.pruneArmed_held
    | with_reducible apply Dies.say_held
    | with_reducible apply SafetyDie.raise_held
    | with_reducible apply SafetyDie.sendFlits_held
    | with_reducible apply SafetyDie.foldl_held
    | (simp only [↓SafetyDie.held_mk])
    | with_reducible apply SafetyDie.Held.fields
    | with_reducible exact BrakeHeld.off _ _ _ _ _ _ _ _ _
    | split
    | (rw [id_eq])
    | (intro _))

theorem Dies.disarm_held (x0 : Dies) (slot j : Nat) (h : x0.sd.Held) : (Dies.disarm x0 slot j).1.sd.Held := by
  unfold Dies.disarm
  try dsimp only
  repeat' (first
    | with_reducible assumption
    | with_reducible apply Dies.done_held
    | with_reducible apply Dies.pruneArmed_held
    | with_reducible apply Dies.say_held
    | with_reducible apply SafetyDie.disarmInjector_held
    | with_reducible apply SafetyDie.foldl_held
    | (simp only [↓SafetyDie.held_mk])
    | with_reducible apply SafetyDie.Held.fields
    | with_reducible exact BrakeHeld.off _ _ _ _ _ _ _ _ _
    | split
    | (rw [id_eq])
    | (intro _))

theorem Dies.setBoth_held (x : Dies) (k : Nat) (v : Val) (h : x.sd.Held) : (Dies.setBoth x k v).sd.Held := by
  unfold Dies.setBoth
  try dsimp only
  repeat' (first
    | with_reducible assumption
    | with_reducible apply SafetyDie.foldl_held
    | (simp only [↓SafetyDie.held_mk])
    | with_reducible apply SafetyDie.Held.fields
    | with_reducible exact BrakeHeld.off _ _ _ _ _ _ _ _ _
    | split
    | (rw [id_eq])
    | (intro _))

theorem Dies.writeDescriptor_held (x0 : Dies) (slot j k : Nat) (v : Val) (h : x0.sd.Held) : (Dies.writeDescriptor x0 slot j k v).1.sd.Held := by
  unfold Dies.writeDescriptor
  try dsimp only
  repeat' (first
    | with_reducible assumption
    | with_reducible apply Dies.done_held
    | with_reducible apply Dies.pruneArmed_held
    | with_reducible apply Dies.say_held
    | with_reducible apply Dies.setBoth_held
    | with_reducible apply SafetyDie.foldl_held
    | (simp only [↓SafetyDie.held_mk])
    | with_reducible apply SafetyDie.Held.fields
    | with_reducible exact BrakeHeld.off _ _ _ _ _ _ _ _ _
    | split
    | (rw [id_eq])
    | (intro _))

theorem Dies.writeSetting_held (x : Dies) (slot idx sub : Nat) (w : OdRow) (v : Val) (h : x.sd.Held) : (Dies.writeSetting x slot idx sub w v).1.sd.Held := by
  unfold Dies.writeSetting
  try dsimp only
  repeat' (first
    | with_reducible assumption
    | with_reducible apply Dies.check_held
    | with_reducible apply Dies.done_held
    | with_reducible apply Dies.setBoth_held
    | with_reducible apply Dies.storing_held
    | with_reducible apply SafetyDie.foldl_held
    | (simp only [↓SafetyDie.held_mk])
    | with_reducible apply SafetyDie.Held.fields
    | with_reducible exact BrakeHeld.off _ _ _ _ _ _ _ _ _
    | split
    | (rw [id_eq])
    | (intro _))

theorem Dies.writeContext_held (x : Dies) (slot c sub : Nat) (w : OdRow) (v : Val) (h : x.sd.Held) : (Dies.writeContext x slot c sub w v).1.sd.Held := by
  unfold Dies.writeContext
  try dsimp only
  repeat' (first
    | with_reducible assumption
    | with_reducible apply Dies.done_held
    | with_reducible apply Dies.say_held
    | with_reducible apply Dies.writeSetting_held
    | with_reducible apply SafetyDie.foldl_held
    | (simp only [↓SafetyDie.held_mk])
    | with_reducible apply SafetyDie.Held.fields
    | with_reducible exact BrakeHeld.off _ _ _ _ _ _ _ _ _
    | split
    | (rw [id_eq])
    | (intro _))

theorem Dies.powerRequest_held (x : Dies) (v : Nat) (h : x.sd.Held) : (Dies.powerRequest x v).1.sd.Held := by
  unfold Dies.powerRequest
  try dsimp only
  repeat' (first
    | with_reducible assumption
    | with_reducible apply Dies.done_held
    | with_reducible apply Dies.say_held
    | with_reducible apply Dies.sleep_held
    | with_reducible apply Dies.wake_held
    | with_reducible apply SafetyDie.foldl_held
    | (simp only [↓SafetyDie.held_mk])
    | with_reducible apply SafetyDie.Held.fields
    | with_reducible exact BrakeHeld.off _ _ _ _ _ _ _ _ _
    | split
    | (rw [id_eq])
    | (intro _))

theorem Dies.serviceRequest_held (x : Dies) (slot v : Nat) (h : x.sd.Held) : (Dies.serviceRequest x slot v).1.sd.Held := by
  unfold Dies.serviceRequest
  dsimp only
  split
  · split
    · exact Dies.say_held _ _ h
    · split
      · next d => exact Dies.done_held _ (Dies.follow_held _ _ h (SafetyDie.Held.of_off (h.off (by cases d with | inl d => rw [d]; decide | inr d => rw [d]; decide))))
      · exact Dies.done_held _ h
  · exact Dies.done_held _ (Dies.safety_held _ _ h (fun y hy => SafetyDie.leaveService_held y hy))

theorem Dies.marginTry_held (x : Dies) (h : x.sd.Held) : (Dies.marginTry x).sd.Held := by
  unfold Dies.marginTry
  try dsimp only
  repeat' (first
    | with_reducible assumption
    | with_reducible apply Dies.check_held
    | with_reducible apply SafetyDie.sendFlit_held
    | with_reducible apply SafetyDie.foldl_held
    | (simp only [↓SafetyDie.held_mk])
    | with_reducible apply SafetyDie.Held.fields
    | with_reducible exact BrakeHeld.off _ _ _ _ _ _ _ _ _
    | split
    | (rw [id_eq])
    | (intro _))

theorem Dies.marginStart_held (x : Dies) (c : Nat) (h : x.sd.Held) : (Dies.marginStart x c).sd.Held := by
  unfold Dies.marginStart
  try dsimp only
  repeat' (first
    | with_reducible assumption
    | with_reducible apply Dies.marginTry_held
    | with_reducible apply SafetyDie.foldl_held
    | (simp only [↓SafetyDie.held_mk])
    | with_reducible apply SafetyDie.Held.fields
    | with_reducible exact BrakeHeld.off _ _ _ _ _ _ _ _ _
    | split
    | (rw [id_eq])
    | (intro _))

theorem SafetyDie.unlockReset_held (s : SafetyDie) (h : s.Held) : (SafetyDie.unlockReset s).Held := by
  unfold SafetyDie.unlockReset
  try dsimp only
  repeat' (first
    | with_reducible assumption
    | with_reducible apply SafetyDie.foldl_held
    | (simp only [↓SafetyDie.held_mk])
    | with_reducible apply SafetyDie.Held.fields
    | with_reducible exact BrakeHeld.off _ _ _ _ _ _ _ _ _
    | split
    | (rw [id_eq])
    | (intro _))

theorem SafetyDie.commandReset_held (s : SafetyDie) (h : s.Held) : (SafetyDie.commandReset s).Held := by
  unfold SafetyDie.commandReset
  try dsimp only
  repeat' (first
    | with_reducible assumption
    | with_reducible apply SafetyDie.assertKill_held
    | with_reducible apply SafetyDie.stop_held
    | with_reducible apply SafetyDie.foldl_held
    | (simp only [↓SafetyDie.held_mk])
    | with_reducible apply SafetyDie.Held.fields
    | with_reducible exact BrakeHeld.off _ _ _ _ _ _ _ _ _
    | split
    | (rw [id_eq])
    | (intro _))

theorem Dies.attest_held (x : Dies) (nonce : Octets) (h : x.sd.Held) : (Dies.attest x nonce).1.sd.Held := by
  unfold Dies.attest
  try dsimp only
  repeat' (first
    | with_reducible assumption
    | with_reducible apply Dies.done_held
    | with_reducible apply Dies.say_held
    | with_reducible apply SafetyDie.foldl_held
    | (simp only [↓SafetyDie.held_mk])
    | with_reducible apply SafetyDie.Held.fields
    | with_reducible exact BrakeHeld.off _ _ _ _ _ _ _ _ _
    | split
    | (rw [id_eq])
    | (intro _))

theorem Dies.raiseFloor_held (x : Dies) (v : Nat) (h : x.sd.Held) : (Dies.raiseFloor x v).1.sd.Held := by
  unfold Dies.raiseFloor
  try dsimp only
  repeat' (first
    | with_reducible assumption
    | with_reducible apply Dies.done_held
    | with_reducible apply Dies.say_held
    | with_reducible apply SafetyDie.foldl_held
    | (simp only [↓SafetyDie.held_mk])
    | with_reducible apply SafetyDie.Held.fields
    | with_reducible exact BrakeHeld.off _ _ _ _ _ _ _ _ _
    | split
    | (rw [id_eq])
    | (intro _))

theorem Dies.fenceClear_held (x : Dies) (bits : Nat) (h : x.sd.Held) : (Dies.fenceClear x bits).sd.Held := by
  unfold Dies.fenceClear SafetyDie.setGuest
  try dsimp only
  repeat' (first
    | with_reducible assumption
    | with_reducible apply SafetyDie.foldl_held
    | (simp only [↓SafetyDie.held_mk])
    | with_reducible apply SafetyDie.Held.fields
    | with_reducible exact BrakeHeld.off _ _ _ _ _ _ _ _ _
    | split
    | (rw [id_eq])
    | (intro _))

theorem Dies.writeCommit_held (x : Dies) (slot crc : Nat) (h : x.sd.Held) : (Dies.writeCommit x slot crc).1.sd.Held := by
  unfold Dies.writeCommit
  try dsimp only
  repeat' (first
    | with_reducible assumption
    | with_reducible apply Dies.commitCrc_held
    | with_reducible apply Dies.say_held
    | with_reducible apply SafetyDie.foldl_held
    | (simp only [↓SafetyDie.held_mk])
    | with_reducible apply SafetyDie.Held.fields
    | with_reducible exact BrakeHeld.off _ _ _ _ _ _ _ _ _
    | split
    | (rw [id_eq])
    | (intro _))

/-- Either branch keeps the limits. -/
theorem Served.ite_held (c : Prop) [Decidable c] (a b : Served) (ha : a.1.sd.Held) (hb : b.1.sd.Held) : (if c then a else b).1.sd.Held := by
  by_cases h : c
  · rw [if_pos h]; exact ha
  · rw [if_neg h]; exact hb

theorem Dies.act_held (x : Dies) (slot idx sub : Nat) (v : Val) (h : x.sd.Held) : (Dies.act x slot idx sub v).1.sd.Held := by
  unfold Dies.act
  try dsimp only
  repeat' (first
    | with_reducible assumption
    | with_reducible apply Served.ite_held
    | with_reducible apply Dies.attest_held
    | with_reducible apply Dies.check_held
    | with_reducible apply Dies.done_held
    | with_reducible apply Dies.fenceClear_held
    | with_reducible apply Dies.marginStart_held
    | with_reducible apply Dies.powerRequest_held
    | with_reducible apply Dies.raiseFloor_held
    | with_reducible apply Dies.safety_held
    | with_reducible apply Dies.say_held
    | with_reducible apply Dies.serviceRequest_held
    | with_reducible apply Dies.storing_held
    | with_reducible apply Dies.writeCommit_held
    | with_reducible apply SafetyDie.btStart_held
    | with_reducible apply SafetyDie.commandReset_held
    | with_reducible apply SafetyDie.discardStage_held
    | with_reducible apply SafetyDie.faultClear_held
    | with_reducible apply SafetyDie.holdRequest_held
    | with_reducible apply SafetyDie.logClear_held
    | with_reducible apply SafetyDie.status_held
    | with_reducible apply SafetyDie.toRun_held
    | with_reducible apply SafetyDie.warmReset_held
    | with_reducible apply SafetyDie.foldl_held
    | (simp only [↓SafetyDie.held_mk])
    | with_reducible apply SafetyDie.Held.fields
    | with_reducible exact BrakeHeld.off _ _ _ _ _ _ _ _ _
    | split
    | (rw [id_eq])
    | (intro _))

theorem Dies.writeRw_held (x : Dies) (slot idx sub : Nat) (w : OdRow) (v : Val) (h : x.sd.Held) : (Dies.writeRw x slot idx sub w v).1.sd.Held := by
  unfold Dies.writeRw
  try dsimp only
  repeat' (first
    | with_reducible assumption
    | with_reducible apply Dies.arm_held
    | with_reducible apply Dies.disarm_held
    | with_reducible apply Dies.done_held
    | with_reducible apply Dies.writeContext_held
    | with_reducible apply Dies.writeDescriptor_held
    | with_reducible apply Dies.writeSetting_held
    | with_reducible apply SafetyDie.unlockReset_held
    | with_reducible apply SafetyDie.updSession_held
    | with_reducible apply SafetyDie.foldl_held
    | (simp only [↓SafetyDie.held_mk])
    | with_reducible apply SafetyDie.Held.fields
    | with_reducible exact BrakeHeld.off _ _ _ _ _ _ _ _ _
    | split
    | (rw [id_eq])
    | (intro _))

theorem Dies.writeValue_held (x : Dies) (slot idx sub : Nat) (w : OdRow) (v : Val) (h : x.sd.Held) : (Dies.writeValue x slot idx sub w v).1.sd.Held := by
  unfold Dies.writeValue
  try dsimp only
  repeat' (first
    | with_reducible assumption
    | with_reducible apply Dies.act_held
    | with_reducible apply Dies.check_held
    | with_reducible apply Dies.say_held
    | with_reducible apply Dies.stage_held
    | with_reducible apply Dies.writeRw_held
    | with_reducible apply SafetyDie.foldl_held
    | (simp only [↓SafetyDie.held_mk])
    | with_reducible apply SafetyDie.Held.fields
    | with_reducible exact BrakeHeld.off _ _ _ _ _ _ _ _ _
    | split
    | (rw [id_eq])
    | (intro _))

theorem Dies.writeData_held (x : Dies) (slot : Nat) (ses : Session) (w : OdRow) (r : Req) (h : x.sd.Held) : (Dies.writeData x slot ses w r).1.sd.Held := by
  unfold Dies.writeData
  try dsimp only
  repeat' (first
    | with_reducible assumption
    | with_reducible apply Dies.done_held
    | with_reducible apply Dies.say_held
    | with_reducible apply Dies.writeDomain_held
    | with_reducible apply Dies.writeValue_held
    | with_reducible apply SafetyDie.updSession_held
    | with_reducible apply SafetyDie.foldl_held
    | (simp only [↓SafetyDie.held_mk])
    | with_reducible apply SafetyDie.Held.fields
    | with_reducible exact BrakeHeld.off _ _ _ _ _ _ _ _ _
    | split
    | (rw [id_eq])
    | (intro _))

theorem Dies.serveWrite_held (x : Dies) (slot : Nat) (ses : Session) (r : Req) (h : x.sd.Held) : (Dies.serveWrite x slot ses r).1.sd.Held := by
  unfold Dies.serveWrite
  try dsimp only
  repeat' (first
    | with_reducible assumption
    | with_reducible apply Dies.say_held
    | with_reducible apply Dies.writeData_held
    | with_reducible apply SafetyDie.foldl_held
    | (simp only [↓SafetyDie.held_mk])
    | with_reducible apply SafetyDie.Held.fields
    | with_reducible exact BrakeHeld.off _ _ _ _ _ _ _ _ _
    | split
    | (rw [id_eq])
    | (intro _))

theorem Dies.serve_held (x : Dies) (slot : Nat) (ses : Session) (r : Req) (h : x.sd.Held) : (Dies.serve x slot ses r).1.sd.Held := by
  unfold Dies.serve
  try dsimp only
  repeat' (first
    | with_reducible assumption
    | with_reducible apply Dies.say_held
    | with_reducible apply Dies.serveRead_held
    | with_reducible apply Dies.serveWrite_held
    | with_reducible apply SafetyDie.foldl_held
    | (simp only [↓SafetyDie.held_mk])
    | with_reducible apply SafetyDie.Held.fields
    | with_reducible exact BrakeHeld.off _ _ _ _ _ _ _ _ _
    | split
    | (rw [id_eq])
    | (intro _))

theorem SafetyDie.refuse_held (s : SafetyDie) (path origin slot : Nat) (asked : Octets) (cause retry : Nat) (h : s.Held) : (SafetyDie.refuse s path origin slot asked cause retry).Held := by
  unfold SafetyDie.refuse
  try dsimp only
  repeat' (first
    | with_reducible assumption
    | with_reducible apply SafetyDie.sendOd_held
    | with_reducible apply SafetyDie.foldl_held
    | (simp only [↓SafetyDie.held_mk])
    | with_reducible apply SafetyDie.Held.fields
    | with_reducible exact BrakeHeld.off _ _ _ _ _ _ _ _ _
    | split
    | (rw [id_eq])
    | (intro _))

theorem SafetyDie.setLock_held (s : SafetyDie) (role : Nat) (l : Lock) (h : s.Held) : (SafetyDie.setLock s role l).Held := by
  unfold SafetyDie.setLock SafetyDie.setGuest
  try dsimp only
  repeat' (first
    | with_reducible assumption
    | with_reducible apply SafetyDie.foldl_held
    | (simp only [↓SafetyDie.held_mk])
    | with_reducible apply SafetyDie.Held.fields
    | with_reducible exact BrakeHeld.off _ _ _ _ _ _ _ _ _
    | split
    | (rw [id_eq])
    | (intro _))

theorem SafetyDie.wrongProof_held (s : SafetyDie) (role : Nat) (h : s.Held) : (SafetyDie.wrongProof s role).Held := by
  unfold SafetyDie.wrongProof
  try dsimp only
  repeat' (first
    | with_reducible assumption
    | with_reducible apply SafetyDie.setLock_held
    | with_reducible apply SafetyDie.foldl_held
    | (simp only [↓SafetyDie.held_mk])
    | with_reducible apply SafetyDie.Held.fields
    | with_reducible exact BrakeHeld.off _ _ _ _ _ _ _ _ _
    | split
    | (rw [id_eq])
    | (intro _))

theorem SafetyDie.hello_held (s : SafetyDie) (path origin : Nat) (b : Octets) (h : s.Held) : (SafetyDie.hello s path origin b).Held := by
  unfold SafetyDie.hello
  try dsimp only
  repeat' (first
    | with_reducible assumption
    | with_reducible apply SafetyDie.draw_held
    | with_reducible apply SafetyDie.refuse_held
    | with_reducible apply SafetyDie.sendOd_held
    | with_reducible apply SafetyDie.setSession_held
    | with_reducible apply SafetyDie.foldl_held
    | (simp only [↓SafetyDie.held_mk])
    | with_reducible apply SafetyDie.Held.fields
    | with_reducible exact BrakeHeld.off _ _ _ _ _ _ _ _ _
    | split
    | (rw [id_eq])
    | (intro _))

theorem SafetyDie.proof_held (s : SafetyDie) (path origin : Nat) (b : Octets) (h : s.Held) : (SafetyDie.proof s path origin b).Held := by
  unfold SafetyDie.proof
  try dsimp only
  repeat' (first
    | with_reducible assumption
    | with_reducible apply SafetyDie.refuse_held
    | with_reducible apply SafetyDie.sendOd_held
    | with_reducible apply SafetyDie.setLock_held
    | with_reducible apply SafetyDie.setSession_held
    | with_reducible apply SafetyDie.wrongProof_held
    | with_reducible apply SafetyDie.foldl_held
    | (simp only [↓SafetyDie.held_mk])
    | with_reducible apply SafetyDie.Held.fields
    | with_reducible exact BrakeHeld.off _ _ _ _ _ _ _ _ _
    | split
    | (rw [id_eq])
    | (intro _))

theorem SafetyDie.tagFailed_held (s : SafetyDie) (slot : Nat) (ses : Session) (h : s.Held) : (SafetyDie.tagFailed s slot ses).Held := by
  unfold SafetyDie.tagFailed
  try dsimp only
  repeat' (first
    | with_reducible assumption
    | with_reducible apply SafetyDie.bump_held
    | with_reducible apply SafetyDie.endSession_held
    | with_reducible apply SafetyDie.setLock_held
    | with_reducible apply SafetyDie.setSession_held
    | with_reducible apply SafetyDie.foldl_held
    | (simp only [↓SafetyDie.held_mk])
    | with_reducible apply SafetyDie.Held.fields
    | with_reducible exact BrakeHeld.off _ _ _ _ _ _ _ _ _
    | split
    | (rw [id_eq])
    | (intro _))

theorem Dies.serveOne_held (x : Dies) (slot : Nat) (r : Req) (h : x.sd.Held) : (Dies.serveOne x slot r).sd.Held := by
  unfold Dies.serveOne
  try dsimp only
  repeat' (first
    | with_reducible assumption
    | with_reducible apply Dies.serve_held
    | with_reducible apply SafetyDie.respond_held
    | with_reducible apply SafetyDie.serve_held
    | with_reducible apply SafetyDie.status_held
    | with_reducible apply SafetyDie.updSession_held
    | with_reducible apply SafetyDie.foldl_held
    | (simp only [↓SafetyDie.held_mk])
    | with_reducible apply SafetyDie.Held.fields
    | with_reducible exact BrakeHeld.off _ _ _ _ _ _ _ _ _
    | split
    | (rw [id_eq])
    | (intro _))

/-- Serving a session's queue keeps the limits. -/
theorem Dies.pump_held (n slot : Nat) (x : Dies) (h : x.sd.Held) : (Dies.pump n slot x).sd.Held := by
  induction n generalizing x with
  | zero => exact h
  | succ n ih =>
    unfold Dies.pump
    repeat' (first
      | with_reducible assumption
      | (with_reducible apply ih)
      | with_reducible apply Dies.serveOne_held
      | with_reducible apply Dies.safety_held
      | with_reducible apply SafetyDie.setSession_held
      | with_reducible apply SafetyDie.endSession_held
      | split
      | (intro _))

/-- A fold of operations that keep the limits keeps them. -/
theorem Dies.foldl_held {α : Type} (l : List α) (x : Dies) (f : Dies → α → Dies) (h : x.sd.Held)
    (hf : ∀ (y : Dies) (a : α), y.sd.Held → (f y a).sd.Held) : (l.foldl f x).sd.Held := by
  induction l generalizing x with
  | nil => exact h
  | cons a l ih => exact ih _ (hf _ _ h)

theorem Dies.pumpAll_held (x : Dies) (h : x.sd.Held) : (Dies.pumpAll x).sd.Held := by
  exact Dies.foldl_held _ _ _ h (fun _ _ hy => Dies.pump_held _ _ _ hy)

theorem Dies.accept_held (x : Dies) (slot : Nat) (ses0 : Session) (r : Req) (tag : Octets) (h : x.sd.Held) : (Dies.accept x slot ses0 r tag).sd.Held := by
  unfold Dies.accept
  try dsimp only
  repeat' (first
    | with_reducible assumption
    | with_reducible apply Dies.pump_held
    | with_reducible apply Dies.safety_held
    | with_reducible apply SafetyDie.bump_held
    | with_reducible apply SafetyDie.endSession_held
    | with_reducible apply SafetyDie.respond_held
    | with_reducible apply SafetyDie.sendOd_held
    | with_reducible apply SafetyDie.setSession_held
    | with_reducible apply SafetyDie.foldl_held
    | (simp only [↓SafetyDie.held_mk])
    | with_reducible apply SafetyDie.Held.fields
    | with_reducible exact BrakeHeld.off _ _ _ _ _ _ _ _ _
    | split
    | (rw [id_eq])
    | (intro _))

theorem Dies.awakeSlot_held (x : Dies) (slot : Nat) (h : x.sd.Held) : (Dies.awakeSlot x slot).sd.Held := by
  unfold Dies.awakeSlot
  try dsimp only
  repeat' (first
    | with_reducible assumption
    | with_reducible apply Dies.safety_held
    | with_reducible apply SafetyDie.endSession_held
    | with_reducible apply SafetyDie.foldl_held
    | (simp only [↓SafetyDie.held_mk])
    | with_reducible apply SafetyDie.Held.fields
    | with_reducible exact BrakeHeld.off _ _ _ _ _ _ _ _ _
    | split
    | (rw [id_eq])
    | (intro _))

theorem Dies.message_held (x0 : Dies) (path origin : Nat) (b : Octets) (h : x0.sd.Held) : (Dies.message x0 path origin b).sd.Held := by
  unfold Dies.message
  try dsimp only
  repeat' (first
    | with_reducible assumption
    | with_reducible apply Dies.accept_held
    | with_reducible apply Dies.awakeSlot_held
    | with_reducible apply Dies.safety_held
    | with_reducible apply SafetyDie.tagFailed_held
    | with_reducible apply SafetyDie.foldl_held
    | (simp only [↓SafetyDie.held_mk])
    | with_reducible apply SafetyDie.Held.fields
    | with_reducible exact BrakeHeld.off _ _ _ _ _ _ _ _ _
    | split
    | (rw [id_eq])
    | (intro _))

theorem Dies.dispatch_held (x : Dies) (path origin : Nat) (b : Octets) (h : x.sd.Held) : (Dies.dispatch x path origin b).sd.Held := by
  unfold Dies.dispatch
  try dsimp only
  repeat' (first
    | with_reducible assumption
    | with_reducible apply Dies.message_held
    | with_reducible apply SafetyDie.hello_held
    | with_reducible apply SafetyDie.proof_held
    | with_reducible apply SafetyDie.foldl_held
    | (simp only [↓SafetyDie.held_mk])
    | with_reducible apply SafetyDie.Held.fields
    | with_reducible exact BrakeHeld.off _ _ _ _ _ _ _ _ _
    | split
    | (rw [id_eq])
    | (intro _))

theorem Dies.odIn_held (x : Dies) (kind path origin seq : Nat) (b : Octets) (h : x.sd.Held) : (Dies.odIn x kind path origin seq b).sd.Held := by
  unfold Dies.odIn
  try dsimp only
  repeat' (first
    | with_reducible assumption
    | with_reducible apply Dies.dispatch_held
    | with_reducible apply Dies.safety_held
    | with_reducible apply SafetyDie.groupAdmit_held
    | with_reducible apply SafetyDie.foldl_held
    | (simp only [↓SafetyDie.held_mk])
    | with_reducible apply SafetyDie.Held.fields
    | with_reducible exact BrakeHeld.off _ _ _ _ _ _ _ _ _
    | split
    | (rw [id_eq])
    | (intro _))

theorem Dies.requestOf_held (x0 : Dies) (slot kind key offset : Nat) (data : Octets) (image : Option ImageBody) (last : Bool) (h : x0.sd.Held) : (Dies.requestOf x0 slot kind key offset data image last).sd.Held := by
  unfold Dies.requestOf
  try dsimp only
  repeat' (first
    | with_reducible assumption
    | with_reducible apply Dies.accept_held
    | with_reducible apply Dies.awakeSlot_held
    | with_reducible apply SafetyDie.foldl_held
    | (simp only [↓SafetyDie.held_mk])
    | with_reducible apply SafetyDie.Held.fields
    | with_reducible exact BrakeHeld.off _ _ _ _ _ _ _ _ _
    | split
    | (rw [id_eq])
    | (intro _))

theorem Dies.writeEntry_held (x : Dies) (slot : Nat) (r : OdRow) (i v : Nat) (h : x.sd.Held) : (Dies.writeEntry x slot r i v).sd.Held := by
  unfold Dies.writeEntry
  try dsimp only
  repeat' (first
    | with_reducible assumption
    | with_reducible apply Dies.requestOf_held
    | with_reducible apply SafetyDie.foldl_held
    | (simp only [↓SafetyDie.held_mk])
    | with_reducible apply SafetyDie.Held.fields
    | with_reducible exact BrakeHeld.off _ _ _ _ _ _ _ _ _
    | split
    | (rw [id_eq])
    | (intro _))

theorem Dies.writeOctets_held (x : Dies) (slot : Nat) (r : OdRow) (i : Nat) (b : Octets) (h : x.sd.Held) : (Dies.writeOctets x slot r i b).sd.Held := by
  unfold Dies.writeOctets
  try dsimp only
  repeat' (first
    | with_reducible assumption
    | with_reducible apply Dies.requestOf_held
    | with_reducible apply SafetyDie.foldl_held
    | (simp only [↓SafetyDie.held_mk])
    | with_reducible apply SafetyDie.Held.fields
    | with_reducible exact BrakeHeld.off _ _ _ _ _ _ _ _ _
    | split
    | (rw [id_eq])
    | (intro _))

theorem Dies.writeBody_held (x : Dies) (slot : Nat) (r : OdRow) (i : Nat) (b : ImageBody) (last : Bool) (h : x.sd.Held) : (Dies.writeBody x slot r i b last).sd.Held := by
  unfold Dies.writeBody
  try dsimp only
  repeat' (first
    | with_reducible assumption
    | with_reducible apply Dies.requestOf_held
    | with_reducible apply SafetyDie.foldl_held
    | (simp only [↓SafetyDie.held_mk])
    | with_reducible apply SafetyDie.Held.fields
    | with_reducible exact BrakeHeld.off _ _ _ _ _ _ _ _ _
    | split
    | (rw [id_eq])
    | (intro _))

theorem SafetyDie.idleTimeout_held (s : SafetyDie) (slot : Nat) (h : s.Held) : (SafetyDie.idleTimeout s slot).Held := by
  unfold SafetyDie.idleTimeout
  try dsimp only
  repeat' (first
    | with_reducible assumption
    | with_reducible apply SafetyDie.endSession_held
    | with_reducible apply SafetyDie.foldl_held
    | (simp only [↓SafetyDie.held_mk])
    | with_reducible apply SafetyDie.Held.fields
    | with_reducible exact BrakeHeld.off _ _ _ _ _ _ _ _ _
    | split
    | (rw [id_eq])
    | (intro _))

theorem Dies.storeDone_held (x : Dies) (ok : Bool) (h : x.sd.Held) : (Dies.storeDone x ok).sd.Held := by
  unfold Dies.storeDone
  try dsimp only
  repeat' (first
    | with_reducible assumption
    | with_reducible apply Dies.pumpAll_held
    | with_reducible apply Dies.setBoth_held
    | with_reducible apply SafetyDie.answerBusy_held
    | with_reducible apply SafetyDie.undoStore_held
    | with_reducible apply SafetyDie.undoStores_held
    | with_reducible apply SafetyDie.writeStore_held
    | with_reducible apply SafetyDie.foldl_held
    | (simp only [↓SafetyDie.held_mk])
    | with_reducible apply SafetyDie.Held.fields
    | with_reducible exact BrakeHeld.off _ _ _ _ _ _ _ _ _
    | split
    | (rw [id_eq])
    | (intro _))

theorem Dies.commitStored_held (x : Dies) (ok : Bool) (h : x.sd.Held) : (Dies.commitStored x ok).sd.Held := by
  unfold Dies.commitStored
  try dsimp only
  repeat' (first
    | with_reducible assumption
    | with_reducible apply Dies.pumpAll_held
    | with_reducible apply Dies.safety_held
    | with_reducible apply SafetyDie.commitStored_held
    | with_reducible apply SafetyDie.foldl_held
    | (simp only [↓SafetyDie.held_mk])
    | with_reducible apply SafetyDie.Held.fields
    | with_reducible exact BrakeHeld.off _ _ _ _ _ _ _ _ _
    | split
    | (rw [id_eq])
    | (intro _))

theorem Dies.imageStored_held (x : Dies) (ok : Bool) (h : x.sd.Held) : (Dies.imageStored x ok).sd.Held := by
  unfold Dies.imageStored
  try dsimp only
  repeat' (first
    | with_reducible assumption
    | with_reducible apply Dies.follow_held
    | with_reducible apply Dies.pumpAll_held
    | with_reducible apply SafetyDie.answerBusy_held
    | with_reducible apply SafetyDie.warmRestart_held
    | with_reducible apply SafetyDie.foldl_held
    | (simp only [↓SafetyDie.held_mk])
    | with_reducible apply SafetyDie.Held.fields
    | with_reducible exact BrakeHeld.off _ _ _ _ _ _ _ _ _
    | split
    | (rw [id_eq])
    | (intro _))

theorem Dies.plainUpload_held (x : Dies) (bus idx sub : Nat) (h : x.sd.Held) : (Dies.plainUpload x bus idx sub).sd.Held := by
  unfold Dies.plainUpload
  try dsimp only
  repeat' (first
    | with_reducible assumption
    | with_reducible apply SafetyDie.put_held
    | with_reducible apply SafetyDie.foldl_held
    | (simp only [↓SafetyDie.held_mk])
    | with_reducible apply SafetyDie.Held.fields
    | with_reducible exact BrakeHeld.off _ _ _ _ _ _ _ _ _
    | split
    | (rw [id_eq])
    | (intro _))

theorem Dies.marginDue_held (x : Dies) (h : x.sd.Held) : (Dies.marginDue x).sd.Held := by
  unfold Dies.marginDue
  try dsimp only
  repeat' (first
    | with_reducible assumption
    | with_reducible apply Dies.marginTry_held
    | with_reducible apply SafetyDie.foldl_held
    | (simp only [↓SafetyDie.held_mk])
    | with_reducible apply SafetyDie.Held.fields
    | with_reducible exact BrakeHeld.off _ _ _ _ _ _ _ _ _
    | split
    | (rw [id_eq])
    | (intro _))

theorem Dies.marginAgain_held (x : Dies) (h : x.sd.Held) : (Dies.marginAgain x).sd.Held := by
  unfold Dies.marginAgain
  try dsimp only
  repeat' (first
    | with_reducible assumption
    | with_reducible apply SafetyDie.foldl_held
    | (simp only [↓SafetyDie.held_mk])
    | with_reducible apply SafetyDie.Held.fields
    | with_reducible exact BrakeHeld.off _ _ _ _ _ _ _ _ _
    | split
    | (rw [id_eq])
    | (intro _))

theorem Dies.marginRetry_held (x : Dies) (h : x.sd.Held) : (Dies.marginRetry x).sd.Held := by
  unfold Dies.marginRetry
  try dsimp only
  repeat' (first
    | with_reducible assumption
    | with_reducible apply Dies.marginAgain_held
    | with_reducible apply Dies.marginTry_held
    | with_reducible apply SafetyDie.foldl_held
    | (simp only [↓SafetyDie.held_mk])
    | with_reducible apply SafetyDie.Held.fields
    | with_reducible exact BrakeHeld.off _ _ _ _ _ _ _ _ _
    | split
    | (rw [id_eq])
    | (intro _))

theorem Dies.marginRestored_held (x : Dies) (h : x.sd.Held) : (Dies.marginRestored x).sd.Held := by
  unfold Dies.marginRestored SafetyDie.setGuest
  try dsimp only
  repeat' (first
    | with_reducible assumption
    | with_reducible apply Dies.marginTry_held
    | with_reducible apply SafetyDie.foldl_held
    | (simp only [↓SafetyDie.held_mk])
    | with_reducible apply SafetyDie.Held.fields
    | with_reducible exact BrakeHeld.off _ _ _ _ _ _ _ _ _
    | split
    | (rw [id_eq])
    | (intro _))

theorem Dies.batchSigned_held (x : Dies) (h : x.sd.Held) : (Dies.batchSigned x).sd.Held := by
  unfold Dies.batchSigned SafetyDie.setGuest
  try dsimp only
  repeat' (first
    | with_reducible assumption
    | with_reducible apply Dies.attest_held
    | with_reducible apply SafetyDie.foldl_held
    | (simp only [↓SafetyDie.held_mk])
    | with_reducible apply SafetyDie.Held.fields
    | with_reducible exact BrakeHeld.off _ _ _ _ _ _ _ _ _
    | split
    | (rw [id_eq])
    | (intro _))

theorem Dies.attestSigned_held (x : Dies) (h : x.sd.Held) : (Dies.attestSigned x).sd.Held := by
  unfold Dies.attestSigned
  try dsimp only
  repeat' (first
    | with_reducible assumption
    | with_reducible apply Dies.attest_held
    | with_reducible apply SafetyDie.foldl_held
    | (simp only [↓SafetyDie.held_mk])
    | with_reducible apply SafetyDie.Held.fields
    | with_reducible exact BrakeHeld.off _ _ _ _ _ _ _ _ _
    | split
    | (rw [id_eq])
    | (intro _))

theorem Dies.durationEnd_held (x : Dies) (j : Nat) (h : x.sd.Held) : (Dies.durationEnd x j).sd.Held := by
  unfold Dies.durationEnd
  try dsimp only
  repeat' (first
    | with_reducible assumption
    | with_reducible apply Dies.check_held
    | with_reducible apply Dies.safety_held
    | with_reducible apply SafetyDie.disarmInjector_held
    | with_reducible apply SafetyDie.foldl_held
    | (simp only [↓SafetyDie.held_mk])
    | with_reducible apply SafetyDie.Held.fields
    | with_reducible exact BrakeHeld.off _ _ _ _ _ _ _ _ _
    | split
    | (rw [id_eq])
    | (intro _))

theorem Dies.heldRelease_held (x : Dies) (j : Nat) (h : x.sd.Held) : (Dies.heldRelease x j).sd.Held := by
  unfold Dies.heldRelease
  try dsimp only
  repeat' (first
    | with_reducible assumption
    | with_reducible apply Dies.check_held
    | with_reducible apply Dies.safety_held
    | with_reducible apply SafetyDie.releaseNow_held
    | with_reducible apply SafetyDie.foldl_held
    | (simp only [↓SafetyDie.held_mk])
    | with_reducible apply SafetyDie.Held.fields
    | with_reducible exact BrakeHeld.off _ _ _ _ _ _ _ _ _
    | split
    | (rw [id_eq])
    | (intro _))

theorem Dies.train_held (x : Dies) (toCheck crcOk : Bool) (h : x.sd.Held) : (Dies.train x toCheck crcOk).sd.Held := by
  unfold Dies.train
  try dsimp only
  repeat' (first
    | with_reducible assumption
    | with_reducible apply Dies.safety_held
    | with_reducible apply SafetyDie.sendTime_held
    | with_reducible apply SafetyDie.trainIn_held
    | with_reducible apply SafetyDie.foldl_held
    | (simp only [↓SafetyDie.held_mk])
    | with_reducible apply SafetyDie.Held.fields
    | with_reducible exact BrakeHeld.off _ _ _ _ _ _ _ _ _
    | split
    | (rw [id_eq])
    | (intro _))

theorem SafetyDie.linkAcks_held (s : SafetyDie) (gts ack : Nat) (nak : Bool) (expected : Nat) (h : s.Held) : (SafetyDie.linkAcks s gts ack nak expected).Held := by
  unfold SafetyDie.linkAcks
  try dsimp only
  repeat' (first
    | with_reducible assumption
    | with_reducible apply SafetyDie.commitAcked_held
    | with_reducible apply SafetyDie.linkIn_held
    | with_reducible apply SafetyDie.foldl_held
    | (simp only [↓SafetyDie.held_mk])
    | with_reducible apply SafetyDie.Held.fields
    | with_reducible exact BrakeHeld.off _ _ _ _ _ _ _ _ _
    | split
    | (rw [id_eq])
    | (intro _))

theorem Dies.linkFlit_held (x : Dies) (toCheck : Bool) (ack : Nat) (nak : Bool) (expected : Nat) (h : x.sd.Held) : (Dies.linkFlit x toCheck ack nak expected).sd.Held := by
  unfold Dies.linkFlit
  try dsimp only
  repeat' (first
    | with_reducible assumption
    | with_reducible apply Dies.onSafetyLink_held
    | with_reducible apply Dies.pumpAll_held
    | with_reducible apply SafetyDie.linkAcks_held
    | with_reducible apply SafetyDie.linkIn_held
    | with_reducible apply SafetyDie.foldl_held
    | (simp only [↓SafetyDie.held_mk])
    | with_reducible apply SafetyDie.Held.fields
    | with_reducible exact BrakeHeld.off _ _ _ _ _ _ _ _ _
    | split
    | (rw [id_eq])
    | (intro _))

theorem Dies.refreshImage_held (x : Dies) (h : x.sd.Held) : (Dies.refreshImage x).sd.Held := by
  unfold Dies.refreshImage
  try dsimp only
  repeat' (first
    | with_reducible assumption
    | with_reducible apply Dies.check_held
    | with_reducible apply SafetyDie.foldl_held
    | (simp only [↓SafetyDie.held_mk])
    | with_reducible apply SafetyDie.Held.fields
    | with_reducible exact BrakeHeld.off _ _ _ _ _ _ _ _ _
    | split
    | (rw [id_eq])
    | (intro _))

theorem Dies.resetEnded_held (x : Dies) (bad fails : List (Nat × Nat)) (h : x.sd.Held) : (Dies.resetEnded x bad fails).sd.Held := by
  unfold Dies.resetEnded
  try dsimp only
  repeat' (first
    | with_reducible assumption
    | with_reducible apply Dies.pumpAll_held
    | with_reducible apply Dies.resetEnd_held
    | with_reducible apply SafetyDie.foldl_held
    | (simp only [↓SafetyDie.held_mk])
    | with_reducible apply SafetyDie.Held.fields
    | with_reducible exact BrakeHeld.off _ _ _ _ _ _ _ _ _
    | split
    | (rw [id_eq])
    | (intro _))

theorem SafetyDie.refuseRestart_held (s : SafetyDie) (h : s.Held) : (SafetyDie.refuseRestart s).Held := by
  unfold SafetyDie.refuseRestart
  try dsimp only
  repeat' (first
    | with_reducible assumption
    | with_reducible apply Dies.release_held
    | with_reducible apply SafetyDie.raise_held
    | with_reducible apply SafetyDie.release_held
    | with_reducible apply SafetyDie.foldl_held
    | (simp only [↓SafetyDie.held_mk])
    | with_reducible apply SafetyDie.Held.fields
    | with_reducible exact BrakeHeld.off _ _ _ _ _ _ _ _ _
    | split
    | (rw [id_eq])
    | (intro _))

theorem SafetyDie.pcieReset_held (s : SafetyDie) (h : s.Held) : (SafetyDie.pcieReset s).Held := by
  unfold SafetyDie.pcieReset
  try dsimp only
  repeat' (first
    | with_reducible assumption
    | with_reducible apply SafetyDie.dropInjectors_held
    | with_reducible apply SafetyDie.foldl_held
    | (simp only [↓SafetyDie.held_mk])
    | with_reducible apply SafetyDie.Held.fields
    | with_reducible exact BrakeHeld.off _ _ _ _ _ _ _ _ _
    | split
    | (rw [id_eq])
    | (intro _))

theorem Dies.supplyTrip_held (x : Dies) (h : x.sd.Held) : (Dies.supplyTrip x).sd.Held := by
  unfold Dies.supplyTrip
  try dsimp only
  repeat' (first
    | with_reducible assumption
    | with_reducible apply Dies.check_held
    | with_reducible apply Dies.safety_held
    | with_reducible apply SafetyDie.supplyTrip_held
    | with_reducible apply SafetyDie.foldl_held
    | (simp only [↓SafetyDie.held_mk])
    | with_reducible apply SafetyDie.Held.fields
    | with_reducible exact BrakeHeld.off _ _ _ _ _ _ _ _ _
    | split
    | (rw [id_eq])
    | (intro _))

theorem Dies.selfRefresh_held (x : Dies) (h : x.sd.Held) : (Dies.selfRefresh x).sd.Held := by
  unfold Dies.selfRefresh
  try dsimp only
  repeat' (first
    | with_reducible assumption
    | with_reducible apply Dies.safety_held
    | with_reducible apply SafetyDie.selfRefresh_held
    | with_reducible apply SafetyDie.foldl_held
    | (simp only [↓SafetyDie.held_mk])
    | with_reducible apply SafetyDie.Held.fields
    | with_reducible exact BrakeHeld.off _ _ _ _ _ _ _ _ _
    | split
    | (rw [id_eq])
    | (intro _))

theorem Dies.functionReset_held (x : Dies) (h : x.sd.Held) : (Dies.functionReset x).sd.Held := by
  unfold Dies.functionReset
  try dsimp only
  repeat' (first
    | with_reducible assumption
    | with_reducible apply Dies.safety_held
    | with_reducible apply SafetyDie.pcieReset_held
    | with_reducible apply SafetyDie.foldl_held
    | (simp only [↓SafetyDie.held_mk])
    | with_reducible apply SafetyDie.Held.fields
    | with_reducible exact BrakeHeld.off _ _ _ _ _ _ _ _ _
    | split
    | (rw [id_eq])
    | (intro _))

theorem Dies.perstLevel_held (x : Dies) (low : Bool) (h : x.sd.Held) : (Dies.perstLevel x low).sd.Held := by
  unfold Dies.perstLevel
  try dsimp only
  repeat' (first
    | with_reducible assumption
    | with_reducible apply Dies.safety_held
    | with_reducible apply SafetyDie.bump_held
    | with_reducible apply SafetyDie.pcieReset_held
    | with_reducible apply SafetyDie.foldl_held
    | (simp only [↓SafetyDie.held_mk])
    | with_reducible apply SafetyDie.Held.fields
    | with_reducible exact BrakeHeld.off _ _ _ _ _ _ _ _ _
    | split
    | (rw [id_eq])
    | (intro _))

end Sys2Proof.Machine
end

