-- ==== Sys2Proof/Laws/Frames.lean ====
section
/-! SUPPORT. Frames of the safety die's shared operations: what a recorded event, a stop, and what follows from an update can change. -/

namespace Sys2Proof.Machine

/-- `b` is `a` but for what recording an event changes: the log, the first-fault table and whose record it holds, the flits that carry records. -/
def SafetyDie.Recorded (a b : SafetyDie) : Prop :=
  ∃ log sent lost first own tx,
    b = { a with log := log, logSent := sent, logLost := lost, guest := { a.guest with first := first }, firstFrom := own, corTx := tx }

/-- Nothing recorded. -/
theorem SafetyDie.Recorded.refl (a : SafetyDie) : a.Recorded a := ⟨a.log, a.logSent, a.logLost, a.guest.first, a.firstFrom, a.corTx, rfl⟩

/-- One after the other. -/
theorem SafetyDie.Recorded.trans {a b c : SafetyDie} (h : a.Recorded b) (k : b.Recorded c) : a.Recorded c := by
  obtain ⟨l1, s1, o1, f1, w1, t1, rfl⟩ := h
  obtain ⟨l2, s2, o2, f2, w2, t2, rfl⟩ := k
  exact ⟨l2, s2, o2, f2, w2, t2, rfl⟩

/-- Flits sent. -/
theorem SafetyDie.recorded_sendFlits (s : SafetyDie) (fs : List Flit) : s.Recorded (s.sendFlits fs) := by
  unfold SafetyDie.sendFlits
  split
  · exact .refl s
  · exact ⟨s.log, s.logSent, s.logLost, s.guest.first, s.firstFrom, _, rfl⟩

/-- A record stored. -/
theorem SafetyDie.recorded_store (s : SafetyDie) (r : EventRec) : s.Recorded (s.store r) := by
  unfold SafetyDie.store
  cases r.name.safetyIndex with
  | none => exact ⟨_, _, _, s.guest.first, s.firstFrom, s.corTx, rfl⟩
  | some i => exact ⟨_, _, _, _, _, s.corTx, rfl⟩

/-- Records sent to the check die. -/
theorem SafetyDie.recorded_flushLog (s : SafetyDie) : s.Recorded s.flushLog := by
  have key : ∀ (l : List EventRec) (y : SafetyDie), y.Recorded (l.foldl (fun s r => s.sendRecord r) y) := by
    intro l
    induction l with
    | nil => exact fun y => .refl y
    | cons a l ih => exact fun y => (SafetyDie.recorded_sendFlits y _).trans (ih _)
  unfold SafetyDie.flushLog SafetyDie.forEach
  split
  · exact .refl s
  · extract_lets due s1
    have h1 : s.Recorded ({ s1 with logSent := s.log.length } : SafetyDie) := ?_
    · exact h1.trans (key _ _)
    unfold s1
    split
    · obtain ⟨l, n, o, f, w, t, e⟩ := SafetyDie.recorded_sendFlits ({ s with logLost := {} } : SafetyDie) (flitsOd 0xFF 0 (overflowRec 3 s.logLost s.gts).octets)
      refine ⟨l, s.log.length, o, f, w, t, ?_⟩
      unfold SafetyDie.sendRecord
      rw [e]
    · exact ⟨s.log, _, s.logLost, s.guest.first, s.firstFrom, s.corTx, rfl⟩

/-- An event recorded. -/
theorem SafetyDie.recorded_raise (s : SafetyDie) (n : EventName) (ctx inst detail opDesc : Nat) :
    s.Recorded (s.raise n ctx inst detail opDesc) :=
  (SafetyDie.recorded_store s _).trans (SafetyDie.recorded_flushLog _)

/-- `b` is `a` but for what recorded events and the end of an injector's permission change, the margin period and the partner table. -/
def SafetyDie.Followed (a b : SafetyDie) : Prop :=
  ∃ c armed injectors owner margin partners, a.Recorded c ∧
    b = { c with armed := armed, injectors := injectors, injectOwner := owner, margin := margin, partners := partners }

/-- Injectors whose permission ends are disarmed, with an event each. -/
theorem SafetyDie.permitFollow_spec (s : SafetyDie) (cause : Nat) :
    ∃ c armed injectors owner, s.Recorded c ∧ s.permitFollow cause = { c with armed := armed, injectors := injectors, injectOwner := owner } := by
  have key : ∀ (f : ArmedInj → SafetyDie → SafetyDie) (_ : ∀ (x : ArmedInj) (y : SafetyDie), y.Recorded (f x y)) (l : List ArmedInj) (y : SafetyDie),
      y.Recorded (l.foldl (fun s x => f x s) y) := by
    intro f hf l
    induction l with
    | nil => exact fun y => .refl y
    | cons a l ih => exact fun y => (hf a y).trans (ih _)
  unfold SafetyDie.permitFollow SafetyDie.forEach
  split
  · exact ⟨s, s.armed, s.injectors, s.injectOwner, .refl s, rfl⟩
  · exact ⟨_, _, _, _, key (fun x s => s.raise .injectDisarmed (ctxPartner (0xFC0 + s.injectOwner)) (instOf x.num 0) cause)
      (fun x y => SafetyDie.recorded_raise y _ _ _ _ _) _ s, rfl⟩

/-- RUN entered or left changes the margin period alone. -/
theorem SafetyDie.runClock_spec (s : SafetyDie) (was : DevState) : ∃ m, s.runClock was = { s with margin := m } := by
  unfold SafetyDie.runClock
  split
  · exact ⟨s.margin, rfl⟩
  · split
    · exact ⟨_, rfl⟩
    · split
      · exact ⟨_, rfl⟩
      · exact ⟨s.margin, rfl⟩

/-- What follows from an update of the safety die on that die. -/
theorem Dies.follow_sd (x : Dies) (y : SafetyDie) : y.Followed (x.follow y).sd := by
  obtain ⟨m, hm⟩ := SafetyDie.runClock_spec y x.sd.device
  obtain ⟨c, a, i, o, hc, hp⟩ := SafetyDie.permitFollow_spec (y.runClock x.sd.device) 5
  rw [hm] at hc
  obtain ⟨l, n, q, f, w, t, e⟩ := hc
  have hr : y.Recorded { c with margin := y.margin } := ⟨l, n, q, f, w, t, by rw [e]⟩
  unfold Dies.follow
  dsimp only
  rw [hp]
  split
  · exact ⟨_, a, i, o, m, _, hr, by rw [e]⟩
  · exact ⟨_, a, i, o, m, y.partners, hr, by rw [e]⟩

/-- What follows leaves the brake, the heartbeat monitor, the kill, the device state and the watchdogs. -/
theorem Dies.follow_keeps (x : Dies) (y : SafetyDie) :
    (x.follow y).sd.brake = y.brake ∧ (x.follow y).sd.heart = y.heart ∧ (x.follow y).sd.kill = y.kill ∧ (x.follow y).sd.device = y.device ∧
      (x.follow y).sd.gate = y.gate ∧ (x.follow y).sd.wdh = y.wdh ∧ (x.follow y).sd.wds = y.wds ∧ (x.follow y).sd.demand = y.demand ∧
      (x.follow y).sd.power = y.power := by
  obtain ⟨c, a, i, o, m, p, ⟨l, n, q, f, w, t, rfl⟩, e⟩ := Dies.follow_sd x y
  rw [e]
  exact ⟨rfl, rfl, rfl, rfl, rfl, rfl, rfl, rfl, rfl⟩

/-- `settle` changes the brake alone, and of it neither latch, RELEASE, arm, gate nor recorded causes; BRK_B is then as R264 has it. -/
theorem SafetyDie.settle_spec (s : SafetyDie) :
    s.settle = { s with brake := s.settle.brake } ∧ s.settle.brake.latch = s.brake.latch ∧ s.settle.brake.relA = s.brake.relA ∧
      s.settle.brake.arm = s.brake.arm ∧ s.settle.brake.gate = s.brake.gate ∧ s.settle.brake.causes = s.brake.causes ∧
      s.settle.brake.test = s.brake.test ∧ s.settle.brake.pulseA = s.brake.pulseA ∧ s.settle.brake.pulseB = s.brake.pulseB ∧
      s.settle.brake.onB = s.mayB :=
  ⟨rfl, rfl, rfl, rfl, rfl, rfl, rfl, rfl, rfl, rfl⟩

/-- A restart refused by a stop of its own cycle only records (R293). -/
theorem SafetyDie.refuseRestart_frame (x : SafetyDie) : x.refuseRestart.device = x.device ∧ x.refuseRestart.brake = x.brake ∧
    x.refuseRestart.heart = x.heart ∧ x.refuseRestart.kill = x.kill := by
  unfold SafetyDie.refuseRestart
  split
  · obtain ⟨l, n, q, f, w, t, e⟩ := (SafetyDie.recorded_raise x .restartRefused 0 0 2 _ : x.Recorded (x.raise .restartRefused 0 0 2))
    rw [e]
    exact ⟨rfl, rfl, rfl, rfl⟩
  · exact ⟨rfl, rfl, rfl, rfl⟩

/-- A stop cause in RUN (R280). -/
theorem SafetyDie.stop_spec (x : SafetyDie) (bit : Nat) (merge : Bool) (h : x.device = .run) :
    (x.stop bit merge).device = .safeHold ∧ (x.stop bit merge).brake.latch = true ∧ (x.stop bit merge).brake.relA = false ∧
      (x.stop bit merge).brake.arm = false ∧ (x.stop bit merge).brake.onB = false ∧
      (x.stop bit merge).brake.causes = x.brake.causes ||| 2 ^ bit ∧ (x.stop bit merge).heart = x.heart ∧
      (x.stop bit merge).kill = x.kill := by
  have ha : ∀ y : SafetyDie, y.abortTest.device = y.device ∧ y.abortTest.brake.causes = y.brake.causes ∧ y.abortTest.heart = y.heart ∧
      y.abortTest.kill = y.kill := by
    intro y
    have hp : ∀ y : SafetyDie, y.btPass.device = y.device ∧ y.btPass.brake.causes = y.brake.causes ∧ y.btPass.heart = y.heart ∧
        y.btPass.kill = y.kill := by
      intro y
      unfold SafetyDie.btPass
      split
      · split <;> exact ⟨rfl, rfl, rfl, rfl⟩
      · exact ⟨rfl, rfl, rfl, rfl⟩
    unfold SafetyDie.abortTest SafetyDie.endTest
    split <;> exact hp y
  obtain ⟨a1, a2, a3, a4⟩ := ha (x.refuseRestart.setBrake (fun b => { b with causes := b.causes ||| 2 ^ bit, stopAt := some x.now }))
  have hr : ∀ y : SafetyDie, (({ y.channelsOff with device := .safeHold } : SafetyDie).sendFlit flitSafeEnter).device = .safeHold ∧
      (({ y.channelsOff with device := .safeHold } : SafetyDie).sendFlit flitSafeEnter).brake = y.channelsOff.brake ∧
      (({ y.channelsOff with device := .safeHold } : SafetyDie).sendFlit flitSafeEnter).heart = y.heart ∧
      (({ y.channelsOff with device := .safeHold } : SafetyDie).sendFlit flitSafeEnter).kill = y.kill := by
    intro y
    obtain ⟨l, n, q, f, w, t, e⟩ := SafetyDie.recorded_sendFlits ({ y.channelsOff with device := .safeHold } : SafetyDie) [flitSafeEnter]
    unfold SafetyDie.sendFlit
    rw [e]
    exact ⟨rfl, rfl, rfl, rfl⟩
  have hadv : ∀ (y : SafetyDie) (c : Nat), (y.advance c).device = y.device ∧ (y.advance c).brake = y.brake ∧ (y.advance c).heart = y.heart ∧
      (y.advance c).kill = y.kill := by
    intro y c
    unfold SafetyDie.advance
    split
    · exact ⟨rfl, rfl, rfl, rfl⟩
    · have he : y.stepEpoch.device = y.device ∧ y.stepEpoch.brake = y.brake ∧ y.stepEpoch.heart = y.heart ∧ y.stepEpoch.kill = y.kill := by
        unfold SafetyDie.stepEpoch
        split <;> exact ⟨rfl, rfl, rfl, rfl⟩
      unfold SafetyDie.sendEpoch SafetyDie.sendFlit
      obtain ⟨l, n, q, f, w, t, e⟩ := SafetyDie.recorded_sendFlits y.stepEpoch [flitEpoch y.stepEpoch.guest.epoch c]
      rw [e]
      exact he
  obtain ⟨q1, q2, q3, q4⟩ := SafetyDie.refuseRestart_frame x
  unfold SafetyDie.stop
  extract_lets s1 y s3
  have hd : ¬ s1.device ≠ .run := by rw [show s1.device = x.device from a1.trans q1, h]; simp
  rw [if_neg hd]
  obtain ⟨b1, b2, b3, b4⟩ := hr s1
  have hc : s1.channelsOff.brake.causes = x.brake.causes ||| 2 ^ bit := by
    rw [← q2]; exact a2
  split
  · exact ⟨b1, by rw [show (_ : SafetyDie).brake = s1.channelsOff.brake from b2]; rfl, by rw [show (_ : SafetyDie).brake = s1.channelsOff.brake from b2]; rfl,
      by rw [show (_ : SafetyDie).brake = s1.channelsOff.brake from b2]; rfl, by rw [show (_ : SafetyDie).brake = s1.channelsOff.brake from b2]; rfl,
      by rw [show (_ : SafetyDie).brake = s1.channelsOff.brake from b2, hc], b3.trans (a3.trans q3), b4.trans (a4.trans q4)⟩
  · obtain ⟨c1, c2, c3, c4⟩ := hadv s3 2
    refine ⟨c1.trans b1, ?_, ?_, ?_, ?_, ?_, c3.trans (b3.trans (a3.trans q3)), c4.trans (b4.trans (a4.trans q4))⟩ <;> rw [c2, show s3.brake = s1.channelsOff.brake from b2]
    · rfl
    · rfl
    · rfl
    · rfl
    · exact hc

end Sys2Proof.Machine
end

