-- ==== Sys2Proof/Laws/Gate.lean ====
section
/-! SUPPORT. Laws of the toll gate: what leaves the lanes alone, how a record starts, and which record is picked. -/

namespace Sys2Proof.Machine

/-- A ring entry leaves the lanes. -/
theorem CheckDie.ringWriteOne_lanes (d : CheckDie) (r : Nat) (b : Octets) : (d.ringWriteOne r b).lanes = d.lanes := rfl
/-- Several ring entries leave the lanes. -/
theorem CheckDie.ringWrites_lanes (us : List Octets) (d : CheckDie) (r : Nat) : (us.foldl (fun d u => d.ringWriteOne r u) d).lanes = d.lanes := by
  induction us generalizing d with
  | nil => rfl
  | cons u us ih => rw [List.foldl_cons, ih, CheckDie.ringWriteOne_lanes]
/-- A mirror entry of the host leaves the lanes. -/
theorem CheckDie.mirrorHost_lanes (d : CheckDie) (us : List Octets) : (d.mirrorHost us).lanes = d.lanes := by
  have h : (d.ringPush 0 us).1.lanes = d.lanes := by
    unfold CheckDie.ringPush; simp only
    repeat' split
    all_goals first | rfl | exact CheckDie.ringWrites_lanes _ _ _
  unfold CheckDie.mirrorHost; simp only; split
  · exact h
  · exact h
/-- A fabric frame leaves the lanes. -/
theorem CheckDie.fabEmit_lanes (d : CheckDie) (f : FabFrame) : (d.fabEmit f).lanes = d.lanes := by
  unfold CheckDie.fabEmit; split <;> rfl
/-- A sequenced fabric frame leaves the lanes. -/
theorem CheckDie.fabSend_lanes (d : CheckDie) (f : FabFrame) : (d.fabSend f).lanes = d.lanes := by
  unfold CheckDie.fabSend; simp only; split
  · rfl
  · rw [CheckDie.fabEmit_lanes]; rfl
/-- A fabric operation leaves the lanes. -/
theorem CheckDie.fabOp_lanes (d : CheckDie) (a b c e : Nat) (p : Octets) (f g h : Nat) : (d.fabOp a b c e p f g h).lanes = d.lanes := by
  unfold CheckDie.fabOp; simp only; rw [CheckDie.fabSend_lanes]
/-- A mirror entry of a peer leaves the lanes. -/
theorem CheckDie.mirrorPut_lanes (d : CheckDie) (k n : Nat) (b : Octets) : (d.mirrorPut k n b).lanes = d.lanes := by
  unfold CheckDie.mirrorPut; simp only; rw [CheckDie.fabOp_lanes, CheckDie.fabOp_lanes]; rfl
/-- A fold of steps that leave the lanes leaves them. -/
theorem CheckDie.forEach_lanes {α : Type} (f : CheckDie → α → CheckDie) (h : ∀ d x, (f d x).lanes = d.lanes) (l : List α) (d : CheckDie) :
    (d.forEach l f).lanes = d.lanes := by
  unfold CheckDie.forEach
  induction l generalizing d with
  | nil => rfl
  | cons u us ih => rw [List.foldl_cons, ih, h]
/-- A mirror target leaves the lanes. -/
theorem CheckDie.updMirror_lanes (d : CheckDie) (k : Nat) (f : MirrorOut → MirrorOut) : (d.updMirror k f).lanes = d.lanes := rfl
/-- A record copied to the peers leaves the lanes. -/
theorem CheckDie.mirrorPeers_lanes (d : CheckDie) (k : Nat) (s : Option Nat) (b : Octets) : (d.mirrorPeers k s b).lanes = d.lanes := by
  unfold CheckDie.mirrorPeers
  apply CheckDie.forEach_lanes
  intro d x
  simp only
  cases s
  all_goals
    simp only
    rw [apply_ite CheckDie.lanes]
    split
    · rfl
    · rw [apply_ite CheckDie.lanes]
      split
      · exact CheckDie.mirrorPut_lanes _ _ _ _
      · rw [apply_ite CheckDie.lanes]
        split
        · exact CheckDie.updMirror_lanes _ _ _
        · rw [CheckDie.fabOp_lanes, CheckDie.updMirror_lanes, CheckDie.updMirror_lanes]
/-- A mirror copy leaves the lanes (R227). -/
theorem CheckDie.mirrorCopy_lanes (d : CheckDie) (k : EgKind) (b : Octets) : (d.mirrorCopy k b).lanes = d.lanes := by
  unfold CheckDie.mirrorCopy; simp only; rw [CheckDie.mirrorPeers_lanes, CheckDie.mirrorHost_lanes]
/-- What `startItem` makes of its lane. -/
theorem CheckDie.startItem_lanes (d : CheckDie) (l : Nat) (x : EgItem) (rest : List EgItem) : ∃ (f : Lane → Option (Nat × Nat)) (o : Octets) (stop : Nat),
    (d.startItem l x rest).lanes = (d.updLane l (fun y =>
      { y with queue := rest, follow := f y,
               sending := some { item := x, start := d.now, stop := stop, seq := d.egressSeq l x.cid, octets := o } })).lanes := by
  refine ⟨fun y => if x.kind = .verdict ∧ y.follow = some (x.entry, x.consumer) then y.follow else none,
    egressOctets x.kind.code x.cid (d.egressSeq l x.cid) d.gts x.body,
    d.now + itemNs (d.get Od.VE_LINE_RATE l) (egressOctets x.kind.code x.cid (d.egressSeq l x.cid) d.gts x.body).length, ?_⟩
  unfold CheckDie.startItem
  simp only
  split
  · rw [CheckDie.mirrorCopy_lanes]
  · rfl
/-- A record that starts is in progress on its lane, with the number that follows the last of its CONSUMER_ID (R210), and the rest of
the queue waits. -/
theorem CheckDie.startItem_lane (d : CheckDie) (l : Nat) (x : EgItem) (rest : List EgItem) :
    ((d.startItem l x rest).lane l).queue = rest ∧ ∃ o stop, ((d.startItem l x rest).lane l).sending =
      some { item := x, start := d.now, stop := stop, seq := d.egressSeq l x.cid, octets := o } := by
  obtain ⟨f, o, stop, h⟩ := d.startItem_lanes l x rest
  have k : (d.startItem l x rest).lane l = { d.lane l with
      queue := rest, follow := f (d.lane l)
      sending := some { item := x, start := d.now, stop := stop, seq := d.egressSeq l x.cid, octets := o } } := by
    unfold CheckDie.lane
    rw [h]
    simp only [CheckDie.updLane]
    rw [Tbl.get_upd]
    intro h
    have := congrArg Lane.sending h
    simp at this
  rw [k]
  exact ⟨rfl, o, stop, rfl⟩
/-- What is picked has the property. -/
theorem pickFirst_spec (p : EgItem → Bool) (l : List EgItem) (y : EgItem) (r : List EgItem) (h : pickFirst p l = some (y, r)) : p y = true := by
  induction l generalizing r with
  | nil => simp [pickFirst] at h
  | cons x xs ih =>
    unfold pickFirst at h
    split at h
    · simp_all
    · simp only [Option.map_eq_some_iff] at h
      obtain ⟨⟨a, b⟩, h1, h2⟩ := h
      simp only [Prod.mk.injEq] at h2
      obtain ⟨rfl, _⟩ := h2
      exact ih b h1
/-- Nothing is picked just when nothing has the property. -/
theorem pickFirst_none (p : EgItem → Bool) (l : List EgItem) : pickFirst p l = none ↔ l.any p = false := by
  induction l with
  | nil => simp [pickFirst]
  | cons x xs ih =>
    unfold pickFirst
    split <;> simp_all
/-- An inserted record is there. -/
theorem insertItem_mem (x : EgItem) (l : List EgItem) : x ∈ insertItem x l := by
  induction l with
  | nil => simp [insertItem]
  | cons y ys ih => unfold insertItem; split <;> simp_all

end Sys2Proof.Machine
end

