-- ==== Sys2Proof/Laws/Limits.lean ====
section
/-! SUPPORT. Every operation on the safety die keeps the limits of the safety log and of the staged set (R323, R356): one lemma per
operation, which the next ones cite. -/

-- One theorem after another: run side by side they ask for more threads than the check allows.
set_option Elab.async false
set_option linter.unusedTactic false
set_option linter.unreachableTactic false
set_option linter.unusedSimpArgs false
set_option linter.unusedVariables false

namespace Sys2Proof.Machine

/-- The limits of the log and of the staged set, where `lim` says they held, and the raised floor at or above `low`. -/
def SafetyDie.Kept (lim : Prop) (low : Nat) (s : SafetyDie) : Prop :=
  (lim → s.log.length ≤ 256) ∧ (lim → s.staging.entries.length ≤ 2048) ∧ low ≤ s.floor

/-- The limits speak of two fields only. -/
theorem SafetyDie.kept_mk (lim : Prop) (low : Nat) (now : Nat) (draws : Nat) (sent : List Sent) (device : DevState) (power : PowerState) (values : OdStore) (flash : OdStore) (older : OdStore) (olderKeys : Tbl Octets) (regs : OdStore) (bootCfg : OdStore) (keys : Tbl Octets) (splitApp : Octets) (cert : Octets) (floor : Nat) (guest : GuestBook) (rtc : Nat) (rtcAt : Nat) (rtcSet : Nat) (gtsBase : Nat) (gtsAt : Nat) (gtsSet : Bool) (resetEnd : Nat) (firstFrom : Option (Nat × Nat)) (keeper : Keeper) (corTx : CorTx) (corRx : CorRx) (cdState : CdState) (sorter : Sorter) (heart : HeartMon) (demand : Bool) (kill : Kill) (pairs : Tbl InputPair) (pulseAt : Nat) (brake : Brake) (wds : Dog) (wdh : Dog) (gate : DogGate) (rc : RollCall) (log : List EventRec) (logSent : Nat) (logLost : LostCounts) (sessions : Tbl (Option Session)) (staging : Staging) (stores : List PendingStore) (boundaryGts : Nat) (boundaryCauses : Nat) (boundaryEpoch : Nat) (advancedAt : Option Nat) (prior : Option (Nat × List (Nat × Val))) (pending : Nat) (fw : Firmware) (attest : Attest) (boot : Boot) (thermLow : Bool) (temps : List (Nat × Int)) (injectOwner : Nat) (armed : List ArmedInj) (injectors : List Injector) (margin : MarginPlan) (sleepAt : Nat) (wakeWaits : Bool) (partners : Tbl Octets) (serviceOwner : Option Nat) (tunnel : Tbl Octets) :
    (SafetyDie.mk now draws sent device power values flash older olderKeys regs bootCfg keys splitApp cert floor guest rtc rtcAt rtcSet gtsBase gtsAt gtsSet resetEnd firstFrom keeper corTx corRx cdState sorter heart demand kill pairs pulseAt brake wds wdh gate rc log logSent logLost sessions staging stores boundaryGts boundaryCauses boundaryEpoch advancedAt prior pending fw attest boot thermLow temps injectOwner armed injectors margin sleepAt wakeWaits partners serviceOwner tunnel).Kept lim low ↔ (lim → log.length ≤ 256) ∧ (lim → staging.entries.length ≤ 2048) ∧ low ≤ floor := Iff.rfl

/-- The first limit. -/
theorem SafetyDie.Kept.log_le {lim : Prop} {low : Nat} {s : SafetyDie} (h : s.Kept lim low) : lim → s.log.length ≤ 256 := h.1
/-- The second limit. -/
theorem SafetyDie.Kept.staged_le {lim : Prop} {low : Nat} {s : SafetyDie} (h : s.Kept lim low) : lim → s.staging.entries.length ≤ 2048 := h.2.1
/-- The floor. -/
theorem SafetyDie.Kept.le_floor {lim : Prop} {low : Nat} {s : SafetyDie} (h : s.Kept lim low) : low ≤ s.floor := h.2.2

variable {lim : Prop} {low : Nat}

/-- A fold of operations that keep the limits keeps them. -/
theorem SafetyDie.foldl_kept {α : Type} (l : List α) (s : SafetyDie) (f : SafetyDie → α → SafetyDie) (h : s.Kept lim low)
    (hf : ∀ (y : SafetyDie) (a : α), y.Kept lim low → (f y a).Kept lim low) : (l.foldl f s).Kept lim low := by
  induction l generalizing s with
  | nil => exact h
  | cons a l ih => exact ih _ (hf _ _ h)

theorem SafetyDie.tick_kept (s : SafetyDie) (t : Nat) (h : s.Kept lim low) : (SafetyDie.tick s t).Kept lim low := by
  unfold SafetyDie.tick
  try dsimp only
  repeat' (first
    | with_reducible assumption
    | with_reducible apply SafetyDie.foldl_kept
    | (simp only [↓SafetyDie.kept_mk]; refine ⟨?_, ?_, ?_⟩)
    | with_reducible apply SafetyDie.Kept.log_le (lim := lim) (low := low)
    | with_reducible apply SafetyDie.Kept.staged_le (lim := lim) (low := low)
    | with_reducible apply SafetyDie.Kept.le_floor (lim := lim) (low := low)
    | split
    | (intro _)
    | (rw [id_eq])
    | (simp; done))

theorem SafetyDie.when_kept (s : SafetyDie) (b : Bool) (f : SafetyDie → SafetyDie) (h : s.Kept lim low) (h1 : ∀ y : SafetyDie, y.Kept lim low → (f y).Kept lim low) : (SafetyDie.when s b f).Kept lim low := by
  unfold SafetyDie.when
  try dsimp only
  repeat' (first
    | with_reducible assumption
    | with_reducible apply h1
    | with_reducible apply SafetyDie.foldl_kept
    | (simp only [↓SafetyDie.kept_mk]; refine ⟨?_, ?_, ?_⟩)
    | with_reducible apply SafetyDie.Kept.log_le (lim := lim) (low := low)
    | with_reducible apply SafetyDie.Kept.staged_le (lim := lim) (low := low)
    | with_reducible apply SafetyDie.Kept.le_floor (lim := lim) (low := low)
    | split
    | (intro _)
    | (rw [id_eq])
    | (simp; done))

theorem SafetyDie.forEach_kept {α : Type} (s : SafetyDie) (l : List α) (f : SafetyDie → α → SafetyDie) (h : s.Kept lim low) (h1 : ∀ (y : SafetyDie) (a : α), y.Kept lim low → (f y a).Kept lim low) : (SafetyDie.forEach s l f).Kept lim low := by
  exact SafetyDie.foldl_kept l s f h h1

theorem SafetyDie.bump_kept (s : SafetyDie) (r : OdRow) (i : Nat) (n : Nat) (h : s.Kept lim low) : (SafetyDie.bump s r i n).Kept lim low := by
  unfold SafetyDie.bump
  try dsimp only
  repeat' (first
    | with_reducible assumption
    | with_reducible apply SafetyDie.foldl_kept
    | (simp only [↓SafetyDie.kept_mk]; refine ⟨?_, ?_, ?_⟩)
    | with_reducible apply SafetyDie.Kept.log_le (lim := lim) (low := low)
    | with_reducible apply SafetyDie.Kept.staged_le (lim := lim) (low := low)
    | with_reducible apply SafetyDie.Kept.le_floor (lim := lim) (low := low)
    | split
    | (intro _)
    | (rw [id_eq])
    | (simp; done))

theorem SafetyDie.put_kept (s : SafetyDie) (x : Sent) (h : s.Kept lim low) : (SafetyDie.put s x).Kept lim low := by
  unfold SafetyDie.put
  try dsimp only
  repeat' (first
    | with_reducible assumption
    | with_reducible apply SafetyDie.foldl_kept
    | (simp only [↓SafetyDie.kept_mk]; refine ⟨?_, ?_, ?_⟩)
    | with_reducible apply SafetyDie.Kept.log_le (lim := lim) (low := low)
    | with_reducible apply SafetyDie.Kept.staged_le (lim := lim) (low := low)
    | with_reducible apply SafetyDie.Kept.le_floor (lim := lim) (low := low)
    | split
    | (intro _)
    | (rw [id_eq])
    | (simp; done))

theorem SafetyDie.draw_kept (s : SafetyDie) (h : s.Kept lim low) : (SafetyDie.draw s).2.Kept lim low := by
  unfold SafetyDie.draw
  try dsimp only
  repeat' (first
    | with_reducible assumption
    | with_reducible apply SafetyDie.foldl_kept
    | (simp only [↓SafetyDie.kept_mk]; refine ⟨?_, ?_, ?_⟩)
    | with_reducible apply SafetyDie.Kept.log_le (lim := lim) (low := low)
    | with_reducible apply SafetyDie.Kept.staged_le (lim := lim) (low := low)
    | with_reducible apply SafetyDie.Kept.le_floor (lim := lim) (low := low)
    | split
    | (intro _)
    | (rw [id_eq])
    | (simp; done))

theorem SafetyDie.sendFlits_kept (s : SafetyDie) (fs : List Flit) (h : s.Kept lim low) : (SafetyDie.sendFlits s fs).Kept lim low := by
  unfold SafetyDie.sendFlits
  try dsimp only
  repeat' (first
    | with_reducible assumption
    | with_reducible apply SafetyDie.foldl_kept
    | (simp only [↓SafetyDie.kept_mk]; refine ⟨?_, ?_, ?_⟩)
    | with_reducible apply SafetyDie.Kept.log_le (lim := lim) (low := low)
    | with_reducible apply SafetyDie.Kept.staged_le (lim := lim) (low := low)
    | with_reducible apply SafetyDie.Kept.le_floor (lim := lim) (low := low)
    | split
    | (intro _)
    | (rw [id_eq])
    | (simp; done))

theorem SafetyDie.sendFlit_kept (s : SafetyDie) (f : Flit) (h : s.Kept lim low) : (SafetyDie.sendFlit s f).Kept lim low := by
  unfold SafetyDie.sendFlit
  try dsimp only
  repeat' (first
    | with_reducible assumption
    | with_reducible apply SafetyDie.sendFlits_kept
    | with_reducible apply SafetyDie.foldl_kept
    | (simp only [↓SafetyDie.kept_mk]; refine ⟨?_, ?_, ?_⟩)
    | with_reducible apply SafetyDie.Kept.log_le (lim := lim) (low := low)
    | with_reducible apply SafetyDie.Kept.staged_le (lim := lim) (low := low)
    | with_reducible apply SafetyDie.Kept.le_floor (lim := lim) (low := low)
    | split
    | (intro _)
    | (rw [id_eq])
    | (simp; done))

/-- The ring holds at most 256 records (R326). -/
theorem logPush_le (log : List EventRec) (n : Nat) (r : EventRec) (h : log.length ≤ 256) : (logPush log n r).1.length ≤ 256 := by
  unfold logPush
  split
  · simp; omega
  · split
    · next i hi =>
      have := List.findIdx?_eq_some_iff_findIdx_eq.mp hi
      simp [List.length_eraseIdx, this.1]; omega
    · exact h

theorem SafetyDie.store_kept (s : SafetyDie) (r : EventRec) (h : s.Kept lim low) : (SafetyDie.store s r).Kept lim low := by
  exact ⟨fun hp => logPush_le _ _ _ (h.1 hp), h.2⟩

theorem SafetyDie.sendRecord_kept (s : SafetyDie) (r : EventRec) (h : s.Kept lim low) : (SafetyDie.sendRecord s r).Kept lim low := by
  unfold SafetyDie.sendRecord
  try dsimp only
  repeat' (first
    | with_reducible assumption
    | with_reducible apply SafetyDie.sendFlits_kept
    | with_reducible apply SafetyDie.foldl_kept
    | (simp only [↓SafetyDie.kept_mk]; refine ⟨?_, ?_, ?_⟩)
    | with_reducible apply SafetyDie.Kept.log_le (lim := lim) (low := low)
    | with_reducible apply SafetyDie.Kept.staged_le (lim := lim) (low := low)
    | with_reducible apply SafetyDie.Kept.le_floor (lim := lim) (low := low)
    | split
    | (intro _)
    | (rw [id_eq])
    | (simp; done))

theorem SafetyDie.flushLog_kept (s : SafetyDie) (h : s.Kept lim low) : (SafetyDie.flushLog s).Kept lim low := by
  unfold SafetyDie.flushLog
  try dsimp only
  repeat' (first
    | with_reducible assumption
    | with_reducible apply SafetyDie.forEach_kept
    | with_reducible apply SafetyDie.sendRecord_kept
    | with_reducible apply SafetyDie.foldl_kept
    | (simp only [↓SafetyDie.kept_mk]; refine ⟨?_, ?_, ?_⟩)
    | with_reducible apply SafetyDie.Kept.log_le (lim := lim) (low := low)
    | with_reducible apply SafetyDie.Kept.staged_le (lim := lim) (low := low)
    | with_reducible apply SafetyDie.Kept.le_floor (lim := lim) (low := low)
    | split
    | (intro _)
    | (rw [id_eq])
    | (simp; done))

theorem SafetyDie.raise_kept (s : SafetyDie) (n : EventName) (ctx : Nat) (inst : Nat) (detail : Nat) (opDesc : Nat) (h : s.Kept lim low) : (SafetyDie.raise s n ctx inst detail opDesc).Kept lim low := by
  unfold SafetyDie.raise
  try dsimp only
  repeat' (first
    | with_reducible assumption
    | with_reducible apply SafetyDie.flushLog_kept
    | with_reducible apply SafetyDie.store_kept
    | with_reducible apply SafetyDie.foldl_kept
    | (simp only [↓SafetyDie.kept_mk]; refine ⟨?_, ?_, ?_⟩)
    | with_reducible apply SafetyDie.Kept.log_le (lim := lim) (low := low)
    | with_reducible apply SafetyDie.Kept.staged_le (lim := lim) (low := low)
    | with_reducible apply SafetyDie.Kept.le_floor (lim := lim) (low := low)
    | split
    | (intro _)
    | (rw [id_eq])
    | (simp; done))

theorem SafetyDie.logClear_kept (s : SafetyDie) (v : Nat) (h : s.Kept lim low) : (SafetyDie.logClear s v).Kept lim low := by
  unfold SafetyDie.logClear
  dsimp only
  apply SafetyDie.raise_kept
  repeat' split
  all_goals first
    | exact ⟨fun hp => (List.length_filter_le _ _).trans (h.1 hp), h.2⟩
    | exact h

theorem SafetyDie.sendAck_kept (s : SafetyDie) (h : s.Kept lim low) : (SafetyDie.sendAck s).Kept lim low := by
  unfold SafetyDie.sendAck
  try dsimp only
  repeat' (first
    | with_reducible assumption
    | with_reducible apply SafetyDie.put_kept
    | with_reducible apply SafetyDie.foldl_kept
    | (simp only [↓SafetyDie.kept_mk]; refine ⟨?_, ?_, ?_⟩)
    | with_reducible apply SafetyDie.Kept.log_le (lim := lim) (low := low)
    | with_reducible apply SafetyDie.Kept.staged_le (lim := lim) (low := low)
    | with_reducible apply SafetyDie.Kept.le_floor (lim := lim) (low := low)
    | split
    | (intro _)
    | (rw [id_eq])
    | (simp; done))

theorem SafetyDie.sendEpoch_kept (s : SafetyDie) (causes : Nat) (h : s.Kept lim low) : (SafetyDie.sendEpoch s causes).Kept lim low := by
  unfold SafetyDie.sendEpoch
  try dsimp only
  repeat' (first
    | with_reducible assumption
    | with_reducible apply SafetyDie.sendFlit_kept
    | with_reducible apply SafetyDie.foldl_kept
    | (simp only [↓SafetyDie.kept_mk]; refine ⟨?_, ?_, ?_⟩)
    | with_reducible apply SafetyDie.Kept.log_le (lim := lim) (low := low)
    | with_reducible apply SafetyDie.Kept.staged_le (lim := lim) (low := low)
    | with_reducible apply SafetyDie.Kept.le_floor (lim := lim) (low := low)
    | split
    | (intro _)
    | (rw [id_eq])
    | (simp; done))

theorem SafetyDie.stepEpoch_kept (s : SafetyDie) (h : s.Kept lim low) : (SafetyDie.stepEpoch s).Kept lim low := by
  unfold SafetyDie.stepEpoch
  try dsimp only
  repeat' (first
    | with_reducible assumption
    | with_reducible apply SafetyDie.foldl_kept
    | (simp only [↓SafetyDie.kept_mk]; refine ⟨?_, ?_, ?_⟩)
    | with_reducible apply SafetyDie.Kept.log_le (lim := lim) (low := low)
    | with_reducible apply SafetyDie.Kept.staged_le (lim := lim) (low := low)
    | with_reducible apply SafetyDie.Kept.le_floor (lim := lim) (low := low)
    | split
    | (intro _)
    | (rw [id_eq])
    | (simp; done))

theorem SafetyDie.advance_kept (s : SafetyDie) (causes : Nat) (h : s.Kept lim low) : (SafetyDie.advance s causes).Kept lim low := by
  unfold SafetyDie.advance
  try dsimp only
  repeat' (first
    | with_reducible assumption
    | with_reducible apply SafetyDie.sendEpoch_kept
    | with_reducible apply SafetyDie.stepEpoch_kept
    | with_reducible apply SafetyDie.foldl_kept
    | (simp only [↓SafetyDie.kept_mk]; refine ⟨?_, ?_, ?_⟩)
    | with_reducible apply SafetyDie.Kept.log_le (lim := lim) (low := low)
    | with_reducible apply SafetyDie.Kept.staged_le (lim := lim) (low := low)
    | with_reducible apply SafetyDie.Kept.le_floor (lim := lim) (low := low)
    | split
    | (intro _)
    | (rw [id_eq])
    | (simp; done))

theorem SafetyDie.setBrake_kept (s : SafetyDie) (f : Brake → Brake) (h : s.Kept lim low) : (SafetyDie.setBrake s f).Kept lim low := by
  unfold SafetyDie.setBrake
  try dsimp only
  repeat' (first
    | with_reducible assumption
    | with_reducible apply SafetyDie.foldl_kept
    | (simp only [↓SafetyDie.kept_mk]; refine ⟨?_, ?_, ?_⟩)
    | with_reducible apply SafetyDie.Kept.log_le (lim := lim) (low := low)
    | with_reducible apply SafetyDie.Kept.staged_le (lim := lim) (low := low)
    | with_reducible apply SafetyDie.Kept.le_floor (lim := lim) (low := low)
    | split
    | (intro _)
    | (rw [id_eq])
    | (simp; done))

theorem SafetyDie.setGuest_kept (s : SafetyDie) (f : GuestBook → GuestBook) (h : s.Kept lim low) : (SafetyDie.setGuest s f).Kept lim low := by
  unfold SafetyDie.setGuest
  try dsimp only
  repeat' (first
    | with_reducible assumption
    | with_reducible apply SafetyDie.foldl_kept
    | (simp only [↓SafetyDie.kept_mk]; refine ⟨?_, ?_, ?_⟩)
    | with_reducible apply SafetyDie.Kept.log_le (lim := lim) (low := low)
    | with_reducible apply SafetyDie.Kept.staged_le (lim := lim) (low := low)
    | with_reducible apply SafetyDie.Kept.le_floor (lim := lim) (low := low)
    | split
    | (intro _)
    | (rw [id_eq])
    | (simp; done))

theorem SafetyDie.settle_kept (s : SafetyDie) (h : s.Kept lim low) : (SafetyDie.settle s).Kept lim low := by
  unfold SafetyDie.settle
  try dsimp only
  repeat' (first
    | with_reducible assumption
    | with_reducible apply SafetyDie.setBrake_kept
    | with_reducible apply SafetyDie.foldl_kept
    | (simp only [↓SafetyDie.kept_mk]; refine ⟨?_, ?_, ?_⟩)
    | with_reducible apply SafetyDie.Kept.log_le (lim := lim) (low := low)
    | with_reducible apply SafetyDie.Kept.staged_le (lim := lim) (low := low)
    | with_reducible apply SafetyDie.Kept.le_floor (lim := lim) (low := low)
    | split
    | (intro _)
    | (rw [id_eq])
    | (simp; done))

theorem SafetyDie.channelsOff_kept (s : SafetyDie) (h : s.Kept lim low) : (SafetyDie.channelsOff s).Kept lim low := by
  unfold SafetyDie.channelsOff
  try dsimp only
  repeat' (first
    | with_reducible assumption
    | with_reducible apply SafetyDie.setBrake_kept
    | with_reducible apply SafetyDie.settle_kept
    | with_reducible apply SafetyDie.foldl_kept
    | (simp only [↓SafetyDie.kept_mk]; refine ⟨?_, ?_, ?_⟩)
    | with_reducible apply SafetyDie.Kept.log_le (lim := lim) (low := low)
    | with_reducible apply SafetyDie.Kept.staged_le (lim := lim) (low := low)
    | with_reducible apply SafetyDie.Kept.le_floor (lim := lim) (low := low)
    | split
    | (intro _)
    | (rw [id_eq])
    | (simp; done))

theorem SafetyDie.btPass_kept (s : SafetyDie) (h : s.Kept lim low) : (SafetyDie.btPass s).Kept lim low := by
  unfold SafetyDie.btPass
  try dsimp only
  repeat' (first
    | with_reducible assumption
    | with_reducible apply SafetyDie.setBrake_kept
    | with_reducible apply SafetyDie.setGuest_kept
    | with_reducible apply SafetyDie.foldl_kept
    | (simp only [↓SafetyDie.kept_mk]; refine ⟨?_, ?_, ?_⟩)
    | with_reducible apply SafetyDie.Kept.log_le (lim := lim) (low := low)
    | with_reducible apply SafetyDie.Kept.staged_le (lim := lim) (low := low)
    | with_reducible apply SafetyDie.Kept.le_floor (lim := lim) (low := low)
    | split
    | (intro _)
    | (rw [id_eq])
    | (simp; done))

theorem SafetyDie.endTest_kept (s : SafetyDie) (result : Nat) (h : s.Kept lim low) : (SafetyDie.endTest s result).Kept lim low := by
  unfold SafetyDie.endTest
  try dsimp only
  repeat' (first
    | with_reducible assumption
    | with_reducible apply SafetyDie.setBrake_kept
    | with_reducible apply SafetyDie.setGuest_kept
    | with_reducible apply SafetyDie.foldl_kept
    | (simp only [↓SafetyDie.kept_mk]; refine ⟨?_, ?_, ?_⟩)
    | with_reducible apply SafetyDie.Kept.log_le (lim := lim) (low := low)
    | with_reducible apply SafetyDie.Kept.staged_le (lim := lim) (low := low)
    | with_reducible apply SafetyDie.Kept.le_floor (lim := lim) (low := low)
    | split
    | (intro _)
    | (rw [id_eq])
    | (simp; done))

theorem SafetyDie.abortTest_kept (s : SafetyDie) (h : s.Kept lim low) : (SafetyDie.abortTest s).Kept lim low :=
  SafetyDie.endTest_kept _ _ (SafetyDie.btPass_kept _ h)

theorem SafetyDie.eventTest_kept (s : SafetyDie) (h : s.Kept lim low) : (SafetyDie.eventTest s).Kept lim low := by
  unfold SafetyDie.eventTest
  apply SafetyDie.setBrake_kept
  split
  · exact SafetyDie.endTest_kept _ _ h
  · exact SafetyDie.abortTest_kept _ h

theorem SafetyDie.release_kept (s : SafetyDie) (h : s.Kept lim low) : (SafetyDie.release s).Kept lim low := by
  unfold SafetyDie.release
  try dsimp only
  repeat' (first
    | with_reducible assumption
    | with_reducible apply SafetyDie.advance_kept
    | with_reducible apply SafetyDie.sendFlit_kept
    | with_reducible apply SafetyDie.setBrake_kept
    | with_reducible apply SafetyDie.settle_kept
    | with_reducible apply SafetyDie.foldl_kept
    | (simp only [↓SafetyDie.kept_mk]; refine ⟨?_, ?_, ?_⟩)
    | with_reducible apply SafetyDie.Kept.log_le (lim := lim) (low := low)
    | with_reducible apply SafetyDie.Kept.staged_le (lim := lim) (low := low)
    | with_reducible apply SafetyDie.Kept.le_floor (lim := lim) (low := low)
    | split
    | (intro _)
    | (rw [id_eq])
    | (simp; done))

theorem Dies.release_kept (x : Dies) (h : x.sd.Kept lim low) : (Dies.release x).sd.Kept lim low := by
  unfold Dies.release
  try dsimp only
  repeat' (first
    | with_reducible assumption
    | with_reducible apply SafetyDie.tick_kept
    | with_reducible apply SafetyDie.foldl_kept
    | (simp only [↓SafetyDie.kept_mk]; refine ⟨?_, ?_, ?_⟩)
    | with_reducible apply SafetyDie.Kept.log_le (lim := lim) (low := low)
    | with_reducible apply SafetyDie.Kept.staged_le (lim := lim) (low := low)
    | with_reducible apply SafetyDie.Kept.le_floor (lim := lim) (low := low)
    | split
    | (intro _)
    | (rw [id_eq])
    | (simp; done))

theorem SafetyDie.refuseRestart_kept (s : SafetyDie) (h : s.Kept lim low) : (SafetyDie.refuseRestart s).Kept lim low := by
  unfold SafetyDie.refuseRestart
  try dsimp only
  repeat' (first
    | with_reducible assumption
    | with_reducible apply Dies.release_kept
    | with_reducible apply SafetyDie.raise_kept
    | with_reducible apply SafetyDie.release_kept
    | with_reducible apply SafetyDie.foldl_kept
    | (simp only [↓SafetyDie.kept_mk]; refine ⟨?_, ?_, ?_⟩)
    | with_reducible apply SafetyDie.Kept.log_le (lim := lim) (low := low)
    | with_reducible apply SafetyDie.Kept.staged_le (lim := lim) (low := low)
    | with_reducible apply SafetyDie.Kept.le_floor (lim := lim) (low := low)
    | split
    | (intro _)
    | (rw [id_eq])
    | (simp; done))

theorem SafetyDie.stop_kept (s : SafetyDie) (bit : Nat) (merge : Bool) (h : s.Kept lim low) : (SafetyDie.stop s bit merge).Kept lim low := by
  unfold SafetyDie.stop
  try dsimp only
  repeat' (first
    | with_reducible assumption
    | with_reducible apply SafetyDie.abortTest_kept
    | with_reducible apply SafetyDie.advance_kept
    | with_reducible apply SafetyDie.channelsOff_kept
    | with_reducible apply SafetyDie.refuseRestart_kept
    | with_reducible apply SafetyDie.sendFlit_kept
    | with_reducible apply SafetyDie.setBrake_kept
    | with_reducible apply SafetyDie.settle_kept
    | with_reducible apply SafetyDie.foldl_kept
    | (simp only [↓SafetyDie.kept_mk]; refine ⟨?_, ?_, ?_⟩)
    | with_reducible apply SafetyDie.Kept.log_le (lim := lim) (low := low)
    | with_reducible apply SafetyDie.Kept.staged_le (lim := lim) (low := low)
    | with_reducible apply SafetyDie.Kept.le_floor (lim := lim) (low := low)
    | split
    | (intro _)
    | (rw [id_eq])
    | (simp; done))

theorem SafetyDie.hblStop_kept (s : SafetyDie) (bit : Nat) (merge : Bool) (h : s.Kept lim low) : (SafetyDie.hblStop s bit merge).Kept lim low := by
  unfold SafetyDie.hblStop
  try dsimp only
  repeat' (first
    | with_reducible assumption
    | with_reducible apply SafetyDie.setBrake_kept
    | with_reducible apply SafetyDie.settle_kept
    | with_reducible apply SafetyDie.stop_kept
    | with_reducible apply SafetyDie.foldl_kept
    | (simp only [↓SafetyDie.kept_mk]; refine ⟨?_, ?_, ?_⟩)
    | with_reducible apply SafetyDie.Kept.log_le (lim := lim) (low := low)
    | with_reducible apply SafetyDie.Kept.staged_le (lim := lim) (low := low)
    | with_reducible apply SafetyDie.Kept.le_floor (lim := lim) (low := low)
    | split
    | (intro _)
    | (rw [id_eq])
    | (simp; done))

theorem SafetyDie.restart_kept (s0 : SafetyDie) (h : s0.Kept lim low) : (SafetyDie.restart s0).Kept lim low := by
  unfold SafetyDie.restart
  try dsimp only
  repeat' (first
    | with_reducible assumption
    | with_reducible apply SafetyDie.eventTest_kept
    | with_reducible apply SafetyDie.raise_kept
    | with_reducible apply SafetyDie.release_kept
    | with_reducible apply SafetyDie.setBrake_kept
    | with_reducible apply SafetyDie.settle_kept
    | with_reducible apply SafetyDie.foldl_kept
    | (simp only [↓SafetyDie.kept_mk]; refine ⟨?_, ?_, ?_⟩)
    | with_reducible apply SafetyDie.Kept.log_le (lim := lim) (low := low)
    | with_reducible apply SafetyDie.Kept.staged_le (lim := lim) (low := low)
    | with_reducible apply SafetyDie.Kept.le_floor (lim := lim) (low := low)
    | split
    | (intro _)
    | (rw [id_eq])
    | (simp; done))

theorem SafetyDie.autoRestart_kept (s : SafetyDie) (h : s.Kept lim low) : (SafetyDie.autoRestart s).Kept lim low := by
  unfold SafetyDie.autoRestart
  try dsimp only
  repeat' (first
    | with_reducible assumption
    | with_reducible apply SafetyDie.restart_kept
    | with_reducible apply SafetyDie.setBrake_kept
    | with_reducible apply SafetyDie.foldl_kept
    | (simp only [↓SafetyDie.kept_mk]; refine ⟨?_, ?_, ?_⟩)
    | with_reducible apply SafetyDie.Kept.log_le (lim := lim) (low := low)
    | with_reducible apply SafetyDie.Kept.staged_le (lim := lim) (low := low)
    | with_reducible apply SafetyDie.Kept.le_floor (lim := lim) (low := low)
    | split
    | (intro _)
    | (rw [id_eq])
    | (simp; done))

theorem SafetyDie.releaseLapse_kept (s : SafetyDie) (h : s.Kept lim low) : (SafetyDie.releaseLapse s).Kept lim low := by
  unfold SafetyDie.releaseLapse
  try dsimp only
  repeat' (first
    | with_reducible assumption
    | with_reducible apply SafetyDie.channelsOff_kept
    | with_reducible apply SafetyDie.raise_kept
    | with_reducible apply SafetyDie.release_kept
    | with_reducible apply SafetyDie.foldl_kept
    | (simp only [↓SafetyDie.kept_mk]; refine ⟨?_, ?_, ?_⟩)
    | with_reducible apply SafetyDie.Kept.log_le (lim := lim) (low := low)
    | with_reducible apply SafetyDie.Kept.staged_le (lim := lim) (low := low)
    | with_reducible apply SafetyDie.Kept.le_floor (lim := lim) (low := low)
    | split
    | (intro _)
    | (rw [id_eq])
    | (simp; done))

theorem SafetyDie.readback_kept (s : SafetyDie) (isB level : Bool) (h : s.Kept lim low) : (SafetyDie.readback s isB level).Kept lim low := by
  unfold SafetyDie.readback
  try dsimp only
  repeat' (first
    | with_reducible assumption
    | with_reducible apply SafetyDie.release_kept
    | with_reducible apply SafetyDie.setBrake_kept
    | with_reducible apply SafetyDie.settle_kept
    | with_reducible apply SafetyDie.foldl_kept
    | (simp only [↓SafetyDie.kept_mk]; refine ⟨?_, ?_, ?_⟩)
    | with_reducible apply SafetyDie.Kept.log_le (lim := lim) (low := low)
    | with_reducible apply SafetyDie.Kept.staged_le (lim := lim) (low := low)
    | with_reducible apply SafetyDie.Kept.le_floor (lim := lim) (low := low)
    | split
    | (intro _)
    | (rw [id_eq])
    | (simp; done))

theorem SafetyDie.outputFault_kept (s : SafetyDie) (channel bit : Nat) (h : s.Kept lim low) : (SafetyDie.outputFault s channel bit).Kept lim low := by
  unfold SafetyDie.outputFault
  try dsimp only
  repeat' (first
    | with_reducible assumption
    | with_reducible apply SafetyDie.hblStop_kept
    | with_reducible apply SafetyDie.setGuest_kept
    | with_reducible apply SafetyDie.stop_kept
    | with_reducible apply SafetyDie.foldl_kept
    | (simp only [↓SafetyDie.kept_mk]; refine ⟨?_, ?_, ?_⟩)
    | with_reducible apply SafetyDie.Kept.log_le (lim := lim) (low := low)
    | with_reducible apply SafetyDie.Kept.staged_le (lim := lim) (low := low)
    | with_reducible apply SafetyDie.Kept.le_floor (lim := lim) (low := low)
    | split
    | (intro _)
    | (rw [id_eq])
    | (simp; done))

theorem SafetyDie.readbackTimeout_kept (s : SafetyDie) (isB : Bool) (h : s.Kept lim low) : (SafetyDie.readbackTimeout s isB).Kept lim low := by
  unfold SafetyDie.readbackTimeout
  try dsimp only
  repeat' (first
    | with_reducible assumption
    | with_reducible apply SafetyDie.outputFault_kept
    | with_reducible apply SafetyDie.foldl_kept
    | (simp only [↓SafetyDie.kept_mk]; refine ⟨?_, ?_, ?_⟩)
    | with_reducible apply SafetyDie.Kept.log_le (lim := lim) (low := low)
    | with_reducible apply SafetyDie.Kept.staged_le (lim := lim) (low := low)
    | with_reducible apply SafetyDie.Kept.le_floor (lim := lim) (low := low)
    | split
    | (intro _)
    | (rw [id_eq])
    | (simp; done))

theorem SafetyDie.pulseStart_kept (s : SafetyDie) (isB : Bool) (h : s.Kept lim low) : (SafetyDie.pulseStart s isB).Kept lim low := by
  unfold SafetyDie.pulseStart
  try dsimp only
  repeat' (first
    | with_reducible assumption
    | with_reducible apply SafetyDie.setBrake_kept
    | with_reducible apply SafetyDie.settle_kept
    | with_reducible apply SafetyDie.foldl_kept
    | (simp only [↓SafetyDie.kept_mk]; refine ⟨?_, ?_, ?_⟩)
    | with_reducible apply SafetyDie.Kept.log_le (lim := lim) (low := low)
    | with_reducible apply SafetyDie.Kept.staged_le (lim := lim) (low := low)
    | with_reducible apply SafetyDie.Kept.le_floor (lim := lim) (low := low)
    | split
    | (intro _)
    | (rw [id_eq])
    | (simp; done))

theorem SafetyDie.pulseCheck_kept (s : SafetyDie) (isB : Bool) (h : s.Kept lim low) : (SafetyDie.pulseCheck s isB).Kept lim low := by
  unfold SafetyDie.pulseCheck
  try dsimp only
  repeat' (first
    | with_reducible assumption
    | with_reducible apply SafetyDie.outputFault_kept
    | with_reducible apply SafetyDie.setBrake_kept
    | with_reducible apply SafetyDie.foldl_kept
    | (simp only [↓SafetyDie.kept_mk]; refine ⟨?_, ?_, ?_⟩)
    | with_reducible apply SafetyDie.Kept.log_le (lim := lim) (low := low)
    | with_reducible apply SafetyDie.Kept.staged_le (lim := lim) (low := low)
    | with_reducible apply SafetyDie.Kept.le_floor (lim := lim) (low := low)
    | split
    | (intro _)
    | (rw [id_eq])
    | (simp; done))

theorem SafetyDie.pulseEnd_kept (s : SafetyDie) (isB : Bool) (h : s.Kept lim low) : (SafetyDie.pulseEnd s isB).Kept lim low := by
  unfold SafetyDie.pulseEnd
  try dsimp only
  repeat' (first
    | with_reducible assumption
    | with_reducible apply SafetyDie.setBrake_kept
    | with_reducible apply SafetyDie.settle_kept
    | with_reducible apply SafetyDie.foldl_kept
    | (simp only [↓SafetyDie.kept_mk]; refine ⟨?_, ?_, ?_⟩)
    | with_reducible apply SafetyDie.Kept.log_le (lim := lim) (low := low)
    | with_reducible apply SafetyDie.Kept.staged_le (lim := lim) (low := low)
    | with_reducible apply SafetyDie.Kept.le_floor (lim := lim) (low := low)
    | split
    | (intro _)
    | (rw [id_eq])
    | (simp; done))

theorem SafetyDie.feedbackFault_kept (s : SafetyDie) (h : s.Kept lim low) : (SafetyDie.feedbackFault s).Kept lim low := by
  unfold SafetyDie.feedbackFault
  try dsimp only
  repeat' (first
    | with_reducible assumption
    | with_reducible apply SafetyDie.outputFault_kept
    | with_reducible apply SafetyDie.foldl_kept
    | (simp only [↓SafetyDie.kept_mk]; refine ⟨?_, ?_, ?_⟩)
    | with_reducible apply SafetyDie.Kept.log_le (lim := lim) (low := low)
    | with_reducible apply SafetyDie.Kept.staged_le (lim := lim) (low := low)
    | with_reducible apply SafetyDie.Kept.le_floor (lim := lim) (low := low)
    | split
    | (intro _)
    | (rw [id_eq])
    | (simp; done))

theorem SafetyDie.feedback_kept (s : SafetyDie) (isB level : Bool) (h : s.Kept lim low) : (SafetyDie.feedback s isB level).Kept lim low := by
  unfold SafetyDie.feedback
  try dsimp only
  repeat' (first
    | with_reducible assumption
    | with_reducible apply SafetyDie.feedbackFault_kept
    | with_reducible apply SafetyDie.setBrake_kept
    | with_reducible apply SafetyDie.settle_kept
    | with_reducible apply SafetyDie.foldl_kept
    | (simp only [↓SafetyDie.kept_mk]; refine ⟨?_, ?_, ?_⟩)
    | with_reducible apply SafetyDie.Kept.log_le (lim := lim) (low := low)
    | with_reducible apply SafetyDie.Kept.staged_le (lim := lim) (low := low)
    | with_reducible apply SafetyDie.Kept.le_floor (lim := lim) (low := low)
    | split
    | (intro _)
    | (rw [id_eq])
    | (simp; done))

theorem SafetyDie.feedbackTimeout_kept (s : SafetyDie) (h : s.Kept lim low) : (SafetyDie.feedbackTimeout s).Kept lim low := by
  unfold SafetyDie.feedbackTimeout
  try dsimp only
  repeat' (first
    | with_reducible assumption
    | with_reducible apply SafetyDie.feedbackFault_kept
    | with_reducible apply SafetyDie.foldl_kept
    | (simp only [↓SafetyDie.kept_mk]; refine ⟨?_, ?_, ?_⟩)
    | with_reducible apply SafetyDie.Kept.log_le (lim := lim) (low := low)
    | with_reducible apply SafetyDie.Kept.staged_le (lim := lim) (low := low)
    | with_reducible apply SafetyDie.Kept.le_floor (lim := lim) (low := low)
    | split
    | (intro _)
    | (rw [id_eq])
    | (simp; done))

theorem SafetyDie.faultClear_kept (s : SafetyDie) (bits : Nat) (h : s.Kept lim low) : (SafetyDie.faultClear s bits).Kept lim low := by
  unfold SafetyDie.faultClear
  try dsimp only
  repeat' (first
    | with_reducible assumption
    | with_reducible apply SafetyDie.outputFault_kept
    | with_reducible apply SafetyDie.setBrake_kept
    | with_reducible apply SafetyDie.setGuest_kept
    | with_reducible apply SafetyDie.settle_kept
    | with_reducible apply SafetyDie.foldl_kept
    | (simp only [↓SafetyDie.kept_mk]; refine ⟨?_, ?_, ?_⟩)
    | with_reducible apply SafetyDie.Kept.log_le (lim := lim) (low := low)
    | with_reducible apply SafetyDie.Kept.staged_le (lim := lim) (low := low)
    | with_reducible apply SafetyDie.Kept.le_floor (lim := lim) (low := low)
    | split
    | (intro _)
    | (rw [id_eq])
    | (simp; done))

theorem SafetyDie.btStart_kept (s : SafetyDie) (h : s.Kept lim low) : (SafetyDie.btStart s).1.Kept lim low := by
  unfold SafetyDie.btStart
  try dsimp only
  repeat' (first
    | with_reducible assumption
    | with_reducible apply SafetyDie.setBrake_kept
    | with_reducible apply SafetyDie.setGuest_kept
    | with_reducible apply SafetyDie.foldl_kept
    | (simp only [↓SafetyDie.kept_mk]; refine ⟨?_, ?_, ?_⟩)
    | with_reducible apply SafetyDie.Kept.log_le (lim := lim) (low := low)
    | with_reducible apply SafetyDie.Kept.staged_le (lim := lim) (low := low)
    | with_reducible apply SafetyDie.Kept.le_floor (lim := lim) (low := low)
    | split
    | (intro _)
    | (rw [id_eq])
    | (simp; done))

theorem SafetyDie.btTorqueEnd_kept (s : SafetyDie) (h : s.Kept lim low) : (SafetyDie.btTorqueEnd s).Kept lim low := by
  unfold SafetyDie.btTorqueEnd
  try dsimp only
  repeat' (first
    | with_reducible assumption
    | with_reducible apply SafetyDie.setBrake_kept
    | with_reducible apply SafetyDie.foldl_kept
    | (simp only [↓SafetyDie.kept_mk]; refine ⟨?_, ?_, ?_⟩)
    | with_reducible apply SafetyDie.Kept.log_le (lim := lim) (low := low)
    | with_reducible apply SafetyDie.Kept.staged_le (lim := lim) (low := low)
    | with_reducible apply SafetyDie.Kept.le_floor (lim := lim) (low := low)
    | split
    | (intro _)
    | (rw [id_eq])
    | (simp; done))

theorem SafetyDie.motion_kept (s : SafetyDie) (ns : Nat) (h : s.Kept lim low) : (SafetyDie.motion s ns).Kept lim low := by
  unfold SafetyDie.motion
  try dsimp only
  repeat' (first
    | with_reducible assumption
    | with_reducible apply SafetyDie.raise_kept
    | with_reducible apply SafetyDie.setBrake_kept
    | with_reducible apply SafetyDie.setGuest_kept
    | with_reducible apply SafetyDie.foldl_kept
    | (simp only [↓SafetyDie.kept_mk]; refine ⟨?_, ?_, ?_⟩)
    | with_reducible apply SafetyDie.Kept.log_le (lim := lim) (low := low)
    | with_reducible apply SafetyDie.Kept.staged_le (lim := lim) (low := low)
    | with_reducible apply SafetyDie.Kept.le_floor (lim := lim) (low := low)
    | split
    | (intro _)
    | (rw [id_eq])
    | (simp; done))

theorem SafetyDie.btOverdue_kept (s : SafetyDie) (h : s.Kept lim low) : (SafetyDie.btOverdue s).Kept lim low := by
  unfold SafetyDie.btOverdue
  try dsimp only
  repeat' (first
    | with_reducible assumption
    | with_reducible apply SafetyDie.raise_kept
    | with_reducible apply SafetyDie.setBrake_kept
    | with_reducible apply SafetyDie.setGuest_kept
    | with_reducible apply SafetyDie.foldl_kept
    | (simp only [↓SafetyDie.kept_mk]; refine ⟨?_, ?_, ?_⟩)
    | with_reducible apply SafetyDie.Kept.log_le (lim := lim) (low := low)
    | with_reducible apply SafetyDie.Kept.staged_le (lim := lim) (low := low)
    | with_reducible apply SafetyDie.Kept.le_floor (lim := lim) (low := low)
    | split
    | (intro _)
    | (rw [id_eq])
    | (simp; done))

theorem SafetyDie.btExpired_kept (s : SafetyDie) (h : s.Kept lim low) : (SafetyDie.btExpired s).Kept lim low := by
  unfold SafetyDie.btExpired
  try dsimp only
  repeat' (first
    | with_reducible assumption
    | with_reducible apply SafetyDie.raise_kept
    | with_reducible apply SafetyDie.setGuest_kept
    | with_reducible apply SafetyDie.stop_kept
    | with_reducible apply SafetyDie.foldl_kept
    | (simp only [↓SafetyDie.kept_mk]; refine ⟨?_, ?_, ?_⟩)
    | with_reducible apply SafetyDie.Kept.log_le (lim := lim) (low := low)
    | with_reducible apply SafetyDie.Kept.staged_le (lim := lim) (low := low)
    | with_reducible apply SafetyDie.Kept.le_floor (lim := lim) (low := low)
    | split
    | (intro _)
    | (rw [id_eq])
    | (simp; done))

theorem SafetyDie.holdRequest_kept (s : SafetyDie) (h : s.Kept lim low) : (SafetyDie.holdRequest s).Kept lim low := by
  unfold SafetyDie.holdRequest
  try dsimp only
  repeat' (first
    | with_reducible assumption
    | with_reducible apply SafetyDie.stop_kept
    | with_reducible apply SafetyDie.foldl_kept
    | (simp only [↓SafetyDie.kept_mk]; refine ⟨?_, ?_, ?_⟩)
    | with_reducible apply SafetyDie.Kept.log_le (lim := lim) (low := low)
    | with_reducible apply SafetyDie.Kept.staged_le (lim := lim) (low := low)
    | with_reducible apply SafetyDie.Kept.le_floor (lim := lim) (low := low)
    | split
    | (intro _)
    | (rw [id_eq])
    | (simp; done))

theorem SafetyDie.demandLow_kept (s : SafetyDie) (ns : Nat) (h : s.Kept lim low) : (SafetyDie.demandLow s ns).Kept lim low := by
  unfold SafetyDie.demandLow
  try dsimp only
  repeat' (first
    | with_reducible assumption
    | with_reducible apply Dies.release_kept
    | with_reducible apply SafetyDie.release_kept
    | with_reducible apply SafetyDie.setBrake_kept
    | with_reducible apply SafetyDie.settle_kept
    | with_reducible apply SafetyDie.stop_kept
    | with_reducible apply SafetyDie.foldl_kept
    | (simp only [↓SafetyDie.kept_mk]; refine ⟨?_, ?_, ?_⟩)
    | with_reducible apply SafetyDie.Kept.log_le (lim := lim) (low := low)
    | with_reducible apply SafetyDie.Kept.staged_le (lim := lim) (low := low)
    | with_reducible apply SafetyDie.Kept.le_floor (lim := lim) (low := low)
    | split
    | (intro _)
    | (rw [id_eq])
    | (simp; done))

theorem SafetyDie.demandHigh_kept (s : SafetyDie) (h : s.Kept lim low) : (SafetyDie.demandHigh s).Kept lim low := by
  unfold SafetyDie.demandHigh
  try dsimp only
  repeat' (first
    | with_reducible assumption
    | with_reducible apply SafetyDie.settle_kept
    | with_reducible apply SafetyDie.foldl_kept
    | (simp only [↓SafetyDie.kept_mk]; refine ⟨?_, ?_, ?_⟩)
    | with_reducible apply SafetyDie.Kept.log_le (lim := lim) (low := low)
    | with_reducible apply SafetyDie.Kept.staged_le (lim := lim) (low := low)
    | with_reducible apply SafetyDie.Kept.le_floor (lim := lim) (low := low)
    | split
    | (intro _)
    | (rw [id_eq])
    | (simp; done))

theorem SafetyDie.pairEffect_kept (s : SafetyDie) (i : Nat) (old new : InputPair) (h : s.Kept lim low) : (SafetyDie.pairEffect s i old new).Kept lim low := by
  unfold SafetyDie.pairEffect
  try dsimp only
  repeat' (first
    | with_reducible assumption
    | with_reducible apply SafetyDie.bump_kept
    | with_reducible apply SafetyDie.hblStop_kept
    | with_reducible apply SafetyDie.restart_kept
    | with_reducible apply SafetyDie.stop_kept
    | with_reducible apply SafetyDie.when_kept
    | with_reducible apply SafetyDie.foldl_kept
    | (simp only [↓SafetyDie.kept_mk]; refine ⟨?_, ?_, ?_⟩)
    | with_reducible apply SafetyDie.Kept.log_le (lim := lim) (low := low)
    | with_reducible apply SafetyDie.Kept.staged_le (lim := lim) (low := low)
    | with_reducible apply SafetyDie.Kept.le_floor (lim := lim) (low := low)
    | split
    | (intro _)
    | (rw [id_eq])
    | (simp; done))

theorem SafetyDie.evaluate_kept (s : SafetyDie) (i : Nat) (f : InputPair → InputPair) (h : s.Kept lim low) : (SafetyDie.evaluate s i f).Kept lim low := by
  unfold SafetyDie.evaluate
  try dsimp only
  repeat' (first
    | with_reducible assumption
    | with_reducible apply SafetyDie.pairEffect_kept
    | with_reducible apply SafetyDie.settle_kept
    | with_reducible apply SafetyDie.foldl_kept
    | (simp only [↓SafetyDie.kept_mk]; refine ⟨?_, ?_, ?_⟩)
    | with_reducible apply SafetyDie.Kept.log_le (lim := lim) (low := low)
    | with_reducible apply SafetyDie.Kept.staged_le (lim := lim) (low := low)
    | with_reducible apply SafetyDie.Kept.le_floor (lim := lim) (low := low)
    | split
    | (intro _)
    | (rw [id_eq])
    | (simp; done))

theorem SafetyDie.inputEdge_kept (s : SafetyDie) (i : Nat) (isB level : Bool) (h : s.Kept lim low) : (SafetyDie.inputEdge s i isB level).Kept lim low := by
  unfold SafetyDie.inputEdge
  try dsimp only
  repeat' (first
    | with_reducible assumption
    | with_reducible apply SafetyDie.foldl_kept
    | (simp only [↓SafetyDie.kept_mk]; refine ⟨?_, ?_, ?_⟩)
    | with_reducible apply SafetyDie.Kept.log_le (lim := lim) (low := low)
    | with_reducible apply SafetyDie.Kept.staged_le (lim := lim) (low := low)
    | with_reducible apply SafetyDie.Kept.le_floor (lim := lim) (low := low)
    | split
    | (intro _)
    | (rw [id_eq])
    | (simp; done))

theorem SafetyDie.filterElapsed_kept (s : SafetyDie) (i : Nat) (isB hbl keeper : Bool) (h : s.Kept lim low) : (SafetyDie.filterElapsed s i isB hbl keeper).Kept lim low := by
  unfold SafetyDie.filterElapsed
  try dsimp only
  repeat' (first
    | with_reducible assumption
    | with_reducible apply SafetyDie.evaluate_kept
    | with_reducible apply SafetyDie.foldl_kept
    | (simp only [↓SafetyDie.kept_mk]; refine ⟨?_, ?_, ?_⟩)
    | with_reducible apply SafetyDie.Kept.log_le (lim := lim) (low := low)
    | with_reducible apply SafetyDie.Kept.staged_le (lim := lim) (low := low)
    | with_reducible apply SafetyDie.Kept.le_floor (lim := lim) (low := low)
    | split
    | (intro _)
    | (rw [id_eq])
    | (simp; done))

theorem SafetyDie.pulseHoldEnd_kept (s : SafetyDie) (i : Nat) (isB : Bool) (h : s.Kept lim low) : (SafetyDie.pulseHoldEnd s i isB).Kept lim low := by
  unfold SafetyDie.pulseHoldEnd
  try dsimp only
  repeat' (first
    | with_reducible assumption
    | with_reducible apply SafetyDie.filterElapsed_kept
    | with_reducible apply SafetyDie.foldl_kept
    | (simp only [↓SafetyDie.kept_mk]; refine ⟨?_, ?_, ?_⟩)
    | with_reducible apply SafetyDie.Kept.log_le (lim := lim) (low := low)
    | with_reducible apply SafetyDie.Kept.staged_le (lim := lim) (low := low)
    | with_reducible apply SafetyDie.Kept.le_floor (lim := lim) (low := low)
    | split
    | (intro _)
    | (rw [id_eq])
    | (simp; done))

theorem SafetyDie.pairFault_kept (s : SafetyDie) (i : Nat) (n : EventName) (f : InputPair → InputPair) (h : s.Kept lim low) : (SafetyDie.pairFault s i n f).Kept lim low := by
  unfold SafetyDie.pairFault
  try dsimp only
  repeat' (first
    | with_reducible assumption
    | with_reducible apply SafetyDie.bump_kept
    | with_reducible apply SafetyDie.evaluate_kept
    | with_reducible apply SafetyDie.raise_kept
    | with_reducible apply SafetyDie.foldl_kept
    | (simp only [↓SafetyDie.kept_mk]; refine ⟨?_, ?_, ?_⟩)
    | with_reducible apply SafetyDie.Kept.log_le (lim := lim) (low := low)
    | with_reducible apply SafetyDie.Kept.staged_le (lim := lim) (low := low)
    | with_reducible apply SafetyDie.Kept.le_floor (lim := lim) (low := low)
    | split
    | (intro _)
    | (rw [id_eq])
    | (simp; done))

theorem SafetyDie.discrepancy_kept (s : SafetyDie) (i : Nat) (h : s.Kept lim low) : (SafetyDie.discrepancy s i).Kept lim low := by
  unfold SafetyDie.discrepancy
  try dsimp only
  repeat' (first
    | with_reducible assumption
    | with_reducible apply SafetyDie.pairFault_kept
    | with_reducible apply SafetyDie.foldl_kept
    | (simp only [↓SafetyDie.kept_mk]; refine ⟨?_, ?_, ?_⟩)
    | with_reducible apply SafetyDie.Kept.log_le (lim := lim) (low := low)
    | with_reducible apply SafetyDie.Kept.staged_le (lim := lim) (low := low)
    | with_reducible apply SafetyDie.Kept.le_floor (lim := lim) (low := low)
    | split
    | (intro _)
    | (rw [id_eq])
    | (simp; done))

theorem SafetyDie.pulseWindow_kept (s : SafetyDie) (i : Nat) (sourceB a b before : Bool) (h : s.Kept lim low) : (SafetyDie.pulseWindow s i sourceB a b before).Kept lim low := by
  unfold SafetyDie.pulseWindow
  try dsimp only
  repeat' (first
    | with_reducible assumption
    | with_reducible apply SafetyDie.pairFault_kept
    | with_reducible apply SafetyDie.foldl_kept
    | (simp only [↓SafetyDie.kept_mk]; refine ⟨?_, ?_, ?_⟩)
    | with_reducible apply SafetyDie.Kept.log_le (lim := lim) (low := low)
    | with_reducible apply SafetyDie.Kept.staged_le (lim := lim) (low := low)
    | with_reducible apply SafetyDie.Kept.le_floor (lim := lim) (low := low)
    | split
    | (intro _)
    | (rw [id_eq])
    | (simp; done))

theorem SafetyDie.testRelease_kept (s : SafetyDie) (i : Nat) (h : s.Kept lim low) : (SafetyDie.testRelease s i).Kept lim low := by
  unfold SafetyDie.testRelease
  try dsimp only
  repeat' (first
    | with_reducible assumption
    | with_reducible apply SafetyDie.evaluate_kept
    | with_reducible apply SafetyDie.foldl_kept
    | (simp only [↓SafetyDie.kept_mk]; refine ⟨?_, ?_, ?_⟩)
    | with_reducible apply SafetyDie.Kept.log_le (lim := lim) (low := low)
    | with_reducible apply SafetyDie.Kept.staged_le (lim := lim) (low := low)
    | with_reducible apply SafetyDie.Kept.le_floor (lim := lim) (low := low)
    | split
    | (intro _)
    | (rw [id_eq])
    | (simp; done))

theorem SafetyDie.disagree_kept (s : SafetyDie) (i : Nat) (h : s.Kept lim low) : (SafetyDie.disagree s i).Kept lim low := by
  unfold SafetyDie.disagree
  try dsimp only
  repeat' (first
    | with_reducible assumption
    | with_reducible apply SafetyDie.pairFault_kept
    | with_reducible apply SafetyDie.foldl_kept
    | (simp only [↓SafetyDie.kept_mk]; refine ⟨?_, ?_, ?_⟩)
    | with_reducible apply SafetyDie.Kept.log_le (lim := lim) (low := low)
    | with_reducible apply SafetyDie.Kept.staged_le (lim := lim) (low := low)
    | with_reducible apply SafetyDie.Kept.le_floor (lim := lim) (low := low)
    | split
    | (intro _)
    | (rw [id_eq])
    | (simp; done))

theorem SafetyDie.restartPairs_kept (s : SafetyDie) (is : List Nat) (h : s.Kept lim low) : (SafetyDie.restartPairs s is).Kept lim low := by
  unfold SafetyDie.restartPairs
  try dsimp only
  repeat' (first
    | with_reducible assumption
    | with_reducible apply SafetyDie.when_kept
    | with_reducible apply SafetyDie.hblStop_kept
    | with_reducible apply SafetyDie.evaluate_kept
    | with_reducible apply SafetyDie.forEach_kept
    | with_reducible apply SafetyDie.restart_kept
    | with_reducible apply SafetyDie.foldl_kept
    | (simp only [↓SafetyDie.kept_mk]; refine ⟨?_, ?_, ?_⟩)
    | with_reducible apply SafetyDie.Kept.log_le (lim := lim) (low := low)
    | with_reducible apply SafetyDie.Kept.staged_le (lim := lim) (low := low)
    | with_reducible apply SafetyDie.Kept.le_floor (lim := lim) (low := low)
    | split
    | (intro _)
    | (rw [id_eq])
    | (simp; done))

theorem SafetyDie.resetPairs_kept (s : SafetyDie) (h : s.Kept lim low) : (SafetyDie.resetPairs s).Kept lim low := by
  unfold SafetyDie.resetPairs
  try dsimp only
  repeat' (first
    | with_reducible assumption
    | with_reducible apply SafetyDie.restart_kept
    | with_reducible apply SafetyDie.foldl_kept
    | (simp only [↓SafetyDie.kept_mk]; refine ⟨?_, ?_, ?_⟩)
    | with_reducible apply SafetyDie.Kept.log_le (lim := lim) (low := low)
    | with_reducible apply SafetyDie.Kept.staged_le (lim := lim) (low := low)
    | with_reducible apply SafetyDie.Kept.le_floor (lim := lim) (low := low)
    | split
    | (intro _)
    | (rw [id_eq])
    | (simp; done))

theorem SafetyDie.setSession_kept (s : SafetyDie) (i : Nat) (x : Option Session) (h : s.Kept lim low) : (SafetyDie.setSession s i x).Kept lim low := by
  unfold SafetyDie.setSession
  try dsimp only
  repeat' (first
    | with_reducible assumption
    | with_reducible apply SafetyDie.foldl_kept
    | (simp only [↓SafetyDie.kept_mk]; refine ⟨?_, ?_, ?_⟩)
    | with_reducible apply SafetyDie.Kept.log_le (lim := lim) (low := low)
    | with_reducible apply SafetyDie.Kept.staged_le (lim := lim) (low := low)
    | with_reducible apply SafetyDie.Kept.le_floor (lim := lim) (low := low)
    | split
    | (intro _)
    | (rw [id_eq])
    | (simp; done))

theorem SafetyDie.updSession_kept (s : SafetyDie) (i : Nat) (f : Session → Session) (h : s.Kept lim low) : (SafetyDie.updSession s i f).Kept lim low := by
  unfold SafetyDie.updSession
  try dsimp only
  repeat' (first
    | with_reducible assumption
    | with_reducible apply SafetyDie.setSession_kept
    | with_reducible apply SafetyDie.foldl_kept
    | (simp only [↓SafetyDie.kept_mk]; refine ⟨?_, ?_, ?_⟩)
    | with_reducible apply SafetyDie.Kept.log_le (lim := lim) (low := low)
    | with_reducible apply SafetyDie.Kept.staged_le (lim := lim) (low := low)
    | with_reducible apply SafetyDie.Kept.le_floor (lim := lim) (low := low)
    | split
    | (intro _)
    | (rw [id_eq])
    | (simp; done))

theorem SafetyDie.disarmOne_kept (s : SafetyDie) (cause : Nat) (x : ArmedInj) (h : s.Kept lim low) : (SafetyDie.disarmOne s cause x).Kept lim low := by
  unfold SafetyDie.disarmOne
  try dsimp only
  repeat' (first
    | with_reducible assumption
    | with_reducible apply SafetyDie.raise_kept
    | with_reducible apply SafetyDie.sendFlit_kept
    | with_reducible apply SafetyDie.foldl_kept
    | (simp only [↓SafetyDie.kept_mk]; refine ⟨?_, ?_, ?_⟩)
    | with_reducible apply SafetyDie.Kept.log_le (lim := lim) (low := low)
    | with_reducible apply SafetyDie.Kept.staged_le (lim := lim) (low := low)
    | with_reducible apply SafetyDie.Kept.le_floor (lim := lim) (low := low)
    | split
    | (intro _)
    | (rw [id_eq])
    | (simp; done))

theorem SafetyDie.disarmInjector_kept (s : SafetyDie) (j cause : Nat) (h : s.Kept lim low) : (SafetyDie.disarmInjector s j cause).Kept lim low := by
  unfold SafetyDie.disarmInjector
  try dsimp only
  repeat' (first
    | with_reducible assumption
    | with_reducible apply SafetyDie.disarmOne_kept
    | with_reducible apply SafetyDie.foldl_kept
    | (simp only [↓SafetyDie.kept_mk]; refine ⟨?_, ?_, ?_⟩)
    | with_reducible apply SafetyDie.Kept.log_le (lim := lim) (low := low)
    | with_reducible apply SafetyDie.Kept.staged_le (lim := lim) (low := low)
    | with_reducible apply SafetyDie.Kept.le_floor (lim := lim) (low := low)
    | split
    | (intro _)
    | (rw [id_eq])
    | (simp; done))

theorem SafetyDie.dropInjectors_kept (s0 : SafetyDie) (h : s0.Kept lim low) : (SafetyDie.dropInjectors s0).Kept lim low := by
  unfold SafetyDie.dropInjectors
  try dsimp only
  repeat' (first
    | with_reducible assumption
    | with_reducible apply SafetyDie.forEach_kept
    | with_reducible apply SafetyDie.raise_kept
    | with_reducible apply SafetyDie.foldl_kept
    | (simp only [↓SafetyDie.kept_mk]; refine ⟨?_, ?_, ?_⟩)
    | with_reducible apply SafetyDie.Kept.log_le (lim := lim) (low := low)
    | with_reducible apply SafetyDie.Kept.staged_le (lim := lim) (low := low)
    | with_reducible apply SafetyDie.Kept.le_floor (lim := lim) (low := low)
    | split
    | (intro _)
    | (rw [id_eq])
    | (simp; done))

theorem SafetyDie.discardStage_kept (s : SafetyDie) (h : s.Kept lim low) : (SafetyDie.discardStage s).Kept lim low := by
  unfold SafetyDie.discardStage
  try dsimp only
  repeat' (first
    | with_reducible assumption
    | with_reducible apply SafetyDie.foldl_kept
    | (simp only [↓SafetyDie.kept_mk]; refine ⟨?_, ?_, ?_⟩)
    | with_reducible apply SafetyDie.Kept.log_le (lim := lim) (low := low)
    | with_reducible apply SafetyDie.Kept.staged_le (lim := lim) (low := low)
    | with_reducible apply SafetyDie.Kept.le_floor (lim := lim) (low := low)
    | split
    | (intro _)
    | (rw [id_eq])
    | (simp; done))

theorem SafetyDie.leaveService_kept (s : SafetyDie) (h : s.Kept lim low) : (SafetyDie.leaveService s).Kept lim low := by
  unfold SafetyDie.leaveService
  try dsimp only
  repeat' (first
    | with_reducible assumption
    | with_reducible apply SafetyDie.foldl_kept
    | (simp only [↓SafetyDie.kept_mk]; refine ⟨?_, ?_, ?_⟩)
    | with_reducible apply SafetyDie.Kept.log_le (lim := lim) (low := low)
    | with_reducible apply SafetyDie.Kept.staged_le (lim := lim) (low := low)
    | with_reducible apply SafetyDie.Kept.le_floor (lim := lim) (low := low)
    | split
    | (intro _)
    | (rw [id_eq])
    | (simp; done))

theorem SafetyDie.endSession_kept (s : SafetyDie) (i : Nat) (h : s.Kept lim low) : (SafetyDie.endSession s i).Kept lim low := by
  unfold SafetyDie.endSession
  split
  · exact h
  · extract_lets y f s1 g s2 z s3
    have h1 : s1.Kept lim low := SafetyDie.setSession_kept s i none h
    clear_value s1
    have h2 : s2.Kept lim low := by
      unfold s2
      split
      · split
        · exact SafetyDie.discardStage_kept _ h1
        · exact h1
      · exact h1
    clear_value s2
    have h3 : s3.Kept lim low := by
      unfold s3
      split
      · exact SafetyDie.forEach_kept _ _ _ h2 (fun _ _ hy => SafetyDie.disarmOne_kept _ _ _ hy)
      · exact h2
    clear_value s3
    split
    · exact SafetyDie.leaveService_kept _ h3
    · exact h3

theorem SafetyDie.endCheckSessions_kept (s : SafetyDie) (h : s.Kept lim low) : (SafetyDie.endCheckSessions s).Kept lim low := by
  unfold SafetyDie.endCheckSessions
  try dsimp only
  repeat' (first
    | with_reducible assumption
    | with_reducible apply SafetyDie.endSession_kept
    | with_reducible apply SafetyDie.forEach_kept
    | with_reducible apply SafetyDie.foldl_kept
    | (simp only [↓SafetyDie.kept_mk]; refine ⟨?_, ?_, ?_⟩)
    | with_reducible apply SafetyDie.Kept.log_le (lim := lim) (low := low)
    | with_reducible apply SafetyDie.Kept.staged_le (lim := lim) (low := low)
    | with_reducible apply SafetyDie.Kept.le_floor (lim := lim) (low := low)
    | split
    | (intro _)
    | (rw [id_eq])
    | (simp; done))

theorem SafetyDie.assertKill_kept (s : SafetyDie) (counted power keep : Bool) (h : s.Kept lim low) : (SafetyDie.assertKill s counted power keep).Kept lim low := by
  unfold SafetyDie.assertKill
  try dsimp only
  repeat' (first
    | with_reducible assumption
    | with_reducible apply SafetyDie.bump_kept
    | with_reducible apply SafetyDie.demandLow_kept
    | with_reducible apply SafetyDie.dropInjectors_kept
    | with_reducible apply SafetyDie.endCheckSessions_kept
    | with_reducible apply SafetyDie.raise_kept
    | with_reducible apply SafetyDie.setGuest_kept
    | with_reducible apply SafetyDie.foldl_kept
    | (simp only [↓SafetyDie.kept_mk]; refine ⟨?_, ?_, ?_⟩)
    | with_reducible apply SafetyDie.Kept.log_le (lim := lim) (low := low)
    | with_reducible apply SafetyDie.Kept.staged_le (lim := lim) (low := low)
    | with_reducible apply SafetyDie.Kept.le_floor (lim := lim) (low := low)
    | split
    | (intro _)
    | (rw [id_eq])
    | (simp; done))

theorem SafetyDie.trip_kept (s : SafetyDie) (h : s.Kept lim low) : (SafetyDie.trip s).Kept lim low := by
  unfold SafetyDie.trip
  try dsimp only
  repeat' (first
    | with_reducible assumption
    | with_reducible apply SafetyDie.hblStop_kept
    | with_reducible apply SafetyDie.raise_kept
    | with_reducible apply SafetyDie.foldl_kept
    | (simp only [↓SafetyDie.kept_mk]; refine ⟨?_, ?_, ?_⟩)
    | with_reducible apply SafetyDie.Kept.log_le (lim := lim) (low := low)
    | with_reducible apply SafetyDie.Kept.staged_le (lim := lim) (low := low)
    | with_reducible apply SafetyDie.Kept.le_floor (lim := lim) (low := low)
    | split
    | (intro _)
    | (rw [id_eq])
    | (simp; done))

theorem SafetyDie.killIfDue_kept (s : SafetyDie) (h : s.Kept lim low) : (SafetyDie.killIfDue s).Kept lim low := by
  unfold SafetyDie.killIfDue
  try dsimp only
  repeat' (first
    | with_reducible assumption
    | with_reducible apply SafetyDie.assertKill_kept
    | with_reducible apply SafetyDie.foldl_kept
    | (simp only [↓SafetyDie.kept_mk]; refine ⟨?_, ?_, ?_⟩)
    | with_reducible apply SafetyDie.Kept.log_le (lim := lim) (low := low)
    | with_reducible apply SafetyDie.Kept.staged_le (lim := lim) (low := low)
    | with_reducible apply SafetyDie.Kept.le_floor (lim := lim) (low := low)
    | split
    | (intro _)
    | (rw [id_eq])
    | (simp; done))

theorem SafetyDie.undoStore_kept (s : SafetyDie) (w : StoreWork) (h : s.Kept lim low) : (SafetyDie.undoStore s w).Kept lim low := by
  unfold SafetyDie.undoStore
  try dsimp only
  repeat' (first
    | with_reducible assumption
    | with_reducible apply SafetyDie.foldl_kept
    | (simp only [↓SafetyDie.kept_mk]; refine ⟨?_, ?_, ?_⟩)
    | with_reducible apply SafetyDie.Kept.log_le (lim := lim) (low := low)
    | with_reducible apply SafetyDie.Kept.staged_le (lim := lim) (low := low)
    | with_reducible apply SafetyDie.Kept.le_floor (lim := lim) (low := low)
    | split
    | (intro _)
    | (rw [id_eq])
    | (simp; done))

theorem SafetyDie.undoStores_kept (s : SafetyDie) (h : s.Kept lim low) : (SafetyDie.undoStores s).Kept lim low := by
  unfold SafetyDie.undoStores
  induction s.stores with
  | nil => exact h
  | cons a l ih => exact SafetyDie.undoStore_kept _ _ ih

theorem SafetyDie.restartAll_kept (s0 : SafetyDie) (kind : Nat) (g : GuestBook) (h : s0.Kept lim low) : (SafetyDie.restartAll s0 kind g).Kept lim low := by
  unfold SafetyDie.restartAll
  try dsimp only
  repeat' (first
    | with_reducible assumption
    | with_reducible apply SafetyDie.resetPairs_kept
    | with_reducible apply SafetyDie.settle_kept
    | with_reducible apply SafetyDie.undoStores_kept
    | with_reducible apply SafetyDie.foldl_kept
    | (simp only [↓SafetyDie.kept_mk]; refine ⟨?_, ?_, ?_⟩)
    | with_reducible apply SafetyDie.Kept.log_le (lim := lim) (low := low)
    | with_reducible apply SafetyDie.Kept.staged_le (lim := lim) (low := low)
    | with_reducible apply SafetyDie.Kept.le_floor (lim := lim) (low := low)
    | split
    | (intro _)
    | (rw [id_eq])
    | (simp; done))

theorem SafetyDie.safetyReset_kept (s : SafetyDie) (n : EventName) (inst detail opDesc : Nat) (h : s.Kept lim low) : (SafetyDie.safetyReset s n inst detail opDesc).Kept lim low := by
  unfold SafetyDie.safetyReset
  try dsimp only
  repeat' (first
    | with_reducible assumption
    | with_reducible apply SafetyDie.restartAll_kept
    | with_reducible apply SafetyDie.store_kept
    | with_reducible apply SafetyDie.foldl_kept
    | (simp only [↓SafetyDie.kept_mk]; refine ⟨?_, ?_, ?_⟩)
    | with_reducible apply SafetyDie.Kept.log_le (lim := lim) (low := low)
    | with_reducible apply SafetyDie.Kept.staged_le (lim := lim) (low := low)
    | with_reducible apply SafetyDie.Kept.le_floor (lim := lim) (low := low)
    | split
    | (intro _)
    | (rw [id_eq])
    | (simp; done))

theorem SafetyDie.setDog_kept (s : SafetyDie) (host : Bool) (x : Dog) (h : s.Kept lim low) : (SafetyDie.setDog s host x).Kept lim low := by
  unfold SafetyDie.setDog
  try dsimp only
  repeat' (first
    | with_reducible assumption
    | with_reducible apply SafetyDie.foldl_kept
    | (simp only [↓SafetyDie.kept_mk]; refine ⟨?_, ?_, ?_⟩)
    | with_reducible apply SafetyDie.Kept.log_le (lim := lim) (low := low)
    | with_reducible apply SafetyDie.Kept.staged_le (lim := lim) (low := low)
    | with_reducible apply SafetyDie.Kept.le_floor (lim := lim) (low := low)
    | split
    | (intro _)
    | (rw [id_eq])
    | (simp; done))

theorem SafetyDie.dogReset_kept (s : SafetyDie) (host : Bool) (cause : Nat) (h : s.Kept lim low) : (SafetyDie.dogReset s host cause).Kept lim low := by
  unfold SafetyDie.dogReset
  try dsimp only
  repeat' (first
    | with_reducible assumption
    | with_reducible apply SafetyDie.safetyReset_kept
    | with_reducible apply SafetyDie.setGuest_kept
    | with_reducible apply SafetyDie.foldl_kept
    | (simp only [↓SafetyDie.kept_mk]; refine ⟨?_, ?_, ?_⟩)
    | with_reducible apply SafetyDie.Kept.log_le (lim := lim) (low := low)
    | with_reducible apply SafetyDie.Kept.staged_le (lim := lim) (low := low)
    | with_reducible apply SafetyDie.Kept.le_floor (lim := lim) (low := low)
    | split
    | (intro _)
    | (rw [id_eq])
    | (simp; done))

theorem SafetyDie.dogFail_kept (s : SafetyDie) (host : Bool) (cause at_ : Nat) (h : s.Kept lim low) : (SafetyDie.dogFail s host cause at_).Kept lim low := by
  unfold SafetyDie.dogFail
  try dsimp only
  repeat' (first
    | with_reducible assumption
    | with_reducible apply SafetyDie.bump_kept
    | with_reducible apply SafetyDie.dogReset_kept
    | with_reducible apply SafetyDie.put_kept
    | with_reducible apply SafetyDie.raise_kept
    | with_reducible apply SafetyDie.setDog_kept
    | with_reducible apply SafetyDie.foldl_kept
    | (simp only [↓SafetyDie.kept_mk]; refine ⟨?_, ?_, ?_⟩)
    | with_reducible apply SafetyDie.Kept.log_le (lim := lim) (low := low)
    | with_reducible apply SafetyDie.Kept.staged_le (lim := lim) (low := low)
    | with_reducible apply SafetyDie.Kept.le_floor (lim := lim) (low := low)
    | split
    | (intro _)
    | (rw [id_eq])
    | (simp; done))

theorem SafetyDie.dogDue_kept (s : SafetyDie) (host : Bool) (h : s.Kept lim low) : (SafetyDie.dogDue s host).Kept lim low := by
  unfold SafetyDie.dogDue
  try dsimp only
  repeat' (first
    | with_reducible assumption
    | with_reducible apply SafetyDie.dogFail_kept
    | with_reducible apply SafetyDie.dogReset_kept
    | with_reducible apply SafetyDie.foldl_kept
    | (simp only [↓SafetyDie.kept_mk]; refine ⟨?_, ?_, ?_⟩)
    | with_reducible apply SafetyDie.Kept.log_le (lim := lim) (low := low)
    | with_reducible apply SafetyDie.Kept.staged_le (lim := lim) (low := low)
    | with_reducible apply SafetyDie.Kept.le_floor (lim := lim) (low := low)
    | split
    | (intro _)
    | (rw [id_eq])
    | (simp; done))

theorem SafetyDie.dogExpiry_kept (s : SafetyDie) (host : Bool) (h : s.Kept lim low) : (SafetyDie.dogExpiry s host).Kept lim low := by
  unfold SafetyDie.dogExpiry
  try dsimp only
  repeat' (first
    | with_reducible assumption
    | with_reducible apply SafetyDie.dogDue_kept
    | with_reducible apply SafetyDie.foldl_kept
    | (simp only [↓SafetyDie.kept_mk]; refine ⟨?_, ?_, ?_⟩)
    | with_reducible apply SafetyDie.Kept.log_le (lim := lim) (low := low)
    | with_reducible apply SafetyDie.Kept.staged_le (lim := lim) (low := low)
    | with_reducible apply SafetyDie.Kept.le_floor (lim := lim) (low := low)
    | split
    | (intro _)
    | (rw [id_eq])
    | (simp; done))

theorem SafetyDie.graceExpiry_kept (s : SafetyDie) (host : Bool) (h : s.Kept lim low) : (SafetyDie.graceExpiry s host).Kept lim low := by
  unfold SafetyDie.graceExpiry
  try dsimp only
  repeat' (first
    | with_reducible assumption
    | with_reducible apply SafetyDie.dogDue_kept
    | with_reducible apply SafetyDie.foldl_kept
    | (simp only [↓SafetyDie.kept_mk]; refine ⟨?_, ?_, ?_⟩)
    | with_reducible apply SafetyDie.Kept.log_le (lim := lim) (low := low)
    | with_reducible apply SafetyDie.Kept.staged_le (lim := lim) (low := low)
    | with_reducible apply SafetyDie.Kept.le_floor (lim := lim) (low := low)
    | split
    | (intro _)
    | (rw [id_eq])
    | (simp; done))

theorem SafetyDie.dogService_kept (s : SafetyDie) (host : Bool) (h : s.Kept lim low) : (SafetyDie.dogService s host).Kept lim low := by
  unfold SafetyDie.dogService
  try dsimp only
  repeat' (first
    | with_reducible assumption
    | with_reducible apply SafetyDie.dogFail_kept
    | with_reducible apply SafetyDie.setDog_kept
    | with_reducible apply SafetyDie.foldl_kept
    | (simp only [↓SafetyDie.kept_mk]; refine ⟨?_, ?_, ?_⟩)
    | with_reducible apply SafetyDie.Kept.log_le (lim := lim) (low := low)
    | with_reducible apply SafetyDie.Kept.staged_le (lim := lim) (low := low)
    | with_reducible apply SafetyDie.Kept.le_floor (lim := lim) (low := low)
    | split
    | (intro _)
    | (rw [id_eq])
    | (simp; done))

theorem SafetyDie.dogServe_kept (s : SafetyDie) (host : Bool) (h : s.Kept lim low) : (SafetyDie.dogServe s host).Kept lim low := by
  unfold SafetyDie.dogServe
  try dsimp only
  repeat' (first
    | with_reducible assumption
    | with_reducible apply SafetyDie.dogDue_kept
    | with_reducible apply SafetyDie.dogService_kept
    | with_reducible apply SafetyDie.foldl_kept
    | (simp only [↓SafetyDie.kept_mk]; refine ⟨?_, ?_, ?_⟩)
    | with_reducible apply SafetyDie.Kept.log_le (lim := lim) (low := low)
    | with_reducible apply SafetyDie.Kept.staged_le (lim := lim) (low := low)
    | with_reducible apply SafetyDie.Kept.le_floor (lim := lim) (low := low)
    | split
    | (intro _)
    | (rw [id_eq])
    | (simp; done))

theorem SafetyDie.armLapse_kept (s : SafetyDie) (host : Bool) (h : s.Kept lim low) : (SafetyDie.armLapse s host).Kept lim low := by
  unfold SafetyDie.armLapse
  try dsimp only
  repeat' (first
    | with_reducible assumption
    | with_reducible apply SafetyDie.dogFail_kept
    | with_reducible apply SafetyDie.setDog_kept
    | with_reducible apply SafetyDie.foldl_kept
    | (simp only [↓SafetyDie.kept_mk]; refine ⟨?_, ?_, ?_⟩)
    | with_reducible apply SafetyDie.Kept.log_le (lim := lim) (low := low)
    | with_reducible apply SafetyDie.Kept.staged_le (lim := lim) (low := low)
    | with_reducible apply SafetyDie.Kept.le_floor (lim := lim) (low := low)
    | split
    | (intro _)
    | (rw [id_eq])
    | (simp; done))

theorem SafetyDie.dogKey_kept (s0 : SafetyDie) (host : Bool) (v : Nat) (h : s0.Kept lim low) : (SafetyDie.dogKey s0 host v).Kept lim low := by
  unfold SafetyDie.dogKey
  try dsimp only
  repeat' (first
    | with_reducible assumption
    | with_reducible apply SafetyDie.armLapse_kept
    | with_reducible apply SafetyDie.dogDue_kept
    | with_reducible apply SafetyDie.dogFail_kept
    | with_reducible apply SafetyDie.dogServe_kept
    | with_reducible apply SafetyDie.setDog_kept
    | with_reducible apply SafetyDie.foldl_kept
    | (simp only [↓SafetyDie.kept_mk]; refine ⟨?_, ?_, ?_⟩)
    | with_reducible apply SafetyDie.Kept.log_le (lim := lim) (low := low)
    | with_reducible apply SafetyDie.Kept.staged_le (lim := lim) (low := low)
    | with_reducible apply SafetyDie.Kept.le_floor (lim := lim) (low := low)
    | split
    | (intro _)
    | (rw [id_eq])
    | (simp; done))

theorem SafetyDie.wdsStore_kept (s : SafetyDie) (v : Nat) (h : s.Kept lim low) : (SafetyDie.wdsStore s v).Kept lim low := by
  unfold SafetyDie.wdsStore
  try dsimp only
  repeat' (first
    | with_reducible assumption
    | with_reducible apply SafetyDie.dogKey_kept
    | with_reducible apply SafetyDie.foldl_kept
    | (simp only [↓SafetyDie.kept_mk]; refine ⟨?_, ?_, ?_⟩)
    | with_reducible apply SafetyDie.Kept.log_le (lim := lim) (low := low)
    | with_reducible apply SafetyDie.Kept.staged_le (lim := lim) (low := low)
    | with_reducible apply SafetyDie.Kept.le_floor (lim := lim) (low := low)
    | split
    | (intro _)
    | (rw [id_eq])
    | (simp; done))

theorem SafetyDie.wdhSvc_kept (s : SafetyDie) (v : Nat) (h : s.Kept lim low) : (SafetyDie.wdhSvc s v).Kept lim low := by
  unfold SafetyDie.wdhSvc
  try dsimp only
  repeat' (first
    | with_reducible assumption
    | with_reducible apply SafetyDie.bump_kept
    | with_reducible apply SafetyDie.dogKey_kept
    | with_reducible apply SafetyDie.raise_kept
    | with_reducible apply SafetyDie.foldl_kept
    | (simp only [↓SafetyDie.kept_mk]; refine ⟨?_, ?_, ?_⟩)
    | with_reducible apply SafetyDie.Kept.log_le (lim := lim) (low := low)
    | with_reducible apply SafetyDie.Kept.staged_le (lim := lim) (low := low)
    | with_reducible apply SafetyDie.Kept.le_floor (lim := lim) (low := low)
    | split
    | (intro _)
    | (rw [id_eq])
    | (simp; done))

theorem SafetyDie.wdhStart_kept (s : SafetyDie) (h : s.Kept lim low) : (SafetyDie.wdhStart s).Kept lim low := by
  unfold SafetyDie.wdhStart
  try dsimp only
  repeat' (first
    | with_reducible assumption
    | with_reducible apply SafetyDie.foldl_kept
    | (simp only [↓SafetyDie.kept_mk]; refine ⟨?_, ?_, ?_⟩)
    | with_reducible apply SafetyDie.Kept.log_le (lim := lim) (low := low)
    | with_reducible apply SafetyDie.Kept.staged_le (lim := lim) (low := low)
    | with_reducible apply SafetyDie.Kept.le_floor (lim := lim) (low := low)
    | split
    | (intro _)
    | (rw [id_eq])
    | (simp; done))

theorem SafetyDie.wdhDisable_kept (s0 : SafetyDie) (h : s0.Kept lim low) : (SafetyDie.wdhDisable s0).Kept lim low := by
  unfold SafetyDie.wdhDisable
  try dsimp only
  repeat' (first
    | with_reducible assumption
    | with_reducible apply SafetyDie.bump_kept
    | with_reducible apply SafetyDie.dogDue_kept
    | with_reducible apply SafetyDie.raise_kept
    | with_reducible apply SafetyDie.foldl_kept
    | (simp only [↓SafetyDie.kept_mk]; refine ⟨?_, ?_, ?_⟩)
    | with_reducible apply SafetyDie.Kept.log_le (lim := lim) (low := low)
    | with_reducible apply SafetyDie.Kept.staged_le (lim := lim) (low := low)
    | with_reducible apply SafetyDie.Kept.le_floor (lim := lim) (low := low)
    | split
    | (intro _)
    | (rw [id_eq])
    | (simp; done))

theorem SafetyDie.wdhLock_kept (s : SafetyDie) (h : s.Kept lim low) : (SafetyDie.wdhLock s).Kept lim low := by
  unfold SafetyDie.wdhLock
  try dsimp only
  repeat' (first
    | with_reducible assumption
    | with_reducible apply SafetyDie.wdhStart_kept
    | with_reducible apply SafetyDie.foldl_kept
    | (simp only [↓SafetyDie.kept_mk]; refine ⟨?_, ?_, ?_⟩)
    | with_reducible apply SafetyDie.Kept.log_le (lim := lim) (low := low)
    | with_reducible apply SafetyDie.Kept.staged_le (lim := lim) (low := low)
    | with_reducible apply SafetyDie.Kept.le_floor (lim := lim) (low := low)
    | split
    | (intro _)
    | (rw [id_eq])
    | (simp; done))

theorem SafetyDie.wdhKey_kept (s : SafetyDie) (v : Nat) (h : s.Kept lim low) : (SafetyDie.wdhKey s v).Kept lim low := by
  unfold SafetyDie.wdhKey
  try dsimp only
  repeat' (first
    | with_reducible assumption
    | with_reducible apply SafetyDie.bump_kept
    | with_reducible apply SafetyDie.foldl_kept
    | (simp only [↓SafetyDie.kept_mk]; refine ⟨?_, ?_, ?_⟩)
    | with_reducible apply SafetyDie.Kept.log_le (lim := lim) (low := low)
    | with_reducible apply SafetyDie.Kept.staged_le (lim := lim) (low := low)
    | with_reducible apply SafetyDie.Kept.le_floor (lim := lim) (low := low)
    | split
    | (intro _)
    | (rw [id_eq])
    | (simp; done))

theorem SafetyDie.disableLapse_kept (s : SafetyDie) (h : s.Kept lim low) : (SafetyDie.disableLapse s).Kept lim low := by
  unfold SafetyDie.disableLapse
  try dsimp only
  repeat' (first
    | with_reducible assumption
    | with_reducible apply SafetyDie.bump_kept
    | with_reducible apply SafetyDie.foldl_kept
    | (simp only [↓SafetyDie.kept_mk]; refine ⟨?_, ?_, ?_⟩)
    | with_reducible apply SafetyDie.Kept.log_le (lim := lim) (low := low)
    | with_reducible apply SafetyDie.Kept.staged_le (lim := lim) (low := low)
    | with_reducible apply SafetyDie.Kept.le_floor (lim := lim) (low := low)
    | split
    | (intro _)
    | (rw [id_eq])
    | (simp; done))

theorem SafetyDie.breakSequence_kept (s : SafetyDie) (h : s.Kept lim low) : (SafetyDie.breakSequence s).Kept lim low := by
  unfold SafetyDie.breakSequence
  try dsimp only
  repeat' (first
    | with_reducible assumption
    | with_reducible apply SafetyDie.bump_kept
    | with_reducible apply SafetyDie.foldl_kept
    | (simp only [↓SafetyDie.kept_mk]; refine ⟨?_, ?_, ?_⟩)
    | with_reducible apply SafetyDie.Kept.log_le (lim := lim) (low := low)
    | with_reducible apply SafetyDie.Kept.staged_le (lim := lim) (low := low)
    | with_reducible apply SafetyDie.Kept.le_floor (lim := lim) (low := low)
    | split
    | (intro _)
    | (rw [id_eq])
    | (simp; done))

theorem SafetyDie.wdhCtrl_kept (s : SafetyDie) (v : Nat) (h : s.Kept lim low) : (SafetyDie.wdhCtrl s v).Kept lim low := by
  unfold SafetyDie.wdhCtrl
  try dsimp only
  repeat' (first
    | with_reducible assumption
    | with_reducible apply SafetyDie.breakSequence_kept
    | with_reducible apply SafetyDie.wdhDisable_kept
    | with_reducible apply SafetyDie.wdhLock_kept
    | with_reducible apply SafetyDie.wdhStart_kept
    | with_reducible apply SafetyDie.foldl_kept
    | (simp only [↓SafetyDie.kept_mk]; refine ⟨?_, ?_, ?_⟩)
    | with_reducible apply SafetyDie.Kept.log_le (lim := lim) (low := low)
    | with_reducible apply SafetyDie.Kept.staged_le (lim := lim) (low := low)
    | with_reducible apply SafetyDie.Kept.le_floor (lim := lim) (low := low)
    | split
    | (intro _)
    | (rw [id_eq])
    | (simp; done))

theorem SafetyDie.clockTrip_kept (s : SafetyDie) (host : Bool) (h : s.Kept lim low) : (SafetyDie.clockTrip s host).Kept lim low := by
  unfold SafetyDie.clockTrip
  try dsimp only
  repeat' (first
    | with_reducible assumption
    | with_reducible apply SafetyDie.safetyReset_kept
    | with_reducible apply SafetyDie.setGuest_kept
    | with_reducible apply SafetyDie.foldl_kept
    | (simp only [↓SafetyDie.kept_mk]; refine ⟨?_, ?_, ?_⟩)
    | with_reducible apply SafetyDie.Kept.log_le (lim := lim) (low := low)
    | with_reducible apply SafetyDie.Kept.staged_le (lim := lim) (low := low)
    | with_reducible apply SafetyDie.Kept.le_floor (lim := lim) (low := low)
    | split
    | (intro _)
    | (rw [id_eq])
    | (simp; done))

theorem SafetyDie.hostResume_kept (s : SafetyDie) (h : s.Kept lim low) : (SafetyDie.hostResume s).Kept lim low := by
  unfold SafetyDie.hostResume
  try dsimp only
  repeat' (first
    | with_reducible assumption
    | with_reducible apply SafetyDie.restart_kept
    | with_reducible apply SafetyDie.foldl_kept
    | (simp only [↓SafetyDie.kept_mk]; refine ⟨?_, ?_, ?_⟩)
    | with_reducible apply SafetyDie.Kept.log_le (lim := lim) (low := low)
    | with_reducible apply SafetyDie.Kept.staged_le (lim := lim) (low := low)
    | with_reducible apply SafetyDie.Kept.le_floor (lim := lim) (low := low)
    | split
    | (intro _)
    | (rw [id_eq])
    | (simp; done))

theorem SafetyDie.hostHold_kept (s : SafetyDie) (h : s.Kept lim low) : (SafetyDie.hostHold s).Kept lim low := by
  unfold SafetyDie.hostHold
  try dsimp only
  repeat' (first
    | with_reducible assumption
    | with_reducible apply SafetyDie.foldl_kept
    | (simp only [↓SafetyDie.kept_mk]; refine ⟨?_, ?_, ?_⟩)
    | with_reducible apply SafetyDie.Kept.log_le (lim := lim) (low := low)
    | with_reducible apply SafetyDie.Kept.staged_le (lim := lim) (low := low)
    | with_reducible apply SafetyDie.Kept.le_floor (lim := lim) (low := low)
    | split
    | (intro _)
    | (rw [id_eq])
    | (simp; done))

theorem SafetyDie.debugHalt_kept (s0 : SafetyDie) (h : s0.Kept lim low) : (SafetyDie.debugHalt s0).Kept lim low := by
  unfold SafetyDie.debugHalt
  try dsimp only
  repeat' (first
    | with_reducible assumption
    | with_reducible apply SafetyDie.dogDue_kept
    | with_reducible apply SafetyDie.hblStop_kept
    | with_reducible apply SafetyDie.hostHold_kept
    | with_reducible apply SafetyDie.setBrake_kept
    | with_reducible apply SafetyDie.foldl_kept
    | (simp only [↓SafetyDie.kept_mk]; refine ⟨?_, ?_, ?_⟩)
    | with_reducible apply SafetyDie.Kept.log_le (lim := lim) (low := low)
    | with_reducible apply SafetyDie.Kept.staged_le (lim := lim) (low := low)
    | with_reducible apply SafetyDie.Kept.le_floor (lim := lim) (low := low)
    | split
    | (intro _)
    | (rw [id_eq])
    | (simp; done))

theorem SafetyDie.debugResume_kept (s : SafetyDie) (h : s.Kept lim low) : (SafetyDie.debugResume s).Kept lim low := by
  unfold SafetyDie.debugResume
  try dsimp only
  repeat' (first
    | with_reducible assumption
    | with_reducible apply SafetyDie.hostResume_kept
    | with_reducible apply SafetyDie.settle_kept
    | with_reducible apply SafetyDie.foldl_kept
    | (simp only [↓SafetyDie.kept_mk]; refine ⟨?_, ?_, ?_⟩)
    | with_reducible apply SafetyDie.Kept.log_le (lim := lim) (low := low)
    | with_reducible apply SafetyDie.Kept.staged_le (lim := lim) (low := low)
    | with_reducible apply SafetyDie.Kept.le_floor (lim := lim) (low := low)
    | split
    | (intro _)
    | (rw [id_eq])
    | (simp; done))

theorem SafetyDie.rcFollow_kept (s : SafetyDie) (h : s.Kept lim low) : (SafetyDie.rcFollow s).Kept lim low := by
  unfold SafetyDie.rcFollow
  try dsimp only
  repeat' (first
    | with_reducible assumption
    | with_reducible apply SafetyDie.foldl_kept
    | (simp only [↓SafetyDie.kept_mk]; refine ⟨?_, ?_, ?_⟩)
    | with_reducible apply SafetyDie.Kept.log_le (lim := lim) (low := low)
    | with_reducible apply SafetyDie.Kept.staged_le (lim := lim) (low := low)
    | with_reducible apply SafetyDie.Kept.le_floor (lim := lim) (low := low)
    | split
    | (intro _)
    | (rw [id_eq])
    | (simp; done))

theorem SafetyDie.rcFail_kept (s : SafetyDie) (e test value : Nat) (h : s.Kept lim low) : (SafetyDie.rcFail s e test value).Kept lim low := by
  unfold SafetyDie.rcFail
  try dsimp only
  repeat' (first
    | with_reducible assumption
    | with_reducible apply SafetyDie.bump_kept
    | with_reducible apply SafetyDie.raise_kept
    | with_reducible apply SafetyDie.foldl_kept
    | (simp only [↓SafetyDie.kept_mk]; refine ⟨?_, ?_, ?_⟩)
    | with_reducible apply SafetyDie.Kept.log_le (lim := lim) (low := low)
    | with_reducible apply SafetyDie.Kept.staged_le (lim := lim) (low := low)
    | with_reducible apply SafetyDie.Kept.le_floor (lim := lim) (low := low)
    | split
    | (intro _)
    | (rw [id_eq])
    | (simp; done))

theorem SafetyDie.cycleEnd_kept (s : SafetyDie) (h : s.Kept lim low) : (SafetyDie.cycleEnd s).Kept lim low := by
  unfold SafetyDie.cycleEnd
  try dsimp only
  repeat' (first
    | with_reducible assumption
    | with_reducible apply SafetyDie.bump_kept
    | with_reducible apply SafetyDie.dogServe_kept
    | with_reducible apply SafetyDie.forEach_kept
    | with_reducible apply SafetyDie.rcFail_kept
    | with_reducible apply SafetyDie.when_kept
    | with_reducible apply SafetyDie.foldl_kept
    | (simp only [↓SafetyDie.kept_mk]; refine ⟨?_, ?_, ?_⟩)
    | with_reducible apply SafetyDie.Kept.log_le (lim := lim) (low := low)
    | with_reducible apply SafetyDie.Kept.staged_le (lim := lim) (low := low)
    | with_reducible apply SafetyDie.Kept.le_floor (lim := lim) (low := low)
    | split
    | (intro _)
    | (rw [id_eq])
    | (simp; done))

theorem SafetyDie.rcCheckIn_kept (s0 : SafetyDie) (v : Nat) (h : s0.Kept lim low) : (SafetyDie.rcCheckIn s0 v).Kept lim low := by
  unfold SafetyDie.rcCheckIn
  try dsimp only
  repeat' (first
    | with_reducible assumption
    | with_reducible apply SafetyDie.bump_kept
    | with_reducible apply SafetyDie.cycleEnd_kept
    | with_reducible apply SafetyDie.foldl_kept
    | (simp only [↓SafetyDie.kept_mk]; refine ⟨?_, ?_, ?_⟩)
    | with_reducible apply SafetyDie.Kept.log_le (lim := lim) (low := low)
    | with_reducible apply SafetyDie.Kept.staged_le (lim := lim) (low := low)
    | with_reducible apply SafetyDie.Kept.le_floor (lim := lim) (low := low)
    | split
    | (intro _)
    | (rw [id_eq])
    | (simp; done))

theorem SafetyDie.hostRegister_kept (s : SafetyDie) (offset v : Nat) (h : s.Kept lim low) : (SafetyDie.hostRegister s offset v).Kept lim low := by
  unfold SafetyDie.hostRegister
  try dsimp only
  repeat' (first
    | with_reducible assumption
    | with_reducible apply SafetyDie.rcCheckIn_kept
    | with_reducible apply SafetyDie.wdhCtrl_kept
    | with_reducible apply SafetyDie.wdhKey_kept
    | with_reducible apply SafetyDie.wdhSvc_kept
    | with_reducible apply SafetyDie.foldl_kept
    | (simp only [↓SafetyDie.kept_mk]; refine ⟨?_, ?_, ?_⟩)
    | with_reducible apply SafetyDie.Kept.log_le (lim := lim) (low := low)
    | with_reducible apply SafetyDie.Kept.staged_le (lim := lim) (low := low)
    | with_reducible apply SafetyDie.Kept.le_floor (lim := lim) (low := low)
    | split
    | (intro _)
    | (rw [id_eq])
    | (simp; done))

theorem SafetyDie.keeperFault_kept (s : SafetyDie) (n : EventName) (word which : Nat) (h : s.Kept lim low) : (SafetyDie.keeperFault s n word which).Kept lim low := by
  unfold SafetyDie.keeperFault
  try dsimp only
  repeat' (first
    | with_reducible assumption
    | with_reducible apply SafetyDie.channelsOff_kept
    | with_reducible apply SafetyDie.safetyReset_kept
    | with_reducible apply SafetyDie.setBrake_kept
    | with_reducible apply SafetyDie.foldl_kept
    | (simp only [↓SafetyDie.kept_mk]; refine ⟨?_, ?_, ?_⟩)
    | with_reducible apply SafetyDie.Kept.log_le (lim := lim) (low := low)
    | with_reducible apply SafetyDie.Kept.staged_le (lim := lim) (low := low)
    | with_reducible apply SafetyDie.Kept.le_floor (lim := lim) (low := low)
    | split
    | (intro _)
    | (rw [id_eq])
    | (simp; done))

theorem SafetyDie.storeLeaves_kept (s : SafetyDie) (w : Nat) (h : s.Kept lim low) : (SafetyDie.storeLeaves s w).Kept lim low := by
  unfold SafetyDie.storeLeaves
  try dsimp only
  repeat' (first
    | with_reducible assumption
    | with_reducible apply SafetyDie.put_kept
    | with_reducible apply SafetyDie.foldl_kept
    | (simp only [↓SafetyDie.kept_mk]; refine ⟨?_, ?_, ?_⟩)
    | with_reducible apply SafetyDie.Kept.log_le (lim := lim) (low := low)
    | with_reducible apply SafetyDie.Kept.staged_le (lim := lim) (low := low)
    | with_reducible apply SafetyDie.Kept.le_floor (lim := lim) (low := low)
    | split
    | (intro _)
    | (rw [id_eq])
    | (simp; done))

theorem SafetyDie.compareCommit_kept (s : SafetyDie) (w : Nat) (wrongX wrongY : Bool) (h : s.Kept lim low) : (SafetyDie.compareCommit s w wrongX wrongY).Kept lim low := by
  unfold SafetyDie.compareCommit
  try dsimp only
  repeat' (first
    | with_reducible assumption
    | with_reducible apply SafetyDie.keeperFault_kept
    | with_reducible apply SafetyDie.storeLeaves_kept
    | with_reducible apply SafetyDie.foldl_kept
    | (simp only [↓SafetyDie.kept_mk]; refine ⟨?_, ?_, ?_⟩)
    | with_reducible apply SafetyDie.Kept.log_le (lim := lim) (low := low)
    | with_reducible apply SafetyDie.Kept.staged_le (lim := lim) (low := low)
    | with_reducible apply SafetyDie.Kept.le_floor (lim := lim) (low := low)
    | split
    | (intro _)
    | (rw [id_eq])
    | (simp; done))

theorem SafetyDie.splitTrap_kept (s : SafetyDie) (h : s.Kept lim low) : (SafetyDie.splitTrap s).Kept lim low := by
  unfold SafetyDie.splitTrap
  try dsimp only
  repeat' (first
    | with_reducible assumption
    | with_reducible apply SafetyDie.raise_kept
    | with_reducible apply SafetyDie.foldl_kept
    | (simp only [↓SafetyDie.kept_mk]; refine ⟨?_, ?_, ?_⟩)
    | with_reducible apply SafetyDie.Kept.log_le (lim := lim) (low := low)
    | with_reducible apply SafetyDie.Kept.staged_le (lim := lim) (low := low)
    | with_reducible apply SafetyDie.Kept.le_floor (lim := lim) (low := low)
    | split
    | (intro _)
    | (rw [id_eq])
    | (simp; done))

theorem SafetyDie.splitCycle_kept (s : SafetyDie) (k0 k1 : Option Nat) (h : s.Kept lim low) : (SafetyDie.splitCycle s k0 k1).Kept lim low := by
  unfold SafetyDie.splitCycle
  try dsimp only
  repeat' (first
    | with_reducible assumption
    | with_reducible apply SafetyDie.splitTrap_kept
    | with_reducible apply SafetyDie.storeLeaves_kept
    | with_reducible apply SafetyDie.foldl_kept
    | (simp only [↓SafetyDie.kept_mk]; refine ⟨?_, ?_, ?_⟩)
    | with_reducible apply SafetyDie.Kept.log_le (lim := lim) (low := low)
    | with_reducible apply SafetyDie.Kept.staged_le (lim := lim) (low := low)
    | with_reducible apply SafetyDie.Kept.le_floor (lim := lim) (low := low)
    | split
    | (intro _)
    | (rw [id_eq])
    | (simp; done))

theorem SafetyDie.compareWord_kept (s : SafetyDie) (k0 k1 : Option Nat) (wrongX wrongY : Bool) (input : Option Nat)
    (corrected uncorrectable fatal : Bool) (h : s.Kept lim low) :
    (s.compareWord k0 k1 wrongX wrongY input corrected uncorrectable fatal).Kept lim low := by
  unfold SafetyDie.compareWord
  extract_lets word s1 go s2
  have h1 : s1.Kept lim low := by
    unfold s1
    split
    · exact SafetyDie.bump_kept _ _ _ _ h
    · exact h
  have h2 : s2.Kept lim low := by
    unfold s2
    split
    · exact h1
    · exact h1
  clear_value s2 s1
  split
  · exact h
  split
  · exact SafetyDie.keeperFault_kept _ _ _ _ h
  split
  · exact SafetyDie.splitCycle_kept _ _ _ h
  split
  · exact SafetyDie.keeperFault_kept _ _ _ _ h1
  split
  · exact SafetyDie.compareCommit_kept _ _ _ _ h2
  · exact h2

theorem SafetyDie.injectPair_kept (s : SafetyDie) (wrongX wrongY : Bool) (h : s.Kept lim low) : (SafetyDie.injectPair s wrongX wrongY).Kept lim low := by
  unfold SafetyDie.injectPair
  try dsimp only
  repeat' (first
    | with_reducible assumption
    | with_reducible apply SafetyDie.bump_kept
    | with_reducible apply SafetyDie.keeperFault_kept
    | with_reducible apply SafetyDie.foldl_kept
    | (simp only [↓SafetyDie.kept_mk]; refine ⟨?_, ?_, ?_⟩)
    | with_reducible apply SafetyDie.Kept.log_le (lim := lim) (low := low)
    | with_reducible apply SafetyDie.Kept.staged_le (lim := lim) (low := low)
    | with_reducible apply SafetyDie.Kept.le_floor (lim := lim) (low := low)
    | split
    | (intro _)
    | (rw [id_eq])
    | (simp; done))

theorem SafetyDie.libraryTest_kept (s : SafetyDie) (h : s.Kept lim low) : (SafetyDie.libraryTest s).Kept lim low := by
  unfold SafetyDie.libraryTest
  try dsimp only
  repeat' (first
    | with_reducible assumption
    | with_reducible apply SafetyDie.foldl_kept
    | (simp only [↓SafetyDie.kept_mk]; refine ⟨?_, ?_, ?_⟩)
    | with_reducible apply SafetyDie.Kept.log_le (lim := lim) (low := low)
    | with_reducible apply SafetyDie.Kept.staged_le (lim := lim) (low := low)
    | with_reducible apply SafetyDie.Kept.le_floor (lim := lim) (low := low)
    | split
    | (intro _)
    | (rw [id_eq])
    | (simp; done))

theorem SafetyDie.corridorFailure_kept (s : SafetyDie) (item : Nat) (h : s.Kept lim low) : (SafetyDie.corridorFailure s item).Kept lim low := by
  unfold SafetyDie.corridorFailure
  try dsimp only
  repeat' (first
    | with_reducible assumption
    | with_reducible apply SafetyDie.safetyReset_kept
    | with_reducible apply SafetyDie.foldl_kept
    | (simp only [↓SafetyDie.kept_mk]; refine ⟨?_, ?_, ?_⟩)
    | with_reducible apply SafetyDie.Kept.log_le (lim := lim) (low := low)
    | with_reducible apply SafetyDie.Kept.staged_le (lim := lim) (low := low)
    | with_reducible apply SafetyDie.Kept.le_floor (lim := lim) (low := low)
    | split
    | (intro _)
    | (rw [id_eq])
    | (simp; done))

theorem SafetyDie.refuseFlit_kept (s : SafetyDie) (h : s.Kept lim low) : (SafetyDie.refuseFlit s).Kept lim low := by
  unfold SafetyDie.refuseFlit
  try dsimp only
  repeat' (first
    | with_reducible assumption
    | with_reducible apply SafetyDie.corridorFailure_kept
    | with_reducible apply SafetyDie.put_kept
    | with_reducible apply SafetyDie.foldl_kept
    | (simp only [↓SafetyDie.kept_mk]; refine ⟨?_, ?_, ?_⟩)
    | with_reducible apply SafetyDie.Kept.log_le (lim := lim) (low := low)
    | with_reducible apply SafetyDie.Kept.staged_le (lim := lim) (low := low)
    | with_reducible apply SafetyDie.Kept.le_floor (lim := lim) (low := low)
    | split
    | (intro _)
    | (rw [id_eq])
    | (simp; done))

theorem SafetyDie.flitCrcError_kept (s : SafetyDie) (h : s.Kept lim low) : (SafetyDie.flitCrcError s).Kept lim low := by
  unfold SafetyDie.flitCrcError
  try dsimp only
  repeat' (first
    | with_reducible assumption
    | with_reducible apply SafetyDie.bump_kept
    | with_reducible apply SafetyDie.corridorFailure_kept
    | with_reducible apply SafetyDie.refuseFlit_kept
    | with_reducible apply SafetyDie.foldl_kept
    | (simp only [↓SafetyDie.kept_mk]; refine ⟨?_, ?_, ?_⟩)
    | with_reducible apply SafetyDie.Kept.log_le (lim := lim) (low := low)
    | with_reducible apply SafetyDie.Kept.staged_le (lim := lim) (low := low)
    | with_reducible apply SafetyDie.Kept.le_floor (lim := lim) (low := low)
    | split
    | (intro _)
    | (rw [id_eq])
    | (simp; done))

theorem SafetyDie.receive_kept (s : SafetyDie) (seq n : Nat) (f : SafetyDie → SafetyDie) (h : s.Kept lim low) (h1 : ∀ y : SafetyDie, y.Kept lim low → (f y).Kept lim low) : (SafetyDie.receive s seq n f).Kept lim low := by
  unfold SafetyDie.receive
  try dsimp only
  repeat' (first
    | with_reducible assumption
    | with_reducible apply SafetyDie.refuseFlit_kept
    | with_reducible apply SafetyDie.sendAck_kept
    | with_reducible apply h1
    | with_reducible apply SafetyDie.foldl_kept
    | (simp only [↓SafetyDie.kept_mk]; refine ⟨?_, ?_, ?_⟩)
    | with_reducible apply SafetyDie.Kept.log_le (lim := lim) (low := low)
    | with_reducible apply SafetyDie.Kept.staged_le (lim := lim) (low := low)
    | with_reducible apply SafetyDie.Kept.le_floor (lim := lim) (low := low)
    | split
    | (intro _)
    | (rw [id_eq])
    | (simp; done))

theorem SafetyDie.setSort_kept (s : SafetyDie) (n : Nat) (x : SortStream) (h : s.Kept lim low) : (SafetyDie.setSort s n x).Kept lim low := by
  unfold SafetyDie.setSort
  try dsimp only
  repeat' (first
    | with_reducible assumption
    | with_reducible apply SafetyDie.foldl_kept
    | (simp only [↓SafetyDie.kept_mk]; refine ⟨?_, ?_, ?_⟩)
    | with_reducible apply SafetyDie.Kept.log_le (lim := lim) (low := low)
    | with_reducible apply SafetyDie.Kept.staged_le (lim := lim) (low := low)
    | with_reducible apply SafetyDie.Kept.le_floor (lim := lim) (low := low)
    | split
    | (intro _)
    | (rw [id_eq])
    | (simp; done))

theorem SafetyDie.queueAction_kept (s : SafetyDie) (x : ActionItem) (h : s.Kept lim low) : (SafetyDie.queueAction s x).Kept lim low := by
  unfold SafetyDie.queueAction
  try dsimp only
  repeat' (first
    | with_reducible assumption
    | with_reducible apply SafetyDie.foldl_kept
    | (simp only [↓SafetyDie.kept_mk]; refine ⟨?_, ?_, ?_⟩)
    | with_reducible apply SafetyDie.Kept.log_le (lim := lim) (low := low)
    | with_reducible apply SafetyDie.Kept.staged_le (lim := lim) (low := low)
    | with_reducible apply SafetyDie.Kept.le_floor (lim := lim) (low := low)
    | split
    | (intro _)
    | (rw [id_eq])
    | (simp; done))

theorem SafetyDie.token_kept (s : SafetyDie) (t : Token) (h : s.Kept lim low) : (SafetyDie.token s t).Kept lim low := by
  unfold SafetyDie.token
  try dsimp only
  repeat' (first
    | with_reducible assumption
    | with_reducible apply SafetyDie.queueAction_kept
    | with_reducible apply SafetyDie.raise_kept
    | with_reducible apply SafetyDie.setSort_kept
    | with_reducible apply SafetyDie.foldl_kept
    | (simp only [↓SafetyDie.kept_mk]; refine ⟨?_, ?_, ?_⟩)
    | with_reducible apply SafetyDie.Kept.log_le (lim := lim) (low := low)
    | with_reducible apply SafetyDie.Kept.staged_le (lim := lim) (low := low)
    | with_reducible apply SafetyDie.Kept.le_floor (lim := lim) (low := low)
    | split
    | (intro _)
    | (rw [id_eq])
    | (simp; done))

theorem SafetyDie.streamState_kept (s : SafetyDie) (p : Nat) (h : s.Kept lim low) : (SafetyDie.streamState s p).Kept lim low := by
  unfold SafetyDie.streamState
  try dsimp only
  repeat' (first
    | with_reducible assumption
    | with_reducible apply SafetyDie.queueAction_kept
    | with_reducible apply SafetyDie.setSort_kept
    | with_reducible apply SafetyDie.settle_kept
    | with_reducible apply SafetyDie.foldl_kept
    | (simp only [↓SafetyDie.kept_mk]; refine ⟨?_, ?_, ?_⟩)
    | with_reducible apply SafetyDie.Kept.log_le (lim := lim) (low := low)
    | with_reducible apply SafetyDie.Kept.staged_le (lim := lim) (low := low)
    | with_reducible apply SafetyDie.Kept.le_floor (lim := lim) (low := low)
    | split
    | (intro _)
    | (rw [id_eq])
    | (simp; done))

theorem SafetyDie.toRun_kept (s : SafetyDie) (h : s.Kept lim low) : (SafetyDie.toRun s).Kept lim low := by
  unfold SafetyDie.toRun
  try dsimp only
  repeat' (first
    | with_reducible assumption
    | with_reducible apply SafetyDie.advance_kept
    | with_reducible apply SafetyDie.sendFlit_kept
    | with_reducible apply SafetyDie.foldl_kept
    | (simp only [↓SafetyDie.kept_mk]; refine ⟨?_, ?_, ?_⟩)
    | with_reducible apply SafetyDie.Kept.log_le (lim := lim) (low := low)
    | with_reducible apply SafetyDie.Kept.staged_le (lim := lim) (low := low)
    | with_reducible apply SafetyDie.Kept.le_floor (lim := lim) (low := low)
    | split
    | (intro _)
    | (rw [id_eq])
    | (simp; done))

theorem SafetyDie.tryReady_kept (s : SafetyDie) (h : s.Kept lim low) : (SafetyDie.tryReady s).Kept lim low := by
  unfold SafetyDie.tryReady
  try dsimp only
  repeat' (first
    | with_reducible assumption
    | with_reducible apply SafetyDie.toRun_kept
    | with_reducible apply SafetyDie.wdhStart_kept
    | with_reducible apply SafetyDie.foldl_kept
    | (simp only [↓SafetyDie.kept_mk]; refine ⟨?_, ?_, ?_⟩)
    | with_reducible apply SafetyDie.Kept.log_le (lim := lim) (low := low)
    | with_reducible apply SafetyDie.Kept.staged_le (lim := lim) (low := low)
    | with_reducible apply SafetyDie.Kept.le_floor (lim := lim) (low := low)
    | split
    | (intro _)
    | (rw [id_eq])
    | (simp; done))

theorem SafetyDie.reportedCrc_kept (s : SafetyDie) (crc epoch : Nat) (h : s.Kept lim low) : (SafetyDie.reportedCrc s crc epoch).Kept lim low := by
  unfold SafetyDie.reportedCrc
  try dsimp only
  repeat' (first
    | with_reducible assumption
    | with_reducible apply SafetyDie.assertKill_kept
    | with_reducible apply SafetyDie.raise_kept
    | with_reducible apply SafetyDie.stop_kept
    | with_reducible apply SafetyDie.tryReady_kept
    | with_reducible apply SafetyDie.foldl_kept
    | (simp only [↓SafetyDie.kept_mk]; refine ⟨?_, ?_, ?_⟩)
    | with_reducible apply SafetyDie.Kept.log_le (lim := lim) (low := low)
    | with_reducible apply SafetyDie.Kept.staged_le (lim := lim) (low := low)
    | with_reducible apply SafetyDie.Kept.le_floor (lim := lim) (low := low)
    | split
    | (intro _)
    | (rw [id_eq])
    | (simp; done))

theorem SafetyDie.status_kept (s : SafetyDie) (code : Nat) (h : s.Kept lim low) : (SafetyDie.status s code).Kept lim low := by
  unfold SafetyDie.status
  try dsimp only
  repeat' (first
    | with_reducible assumption
    | with_reducible apply SafetyDie.flushLog_kept
    | with_reducible apply SafetyDie.hostResume_kept
    | with_reducible apply SafetyDie.settle_kept
    | with_reducible apply SafetyDie.tryReady_kept
    | with_reducible apply SafetyDie.foldl_kept
    | (simp only [↓SafetyDie.kept_mk]; refine ⟨?_, ?_, ?_⟩)
    | with_reducible apply SafetyDie.Kept.log_le (lim := lim) (low := low)
    | with_reducible apply SafetyDie.Kept.staged_le (lim := lim) (low := low)
    | with_reducible apply SafetyDie.Kept.le_floor (lim := lim) (low := low)
    | split
    | (intro _)
    | (rw [id_eq])
    | (simp; done))

theorem SafetyDie.fenceChange_kept (s : SafetyDie) (cluster row : Nat) (fenced : Bool) (h : s.Kept lim low) : (SafetyDie.fenceChange s cluster row fenced).Kept lim low := by
  unfold SafetyDie.fenceChange
  try dsimp only
  repeat' (first
    | with_reducible assumption
    | with_reducible apply SafetyDie.setGuest_kept
    | with_reducible apply SafetyDie.foldl_kept
    | (simp only [↓SafetyDie.kept_mk]; refine ⟨?_, ?_, ?_⟩)
    | with_reducible apply SafetyDie.Kept.log_le (lim := lim) (low := low)
    | with_reducible apply SafetyDie.Kept.staged_le (lim := lim) (low := low)
    | with_reducible apply SafetyDie.Kept.le_floor (lim := lim) (low := low)
    | split
    | (intro _)
    | (rw [id_eq])
    | (simp; done))

theorem SafetyDie.timeSample_kept (s : SafetyDie) (gts : Nat) (h : s.Kept lim low) : (SafetyDie.timeSample s gts).Kept lim low := by
  unfold SafetyDie.timeSample
  try dsimp only
  repeat' (first
    | with_reducible assumption
    | with_reducible apply SafetyDie.foldl_kept
    | (simp only [↓SafetyDie.kept_mk]; refine ⟨?_, ?_, ?_⟩)
    | with_reducible apply SafetyDie.Kept.log_le (lim := lim) (low := low)
    | with_reducible apply SafetyDie.Kept.staged_le (lim := lim) (low := low)
    | with_reducible apply SafetyDie.Kept.le_floor (lim := lim) (low := low)
    | split
    | (intro _)
    | (rw [id_eq])
    | (simp; done))

theorem SafetyDie.takeRecord_kept (s : SafetyDie) (r : EventRec) (h : s.Kept lim low) : (SafetyDie.takeRecord s r).Kept lim low := by
  unfold SafetyDie.takeRecord
  try dsimp only
  repeat' (first
    | with_reducible assumption
    | with_reducible apply SafetyDie.store_kept
    | with_reducible apply SafetyDie.foldl_kept
    | (simp only [↓SafetyDie.kept_mk]; refine ⟨?_, ?_, ?_⟩)
    | with_reducible apply SafetyDie.Kept.log_le (lim := lim) (low := low)
    | with_reducible apply SafetyDie.Kept.staged_le (lim := lim) (low := low)
    | with_reducible apply SafetyDie.Kept.le_floor (lim := lim) (low := low)
    | split
    | (intro _)
    | (rw [id_eq])
    | (simp; done))

theorem SafetyDie.flitEffect_kept (f : Flit) (s : SafetyDie) (h : s.Kept lim low) : (SafetyDie.flitEffect f s).Kept lim low := by
  unfold SafetyDie.flitEffect
  try dsimp only
  repeat' (first
    | with_reducible assumption
    | with_reducible apply SafetyDie.corridorFailure_kept
    | with_reducible apply SafetyDie.fenceChange_kept
    | with_reducible apply SafetyDie.flitCrcError_kept
    | with_reducible apply SafetyDie.hostRegister_kept
    | with_reducible apply SafetyDie.reportedCrc_kept
    | with_reducible apply SafetyDie.status_kept
    | with_reducible apply SafetyDie.streamState_kept
    | with_reducible apply SafetyDie.timeSample_kept
    | with_reducible apply SafetyDie.token_kept
    | with_reducible apply SafetyDie.foldl_kept
    | (simp only [↓SafetyDie.kept_mk]; refine ⟨?_, ?_, ?_⟩)
    | with_reducible apply SafetyDie.Kept.log_le (lim := lim) (low := low)
    | with_reducible apply SafetyDie.Kept.staged_le (lim := lim) (low := low)
    | with_reducible apply SafetyDie.Kept.le_floor (lim := lim) (low := low)
    | split
    | (intro _)
    | (rw [id_eq])
    | (simp; done))

theorem SafetyDie.permitFollow_kept (s : SafetyDie) (cause : Nat) (h : s.Kept lim low) : (SafetyDie.permitFollow s cause).Kept lim low := by
  unfold SafetyDie.permitFollow
  try dsimp only
  repeat' (first
    | with_reducible assumption
    | with_reducible apply SafetyDie.forEach_kept
    | with_reducible apply SafetyDie.raise_kept
    | with_reducible apply SafetyDie.foldl_kept
    | (simp only [↓SafetyDie.kept_mk]; refine ⟨?_, ?_, ?_⟩)
    | with_reducible apply SafetyDie.Kept.log_le (lim := lim) (low := low)
    | with_reducible apply SafetyDie.Kept.staged_le (lim := lim) (low := low)
    | with_reducible apply SafetyDie.Kept.le_floor (lim := lim) (low := low)
    | split
    | (intro _)
    | (rw [id_eq])
    | (simp; done))

theorem SafetyDie.takeSet_kept (s : SafetyDie) (h : s.Kept lim low) : (SafetyDie.takeSet s).Kept lim low := by
  unfold SafetyDie.takeSet
  try dsimp only
  repeat' (first
    | with_reducible assumption
    | with_reducible apply SafetyDie.permitFollow_kept
    | with_reducible apply SafetyDie.rcFollow_kept
    | with_reducible apply SafetyDie.restartPairs_kept
    | with_reducible apply SafetyDie.settle_kept
    | with_reducible apply SafetyDie.foldl_kept
    | (simp only [↓SafetyDie.kept_mk]; refine ⟨?_, ?_, ?_⟩)
    | with_reducible apply SafetyDie.Kept.log_le (lim := lim) (low := low)
    | with_reducible apply SafetyDie.Kept.staged_le (lim := lim) (low := low)
    | with_reducible apply SafetyDie.Kept.le_floor (lim := lim) (low := low)
    | split
    | (intro _)
    | (rw [id_eq])
    | (simp; done))

theorem SafetyDie.boundaryPassed_kept (s : SafetyDie) (f : Flit) (h : s.Kept lim low) : (SafetyDie.boundaryPassed s f).Kept lim low := by
  unfold SafetyDie.boundaryPassed
  try dsimp only
  repeat' (first
    | with_reducible assumption
    | with_reducible apply SafetyDie.takeSet_kept
    | with_reducible apply SafetyDie.foldl_kept
    | (simp only [↓SafetyDie.kept_mk]; refine ⟨?_, ?_, ?_⟩)
    | with_reducible apply SafetyDie.Kept.log_le (lim := lim) (low := low)
    | with_reducible apply SafetyDie.Kept.staged_le (lim := lim) (low := low)
    | with_reducible apply SafetyDie.Kept.le_floor (lim := lim) (low := low)
    | split
    | (intro _)
    | (rw [id_eq])
    | (simp; done))

theorem SafetyDie.linkIn_kept (s : SafetyDie) (ack : Nat) (nak : Bool) (expected : Nat) (h : s.Kept lim low) : (SafetyDie.linkIn s ack nak expected).Kept lim low := by
  unfold SafetyDie.linkIn
  try dsimp only
  repeat' (first
    | with_reducible assumption
    | with_reducible apply SafetyDie.boundaryPassed_kept
    | with_reducible apply SafetyDie.bump_kept
    | with_reducible apply SafetyDie.corridorFailure_kept
    | with_reducible apply SafetyDie.forEach_kept
    | with_reducible apply SafetyDie.put_kept
    | with_reducible apply SafetyDie.foldl_kept
    | (simp only [↓SafetyDie.kept_mk]; refine ⟨?_, ?_, ?_⟩)
    | with_reducible apply SafetyDie.Kept.log_le (lim := lim) (low := low)
    | with_reducible apply SafetyDie.Kept.staged_le (lim := lim) (low := low)
    | with_reducible apply SafetyDie.Kept.le_floor (lim := lim) (low := low)
    | split
    | (intro _)
    | (rw [id_eq])
    | (simp; done))

theorem SafetyDie.takeFlit_kept (s : SafetyDie) (b : Octets) (h : s.Kept lim low) : (SafetyDie.takeFlit s b).Kept lim low := by
  unfold SafetyDie.takeFlit
  try dsimp only
  repeat' (first
    | with_reducible assumption
    | with_reducible apply SafetyDie.corridorFailure_kept
    | with_reducible apply SafetyDie.flitCrcError_kept
    | with_reducible apply SafetyDie.flitEffect_kept
    | with_reducible apply SafetyDie.linkIn_kept
    | with_reducible apply SafetyDie.receive_kept
    | with_reducible apply SafetyDie.foldl_kept
    | (simp only [↓SafetyDie.kept_mk]; refine ⟨?_, ?_, ?_⟩)
    | with_reducible apply SafetyDie.Kept.log_le (lim := lim) (low := low)
    | with_reducible apply SafetyDie.Kept.staged_le (lim := lim) (low := low)
    | with_reducible apply SafetyDie.Kept.le_floor (lim := lim) (low := low)
    | split
    | (intro _)
    | (rw [id_eq])
    | (simp; done))

theorem SafetyDie.afterItem_kept (s : SafetyDie) (i : Injector) (spent : Bool) (h : s.Kept lim low) : (SafetyDie.afterItem s i spent).1.Kept lim low := by
  unfold SafetyDie.afterItem
  try dsimp only
  repeat' (first
    | with_reducible assumption
    | with_reducible apply SafetyDie.disarmInjector_kept
    | with_reducible apply SafetyDie.foldl_kept
    | (simp only [↓SafetyDie.kept_mk]; refine ⟨?_, ?_, ?_⟩)
    | with_reducible apply SafetyDie.Kept.log_le (lim := lim) (low := low)
    | with_reducible apply SafetyDie.Kept.staged_le (lim := lim) (low := low)
    | with_reducible apply SafetyDie.Kept.le_floor (lim := lim) (low := low)
    | split
    | (intro _)
    | (rw [id_eq])
    | (simp; done))

theorem SafetyDie.through_kept (s : SafetyDie) (j : Nat) (x : PointItem) (h : s.Kept lim low) : (SafetyDie.through s j x).1.Kept lim low := by
  unfold SafetyDie.through
  try dsimp only
  repeat' (first
    | with_reducible assumption
    | with_reducible apply SafetyDie.afterItem_kept
    | with_reducible apply SafetyDie.bump_kept
    | with_reducible apply SafetyDie.draw_kept
    | with_reducible apply SafetyDie.foldl_kept
    | (simp only [↓SafetyDie.kept_mk]; refine ⟨?_, ?_, ?_⟩)
    | with_reducible apply SafetyDie.Kept.log_le (lim := lim) (low := low)
    | with_reducible apply SafetyDie.Kept.staged_le (lim := lim) (low := low)
    | with_reducible apply SafetyDie.Kept.le_floor (lim := lim) (low := low)
    | split
    | (intro _)
    | (rw [id_eq])
    | (simp; done))

/-- A chain of injectors keeps the limits. -/
theorem SafetyDie.chain_kept (js : List Nat) (s : SafetyDie) (xs : List PointItem) (h : s.Kept lim low) : (SafetyDie.chain js s xs).1.Kept lim low := by
  induction js generalizing s xs with
  | nil => exact h
  | cons j js ih =>
    refine ih _ _ ?_
    have key : ∀ (l : List PointItem) (a : SafetyDie × List PointItem), a.1.Kept lim low →
        (l.foldl (fun (a : SafetyDie × List PointItem) x => let r := a.1.through j x; (r.1, a.2 ++ r.2)) a).1.Kept lim low := by
      intro l
      induction l with
      | nil => exact fun a ha => ha
      | cons x l ihl => exact fun a ha => ihl _ (SafetyDie.through_kept _ _ _ ha)
    exact key xs (s, []) h

theorem SafetyDie.atPoint_kept (s : SafetyDie) (x : PointItem) (h : s.Kept lim low) : (SafetyDie.atPoint s x).1.Kept lim low := by
  unfold SafetyDie.atPoint
  try dsimp only
  repeat' (first
    | with_reducible assumption
    | with_reducible apply SafetyDie.chain_kept
    | with_reducible apply SafetyDie.foldl_kept
    | (simp only [↓SafetyDie.kept_mk]; refine ⟨?_, ?_, ?_⟩)
    | with_reducible apply SafetyDie.Kept.log_le (lim := lim) (low := low)
    | with_reducible apply SafetyDie.Kept.staged_le (lim := lim) (low := low)
    | with_reducible apply SafetyDie.Kept.le_floor (lim := lim) (low := low)
    | split
    | (intro _)
    | (rw [id_eq])
    | (simp; done))

theorem SafetyDie.flitArrives_kept (s : SafetyDie) (seq : Nat) (f : Flit) (h : s.Kept lim low) : (SafetyDie.flitArrives s seq f).Kept lim low := by
  unfold SafetyDie.flitArrives
  try dsimp only
  repeat' (first
    | with_reducible assumption
    | with_reducible apply SafetyDie.atPoint_kept
    | with_reducible apply SafetyDie.flitEffect_kept
    | with_reducible apply SafetyDie.receive_kept
    | with_reducible apply SafetyDie.takeFlit_kept
    | with_reducible apply SafetyDie.foldl_kept
    | (simp only [↓SafetyDie.kept_mk]; refine ⟨?_, ?_, ?_⟩)
    | with_reducible apply SafetyDie.Kept.log_le (lim := lim) (low := low)
    | with_reducible apply SafetyDie.Kept.staged_le (lim := lim) (low := low)
    | with_reducible apply SafetyDie.Kept.le_floor (lim := lim) (low := low)
    | split
    | (intro _)
    | (rw [id_eq])
    | (simp; done))

theorem SafetyDie.itemFlits_kept : ∀ (fs : List Flit) (seq : Nat) (s : SafetyDie), s.Kept lim low → (SafetyDie.itemFlits fs seq s).1.Kept lim low
  | [], _, _, h => h
  | f :: fs, seq, s, h => by
    unfold SafetyDie.itemFlits
    dsimp only
    split
    · refine SafetyDie.itemFlits_kept fs (seq + 1) _ ?_
      apply SafetyDie.foldl_kept
      · exact SafetyDie.receive_kept _ _ _ _ (SafetyDie.atPoint_kept _ _ h) (fun _ e => e)
      · exact fun y a hy => SafetyDie.takeFlit_kept _ _ hy
    · apply SafetyDie.foldl_kept
      · exact SafetyDie.atPoint_kept _ _ h
      · exact fun y a hy => SafetyDie.takeFlit_kept _ _ hy

theorem SafetyDie.groupAdmit_kept (s : SafetyDie) (seq : Nat) (fs : List Flit) (h : s.Kept lim low) : (SafetyDie.groupAdmit s seq fs).1.Kept lim low := by
  unfold SafetyDie.groupAdmit
  try dsimp only
  repeat' (first
    | with_reducible assumption
    | with_reducible apply SafetyDie.flitCrcError_kept
    | with_reducible apply SafetyDie.itemFlits_kept
    | with_reducible apply SafetyDie.receive_kept
    | with_reducible apply SafetyDie.refuseFlit_kept
    | with_reducible apply SafetyDie.foldl_kept
    | (simp only [↓SafetyDie.kept_mk]; refine ⟨?_, ?_, ?_⟩)
    | with_reducible apply SafetyDie.Kept.log_le (lim := lim) (low := low)
    | with_reducible apply SafetyDie.Kept.staged_le (lim := lim) (low := low)
    | with_reducible apply SafetyDie.Kept.le_floor (lim := lim) (low := low)
    | split
    | (intro _)
    | (rw [id_eq])
    | (simp; done))

theorem SafetyDie.groupArrives_kept (s : SafetyDie) (seq : Nat) (fs : List Flit) (f : SafetyDie → SafetyDie) (h : s.Kept lim low) (h1 : ∀ y : SafetyDie, y.Kept lim low → (f y).Kept lim low) : (SafetyDie.groupArrives s seq fs f).Kept lim low := by
  unfold SafetyDie.groupArrives
  try dsimp only
  repeat' (first
    | with_reducible assumption
    | with_reducible apply SafetyDie.groupAdmit_kept
    | with_reducible apply h1
    | with_reducible apply SafetyDie.foldl_kept
    | (simp only [↓SafetyDie.kept_mk]; refine ⟨?_, ?_, ?_⟩)
    | with_reducible apply SafetyDie.Kept.log_le (lim := lim) (low := low)
    | with_reducible apply SafetyDie.Kept.staged_le (lim := lim) (low := low)
    | with_reducible apply SafetyDie.Kept.le_floor (lim := lim) (low := low)
    | split
    | (intro _)
    | (rw [id_eq])
    | (simp; done))

theorem SafetyDie.sorterFlit_kept (s : SafetyDie) (seq : Nat) (f : Flit) (split : Bool) (h : s.Kept lim low) : (SafetyDie.sorterFlit s seq f split).Kept lim low := by
  unfold SafetyDie.sorterFlit
  try dsimp only
  repeat' (first
    | with_reducible assumption
    | with_reducible apply SafetyDie.flitArrives_kept
    | with_reducible apply SafetyDie.keeperFault_kept
    | with_reducible apply SafetyDie.foldl_kept
    | (simp only [↓SafetyDie.kept_mk]; refine ⟨?_, ?_, ?_⟩)
    | with_reducible apply SafetyDie.Kept.log_le (lim := lim) (low := low)
    | with_reducible apply SafetyDie.Kept.staged_le (lim := lim) (low := low)
    | with_reducible apply SafetyDie.Kept.le_floor (lim := lim) (low := low)
    | split
    | (intro _)
    | (rw [id_eq])
    | (simp; done))

theorem SafetyDie.recordArrives_kept (s : SafetyDie) (seq : Nat) (r : EventRec) (h : s.Kept lim low) : (SafetyDie.recordArrives s seq r).Kept lim low := by
  unfold SafetyDie.recordArrives
  try dsimp only
  repeat' (first
    | with_reducible assumption
    | with_reducible apply SafetyDie.groupArrives_kept
    | with_reducible apply SafetyDie.takeRecord_kept
    | with_reducible apply SafetyDie.foldl_kept
    | (simp only [↓SafetyDie.kept_mk]; refine ⟨?_, ?_, ?_⟩)
    | with_reducible apply SafetyDie.Kept.log_le (lim := lim) (low := low)
    | with_reducible apply SafetyDie.Kept.staged_le (lim := lim) (low := low)
    | with_reducible apply SafetyDie.Kept.le_floor (lim := lim) (low := low)
    | split
    | (intro _)
    | (rw [id_eq])
    | (simp; done))

theorem SafetyDie.releaseNow_kept (s : SafetyDie) (j : Nat) (h : s.Kept lim low) : (SafetyDie.releaseNow s j).Kept lim low := by
  unfold SafetyDie.releaseNow
  try dsimp only
  repeat' (first
    | with_reducible assumption
    | with_reducible apply SafetyDie.afterItem_kept
    | with_reducible apply SafetyDie.chain_kept
    | with_reducible apply SafetyDie.takeFlit_kept
    | with_reducible apply SafetyDie.foldl_kept
    | (simp only [↓SafetyDie.kept_mk]; refine ⟨?_, ?_, ?_⟩)
    | with_reducible apply SafetyDie.Kept.log_le (lim := lim) (low := low)
    | with_reducible apply SafetyDie.Kept.staged_le (lim := lim) (low := low)
    | with_reducible apply SafetyDie.Kept.le_floor (lim := lim) (low := low)
    | split
    | (intro _)
    | (rw [id_eq])
    | (simp; done))

theorem SafetyDie.trainIn_kept (s : SafetyDie) (crcOk : Bool) (h : s.Kept lim low) : (SafetyDie.trainIn s crcOk).Kept lim low := by
  unfold SafetyDie.trainIn
  try dsimp only
  repeat' (first
    | with_reducible assumption
    | with_reducible apply SafetyDie.put_kept
    | with_reducible apply SafetyDie.foldl_kept
    | (simp only [↓SafetyDie.kept_mk]; refine ⟨?_, ?_, ?_⟩)
    | with_reducible apply SafetyDie.Kept.log_le (lim := lim) (low := low)
    | with_reducible apply SafetyDie.Kept.staged_le (lim := lim) (low := low)
    | with_reducible apply SafetyDie.Kept.le_floor (lim := lim) (low := low)
    | split
    | (intro _)
    | (rw [id_eq])
    | (simp; done))

theorem SafetyDie.sendTime_kept (s : SafetyDie) (h : s.Kept lim low) : (SafetyDie.sendTime s).Kept lim low := by
  unfold SafetyDie.sendTime
  try dsimp only
  repeat' (first
    | with_reducible assumption
    | with_reducible apply SafetyDie.sendFlit_kept
    | with_reducible apply SafetyDie.foldl_kept
    | (simp only [↓SafetyDie.kept_mk]; refine ⟨?_, ?_, ?_⟩)
    | with_reducible apply SafetyDie.Kept.log_le (lim := lim) (low := low)
    | with_reducible apply SafetyDie.Kept.staged_le (lim := lim) (low := low)
    | with_reducible apply SafetyDie.Kept.le_floor (lim := lim) (low := low)
    | split
    | (intro _)
    | (rw [id_eq])
    | (simp; done))

theorem SafetyDie.ackTimeout_kept (s : SafetyDie) (h : s.Kept lim low) : (SafetyDie.ackTimeout s).Kept lim low := by
  unfold SafetyDie.ackTimeout
  try dsimp only
  repeat' (first
    | with_reducible assumption
    | with_reducible apply SafetyDie.corridorFailure_kept
    | with_reducible apply SafetyDie.foldl_kept
    | (simp only [↓SafetyDie.kept_mk]; refine ⟨?_, ?_, ?_⟩)
    | with_reducible apply SafetyDie.Kept.log_le (lim := lim) (low := low)
    | with_reducible apply SafetyDie.Kept.staged_le (lim := lim) (low := low)
    | with_reducible apply SafetyDie.Kept.le_floor (lim := lim) (low := low)
    | split
    | (intro _)
    | (rw [id_eq])
    | (simp; done))

theorem SafetyDie.ackPeriod_kept (s : SafetyDie) (h : s.Kept lim low) : (SafetyDie.ackPeriod s).Kept lim low := by
  unfold SafetyDie.ackPeriod
  try dsimp only
  repeat' (first
    | with_reducible assumption
    | with_reducible apply SafetyDie.sendAck_kept
    | with_reducible apply SafetyDie.foldl_kept
    | (simp only [↓SafetyDie.kept_mk]; refine ⟨?_, ?_, ?_⟩)
    | with_reducible apply SafetyDie.Kept.log_le (lim := lim) (low := low)
    | with_reducible apply SafetyDie.Kept.staged_le (lim := lim) (low := low)
    | with_reducible apply SafetyDie.Kept.le_floor (lim := lim) (low := low)
    | split
    | (intro _)
    | (rw [id_eq])
    | (simp; done))

theorem SafetyDie.linkTimeout_kept (s : SafetyDie) (h : s.Kept lim low) : (SafetyDie.linkTimeout s).Kept lim low := by
  unfold SafetyDie.linkTimeout
  try dsimp only
  repeat' (first
    | with_reducible assumption
    | with_reducible apply SafetyDie.corridorFailure_kept
    | with_reducible apply SafetyDie.foldl_kept
    | (simp only [↓SafetyDie.kept_mk]; refine ⟨?_, ?_, ?_⟩)
    | with_reducible apply SafetyDie.Kept.log_le (lim := lim) (low := low)
    | with_reducible apply SafetyDie.Kept.staged_le (lim := lim) (low := low)
    | with_reducible apply SafetyDie.Kept.le_floor (lim := lim) (low := low)
    | split
    | (intro _)
    | (rw [id_eq])
    | (simp; done))

theorem SafetyDie.serveQueue_kept (s : SafetyDie) (h : s.Kept lim low) : (SafetyDie.serveQueue s).Kept lim low := by
  unfold SafetyDie.serveQueue
  try dsimp only
  repeat' (first
    | with_reducible assumption
    | with_reducible apply SafetyDie.forEach_kept
    | with_reducible apply SafetyDie.killIfDue_kept
    | with_reducible apply SafetyDie.stop_kept
    | with_reducible apply SafetyDie.token_kept
    | with_reducible apply SafetyDie.foldl_kept
    | (simp only [↓SafetyDie.kept_mk]; refine ⟨?_, ?_, ?_⟩)
    | with_reducible apply SafetyDie.Kept.log_le (lim := lim) (low := low)
    | with_reducible apply SafetyDie.Kept.staged_le (lim := lim) (low := low)
    | with_reducible apply SafetyDie.Kept.le_floor (lim := lim) (low := low)
    | split
    | (intro _)
    | (rw [id_eq])
    | (simp; done))

theorem SafetyDie.heartEdge_kept (s : SafetyDie) (h : s.Kept lim low) : (SafetyDie.heartEdge s).Kept lim low := by
  unfold SafetyDie.heartEdge
  try dsimp only
  repeat' (first
    | with_reducible assumption
    | with_reducible apply SafetyDie.trip_kept
    | with_reducible apply SafetyDie.foldl_kept
    | (simp only [↓SafetyDie.kept_mk]; refine ⟨?_, ?_, ?_⟩)
    | with_reducible apply SafetyDie.Kept.log_le (lim := lim) (low := low)
    | with_reducible apply SafetyDie.Kept.staged_le (lim := lim) (low := low)
    | with_reducible apply SafetyDie.Kept.le_floor (lim := lim) (low := low)
    | split
    | (intro _)
    | (rw [id_eq])
    | (simp; done))

theorem SafetyDie.heartLoss_kept (s : SafetyDie) (h : s.Kept lim low) : (SafetyDie.heartLoss s).Kept lim low := by
  unfold SafetyDie.heartLoss
  try dsimp only
  repeat' (first
    | with_reducible assumption
    | with_reducible apply SafetyDie.trip_kept
    | with_reducible apply SafetyDie.foldl_kept
    | (simp only [↓SafetyDie.kept_mk]; refine ⟨?_, ?_, ?_⟩)
    | with_reducible apply SafetyDie.Kept.log_le (lim := lim) (low := low)
    | with_reducible apply SafetyDie.Kept.staged_le (lim := lim) (low := low)
    | with_reducible apply SafetyDie.Kept.le_floor (lim := lim) (low := low)
    | split
    | (intro _)
    | (rw [id_eq])
    | (simp; done))

theorem SafetyDie.runClock_kept (s : SafetyDie) (was : DevState) (h : s.Kept lim low) : (SafetyDie.runClock s was).Kept lim low := by
  unfold SafetyDie.runClock
  try dsimp only
  repeat' (first
    | with_reducible assumption
    | with_reducible apply SafetyDie.foldl_kept
    | (simp only [↓SafetyDie.kept_mk]; refine ⟨?_, ?_, ?_⟩)
    | with_reducible apply SafetyDie.Kept.log_le (lim := lim) (low := low)
    | with_reducible apply SafetyDie.Kept.staged_le (lim := lim) (low := low)
    | with_reducible apply SafetyDie.Kept.le_floor (lim := lim) (low := low)
    | split
    | (intro _)
    | (rw [id_eq])
    | (simp; done))

theorem Dies.follow_kept (x : Dies) (s : SafetyDie) (h : x.sd.Kept lim low) (h1 : s.Kept lim low) : (Dies.follow x s).sd.Kept lim low := by
  unfold Dies.follow
  try dsimp only
  repeat' (first
    | with_reducible assumption
    | with_reducible apply SafetyDie.permitFollow_kept
    | with_reducible apply SafetyDie.runClock_kept
    | with_reducible apply SafetyDie.tick_kept
    | with_reducible apply SafetyDie.foldl_kept
    | (simp only [↓SafetyDie.kept_mk]; refine ⟨?_, ?_, ?_⟩)
    | with_reducible apply SafetyDie.Kept.log_le (lim := lim) (low := low)
    | with_reducible apply SafetyDie.Kept.staged_le (lim := lim) (low := low)
    | with_reducible apply SafetyDie.Kept.le_floor (lim := lim) (low := low)
    | split
    | (intro _)
    | (rw [id_eq])
    | (simp; done))

theorem Dies.onSafety_kept (x : Dies) (t : Nat) (f : SafetyDie → SafetyDie) (h : x.sd.Kept lim low) (h1 : ∀ y : SafetyDie, y.Kept lim low → (f y).Kept lim low) : (Dies.onSafety x t f).sd.Kept lim low := by
  unfold Dies.onSafety
  try dsimp only
  repeat' (first
    | with_reducible assumption
    | with_reducible apply Dies.follow_kept
    | with_reducible apply SafetyDie.tick_kept
    | with_reducible apply h1
    | with_reducible apply SafetyDie.foldl_kept
    | (simp only [↓SafetyDie.kept_mk]; refine ⟨?_, ?_, ?_⟩)
    | with_reducible apply SafetyDie.Kept.log_le (lim := lim) (low := low)
    | with_reducible apply SafetyDie.Kept.staged_le (lim := lim) (low := low)
    | with_reducible apply SafetyDie.Kept.le_floor (lim := lim) (low := low)
    | split
    | (intro _)
    | (rw [id_eq])
    | (simp; done))

theorem Dies.onCheck_kept (x : Dies) (t : Nat) (f : CheckDie → CheckDie) (h : x.sd.Kept lim low) : (Dies.onCheck x t f).sd.Kept lim low := by
  unfold Dies.onCheck
  try dsimp only
  repeat' (first
    | with_reducible assumption
    | with_reducible apply SafetyDie.tick_kept
    | with_reducible apply SafetyDie.foldl_kept
    | (simp only [↓SafetyDie.kept_mk]; refine ⟨?_, ?_, ?_⟩)
    | with_reducible apply SafetyDie.Kept.log_le (lim := lim) (low := low)
    | with_reducible apply SafetyDie.Kept.staged_le (lim := lim) (low := low)
    | with_reducible apply SafetyDie.Kept.le_floor (lim := lim) (low := low)
    | split
    | (intro _)
    | (rw [id_eq])
    | (simp; done))

theorem Dies.onCheckAny_kept (x : Dies) (t : Nat) (f : CheckDie → CheckDie) (h : x.sd.Kept lim low) : (Dies.onCheckAny x t f).sd.Kept lim low := by
  unfold Dies.onCheckAny
  try dsimp only
  repeat' (first
    | with_reducible assumption
    | with_reducible apply SafetyDie.tick_kept
    | with_reducible apply SafetyDie.foldl_kept
    | (simp only [↓SafetyDie.kept_mk]; refine ⟨?_, ?_, ?_⟩)
    | with_reducible apply SafetyDie.Kept.log_le (lim := lim) (low := low)
    | with_reducible apply SafetyDie.Kept.staged_le (lim := lim) (low := low)
    | with_reducible apply SafetyDie.Kept.le_floor (lim := lim) (low := low)
    | split
    | (intro _)
    | (rw [id_eq])
    | (simp; done))

theorem Dies.onLinks_kept (x : Dies) (t : Nat) (f : CheckDie → CheckDie) (h : x.sd.Kept lim low) : (Dies.onLinks x t f).sd.Kept lim low := by
  unfold Dies.onLinks
  try dsimp only
  repeat' (first
    | with_reducible assumption
    | with_reducible apply SafetyDie.tick_kept
    | with_reducible apply SafetyDie.foldl_kept
    | (simp only [↓SafetyDie.kept_mk]; refine ⟨?_, ?_, ?_⟩)
    | with_reducible apply SafetyDie.Kept.log_le (lim := lim) (low := low)
    | with_reducible apply SafetyDie.Kept.staged_le (lim := lim) (low := low)
    | with_reducible apply SafetyDie.Kept.le_floor (lim := lim) (low := low)
    | split
    | (intro _)
    | (rw [id_eq])
    | (simp; done))

theorem Dies.onCheckLink_kept (x : Dies) (t : Nat) (f : CheckDie → CheckDie) (h : x.sd.Kept lim low) : (Dies.onCheckLink x t f).sd.Kept lim low := by
  unfold Dies.onCheckLink
  try dsimp only
  repeat' (first
    | with_reducible assumption
    | with_reducible apply Dies.boundaryFollow_kept
    | with_reducible apply Dies.onLinks_kept
    | with_reducible apply SafetyDie.foldl_kept
    | (simp only [↓SafetyDie.kept_mk]; refine ⟨?_, ?_, ?_⟩)
    | with_reducible apply SafetyDie.Kept.log_le (lim := lim) (low := low)
    | with_reducible apply SafetyDie.Kept.staged_le (lim := lim) (low := low)
    | with_reducible apply SafetyDie.Kept.le_floor (lim := lim) (low := low)
    | split
    | (intro _)
    | (rw [id_eq])
    | (simp; done))

theorem Dies.onSafetyLink_kept (x : Dies) (t : Nat) (f : SafetyDie → SafetyDie) (h : x.sd.Kept lim low) (h1 : ∀ y : SafetyDie, y.Kept lim low → (f y).Kept lim low) : (Dies.onSafetyLink x t f).sd.Kept lim low := by
  unfold Dies.onSafetyLink
  try dsimp only
  repeat' (first
    | with_reducible assumption
    | with_reducible apply Dies.onSafety_kept
    | with_reducible apply SafetyDie.tick_kept
    | with_reducible apply h1
    | with_reducible apply SafetyDie.foldl_kept
    | (simp only [↓SafetyDie.kept_mk]; refine ⟨?_, ?_, ?_⟩)
    | with_reducible apply SafetyDie.Kept.log_le (lim := lim) (low := low)
    | with_reducible apply SafetyDie.Kept.staged_le (lim := lim) (low := low)
    | with_reducible apply SafetyDie.Kept.le_floor (lim := lim) (low := low)
    | split
    | (intro _)
    | (rw [id_eq])
    | (simp; done))

theorem SafetyDie.reading_kept (s : SafetyDie) (sensor : Nat) (t : Int) (h : s.Kept lim low) : (SafetyDie.reading s sensor t).Kept lim low := by
  unfold SafetyDie.reading
  try dsimp only
  repeat' (first
    | with_reducible assumption
    | with_reducible apply SafetyDie.foldl_kept
    | (simp only [↓SafetyDie.kept_mk]; refine ⟨?_, ?_, ?_⟩)
    | with_reducible apply SafetyDie.Kept.log_le (lim := lim) (low := low)
    | with_reducible apply SafetyDie.Kept.staged_le (lim := lim) (low := low)
    | with_reducible apply SafetyDie.Kept.le_floor (lim := lim) (low := low)
    | split
    | (intro _)
    | (rw [id_eq])
    | (simp; done))

theorem SafetyDie.startBoot_kept (s : SafetyDie) (vbat : Bool) (lost : List GuestItem) (repaired : Bool) (h : s.Kept lim low) : (SafetyDie.startBoot s vbat lost repaired).Kept lim low := by
  unfold SafetyDie.startBoot
  try dsimp only
  repeat' (first
    | with_reducible assumption
    | with_reducible apply SafetyDie.raise_kept
    | with_reducible apply SafetyDie.setGuest_kept
    | with_reducible apply SafetyDie.settle_kept
    | with_reducible apply SafetyDie.foldl_kept
    | (simp only [↓SafetyDie.kept_mk]; refine ⟨?_, ?_, ?_⟩)
    | with_reducible apply SafetyDie.Kept.log_le (lim := lim) (low := low)
    | with_reducible apply SafetyDie.Kept.staged_le (lim := lim) (low := low)
    | with_reducible apply SafetyDie.Kept.le_floor (lim := lim) (low := low)
    | split
    | (intro _)
    | (rw [id_eq])
    | (simp; done))

theorem SafetyDie.por_kept (s : SafetyDie) (vbat : Bool) (lost : List GuestItem) (repaired : Bool) (h : s.Kept lim low) : (SafetyDie.por s vbat lost repaired).Kept lim low := by
  unfold SafetyDie.por
  try dsimp only
  repeat' (first
    | with_reducible assumption
    | with_reducible apply SafetyDie.restartAll_kept
    | with_reducible apply SafetyDie.startBoot_kept
    | with_reducible apply SafetyDie.foldl_kept
    | (simp only [↓SafetyDie.kept_mk]; refine ⟨?_, ?_, ?_⟩)
    | with_reducible apply SafetyDie.Kept.log_le (lim := lim) (low := low)
    | with_reducible apply SafetyDie.Kept.staged_le (lim := lim) (low := low)
    | with_reducible apply SafetyDie.Kept.le_floor (lim := lim) (low := low)
    | split
    | (intro _)
    | (rw [id_eq])
    | (simp; done))

theorem SafetyDie.supplyTrip_kept (s : SafetyDie) (h : s.Kept lim low) : (SafetyDie.supplyTrip s).Kept lim low := by
  unfold SafetyDie.supplyTrip
  try dsimp only
  repeat' (first
    | with_reducible assumption
    | with_reducible apply SafetyDie.restartAll_kept
    | with_reducible apply SafetyDie.foldl_kept
    | (simp only [↓SafetyDie.kept_mk]; refine ⟨?_, ?_, ?_⟩)
    | with_reducible apply SafetyDie.Kept.log_le (lim := lim) (low := low)
    | with_reducible apply SafetyDie.Kept.staged_le (lim := lim) (low := low)
    | with_reducible apply SafetyDie.Kept.le_floor (lim := lim) (low := low)
    | split
    | (intro _)
    | (rw [id_eq])
    | (simp; done))

theorem SafetyDie.resetN_kept (s : SafetyDie) (ns : Nat) (h : s.Kept lim low) : (SafetyDie.resetN s ns).Kept lim low := by
  unfold SafetyDie.resetN
  try dsimp only
  repeat' (first
    | with_reducible assumption
    | with_reducible apply SafetyDie.restartAll_kept
    | with_reducible apply SafetyDie.foldl_kept
    | (simp only [↓SafetyDie.kept_mk]; refine ⟨?_, ?_, ?_⟩)
    | with_reducible apply SafetyDie.Kept.log_le (lim := lim) (low := low)
    | with_reducible apply SafetyDie.Kept.staged_le (lim := lim) (low := low)
    | with_reducible apply SafetyDie.Kept.le_floor (lim := lim) (low := low)
    | split
    | (intro _)
    | (rw [id_eq])
    | (simp; done))

theorem SafetyDie.resetNEnd_kept (s : SafetyDie) (lost : List GuestItem) (repaired : Bool) (h : s.Kept lim low) : (SafetyDie.resetNEnd s lost repaired).Kept lim low := by
  unfold SafetyDie.resetNEnd
  try dsimp only
  repeat' (first
    | with_reducible assumption
    | with_reducible apply SafetyDie.startBoot_kept
    | with_reducible apply SafetyDie.foldl_kept
    | (simp only [↓SafetyDie.kept_mk]; refine ⟨?_, ?_, ?_⟩)
    | with_reducible apply SafetyDie.Kept.log_le (lim := lim) (low := low)
    | with_reducible apply SafetyDie.Kept.staged_le (lim := lim) (low := low)
    | with_reducible apply SafetyDie.Kept.le_floor (lim := lim) (low := low)
    | split
    | (intro _)
    | (rw [id_eq])
    | (simp; done))

theorem SafetyDie.safetyEnd_kept (s : SafetyDie) (lost : List GuestItem) (repaired : Bool) (h : s.Kept lim low) : (SafetyDie.safetyEnd s lost repaired).Kept lim low := by
  unfold SafetyDie.safetyEnd
  try dsimp only
  repeat' (first
    | with_reducible assumption
    | with_reducible apply SafetyDie.startBoot_kept
    | with_reducible apply SafetyDie.foldl_kept
    | (simp only [↓SafetyDie.kept_mk]; refine ⟨?_, ?_, ?_⟩)
    | with_reducible apply SafetyDie.Kept.log_le (lim := lim) (low := low)
    | with_reducible apply SafetyDie.Kept.staged_le (lim := lim) (low := low)
    | with_reducible apply SafetyDie.Kept.le_floor (lim := lim) (low := low)
    | split
    | (intro _)
    | (rw [id_eq])
    | (simp; done))

theorem SafetyDie.warmRestart_kept (s : SafetyDie) (g : GuestBook) (h : s.Kept lim low) : (SafetyDie.warmRestart s g).Kept lim low := by
  unfold SafetyDie.warmRestart
  try dsimp only
  repeat' (first
    | with_reducible assumption
    | with_reducible apply SafetyDie.restartAll_kept
    | with_reducible apply SafetyDie.startBoot_kept
    | with_reducible apply SafetyDie.foldl_kept
    | (simp only [↓SafetyDie.kept_mk]; refine ⟨?_, ?_, ?_⟩)
    | with_reducible apply SafetyDie.Kept.log_le (lim := lim) (low := low)
    | with_reducible apply SafetyDie.Kept.staged_le (lim := lim) (low := low)
    | with_reducible apply SafetyDie.Kept.le_floor (lim := lim) (low := low)
    | split
    | (intro _)
    | (rw [id_eq])
    | (simp; done))

theorem SafetyDie.warmReset_kept (s : SafetyDie) (h : s.Kept lim low) : (SafetyDie.warmReset s).Kept lim low := by
  unfold SafetyDie.warmReset
  try dsimp only
  repeat' (first
    | with_reducible assumption
    | with_reducible apply SafetyDie.warmRestart_kept
    | with_reducible apply SafetyDie.foldl_kept
    | (simp only [↓SafetyDie.kept_mk]; refine ⟨?_, ?_, ?_⟩)
    | with_reducible apply SafetyDie.Kept.log_le (lim := lim) (low := low)
    | with_reducible apply SafetyDie.Kept.staged_le (lim := lim) (low := low)
    | with_reducible apply SafetyDie.Kept.le_floor (lim := lim) (low := low)
    | split
    | (intro _)
    | (rw [id_eq])
    | (simp; done))

theorem SafetyDie.powerOn_kept (s : SafetyDie) (h : s.Kept lim low) : (SafetyDie.powerOn s).Kept lim low := by
  unfold SafetyDie.powerOn
  try dsimp only
  repeat' (first
    | with_reducible assumption
    | with_reducible apply SafetyDie.foldl_kept
    | (simp only [↓SafetyDie.kept_mk]; refine ⟨?_, ?_, ?_⟩)
    | with_reducible apply SafetyDie.Kept.log_le (lim := lim) (low := low)
    | with_reducible apply SafetyDie.Kept.staged_le (lim := lim) (low := low)
    | with_reducible apply SafetyDie.Kept.le_floor (lim := lim) (low := low)
    | split
    | (intro _)
    | (rw [id_eq])
    | (simp; done))

theorem SafetyDie.bootKeeper_kept (s : SafetyDie) (keys : List Octets) (h : s.Kept lim low) : (SafetyDie.bootKeeper s keys).Kept lim low := by
  unfold SafetyDie.bootKeeper
  try dsimp only
  repeat' (first
    | with_reducible assumption
    | with_reducible apply SafetyDie.raise_kept
    | with_reducible apply SafetyDie.foldl_kept
    | (simp only [↓SafetyDie.kept_mk]; refine ⟨?_, ?_, ?_⟩)
    | with_reducible apply SafetyDie.Kept.log_le (lim := lim) (low := low)
    | with_reducible apply SafetyDie.Kept.staged_le (lim := lim) (low := low)
    | with_reducible apply SafetyDie.Kept.le_floor (lim := lim) (low := low)
    | split
    | (intro _)
    | (rw [id_eq])
    | (simp; done))

theorem SafetyDie.readStore_kept (s : SafetyDie) (c : StoreRead) (h : s.Kept lim low) : (SafetyDie.readStore s c).Kept lim low := by
  unfold SafetyDie.readStore
  try dsimp only
  repeat' (first
    | with_reducible assumption
    | with_reducible apply SafetyDie.raise_kept
    | with_reducible apply SafetyDie.foldl_kept
    | (simp only [↓SafetyDie.kept_mk]; refine ⟨?_, ?_, ?_⟩)
    | with_reducible apply SafetyDie.Kept.log_le (lim := lim) (low := low)
    | with_reducible apply SafetyDie.Kept.staged_le (lim := lim) (low := low)
    | with_reducible apply SafetyDie.Kept.le_floor (lim := lim) (low := low)
    | split
    | (intro _)
    | (rw [id_eq])
    | (simp; done))

theorem SafetyDie.imageChecked_kept (s : SafetyDie) (fault : Nat) (store : StoreRead) (keys : List Octets) (h : s.Kept lim low) : (SafetyDie.imageChecked s fault store keys).Kept lim low := by
  unfold SafetyDie.imageChecked
  try dsimp only
  repeat' (first
    | with_reducible assumption
    | with_reducible apply SafetyDie.bootKeeper_kept
    | with_reducible apply SafetyDie.powerOn_kept
    | with_reducible apply SafetyDie.rcFollow_kept
    | with_reducible apply SafetyDie.readStore_kept
    | with_reducible apply SafetyDie.foldl_kept
    | (simp only [↓SafetyDie.kept_mk]; refine ⟨?_, ?_, ?_⟩)
    | with_reducible apply SafetyDie.Kept.log_le (lim := lim) (low := low)
    | with_reducible apply SafetyDie.Kept.staged_le (lim := lim) (low := low)
    | with_reducible apply SafetyDie.Kept.le_floor (lim := lim) (low := low)
    | split
    | (intro _)
    | (rw [id_eq])
    | (simp; done))

theorem Dies.bootFences_kept (x : Dies) (store : StoreRead) (h : x.sd.Kept lim low) : (Dies.bootFences x store).sd.Kept lim low := by
  unfold Dies.bootFences
  try dsimp only
  repeat' (first
    | with_reducible assumption
    | with_reducible apply SafetyDie.forEach_kept
    | with_reducible apply SafetyDie.setGuest_kept
    | with_reducible apply SafetyDie.foldl_kept
    | (simp only [↓SafetyDie.kept_mk]; refine ⟨?_, ?_, ?_⟩)
    | with_reducible apply SafetyDie.Kept.log_le (lim := lim) (low := low)
    | with_reducible apply SafetyDie.Kept.staged_le (lim := lim) (low := low)
    | with_reducible apply SafetyDie.Kept.le_floor (lim := lim) (low := low)
    | split
    | (intro _)
    | (rw [id_eq])
    | (simp; done))

theorem Dies.imageChecked_kept (x : Dies) (fault : Nat) (store : StoreRead) (keys : List Octets) (h : x.sd.Kept lim low) : (Dies.imageChecked x fault store keys).sd.Kept lim low := by
  unfold Dies.imageChecked
  try dsimp only
  repeat' (first
    | with_reducible assumption
    | with_reducible apply Dies.bootFences_kept
    | with_reducible apply Dies.follow_kept
    | with_reducible apply SafetyDie.imageChecked_kept
    | with_reducible apply SafetyDie.foldl_kept
    | (simp only [↓SafetyDie.kept_mk]; refine ⟨?_, ?_, ?_⟩)
    | with_reducible apply SafetyDie.Kept.log_le (lim := lim) (low := low)
    | with_reducible apply SafetyDie.Kept.staged_le (lim := lim) (low := low)
    | with_reducible apply SafetyDie.Kept.le_floor (lim := lim) (low := low)
    | split
    | (intro _)
    | (rw [id_eq])
    | (simp; done))

theorem SafetyDie.selftestHold_kept (s : SafetyDie) (h : s.Kept lim low) : (SafetyDie.selftestHold s).Kept lim low := by
  unfold SafetyDie.selftestHold
  try dsimp only
  repeat' (first
    | with_reducible assumption
    | with_reducible apply SafetyDie.foldl_kept
    | (simp only [↓SafetyDie.kept_mk]; refine ⟨?_, ?_, ?_⟩)
    | with_reducible apply SafetyDie.Kept.log_le (lim := lim) (low := low)
    | with_reducible apply SafetyDie.Kept.staged_le (lim := lim) (low := low)
    | with_reducible apply SafetyDie.Kept.le_floor (lim := lim) (low := low)
    | split
    | (intro _)
    | (rw [id_eq])
    | (simp; done))

theorem SafetyDie.selftestDone_kept (s : SafetyDie) (report : SelftestReport) (outs ms : Nat) (h : s.Kept lim low) : (SafetyDie.selftestDone s report outs ms).Kept lim low := by
  unfold SafetyDie.selftestDone
  try dsimp only
  repeat' (first
    | with_reducible assumption
    | with_reducible apply SafetyDie.outputFault_kept
    | with_reducible apply SafetyDie.raise_kept
    | with_reducible apply SafetyDie.selftestHold_kept
    | with_reducible apply SafetyDie.setGuest_kept
    | with_reducible apply SafetyDie.settle_kept
    | with_reducible apply SafetyDie.tryReady_kept
    | with_reducible apply SafetyDie.foldl_kept
    | (simp only [↓SafetyDie.kept_mk]; refine ⟨?_, ?_, ?_⟩)
    | with_reducible apply SafetyDie.Kept.log_le (lim := lim) (low := low)
    | with_reducible apply SafetyDie.Kept.staged_le (lim := lim) (low := low)
    | with_reducible apply SafetyDie.Kept.le_floor (lim := lim) (low := low)
    | split
    | (intro _)
    | (rw [id_eq])
    | (simp; done))

theorem Dies.killHoldEnd_kept (x : Dies) (h : x.sd.Kept lim low) : (Dies.killHoldEnd x).sd.Kept lim low := by
  unfold Dies.killHoldEnd
  try dsimp only
  repeat' (first
    | with_reducible assumption
    | with_reducible apply Dies.release_kept
    | with_reducible apply SafetyDie.powerOn_kept
    | with_reducible apply SafetyDie.release_kept
    | with_reducible apply SafetyDie.foldl_kept
    | (simp only [↓SafetyDie.kept_mk]; refine ⟨?_, ?_, ?_⟩)
    | with_reducible apply SafetyDie.Kept.log_le (lim := lim) (low := low)
    | with_reducible apply SafetyDie.Kept.staged_le (lim := lim) (low := low)
    | with_reducible apply SafetyDie.Kept.le_floor (lim := lim) (low := low)
    | split
    | (intro _)
    | (rw [id_eq])
    | (simp; done))

theorem SafetyDie.pgRise_kept (s : SafetyDie) (h : s.Kept lim low) : (SafetyDie.pgRise s).Kept lim low := by
  unfold SafetyDie.pgRise
  try dsimp only
  repeat' (first
    | with_reducible assumption
    | with_reducible apply SafetyDie.foldl_kept
    | (simp only [↓SafetyDie.kept_mk]; refine ⟨?_, ?_, ?_⟩)
    | with_reducible apply SafetyDie.Kept.log_le (lim := lim) (low := low)
    | with_reducible apply SafetyDie.Kept.staged_le (lim := lim) (low := low)
    | with_reducible apply SafetyDie.Kept.le_floor (lim := lim) (low := low)
    | split
    | (intro _)
    | (rw [id_eq])
    | (simp; done))

theorem SafetyDie.pgFall_kept (s : SafetyDie) (h : s.Kept lim low) : (SafetyDie.pgFall s).Kept lim low := by
  unfold SafetyDie.pgFall
  try dsimp only
  repeat' (first
    | with_reducible assumption
    | with_reducible apply SafetyDie.trip_kept
    | with_reducible apply SafetyDie.foldl_kept
    | (simp only [↓SafetyDie.kept_mk]; refine ⟨?_, ?_, ?_⟩)
    | with_reducible apply SafetyDie.Kept.log_le (lim := lim) (low := low)
    | with_reducible apply SafetyDie.Kept.staged_le (lim := lim) (low := low)
    | with_reducible apply SafetyDie.Kept.le_floor (lim := lim) (low := low)
    | split
    | (intro _)
    | (rw [id_eq])
    | (simp; done))

theorem SafetyDie.pgTimeout_kept (s : SafetyDie) (h : s.Kept lim low) : (SafetyDie.pgTimeout s).Kept lim low := by
  unfold SafetyDie.pgTimeout
  try dsimp only
  repeat' (first
    | with_reducible assumption
    | with_reducible apply SafetyDie.selftestHold_kept
    | with_reducible apply SafetyDie.foldl_kept
    | (simp only [↓SafetyDie.kept_mk]; refine ⟨?_, ?_, ?_⟩)
    | with_reducible apply SafetyDie.Kept.log_le (lim := lim) (low := low)
    | with_reducible apply SafetyDie.Kept.staged_le (lim := lim) (low := low)
    | with_reducible apply SafetyDie.Kept.le_floor (lim := lim) (low := low)
    | split
    | (intro _)
    | (rw [id_eq])
    | (simp; done))

theorem Dies.resetRelease_kept (x : Dies) (h : x.sd.Kept lim low) : (Dies.resetRelease x).sd.Kept lim low := by
  unfold Dies.resetRelease
  try dsimp only
  repeat' (first
    | with_reducible assumption
    | with_reducible apply Dies.release_kept
    | with_reducible apply SafetyDie.release_kept
    | with_reducible apply SafetyDie.foldl_kept
    | (simp only [↓SafetyDie.kept_mk]; refine ⟨?_, ?_, ?_⟩)
    | with_reducible apply SafetyDie.Kept.log_le (lim := lim) (low := low)
    | with_reducible apply SafetyDie.Kept.staged_le (lim := lim) (low := low)
    | with_reducible apply SafetyDie.Kept.le_floor (lim := lim) (low := low)
    | split
    | (intro _)
    | (rw [id_eq])
    | (simp; done))

theorem SafetyDie.sendOd_kept (s : SafetyDie) (slot path origin : Nat) (b : Octets) (h : s.Kept lim low) : (SafetyDie.sendOd s slot path origin b).Kept lim low := by
  unfold SafetyDie.sendOd
  try dsimp only
  repeat' (first
    | with_reducible assumption
    | with_reducible apply SafetyDie.put_kept
    | with_reducible apply SafetyDie.sendFlits_kept
    | with_reducible apply SafetyDie.foldl_kept
    | (simp only [↓SafetyDie.kept_mk]; refine ⟨?_, ?_, ?_⟩)
    | with_reducible apply SafetyDie.Kept.log_le (lim := lim) (low := low)
    | with_reducible apply SafetyDie.Kept.staged_le (lim := lim) (low := low)
    | with_reducible apply SafetyDie.Kept.le_floor (lim := lim) (low := low)
    | split
    | (intro _)
    | (rw [id_eq])
    | (simp; done))

theorem SafetyDie.respond_kept (s : SafetyDie) (slot : Nat) (r : Req) (status : Nat) (data : Octets) (last : Bool) (h : s.Kept lim low) : (SafetyDie.respond s slot r status data last).Kept lim low := by
  unfold SafetyDie.respond
  try dsimp only
  repeat' (first
    | with_reducible assumption
    | with_reducible apply SafetyDie.sendOd_kept
    | with_reducible apply SafetyDie.setSession_kept
    | with_reducible apply SafetyDie.status_kept
    | with_reducible apply SafetyDie.foldl_kept
    | (simp only [↓SafetyDie.kept_mk]; refine ⟨?_, ?_, ?_⟩)
    | with_reducible apply SafetyDie.Kept.log_le (lim := lim) (low := low)
    | with_reducible apply SafetyDie.Kept.staged_le (lim := lim) (low := low)
    | with_reducible apply SafetyDie.Kept.le_floor (lim := lim) (low := low)
    | split
    | (intro _)
    | (rw [id_eq])
    | (simp; done))

theorem SafetyDie.answerBusy_kept (s : SafetyDie) (slot status : Nat) (data : Octets) (h : s.Kept lim low) : (SafetyDie.answerBusy s slot status data).Kept lim low := by
  unfold SafetyDie.answerBusy
  try dsimp only
  repeat' (first
    | with_reducible assumption
    | with_reducible apply SafetyDie.respond_kept
    | with_reducible apply SafetyDie.status_kept
    | with_reducible apply SafetyDie.updSession_kept
    | with_reducible apply SafetyDie.foldl_kept
    | (simp only [↓SafetyDie.kept_mk]; refine ⟨?_, ?_, ?_⟩)
    | with_reducible apply SafetyDie.Kept.log_le (lim := lim) (low := low)
    | with_reducible apply SafetyDie.Kept.staged_le (lim := lim) (low := low)
    | with_reducible apply SafetyDie.Kept.le_floor (lim := lim) (low := low)
    | split
    | (intro _)
    | (rw [id_eq])
    | (simp; done))

theorem SafetyDie.commitDone_kept (s : SafetyDie) (h : s.Kept lim low) : (SafetyDie.commitDone s).Kept lim low := by
  unfold SafetyDie.commitDone
  try dsimp only
  repeat' (first
    | with_reducible assumption
    | with_reducible apply SafetyDie.answerBusy_kept
    | with_reducible apply SafetyDie.setGuest_kept
    | with_reducible apply SafetyDie.status_kept
    | with_reducible apply SafetyDie.foldl_kept
    | (simp only [↓SafetyDie.kept_mk]; refine ⟨?_, ?_, ?_⟩)
    | with_reducible apply SafetyDie.Kept.log_le (lim := lim) (low := low)
    | with_reducible apply SafetyDie.Kept.staged_le (lim := lim) (low := low)
    | with_reducible apply SafetyDie.Kept.le_floor (lim := lim) (low := low)
    | split
    | (intro _)
    | (rw [id_eq])
    | (simp; done))

theorem SafetyDie.commitAcked_kept (s : SafetyDie) (h : s.Kept lim low) : (SafetyDie.commitAcked s).Kept lim low := by
  unfold SafetyDie.commitAcked
  try dsimp only
  repeat' (first
    | with_reducible assumption
    | with_reducible apply SafetyDie.commitDone_kept
    | with_reducible apply SafetyDie.foldl_kept
    | (simp only [↓SafetyDie.kept_mk]; refine ⟨?_, ?_, ?_⟩)
    | with_reducible apply SafetyDie.Kept.log_le (lim := lim) (low := low)
    | with_reducible apply SafetyDie.Kept.staged_le (lim := lim) (low := low)
    | with_reducible apply SafetyDie.Kept.le_floor (lim := lim) (low := low)
    | split
    | (intro _)
    | (rw [id_eq])
    | (simp; done))

theorem Dies.tick_kept (x : Dies) (t : Nat) (h : x.sd.Kept lim low) : (Dies.tick x t).sd.Kept lim low := by
  unfold Dies.tick
  try dsimp only
  repeat' (first
    | with_reducible assumption
    | with_reducible apply SafetyDie.tick_kept
    | with_reducible apply SafetyDie.foldl_kept
    | (simp only [↓SafetyDie.kept_mk]; refine ⟨?_, ?_, ?_⟩)
    | with_reducible apply SafetyDie.Kept.log_le (lim := lim) (low := low)
    | with_reducible apply SafetyDie.Kept.staged_le (lim := lim) (low := low)
    | with_reducible apply SafetyDie.Kept.le_floor (lim := lim) (low := low)
    | split
    | (intro _)
    | (rw [id_eq])
    | (simp; done))

theorem Dies.resetEnd_kept (x : Dies) (bad fails : List (Nat × Nat)) (h : x.sd.Kept lim low) : (Dies.resetEnd x bad fails).sd.Kept lim low := by
  unfold Dies.resetEnd
  try dsimp only
  repeat' (first
    | with_reducible assumption
    | with_reducible apply Dies.follow_kept
    | with_reducible apply Dies.tick_kept
    | with_reducible apply SafetyDie.commitDone_kept
    | with_reducible apply SafetyDie.raise_kept
    | with_reducible apply SafetyDie.setGuest_kept
    | with_reducible apply SafetyDie.takeSet_kept
    | with_reducible apply SafetyDie.tick_kept
    | with_reducible apply SafetyDie.foldl_kept
    | (simp only [↓SafetyDie.kept_mk]; refine ⟨?_, ?_, ?_⟩)
    | with_reducible apply SafetyDie.Kept.log_le (lim := lim) (low := low)
    | with_reducible apply SafetyDie.Kept.staged_le (lim := lim) (low := low)
    | with_reducible apply SafetyDie.Kept.le_floor (lim := lim) (low := low)
    | split
    | (intro _)
    | (rw [id_eq])
    | (simp; done))

theorem SafetyDie.selfRefresh_kept (s : SafetyDie) (h : s.Kept lim low) : (SafetyDie.selfRefresh s).Kept lim low := by
  unfold SafetyDie.selfRefresh
  try dsimp only
  repeat' (first
    | with_reducible assumption
    | with_reducible apply SafetyDie.assertKill_kept
    | with_reducible apply SafetyDie.foldl_kept
    | (simp only [↓SafetyDie.kept_mk]; refine ⟨?_, ?_, ?_⟩)
    | with_reducible apply SafetyDie.Kept.log_le (lim := lim) (low := low)
    | with_reducible apply SafetyDie.Kept.staged_le (lim := lim) (low := low)
    | with_reducible apply SafetyDie.Kept.le_floor (lim := lim) (low := low)
    | split
    | (intro _)
    | (rw [id_eq])
    | (simp; done))

theorem SafetyDie.wakeDeep_kept (s : SafetyDie) (h : s.Kept lim low) : (SafetyDie.wakeDeep s).Kept lim low := by
  unfold SafetyDie.wakeDeep
  try dsimp only
  repeat' (first
    | with_reducible assumption
    | with_reducible apply SafetyDie.powerOn_kept
    | with_reducible apply SafetyDie.foldl_kept
    | (simp only [↓SafetyDie.kept_mk]; refine ⟨?_, ?_, ?_⟩)
    | with_reducible apply SafetyDie.Kept.log_le (lim := lim) (low := low)
    | with_reducible apply SafetyDie.Kept.staged_le (lim := lim) (low := low)
    | with_reducible apply SafetyDie.Kept.le_floor (lim := lim) (low := low)
    | split
    | (intro _)
    | (rw [id_eq])
    | (simp; done))

theorem SafetyDie.sleepDone_kept (s : SafetyDie) (h : s.Kept lim low) : (SafetyDie.sleepDone s).Kept lim low := by
  unfold SafetyDie.sleepDone
  try dsimp only
  repeat' (first
    | with_reducible assumption
    | with_reducible apply SafetyDie.wakeDeep_kept
    | with_reducible apply SafetyDie.foldl_kept
    | (simp only [↓SafetyDie.kept_mk]; refine ⟨?_, ?_, ?_⟩)
    | with_reducible apply SafetyDie.Kept.log_le (lim := lim) (low := low)
    | with_reducible apply SafetyDie.Kept.staged_le (lim := lim) (low := low)
    | with_reducible apply SafetyDie.Kept.le_floor (lim := lim) (low := low)
    | split
    | (intro _)
    | (rw [id_eq])
    | (simp; done))

theorem SafetyDie.killPower_kept (s : SafetyDie) (h : s.Kept lim low) : (SafetyDie.killPower s).Kept lim low := by
  unfold SafetyDie.killPower
  try dsimp only
  repeat' (first
    | with_reducible assumption
    | with_reducible apply SafetyDie.sleepDone_kept
    | with_reducible apply SafetyDie.foldl_kept
    | (simp only [↓SafetyDie.kept_mk]; refine ⟨?_, ?_, ?_⟩)
    | with_reducible apply SafetyDie.Kept.log_le (lim := lim) (low := low)
    | with_reducible apply SafetyDie.Kept.staged_le (lim := lim) (low := low)
    | with_reducible apply SafetyDie.Kept.le_floor (lim := lim) (low := low)
    | split
    | (intro _)
    | (rw [id_eq])
    | (simp; done))

theorem SafetyDie.sleepDue_kept (s : SafetyDie) (h : s.Kept lim low) : (SafetyDie.sleepDue s).Kept lim low := by
  unfold SafetyDie.sleepDue
  try dsimp only
  repeat' (first
    | with_reducible assumption
    | with_reducible apply SafetyDie.assertKill_kept
    | with_reducible apply SafetyDie.foldl_kept
    | (simp only [↓SafetyDie.kept_mk]; refine ⟨?_, ?_, ?_⟩)
    | with_reducible apply SafetyDie.Kept.log_le (lim := lim) (low := low)
    | with_reducible apply SafetyDie.Kept.staged_le (lim := lim) (low := low)
    | with_reducible apply SafetyDie.Kept.le_floor (lim := lim) (low := low)
    | split
    | (intro _)
    | (rw [id_eq])
    | (simp; done))

theorem Dies.sleep_kept (x : Dies) (p : PowerState) (h : x.sd.Kept lim low) : (Dies.sleep x p).sd.Kept lim low := by
  unfold Dies.sleep
  try dsimp only
  repeat' (first
    | with_reducible assumption
    | with_reducible apply Dies.follow_kept
    | with_reducible apply Dies.tick_kept
    | with_reducible apply SafetyDie.channelsOff_kept
    | with_reducible apply SafetyDie.dropInjectors_kept
    | with_reducible apply SafetyDie.hostHold_kept
    | with_reducible apply SafetyDie.stop_kept
    | with_reducible apply SafetyDie.tick_kept
    | with_reducible apply SafetyDie.foldl_kept
    | (simp only [↓SafetyDie.kept_mk]; refine ⟨?_, ?_, ?_⟩)
    | with_reducible apply SafetyDie.Kept.log_le (lim := lim) (low := low)
    | with_reducible apply SafetyDie.Kept.staged_le (lim := lim) (low := low)
    | with_reducible apply SafetyDie.Kept.le_floor (lim := lim) (low := low)
    | split
    | (intro _)
    | (rw [id_eq])
    | (simp; done))

theorem Dies.wakeRetain_kept (x : Dies) (h : x.sd.Kept lim low) : (Dies.wakeRetain x).sd.Kept lim low := by
  unfold Dies.wakeRetain
  try dsimp only
  repeat' (first
    | with_reducible assumption
    | with_reducible apply SafetyDie.flushLog_kept
    | with_reducible apply SafetyDie.hostResume_kept
    | with_reducible apply SafetyDie.sendTime_kept
    | with_reducible apply SafetyDie.settle_kept
    | with_reducible apply SafetyDie.tick_kept
    | with_reducible apply SafetyDie.foldl_kept
    | (simp only [↓SafetyDie.kept_mk]; refine ⟨?_, ?_, ?_⟩)
    | with_reducible apply SafetyDie.Kept.log_le (lim := lim) (low := low)
    | with_reducible apply SafetyDie.Kept.staged_le (lim := lim) (low := low)
    | with_reducible apply SafetyDie.Kept.le_floor (lim := lim) (low := low)
    | split
    | (intro _)
    | (rw [id_eq])
    | (simp; done))

theorem Dies.wake_kept (x : Dies) (source : Nat) (h : x.sd.Kept lim low) : (Dies.wake x source).sd.Kept lim low := by
  unfold Dies.wake
  try dsimp only
  repeat' (first
    | with_reducible assumption
    | with_reducible apply Dies.wakeRetain_kept
    | with_reducible apply SafetyDie.wakeDeep_kept
    | with_reducible apply SafetyDie.foldl_kept
    | (simp only [↓SafetyDie.kept_mk]; refine ⟨?_, ?_, ?_⟩)
    | with_reducible apply SafetyDie.Kept.log_le (lim := lim) (low := low)
    | with_reducible apply SafetyDie.Kept.staged_le (lim := lim) (low := low)
    | with_reducible apply SafetyDie.Kept.le_floor (lim := lim) (low := low)
    | split
    | (intro _)
    | (rw [id_eq])
    | (simp; done))

theorem Dies.clockLoss_kept (x : Dies) (t which : Nat) (h : x.sd.Kept lim low) : (Dies.clockLoss x t which).sd.Kept lim low := by
  unfold Dies.clockLoss
  try dsimp only
  repeat' (first
    | with_reducible assumption
    | with_reducible apply Dies.onCheckAny_kept
    | with_reducible apply Dies.onSafety_kept
    | with_reducible apply SafetyDie.safetyReset_kept
    | with_reducible apply SafetyDie.foldl_kept
    | (simp only [↓SafetyDie.kept_mk]; refine ⟨?_, ?_, ?_⟩)
    | with_reducible apply SafetyDie.Kept.log_le (lim := lim) (low := low)
    | with_reducible apply SafetyDie.Kept.staged_le (lim := lim) (low := low)
    | with_reducible apply SafetyDie.Kept.le_floor (lim := lim) (low := low)
    | split
    | (intro _)
    | (rw [id_eq])
    | (simp; done))

theorem SafetyDie.thermalWarn_kept (s : SafetyDie) (sensor : Nat) (t : Int) (h : s.Kept lim low) : (SafetyDie.thermalWarn s sensor t).Kept lim low := by
  unfold SafetyDie.thermalWarn
  try dsimp only
  repeat' (first
    | with_reducible assumption
    | with_reducible apply SafetyDie.raise_kept
    | with_reducible apply SafetyDie.reading_kept
    | with_reducible apply SafetyDie.foldl_kept
    | (simp only [↓SafetyDie.kept_mk]; refine ⟨?_, ?_, ?_⟩)
    | with_reducible apply SafetyDie.Kept.log_le (lim := lim) (low := low)
    | with_reducible apply SafetyDie.Kept.staged_le (lim := lim) (low := low)
    | with_reducible apply SafetyDie.Kept.le_floor (lim := lim) (low := low)
    | split
    | (intro _)
    | (rw [id_eq])
    | (simp; done))

theorem SafetyDie.thermalClear_kept (s : SafetyDie) (sensor : Nat) (t : Int) (h : s.Kept lim low) : (SafetyDie.thermalClear s sensor t).Kept lim low := by
  unfold SafetyDie.thermalClear
  try dsimp only
  repeat' (first
    | with_reducible assumption
    | with_reducible apply SafetyDie.raise_kept
    | with_reducible apply SafetyDie.reading_kept
    | with_reducible apply SafetyDie.foldl_kept
    | (simp only [↓SafetyDie.kept_mk]; refine ⟨?_, ?_, ?_⟩)
    | with_reducible apply SafetyDie.Kept.log_le (lim := lim) (low := low)
    | with_reducible apply SafetyDie.Kept.staged_le (lim := lim) (low := low)
    | with_reducible apply SafetyDie.Kept.le_floor (lim := lim) (low := low)
    | split
    | (intro _)
    | (rw [id_eq])
    | (simp; done))

theorem Dies.checkThermal_kept (x : Dies) (t sensor : Nat) (v : Int) (h : x.sd.Kept lim low) : (Dies.checkThermal x t sensor v).sd.Kept lim low := by
  unfold Dies.checkThermal
  try dsimp only
  repeat' (first
    | with_reducible assumption
    | with_reducible apply Dies.onCheckAny_kept
    | with_reducible apply SafetyDie.reading_kept
    | with_reducible apply SafetyDie.tick_kept
    | with_reducible apply SafetyDie.foldl_kept
    | (simp only [↓SafetyDie.kept_mk]; refine ⟨?_, ?_, ?_⟩)
    | with_reducible apply SafetyDie.Kept.log_le (lim := lim) (low := low)
    | with_reducible apply SafetyDie.Kept.staged_le (lim := lim) (low := low)
    | with_reducible apply SafetyDie.Kept.le_floor (lim := lim) (low := low)
    | split
    | (intro _)
    | (rw [id_eq])
    | (simp; done))

theorem SafetyDie.safetyThermal_kept (s : SafetyDie) (sensor : Nat) (v : Int) (h : s.Kept lim low) : (SafetyDie.safetyThermal s sensor v).Kept lim low := by
  unfold SafetyDie.safetyThermal
  try dsimp only
  repeat' (first
    | with_reducible assumption
    | with_reducible apply Dies.clockLoss_kept
    | with_reducible apply SafetyDie.reading_kept
    | with_reducible apply SafetyDie.safetyReset_kept
    | with_reducible apply SafetyDie.foldl_kept
    | (simp only [↓SafetyDie.kept_mk]; refine ⟨?_, ?_, ?_⟩)
    | with_reducible apply SafetyDie.Kept.log_le (lim := lim) (low := low)
    | with_reducible apply SafetyDie.Kept.staged_le (lim := lim) (low := low)
    | with_reducible apply SafetyDie.Kept.le_floor (lim := lim) (low := low)
    | split
    | (intro _)
    | (rw [id_eq])
    | (simp; done))

theorem SafetyDie.temperatureResume_kept (s : SafetyDie) (l : List (Nat × Int)) (h : s.Kept lim low) : (SafetyDie.temperatureResume s l).Kept lim low := by
  unfold SafetyDie.temperatureResume
  try dsimp only
  repeat' (first
    | with_reducible assumption
    | with_reducible apply SafetyDie.forEach_kept
    | with_reducible apply SafetyDie.reading_kept
    | with_reducible apply SafetyDie.foldl_kept
    | (simp only [↓SafetyDie.kept_mk]; refine ⟨?_, ?_, ?_⟩)
    | with_reducible apply SafetyDie.Kept.log_le (lim := lim) (low := low)
    | with_reducible apply SafetyDie.Kept.staged_le (lim := lim) (low := low)
    | with_reducible apply SafetyDie.Kept.le_floor (lim := lim) (low := low)
    | split
    | (intro _)
    | (rw [id_eq])
    | (simp; done))

theorem SafetyDie.setRtc_kept (s : SafetyDie) (gts : Nat) (h : s.Kept lim low) : (SafetyDie.setRtc s gts).Kept lim low := by
  unfold SafetyDie.setRtc
  try dsimp only
  repeat' (first
    | with_reducible assumption
    | with_reducible apply SafetyDie.btPass_kept
    | with_reducible apply SafetyDie.setGuest_kept
    | with_reducible apply SafetyDie.foldl_kept
    | (simp only [↓SafetyDie.kept_mk]; refine ⟨?_, ?_, ?_⟩)
    | with_reducible apply SafetyDie.Kept.log_le (lim := lim) (low := low)
    | with_reducible apply SafetyDie.Kept.staged_le (lim := lim) (low := low)
    | with_reducible apply SafetyDie.Kept.le_floor (lim := lim) (low := low)
    | split
    | (intro _)
    | (rw [id_eq])
    | (simp; done))

theorem Dies.rtcSet_kept (x : Dies) (h : x.sd.Kept lim low) : (Dies.rtcSet x).sd.Kept lim low := by
  unfold Dies.rtcSet
  try dsimp only
  repeat' (first
    | with_reducible assumption
    | with_reducible apply SafetyDie.setRtc_kept
    | with_reducible apply SafetyDie.foldl_kept
    | (simp only [↓SafetyDie.kept_mk]; refine ⟨?_, ?_, ?_⟩)
    | with_reducible apply SafetyDie.Kept.log_le (lim := lim) (low := low)
    | with_reducible apply SafetyDie.Kept.staged_le (lim := lim) (low := low)
    | with_reducible apply SafetyDie.Kept.le_floor (lim := lim) (low := low)
    | split
    | (intro _)
    | (rw [id_eq])
    | (simp; done))

theorem SafetyDie.serve_kept (s : SafetyDie) (h : s.Kept lim low) : (SafetyDie.serve s).Kept lim low := by
  unfold SafetyDie.serve
  try dsimp only
  repeat' (first
    | with_reducible assumption
    | with_reducible apply SafetyDie.serveQueue_kept
    | with_reducible apply SafetyDie.sleepDone_kept
    | with_reducible apply SafetyDie.sleepDue_kept
    | with_reducible apply SafetyDie.foldl_kept
    | (simp only [↓SafetyDie.kept_mk]; refine ⟨?_, ?_, ?_⟩)
    | with_reducible apply SafetyDie.Kept.log_le (lim := lim) (low := low)
    | with_reducible apply SafetyDie.Kept.staged_le (lim := lim) (low := low)
    | with_reducible apply SafetyDie.Kept.le_floor (lim := lim) (low := low)
    | split
    | (intro _)
    | (rw [id_eq])
    | (simp; done))

theorem Dies.pruneArmed_kept (x : Dies) (h : x.sd.Kept lim low) : (Dies.pruneArmed x).sd.Kept lim low := by
  unfold Dies.pruneArmed
  try dsimp only
  repeat' (first
    | with_reducible assumption
    | with_reducible apply SafetyDie.foldl_kept
    | (simp only [↓SafetyDie.kept_mk]; refine ⟨?_, ?_, ?_⟩)
    | with_reducible apply SafetyDie.Kept.log_le (lim := lim) (low := low)
    | with_reducible apply SafetyDie.Kept.staged_le (lim := lim) (low := low)
    | with_reducible apply SafetyDie.Kept.le_floor (lim := lim) (low := low)
    | split
    | (intro _)
    | (rw [id_eq])
    | (simp; done))

theorem SafetyDie.refuseSet_kept (s : SafetyDie) (why : Nat × Nat) (h : s.Kept lim low) : (SafetyDie.refuseSet s why).Kept lim low := by
  unfold SafetyDie.refuseSet
  try dsimp only
  repeat' (first
    | with_reducible assumption
    | with_reducible apply SafetyDie.status_kept
    | with_reducible apply SafetyDie.foldl_kept
    | (simp only [↓SafetyDie.kept_mk]; refine ⟨?_, ?_, ?_⟩)
    | with_reducible apply SafetyDie.Kept.log_le (lim := lim) (low := low)
    | with_reducible apply SafetyDie.Kept.staged_le (lim := lim) (low := low)
    | with_reducible apply SafetyDie.Kept.le_floor (lim := lim) (low := low)
    | split
    | (intro _)
    | (rw [id_eq])
    | (simp; done))

theorem Dies.commitCrc_kept (x : Dies) (crc : Nat) (h : x.sd.Kept lim low) : (Dies.commitCrc x crc).1.sd.Kept lim low := by
  unfold Dies.commitCrc
  try dsimp only
  repeat' (first
    | with_reducible assumption
    | with_reducible apply SafetyDie.refuseSet_kept
    | with_reducible apply SafetyDie.status_kept
    | with_reducible apply SafetyDie.foldl_kept
    | (simp only [↓SafetyDie.kept_mk]; refine ⟨?_, ?_, ?_⟩)
    | with_reducible apply SafetyDie.Kept.log_le (lim := lim) (low := low)
    | with_reducible apply SafetyDie.Kept.staged_le (lim := lim) (low := low)
    | with_reducible apply SafetyDie.Kept.le_floor (lim := lim) (low := low)
    | split
    | (intro _)
    | (rw [id_eq])
    | (simp; done))

theorem Dies.storing_kept (x : Dies) (slot : Nat) (w : StoreWork) (h : x.sd.Kept lim low) : (Dies.storing x slot w).1.sd.Kept lim low := by
  unfold Dies.storing
  try dsimp only
  repeat' (first
    | with_reducible assumption
    | with_reducible apply SafetyDie.foldl_kept
    | (simp only [↓SafetyDie.kept_mk]; refine ⟨?_, ?_, ?_⟩)
    | with_reducible apply SafetyDie.Kept.log_le (lim := lim) (low := low)
    | with_reducible apply SafetyDie.Kept.staged_le (lim := lim) (low := low)
    | with_reducible apply SafetyDie.Kept.le_floor (lim := lim) (low := low)
    | split
    | (intro _)
    | (rw [id_eq])
    | (simp; done))

theorem SafetyDie.writeStore_kept (s : SafetyDie) (f : OdStore → OdStore) (keys : Tbl Octets) (h : s.Kept lim low) : (SafetyDie.writeStore s f keys).Kept lim low := by
  unfold SafetyDie.writeStore
  try dsimp only
  repeat' (first
    | with_reducible assumption
    | with_reducible apply SafetyDie.foldl_kept
    | (simp only [↓SafetyDie.kept_mk]; refine ⟨?_, ?_, ?_⟩)
    | with_reducible apply SafetyDie.Kept.log_le (lim := lim) (low := low)
    | with_reducible apply SafetyDie.Kept.staged_le (lim := lim) (low := low)
    | with_reducible apply SafetyDie.Kept.le_floor (lim := lim) (low := low)
    | split
    | (intro _)
    | (rw [id_eq])
    | (simp; done))

theorem SafetyDie.commitStored_kept (s : SafetyDie) (ok : Bool) (h : s.Kept lim low) : (SafetyDie.commitStored s ok).Kept lim low := by
  unfold SafetyDie.commitStored
  try dsimp only
  repeat' (first
    | with_reducible assumption
    | with_reducible apply Dies.storing_kept
    | with_reducible apply SafetyDie.answerBusy_kept
    | with_reducible apply SafetyDie.discardStage_kept
    | with_reducible apply SafetyDie.refuseSet_kept
    | with_reducible apply SafetyDie.sendEpoch_kept
    | with_reducible apply SafetyDie.sendFlits_kept
    | with_reducible apply SafetyDie.stepEpoch_kept
    | with_reducible apply SafetyDie.undoStores_kept
    | with_reducible apply SafetyDie.writeStore_kept
    | with_reducible apply SafetyDie.foldl_kept
    | (simp only [↓SafetyDie.kept_mk]; refine ⟨?_, ?_, ?_⟩)
    | with_reducible apply SafetyDie.Kept.log_le (lim := lim) (low := low)
    | with_reducible apply SafetyDie.Kept.staged_le (lim := lim) (low := low)
    | with_reducible apply SafetyDie.Kept.le_floor (lim := lim) (low := low)
    | split
    | (intro _)
    | (rw [id_eq])
    | (simp; done))

theorem Dies.say_kept (x : Dies) (st : OdStatus) (h : x.sd.Kept lim low) : (Dies.say x st).1.sd.Kept lim low := by
  unfold Dies.say
  try dsimp only
  repeat' (first
    | with_reducible assumption
    | with_reducible apply SafetyDie.status_kept
    | with_reducible apply SafetyDie.foldl_kept
    | (simp only [↓SafetyDie.kept_mk]; refine ⟨?_, ?_, ?_⟩)
    | with_reducible apply SafetyDie.Kept.log_le (lim := lim) (low := low)
    | with_reducible apply SafetyDie.Kept.staged_le (lim := lim) (low := low)
    | with_reducible apply SafetyDie.Kept.le_floor (lim := lim) (low := low)
    | split
    | (intro _)
    | (rw [id_eq])
    | (simp; done))

theorem Dies.done_kept (x : Dies) (h : x.sd.Kept lim low) : (Dies.done x).1.sd.Kept lim low := by
  unfold Dies.done
  try dsimp only
  repeat' (first
    | with_reducible assumption
    | with_reducible apply SafetyDie.status_kept
    | with_reducible apply SafetyDie.foldl_kept
    | (simp only [↓SafetyDie.kept_mk]; refine ⟨?_, ?_, ?_⟩)
    | with_reducible apply SafetyDie.Kept.log_le (lim := lim) (low := low)
    | with_reducible apply SafetyDie.Kept.staged_le (lim := lim) (low := low)
    | with_reducible apply SafetyDie.Kept.le_floor (lim := lim) (low := low)
    | split
    | (intro _)
    | (rw [id_eq])
    | (simp; done))

theorem Dies.safety_kept (x : Dies) (f : SafetyDie → SafetyDie) (h : x.sd.Kept lim low) (h1 : ∀ y : SafetyDie, y.Kept lim low → (f y).Kept lim low) : (Dies.safety x f).sd.Kept lim low := by
  unfold Dies.safety
  try dsimp only
  repeat' (first
    | with_reducible assumption
    | with_reducible apply Dies.follow_kept
    | with_reducible apply h1
    | with_reducible apply SafetyDie.foldl_kept
    | (simp only [↓SafetyDie.kept_mk]; refine ⟨?_, ?_, ?_⟩)
    | with_reducible apply SafetyDie.Kept.log_le (lim := lim) (low := low)
    | with_reducible apply SafetyDie.Kept.staged_le (lim := lim) (low := low)
    | with_reducible apply SafetyDie.Kept.le_floor (lim := lim) (low := low)
    | split
    | (intro _)
    | (rw [id_eq])
    | (simp; done))

theorem Dies.check_kept (x : Dies) (f : CheckDie → CheckDie) (h : x.sd.Kept lim low) : (Dies.check x f).sd.Kept lim low := by
  unfold Dies.check
  try dsimp only
  repeat' (first
    | with_reducible assumption
    | with_reducible apply SafetyDie.foldl_kept
    | (simp only [↓SafetyDie.kept_mk]; refine ⟨?_, ?_, ?_⟩)
    | with_reducible apply SafetyDie.Kept.log_le (lim := lim) (low := low)
    | with_reducible apply SafetyDie.Kept.staged_le (lim := lim) (low := low)
    | with_reducible apply SafetyDie.Kept.le_floor (lim := lim) (low := low)
    | split
    | (intro _)
    | (rw [id_eq])
    | (simp; done))

theorem Dies.readOctets_kept (x : Dies) (slot path key off : Nat) (snap : Option (Nat × Octets × Nat × Nat)) (v : Octets) (h : x.sd.Kept lim low) : (Dies.readOctets x slot path key off snap v).1.sd.Kept lim low := by
  unfold Dies.readOctets
  try dsimp only
  repeat' (first
    | with_reducible assumption
    | with_reducible apply SafetyDie.status_kept
    | with_reducible apply SafetyDie.updSession_kept
    | with_reducible apply SafetyDie.foldl_kept
    | (simp only [↓SafetyDie.kept_mk]; refine ⟨?_, ?_, ?_⟩)
    | with_reducible apply SafetyDie.Kept.log_le (lim := lim) (low := low)
    | with_reducible apply SafetyDie.Kept.staged_le (lim := lim) (low := low)
    | with_reducible apply SafetyDie.Kept.le_floor (lim := lim) (low := low)
    | split
    | (intro _)
    | (rw [id_eq])
    | (simp; done))

theorem Dies.serveRead_kept (x : Dies) (slot : Nat) (ses : Session) (r : Req) (h : x.sd.Kept lim low) : (Dies.serveRead x slot ses r).1.sd.Kept lim low := by
  unfold Dies.serveRead
  try dsimp only
  repeat' (first
    | with_reducible assumption
    | with_reducible apply Dies.readOctets_kept
    | with_reducible apply SafetyDie.status_kept
    | with_reducible apply SafetyDie.updSession_kept
    | with_reducible apply SafetyDie.foldl_kept
    | (simp only [↓SafetyDie.kept_mk]; refine ⟨?_, ?_, ?_⟩)
    | with_reducible apply SafetyDie.Kept.log_le (lim := lim) (low := low)
    | with_reducible apply SafetyDie.Kept.staged_le (lim := lim) (low := low)
    | with_reducible apply SafetyDie.Kept.le_floor (lim := lim) (low := low)
    | split
    | (intro _)
    | (rw [id_eq])
    | (simp; done))

theorem Dies.stage_kept (x : Dies) (slot k : Nat) (v : Val) (h : x.sd.Kept lim low) : (Dies.stage x slot k v).1.sd.Kept lim low := by
  unfold Dies.stage
  try dsimp only
  repeat' (first
    | with_reducible assumption
    | with_reducible apply Dies.say_kept
    | with_reducible apply Dies.done_kept
    | split)
  simp only [↓SafetyDie.kept_mk]
  exact ⟨h.1, fun _ => by omega, h.2.2⟩

theorem Dies.writeImage_kept (x : Dies) (idx : Nat) (b : ImageBody) (last : Bool) (h : x.sd.Kept lim low) : (Dies.writeImage x idx b last).1.sd.Kept lim low := by
  unfold Dies.writeImage
  try dsimp only
  repeat' (first
    | with_reducible assumption
    | with_reducible apply Dies.done_kept
    | with_reducible apply Dies.say_kept
    | with_reducible apply SafetyDie.put_kept
    | with_reducible apply SafetyDie.foldl_kept
    | (simp only [↓SafetyDie.kept_mk]; refine ⟨?_, ?_, ?_⟩)
    | with_reducible apply SafetyDie.Kept.log_le (lim := lim) (low := low)
    | with_reducible apply SafetyDie.Kept.staged_le (lim := lim) (low := low)
    | with_reducible apply SafetyDie.Kept.le_floor (lim := lim) (low := low)
    | split
    | (intro _)
    | (rw [id_eq])
    | (simp; done))

theorem Dies.writeFirmware_kept (x : Dies) (slot : Nat) (b : ImageBody) (last : Bool) (h : x.sd.Kept lim low) : (Dies.writeFirmware x slot b last).1.sd.Kept lim low := by
  unfold Dies.writeFirmware
  try dsimp only
  repeat' (first
    | with_reducible assumption
    | with_reducible apply Dies.done_kept
    | with_reducible apply Dies.say_kept
    | with_reducible apply SafetyDie.foldl_kept
    | (simp only [↓SafetyDie.kept_mk]; refine ⟨?_, ?_, ?_⟩)
    | with_reducible apply SafetyDie.Kept.log_le (lim := lim) (low := low)
    | with_reducible apply SafetyDie.Kept.staged_le (lim := lim) (low := low)
    | with_reducible apply SafetyDie.Kept.le_floor (lim := lim) (low := low)
    | split
    | (intro _)
    | (rw [id_eq])
    | (simp; done))

theorem Dies.writeCert_kept (x : Dies) (slot : Nat) (b : ImageBody) (h : x.sd.Kept lim low) : (Dies.writeCert x slot b).1.sd.Kept lim low := by
  unfold Dies.writeCert
  try dsimp only
  repeat' (first
    | with_reducible assumption
    | with_reducible apply Dies.say_kept
    | with_reducible apply Dies.storing_kept
    | with_reducible apply SafetyDie.foldl_kept
    | (simp only [↓SafetyDie.kept_mk]; refine ⟨?_, ?_, ?_⟩)
    | with_reducible apply SafetyDie.Kept.log_le (lim := lim) (low := low)
    | with_reducible apply SafetyDie.Kept.staged_le (lim := lim) (low := low)
    | with_reducible apply SafetyDie.Kept.le_floor (lim := lim) (low := low)
    | split
    | (intro _)
    | (rw [id_eq])
    | (simp; done))

theorem Dies.writeDomain_kept (x : Dies) (slot idx sub : Nat) (image : Option ImageBody) (b : Octets) (last : Bool) (h : x.sd.Kept lim low) : (Dies.writeDomain x slot idx sub image b last).1.sd.Kept lim low := by
  unfold Dies.writeDomain
  try dsimp only
  repeat' (first
    | with_reducible assumption
    | with_reducible apply Dies.done_kept
    | with_reducible apply Dies.say_kept
    | with_reducible apply Dies.storing_kept
    | with_reducible apply Dies.writeCert_kept
    | with_reducible apply Dies.writeFirmware_kept
    | with_reducible apply Dies.writeImage_kept
    | with_reducible apply SafetyDie.foldl_kept
    | (simp only [↓SafetyDie.kept_mk]; refine ⟨?_, ?_, ?_⟩)
    | with_reducible apply SafetyDie.Kept.log_le (lim := lim) (low := low)
    | with_reducible apply SafetyDie.Kept.staged_le (lim := lim) (low := low)
    | with_reducible apply SafetyDie.Kept.le_floor (lim := lim) (low := low)
    | split
    | (intro _)
    | (rw [id_eq])
    | (simp; done))

theorem Dies.arm_kept (x0 : Dies) (slot j : Nat) (h : x0.sd.Kept lim low) : (Dies.arm x0 slot j).1.sd.Kept lim low := by
  unfold Dies.arm
  try dsimp only
  repeat' (first
    | with_reducible assumption
    | with_reducible apply Dies.done_kept
    | with_reducible apply Dies.pruneArmed_kept
    | with_reducible apply Dies.say_kept
    | with_reducible apply SafetyDie.raise_kept
    | with_reducible apply SafetyDie.sendFlits_kept
    | with_reducible apply SafetyDie.foldl_kept
    | (simp only [↓SafetyDie.kept_mk]; refine ⟨?_, ?_, ?_⟩)
    | with_reducible apply SafetyDie.Kept.log_le (lim := lim) (low := low)
    | with_reducible apply SafetyDie.Kept.staged_le (lim := lim) (low := low)
    | with_reducible apply SafetyDie.Kept.le_floor (lim := lim) (low := low)
    | split
    | (intro _)
    | (rw [id_eq])
    | (simp; done))

theorem Dies.disarm_kept (x0 : Dies) (slot j : Nat) (h : x0.sd.Kept lim low) : (Dies.disarm x0 slot j).1.sd.Kept lim low := by
  unfold Dies.disarm
  try dsimp only
  repeat' (first
    | with_reducible assumption
    | with_reducible apply Dies.done_kept
    | with_reducible apply Dies.pruneArmed_kept
    | with_reducible apply Dies.say_kept
    | with_reducible apply SafetyDie.disarmInjector_kept
    | with_reducible apply SafetyDie.foldl_kept
    | (simp only [↓SafetyDie.kept_mk]; refine ⟨?_, ?_, ?_⟩)
    | with_reducible apply SafetyDie.Kept.log_le (lim := lim) (low := low)
    | with_reducible apply SafetyDie.Kept.staged_le (lim := lim) (low := low)
    | with_reducible apply SafetyDie.Kept.le_floor (lim := lim) (low := low)
    | split
    | (intro _)
    | (rw [id_eq])
    | (simp; done))

theorem Dies.setBoth_kept (x : Dies) (k : Nat) (v : Val) (h : x.sd.Kept lim low) : (Dies.setBoth x k v).sd.Kept lim low := by
  unfold Dies.setBoth
  try dsimp only
  repeat' (first
    | with_reducible assumption
    | with_reducible apply SafetyDie.foldl_kept
    | (simp only [↓SafetyDie.kept_mk]; refine ⟨?_, ?_, ?_⟩)
    | with_reducible apply SafetyDie.Kept.log_le (lim := lim) (low := low)
    | with_reducible apply SafetyDie.Kept.staged_le (lim := lim) (low := low)
    | with_reducible apply SafetyDie.Kept.le_floor (lim := lim) (low := low)
    | split
    | (intro _)
    | (rw [id_eq])
    | (simp; done))

theorem Dies.writeDescriptor_kept (x0 : Dies) (slot j k : Nat) (v : Val) (h : x0.sd.Kept lim low) : (Dies.writeDescriptor x0 slot j k v).1.sd.Kept lim low := by
  unfold Dies.writeDescriptor
  try dsimp only
  repeat' (first
    | with_reducible assumption
    | with_reducible apply Dies.done_kept
    | with_reducible apply Dies.pruneArmed_kept
    | with_reducible apply Dies.say_kept
    | with_reducible apply Dies.setBoth_kept
    | with_reducible apply SafetyDie.foldl_kept
    | (simp only [↓SafetyDie.kept_mk]; refine ⟨?_, ?_, ?_⟩)
    | with_reducible apply SafetyDie.Kept.log_le (lim := lim) (low := low)
    | with_reducible apply SafetyDie.Kept.staged_le (lim := lim) (low := low)
    | with_reducible apply SafetyDie.Kept.le_floor (lim := lim) (low := low)
    | split
    | (intro _)
    | (rw [id_eq])
    | (simp; done))

theorem Dies.writeSetting_kept (x : Dies) (slot idx sub : Nat) (w : OdRow) (v : Val) (h : x.sd.Kept lim low) : (Dies.writeSetting x slot idx sub w v).1.sd.Kept lim low := by
  unfold Dies.writeSetting
  try dsimp only
  repeat' (first
    | with_reducible assumption
    | with_reducible apply Dies.check_kept
    | with_reducible apply Dies.done_kept
    | with_reducible apply Dies.setBoth_kept
    | with_reducible apply Dies.storing_kept
    | with_reducible apply SafetyDie.foldl_kept
    | (simp only [↓SafetyDie.kept_mk]; refine ⟨?_, ?_, ?_⟩)
    | with_reducible apply SafetyDie.Kept.log_le (lim := lim) (low := low)
    | with_reducible apply SafetyDie.Kept.staged_le (lim := lim) (low := low)
    | with_reducible apply SafetyDie.Kept.le_floor (lim := lim) (low := low)
    | split
    | (intro _)
    | (rw [id_eq])
    | (simp; done))

theorem Dies.writeContext_kept (x : Dies) (slot c sub : Nat) (w : OdRow) (v : Val) (h : x.sd.Kept lim low) : (Dies.writeContext x slot c sub w v).1.sd.Kept lim low := by
  unfold Dies.writeContext
  try dsimp only
  repeat' (first
    | with_reducible assumption
    | with_reducible apply Dies.done_kept
    | with_reducible apply Dies.say_kept
    | with_reducible apply Dies.writeSetting_kept
    | with_reducible apply SafetyDie.foldl_kept
    | (simp only [↓SafetyDie.kept_mk]; refine ⟨?_, ?_, ?_⟩)
    | with_reducible apply SafetyDie.Kept.log_le (lim := lim) (low := low)
    | with_reducible apply SafetyDie.Kept.staged_le (lim := lim) (low := low)
    | with_reducible apply SafetyDie.Kept.le_floor (lim := lim) (low := low)
    | split
    | (intro _)
    | (rw [id_eq])
    | (simp; done))

theorem Dies.powerRequest_kept (x : Dies) (v : Nat) (h : x.sd.Kept lim low) : (Dies.powerRequest x v).1.sd.Kept lim low := by
  unfold Dies.powerRequest
  try dsimp only
  repeat' (first
    | with_reducible assumption
    | with_reducible apply Dies.done_kept
    | with_reducible apply Dies.say_kept
    | with_reducible apply Dies.sleep_kept
    | with_reducible apply Dies.wake_kept
    | with_reducible apply SafetyDie.foldl_kept
    | (simp only [↓SafetyDie.kept_mk]; refine ⟨?_, ?_, ?_⟩)
    | with_reducible apply SafetyDie.Kept.log_le (lim := lim) (low := low)
    | with_reducible apply SafetyDie.Kept.staged_le (lim := lim) (low := low)
    | with_reducible apply SafetyDie.Kept.le_floor (lim := lim) (low := low)
    | split
    | (intro _)
    | (rw [id_eq])
    | (simp; done))

theorem Dies.serviceRequest_kept (x : Dies) (slot v : Nat) (h : x.sd.Kept lim low) : (Dies.serviceRequest x slot v).1.sd.Kept lim low := by
  unfold Dies.serviceRequest
  try dsimp only
  repeat' (first
    | with_reducible assumption
    | with_reducible apply Dies.done_kept
    | with_reducible apply Dies.safety_kept
    | with_reducible apply Dies.say_kept
    | with_reducible apply SafetyDie.leaveService_kept
    | with_reducible apply SafetyDie.foldl_kept
    | (simp only [↓SafetyDie.kept_mk]; refine ⟨?_, ?_, ?_⟩)
    | with_reducible apply SafetyDie.Kept.log_le (lim := lim) (low := low)
    | with_reducible apply SafetyDie.Kept.staged_le (lim := lim) (low := low)
    | with_reducible apply SafetyDie.Kept.le_floor (lim := lim) (low := low)
    | split
    | (intro _)
    | (rw [id_eq])
    | (simp; done))

theorem Dies.marginTry_kept (x : Dies) (h : x.sd.Kept lim low) : (Dies.marginTry x).sd.Kept lim low := by
  unfold Dies.marginTry
  try dsimp only
  repeat' (first
    | with_reducible assumption
    | with_reducible apply Dies.check_kept
    | with_reducible apply SafetyDie.sendFlit_kept
    | with_reducible apply SafetyDie.foldl_kept
    | (simp only [↓SafetyDie.kept_mk]; refine ⟨?_, ?_, ?_⟩)
    | with_reducible apply SafetyDie.Kept.log_le (lim := lim) (low := low)
    | with_reducible apply SafetyDie.Kept.staged_le (lim := lim) (low := low)
    | with_reducible apply SafetyDie.Kept.le_floor (lim := lim) (low := low)
    | split
    | (intro _)
    | (rw [id_eq])
    | (simp; done))

theorem Dies.marginStart_kept (x : Dies) (c : Nat) (h : x.sd.Kept lim low) : (Dies.marginStart x c).sd.Kept lim low := by
  unfold Dies.marginStart
  try dsimp only
  repeat' (first
    | with_reducible assumption
    | with_reducible apply Dies.marginTry_kept
    | with_reducible apply SafetyDie.foldl_kept
    | (simp only [↓SafetyDie.kept_mk]; refine ⟨?_, ?_, ?_⟩)
    | with_reducible apply SafetyDie.Kept.log_le (lim := lim) (low := low)
    | with_reducible apply SafetyDie.Kept.staged_le (lim := lim) (low := low)
    | with_reducible apply SafetyDie.Kept.le_floor (lim := lim) (low := low)
    | split
    | (intro _)
    | (rw [id_eq])
    | (simp; done))

theorem SafetyDie.unlockReset_kept (s : SafetyDie) (h : s.Kept lim low) : (SafetyDie.unlockReset s).Kept lim low := by
  unfold SafetyDie.unlockReset
  try dsimp only
  repeat' (first
    | with_reducible assumption
    | with_reducible apply SafetyDie.foldl_kept
    | (simp only [↓SafetyDie.kept_mk]; refine ⟨?_, ?_, ?_⟩)
    | with_reducible apply SafetyDie.Kept.log_le (lim := lim) (low := low)
    | with_reducible apply SafetyDie.Kept.staged_le (lim := lim) (low := low)
    | with_reducible apply SafetyDie.Kept.le_floor (lim := lim) (low := low)
    | split
    | (intro _)
    | (rw [id_eq])
    | (simp; done))

theorem SafetyDie.commandReset_kept (s : SafetyDie) (h : s.Kept lim low) : (SafetyDie.commandReset s).Kept lim low := by
  unfold SafetyDie.commandReset
  try dsimp only
  repeat' (first
    | with_reducible assumption
    | with_reducible apply SafetyDie.assertKill_kept
    | with_reducible apply SafetyDie.stop_kept
    | with_reducible apply SafetyDie.foldl_kept
    | (simp only [↓SafetyDie.kept_mk]; refine ⟨?_, ?_, ?_⟩)
    | with_reducible apply SafetyDie.Kept.log_le (lim := lim) (low := low)
    | with_reducible apply SafetyDie.Kept.staged_le (lim := lim) (low := low)
    | with_reducible apply SafetyDie.Kept.le_floor (lim := lim) (low := low)
    | split
    | (intro _)
    | (rw [id_eq])
    | (simp; done))

theorem Dies.attest_kept (x : Dies) (nonce : Octets) (h : x.sd.Kept lim low) : (Dies.attest x nonce).1.sd.Kept lim low := by
  unfold Dies.attest
  try dsimp only
  repeat' (first
    | with_reducible assumption
    | with_reducible apply Dies.done_kept
    | with_reducible apply Dies.say_kept
    | with_reducible apply SafetyDie.foldl_kept
    | (simp only [↓SafetyDie.kept_mk]; refine ⟨?_, ?_, ?_⟩)
    | with_reducible apply SafetyDie.Kept.log_le (lim := lim) (low := low)
    | with_reducible apply SafetyDie.Kept.staged_le (lim := lim) (low := low)
    | with_reducible apply SafetyDie.Kept.le_floor (lim := lim) (low := low)
    | split
    | (intro _)
    | (rw [id_eq])
    | (simp; done))

theorem Dies.raiseFloor_kept (x : Dies) (v : Nat) (h : x.sd.Kept lim low) : (Dies.raiseFloor x v).1.sd.Kept lim low := by
  unfold Dies.raiseFloor
  split
  · next hf =>
    refine Dies.done_kept _ ⟨h.1, h.2.1, ?_⟩
    have := h.2.2
    unfold SafetyDie.floorNow at hf
    dsimp only
    omega
  · exact Dies.say_kept _ _ h

theorem Dies.fenceClear_kept (x : Dies) (bits : Nat) (h : x.sd.Kept lim low) : (Dies.fenceClear x bits).sd.Kept lim low := by
  unfold Dies.fenceClear
  try dsimp only
  repeat' (first
    | with_reducible assumption
    | with_reducible apply SafetyDie.setGuest_kept
    | with_reducible apply SafetyDie.foldl_kept
    | (simp only [↓SafetyDie.kept_mk]; refine ⟨?_, ?_, ?_⟩)
    | with_reducible apply SafetyDie.Kept.log_le (lim := lim) (low := low)
    | with_reducible apply SafetyDie.Kept.staged_le (lim := lim) (low := low)
    | with_reducible apply SafetyDie.Kept.le_floor (lim := lim) (low := low)
    | split
    | (intro _)
    | (rw [id_eq])
    | (simp; done))

theorem Dies.writeCommit_kept (x : Dies) (slot crc : Nat) (h : x.sd.Kept lim low) : (Dies.writeCommit x slot crc).1.sd.Kept lim low := by
  unfold Dies.writeCommit
  try dsimp only
  repeat' (first
    | with_reducible assumption
    | with_reducible apply Dies.commitCrc_kept
    | with_reducible apply Dies.say_kept
    | with_reducible apply SafetyDie.foldl_kept
    | (simp only [↓SafetyDie.kept_mk]; refine ⟨?_, ?_, ?_⟩)
    | with_reducible apply SafetyDie.Kept.log_le (lim := lim) (low := low)
    | with_reducible apply SafetyDie.Kept.staged_le (lim := lim) (low := low)
    | with_reducible apply SafetyDie.Kept.le_floor (lim := lim) (low := low)
    | split
    | (intro _)
    | (rw [id_eq])
    | (simp; done))

/-- Either branch keeps the limits. -/
theorem Served.ite_kept (c : Prop) [Decidable c] (a b : Served) (ha : a.1.sd.Kept lim low) (hb : b.1.sd.Kept lim low) : (if c then a else b).1.sd.Kept lim low := by
  by_cases h : c
  · rw [if_pos h]; exact ha
  · rw [if_neg h]; exact hb

theorem Dies.act_kept (x : Dies) (slot idx sub : Nat) (v : Val) (h : x.sd.Kept lim low) : (Dies.act x slot idx sub v).1.sd.Kept lim low := by
  unfold Dies.act
  try dsimp only
  repeat' (first
    | with_reducible assumption
    | with_reducible apply Served.ite_kept
    | with_reducible apply Dies.attest_kept
    | with_reducible apply Dies.check_kept
    | with_reducible apply Dies.done_kept
    | with_reducible apply Dies.fenceClear_kept
    | with_reducible apply Dies.marginStart_kept
    | with_reducible apply Dies.powerRequest_kept
    | with_reducible apply Dies.raiseFloor_kept
    | with_reducible apply Dies.safety_kept
    | with_reducible apply Dies.say_kept
    | with_reducible apply Dies.serviceRequest_kept
    | with_reducible apply Dies.storing_kept
    | with_reducible apply Dies.writeCommit_kept
    | with_reducible apply SafetyDie.btStart_kept
    | with_reducible apply SafetyDie.commandReset_kept
    | with_reducible apply SafetyDie.discardStage_kept
    | with_reducible apply SafetyDie.faultClear_kept
    | with_reducible apply SafetyDie.holdRequest_kept
    | with_reducible apply SafetyDie.logClear_kept
    | with_reducible apply SafetyDie.status_kept
    | with_reducible apply SafetyDie.toRun_kept
    | with_reducible apply SafetyDie.warmReset_kept
    | with_reducible apply SafetyDie.foldl_kept
    | (simp only [↓SafetyDie.kept_mk]; refine ⟨?_, ?_, ?_⟩)
    | with_reducible apply SafetyDie.Kept.log_le (lim := lim) (low := low)
    | with_reducible apply SafetyDie.Kept.staged_le (lim := lim) (low := low)
    | with_reducible apply SafetyDie.Kept.le_floor (lim := lim) (low := low)
    | split
    | (intro _)
    | (rw [id_eq])
    | (simp; done))

theorem Dies.writeRw_kept (x : Dies) (slot idx sub : Nat) (w : OdRow) (v : Val) (h : x.sd.Kept lim low) : (Dies.writeRw x slot idx sub w v).1.sd.Kept lim low := by
  unfold Dies.writeRw
  try dsimp only
  repeat' (first
    | with_reducible assumption
    | with_reducible apply Dies.arm_kept
    | with_reducible apply Dies.disarm_kept
    | with_reducible apply Dies.done_kept
    | with_reducible apply Dies.writeContext_kept
    | with_reducible apply Dies.writeDescriptor_kept
    | with_reducible apply Dies.writeSetting_kept
    | with_reducible apply SafetyDie.unlockReset_kept
    | with_reducible apply SafetyDie.updSession_kept
    | with_reducible apply SafetyDie.foldl_kept
    | (simp only [↓SafetyDie.kept_mk]; refine ⟨?_, ?_, ?_⟩)
    | with_reducible apply SafetyDie.Kept.log_le (lim := lim) (low := low)
    | with_reducible apply SafetyDie.Kept.staged_le (lim := lim) (low := low)
    | with_reducible apply SafetyDie.Kept.le_floor (lim := lim) (low := low)
    | split
    | (intro _)
    | (rw [id_eq])
    | (simp; done))

theorem Dies.writeValue_kept (x : Dies) (slot idx sub : Nat) (w : OdRow) (v : Val) (h : x.sd.Kept lim low) : (Dies.writeValue x slot idx sub w v).1.sd.Kept lim low := by
  unfold Dies.writeValue
  try dsimp only
  repeat' (first
    | with_reducible assumption
    | with_reducible apply Dies.act_kept
    | with_reducible apply Dies.check_kept
    | with_reducible apply Dies.say_kept
    | with_reducible apply Dies.stage_kept
    | with_reducible apply Dies.writeRw_kept
    | with_reducible apply SafetyDie.foldl_kept
    | (simp only [↓SafetyDie.kept_mk]; refine ⟨?_, ?_, ?_⟩)
    | with_reducible apply SafetyDie.Kept.log_le (lim := lim) (low := low)
    | with_reducible apply SafetyDie.Kept.staged_le (lim := lim) (low := low)
    | with_reducible apply SafetyDie.Kept.le_floor (lim := lim) (low := low)
    | split
    | (intro _)
    | (rw [id_eq])
    | (simp; done))

theorem Dies.writeData_kept (x : Dies) (slot : Nat) (ses : Session) (w : OdRow) (r : Req) (h : x.sd.Kept lim low) : (Dies.writeData x slot ses w r).1.sd.Kept lim low := by
  unfold Dies.writeData
  try dsimp only
  repeat' (first
    | with_reducible assumption
    | with_reducible apply Dies.done_kept
    | with_reducible apply Dies.say_kept
    | with_reducible apply Dies.writeDomain_kept
    | with_reducible apply Dies.writeValue_kept
    | with_reducible apply SafetyDie.updSession_kept
    | with_reducible apply SafetyDie.foldl_kept
    | (simp only [↓SafetyDie.kept_mk]; refine ⟨?_, ?_, ?_⟩)
    | with_reducible apply SafetyDie.Kept.log_le (lim := lim) (low := low)
    | with_reducible apply SafetyDie.Kept.staged_le (lim := lim) (low := low)
    | with_reducible apply SafetyDie.Kept.le_floor (lim := lim) (low := low)
    | split
    | (intro _)
    | (rw [id_eq])
    | (simp; done))

theorem Dies.serveWrite_kept (x : Dies) (slot : Nat) (ses : Session) (r : Req) (h : x.sd.Kept lim low) : (Dies.serveWrite x slot ses r).1.sd.Kept lim low := by
  unfold Dies.serveWrite
  try dsimp only
  repeat' (first
    | with_reducible assumption
    | with_reducible apply Dies.say_kept
    | with_reducible apply Dies.writeData_kept
    | with_reducible apply SafetyDie.foldl_kept
    | (simp only [↓SafetyDie.kept_mk]; refine ⟨?_, ?_, ?_⟩)
    | with_reducible apply SafetyDie.Kept.log_le (lim := lim) (low := low)
    | with_reducible apply SafetyDie.Kept.staged_le (lim := lim) (low := low)
    | with_reducible apply SafetyDie.Kept.le_floor (lim := lim) (low := low)
    | split
    | (intro _)
    | (rw [id_eq])
    | (simp; done))

theorem Dies.serve_kept (x : Dies) (slot : Nat) (ses : Session) (r : Req) (h : x.sd.Kept lim low) : (Dies.serve x slot ses r).1.sd.Kept lim low := by
  unfold Dies.serve
  try dsimp only
  repeat' (first
    | with_reducible assumption
    | with_reducible apply Dies.say_kept
    | with_reducible apply Dies.serveRead_kept
    | with_reducible apply Dies.serveWrite_kept
    | with_reducible apply SafetyDie.foldl_kept
    | (simp only [↓SafetyDie.kept_mk]; refine ⟨?_, ?_, ?_⟩)
    | with_reducible apply SafetyDie.Kept.log_le (lim := lim) (low := low)
    | with_reducible apply SafetyDie.Kept.staged_le (lim := lim) (low := low)
    | with_reducible apply SafetyDie.Kept.le_floor (lim := lim) (low := low)
    | split
    | (intro _)
    | (rw [id_eq])
    | (simp; done))

theorem SafetyDie.refuse_kept (s : SafetyDie) (path origin slot : Nat) (asked : Octets) (cause retry : Nat) (h : s.Kept lim low) : (SafetyDie.refuse s path origin slot asked cause retry).Kept lim low := by
  unfold SafetyDie.refuse
  try dsimp only
  repeat' (first
    | with_reducible assumption
    | with_reducible apply SafetyDie.sendOd_kept
    | with_reducible apply SafetyDie.foldl_kept
    | (simp only [↓SafetyDie.kept_mk]; refine ⟨?_, ?_, ?_⟩)
    | with_reducible apply SafetyDie.Kept.log_le (lim := lim) (low := low)
    | with_reducible apply SafetyDie.Kept.staged_le (lim := lim) (low := low)
    | with_reducible apply SafetyDie.Kept.le_floor (lim := lim) (low := low)
    | split
    | (intro _)
    | (rw [id_eq])
    | (simp; done))

theorem SafetyDie.setLock_kept (s : SafetyDie) (role : Nat) (l : Lock) (h : s.Kept lim low) : (SafetyDie.setLock s role l).Kept lim low := by
  unfold SafetyDie.setLock
  try dsimp only
  repeat' (first
    | with_reducible assumption
    | with_reducible apply SafetyDie.setGuest_kept
    | with_reducible apply SafetyDie.foldl_kept
    | (simp only [↓SafetyDie.kept_mk]; refine ⟨?_, ?_, ?_⟩)
    | with_reducible apply SafetyDie.Kept.log_le (lim := lim) (low := low)
    | with_reducible apply SafetyDie.Kept.staged_le (lim := lim) (low := low)
    | with_reducible apply SafetyDie.Kept.le_floor (lim := lim) (low := low)
    | split
    | (intro _)
    | (rw [id_eq])
    | (simp; done))

theorem SafetyDie.wrongProof_kept (s : SafetyDie) (role : Nat) (h : s.Kept lim low) : (SafetyDie.wrongProof s role).Kept lim low := by
  unfold SafetyDie.wrongProof
  try dsimp only
  repeat' (first
    | with_reducible assumption
    | with_reducible apply SafetyDie.setLock_kept
    | with_reducible apply SafetyDie.foldl_kept
    | (simp only [↓SafetyDie.kept_mk]; refine ⟨?_, ?_, ?_⟩)
    | with_reducible apply SafetyDie.Kept.log_le (lim := lim) (low := low)
    | with_reducible apply SafetyDie.Kept.staged_le (lim := lim) (low := low)
    | with_reducible apply SafetyDie.Kept.le_floor (lim := lim) (low := low)
    | split
    | (intro _)
    | (rw [id_eq])
    | (simp; done))

theorem SafetyDie.hello_kept (s : SafetyDie) (path origin : Nat) (b : Octets) (h : s.Kept lim low) : (SafetyDie.hello s path origin b).Kept lim low := by
  unfold SafetyDie.hello
  try dsimp only
  repeat' (first
    | with_reducible assumption
    | with_reducible apply SafetyDie.draw_kept
    | with_reducible apply SafetyDie.refuse_kept
    | with_reducible apply SafetyDie.sendOd_kept
    | with_reducible apply SafetyDie.setSession_kept
    | with_reducible apply SafetyDie.foldl_kept
    | (simp only [↓SafetyDie.kept_mk]; refine ⟨?_, ?_, ?_⟩)
    | with_reducible apply SafetyDie.Kept.log_le (lim := lim) (low := low)
    | with_reducible apply SafetyDie.Kept.staged_le (lim := lim) (low := low)
    | with_reducible apply SafetyDie.Kept.le_floor (lim := lim) (low := low)
    | split
    | (intro _)
    | (rw [id_eq])
    | (simp; done))

theorem SafetyDie.proof_kept (s : SafetyDie) (path origin : Nat) (b : Octets) (h : s.Kept lim low) : (SafetyDie.proof s path origin b).Kept lim low := by
  unfold SafetyDie.proof
  try dsimp only
  repeat' (first
    | with_reducible assumption
    | with_reducible apply SafetyDie.refuse_kept
    | with_reducible apply SafetyDie.sendOd_kept
    | with_reducible apply SafetyDie.setLock_kept
    | with_reducible apply SafetyDie.setSession_kept
    | with_reducible apply SafetyDie.wrongProof_kept
    | with_reducible apply SafetyDie.foldl_kept
    | (simp only [↓SafetyDie.kept_mk]; refine ⟨?_, ?_, ?_⟩)
    | with_reducible apply SafetyDie.Kept.log_le (lim := lim) (low := low)
    | with_reducible apply SafetyDie.Kept.staged_le (lim := lim) (low := low)
    | with_reducible apply SafetyDie.Kept.le_floor (lim := lim) (low := low)
    | split
    | (intro _)
    | (rw [id_eq])
    | (simp; done))

theorem SafetyDie.tagFailed_kept (s : SafetyDie) (slot : Nat) (ses : Session) (h : s.Kept lim low) : (SafetyDie.tagFailed s slot ses).Kept lim low := by
  unfold SafetyDie.tagFailed
  try dsimp only
  repeat' (first
    | with_reducible assumption
    | with_reducible apply SafetyDie.bump_kept
    | with_reducible apply SafetyDie.endSession_kept
    | with_reducible apply SafetyDie.setLock_kept
    | with_reducible apply SafetyDie.setSession_kept
    | with_reducible apply SafetyDie.foldl_kept
    | (simp only [↓SafetyDie.kept_mk]; refine ⟨?_, ?_, ?_⟩)
    | with_reducible apply SafetyDie.Kept.log_le (lim := lim) (low := low)
    | with_reducible apply SafetyDie.Kept.staged_le (lim := lim) (low := low)
    | with_reducible apply SafetyDie.Kept.le_floor (lim := lim) (low := low)
    | split
    | (intro _)
    | (rw [id_eq])
    | (simp; done))

theorem Dies.serveOne_kept (x : Dies) (slot : Nat) (r : Req) (h : x.sd.Kept lim low) : (Dies.serveOne x slot r).sd.Kept lim low := by
  unfold Dies.serveOne
  try dsimp only
  repeat' (first
    | with_reducible assumption
    | with_reducible apply Dies.serve_kept
    | with_reducible apply SafetyDie.respond_kept
    | with_reducible apply SafetyDie.serve_kept
    | with_reducible apply SafetyDie.status_kept
    | with_reducible apply SafetyDie.updSession_kept
    | with_reducible apply SafetyDie.foldl_kept
    | (simp only [↓SafetyDie.kept_mk]; refine ⟨?_, ?_, ?_⟩)
    | with_reducible apply SafetyDie.Kept.log_le (lim := lim) (low := low)
    | with_reducible apply SafetyDie.Kept.staged_le (lim := lim) (low := low)
    | with_reducible apply SafetyDie.Kept.le_floor (lim := lim) (low := low)
    | split
    | (intro _)
    | (rw [id_eq])
    | (simp; done))

/-- Serving a session's queue keeps the limits. -/
theorem Dies.pump_kept (n slot : Nat) (x : Dies) (h : x.sd.Kept lim low) : (Dies.pump n slot x).sd.Kept lim low := by
  induction n generalizing x with
  | zero => exact h
  | succ n ih =>
    unfold Dies.pump
    repeat' (first
      | with_reducible assumption
      | (with_reducible apply ih)
      | with_reducible apply Dies.serveOne_kept
      | with_reducible apply Dies.safety_kept
      | with_reducible apply SafetyDie.setSession_kept
      | with_reducible apply SafetyDie.endSession_kept
      | split
      | (intro _))

/-- A fold of operations that keep the limits keeps them. -/
theorem Dies.foldl_kept {α : Type} (l : List α) (x : Dies) (f : Dies → α → Dies) (h : x.sd.Kept lim low)
    (hf : ∀ (y : Dies) (a : α), y.sd.Kept lim low → (f y a).sd.Kept lim low) : (l.foldl f x).sd.Kept lim low := by
  induction l generalizing x with
  | nil => exact h
  | cons a l ih => exact ih _ (hf _ _ h)

theorem Dies.pumpAll_kept (x : Dies) (h : x.sd.Kept lim low) : (Dies.pumpAll x).sd.Kept lim low := by
  exact Dies.foldl_kept _ _ _ h (fun _ _ hy => Dies.pump_kept _ _ _ hy)

theorem Dies.accept_kept (x : Dies) (slot : Nat) (ses0 : Session) (r : Req) (tag : Octets) (h : x.sd.Kept lim low) : (Dies.accept x slot ses0 r tag).sd.Kept lim low := by
  unfold Dies.accept
  try dsimp only
  repeat' (first
    | with_reducible assumption
    | with_reducible apply Dies.pump_kept
    | with_reducible apply Dies.safety_kept
    | with_reducible apply SafetyDie.bump_kept
    | with_reducible apply SafetyDie.endSession_kept
    | with_reducible apply SafetyDie.respond_kept
    | with_reducible apply SafetyDie.sendOd_kept
    | with_reducible apply SafetyDie.setSession_kept
    | with_reducible apply SafetyDie.foldl_kept
    | (simp only [↓SafetyDie.kept_mk]; refine ⟨?_, ?_, ?_⟩)
    | with_reducible apply SafetyDie.Kept.log_le (lim := lim) (low := low)
    | with_reducible apply SafetyDie.Kept.staged_le (lim := lim) (low := low)
    | with_reducible apply SafetyDie.Kept.le_floor (lim := lim) (low := low)
    | split
    | (intro _)
    | (rw [id_eq])
    | (simp; done))

theorem Dies.awakeSlot_kept (x : Dies) (slot : Nat) (h : x.sd.Kept lim low) : (Dies.awakeSlot x slot).sd.Kept lim low := by
  unfold Dies.awakeSlot
  try dsimp only
  repeat' (first
    | with_reducible assumption
    | with_reducible apply Dies.safety_kept
    | with_reducible apply SafetyDie.endSession_kept
    | with_reducible apply SafetyDie.foldl_kept
    | (simp only [↓SafetyDie.kept_mk]; refine ⟨?_, ?_, ?_⟩)
    | with_reducible apply SafetyDie.Kept.log_le (lim := lim) (low := low)
    | with_reducible apply SafetyDie.Kept.staged_le (lim := lim) (low := low)
    | with_reducible apply SafetyDie.Kept.le_floor (lim := lim) (low := low)
    | split
    | (intro _)
    | (rw [id_eq])
    | (simp; done))

theorem Dies.message_kept (x0 : Dies) (path origin : Nat) (b : Octets) (h : x0.sd.Kept lim low) : (Dies.message x0 path origin b).sd.Kept lim low := by
  unfold Dies.message
  try dsimp only
  repeat' (first
    | with_reducible assumption
    | with_reducible apply Dies.accept_kept
    | with_reducible apply Dies.awakeSlot_kept
    | with_reducible apply Dies.safety_kept
    | with_reducible apply SafetyDie.tagFailed_kept
    | with_reducible apply SafetyDie.foldl_kept
    | (simp only [↓SafetyDie.kept_mk]; refine ⟨?_, ?_, ?_⟩)
    | with_reducible apply SafetyDie.Kept.log_le (lim := lim) (low := low)
    | with_reducible apply SafetyDie.Kept.staged_le (lim := lim) (low := low)
    | with_reducible apply SafetyDie.Kept.le_floor (lim := lim) (low := low)
    | split
    | (intro _)
    | (rw [id_eq])
    | (simp; done))

theorem Dies.dispatch_kept (x : Dies) (path origin : Nat) (b : Octets) (h : x.sd.Kept lim low) : (Dies.dispatch x path origin b).sd.Kept lim low := by
  unfold Dies.dispatch
  try dsimp only
  repeat' (first
    | with_reducible assumption
    | with_reducible apply Dies.message_kept
    | with_reducible apply SafetyDie.hello_kept
    | with_reducible apply SafetyDie.proof_kept
    | with_reducible apply SafetyDie.foldl_kept
    | (simp only [↓SafetyDie.kept_mk]; refine ⟨?_, ?_, ?_⟩)
    | with_reducible apply SafetyDie.Kept.log_le (lim := lim) (low := low)
    | with_reducible apply SafetyDie.Kept.staged_le (lim := lim) (low := low)
    | with_reducible apply SafetyDie.Kept.le_floor (lim := lim) (low := low)
    | split
    | (intro _)
    | (rw [id_eq])
    | (simp; done))

theorem Dies.odIn_kept (x : Dies) (kind path origin seq : Nat) (b : Octets) (h : x.sd.Kept lim low) : (Dies.odIn x kind path origin seq b).sd.Kept lim low := by
  unfold Dies.odIn
  try dsimp only
  repeat' (first
    | with_reducible assumption
    | with_reducible apply Dies.dispatch_kept
    | with_reducible apply Dies.safety_kept
    | with_reducible apply SafetyDie.groupAdmit_kept
    | with_reducible apply SafetyDie.foldl_kept
    | (simp only [↓SafetyDie.kept_mk]; refine ⟨?_, ?_, ?_⟩)
    | with_reducible apply SafetyDie.Kept.log_le (lim := lim) (low := low)
    | with_reducible apply SafetyDie.Kept.staged_le (lim := lim) (low := low)
    | with_reducible apply SafetyDie.Kept.le_floor (lim := lim) (low := low)
    | split
    | (intro _)
    | (rw [id_eq])
    | (simp; done))

theorem Dies.requestOf_kept (x0 : Dies) (slot kind key offset : Nat) (data : Octets) (image : Option ImageBody) (last : Bool) (h : x0.sd.Kept lim low) : (Dies.requestOf x0 slot kind key offset data image last).sd.Kept lim low := by
  unfold Dies.requestOf
  try dsimp only
  repeat' (first
    | with_reducible assumption
    | with_reducible apply Dies.accept_kept
    | with_reducible apply Dies.awakeSlot_kept
    | with_reducible apply SafetyDie.foldl_kept
    | (simp only [↓SafetyDie.kept_mk]; refine ⟨?_, ?_, ?_⟩)
    | with_reducible apply SafetyDie.Kept.log_le (lim := lim) (low := low)
    | with_reducible apply SafetyDie.Kept.staged_le (lim := lim) (low := low)
    | with_reducible apply SafetyDie.Kept.le_floor (lim := lim) (low := low)
    | split
    | (intro _)
    | (rw [id_eq])
    | (simp; done))

theorem Dies.writeEntry_kept (x : Dies) (slot : Nat) (r : OdRow) (i v : Nat) (h : x.sd.Kept lim low) : (Dies.writeEntry x slot r i v).sd.Kept lim low := by
  unfold Dies.writeEntry
  try dsimp only
  repeat' (first
    | with_reducible assumption
    | with_reducible apply Dies.requestOf_kept
    | with_reducible apply SafetyDie.foldl_kept
    | (simp only [↓SafetyDie.kept_mk]; refine ⟨?_, ?_, ?_⟩)
    | with_reducible apply SafetyDie.Kept.log_le (lim := lim) (low := low)
    | with_reducible apply SafetyDie.Kept.staged_le (lim := lim) (low := low)
    | with_reducible apply SafetyDie.Kept.le_floor (lim := lim) (low := low)
    | split
    | (intro _)
    | (rw [id_eq])
    | (simp; done))

theorem Dies.writeOctets_kept (x : Dies) (slot : Nat) (r : OdRow) (i : Nat) (b : Octets) (h : x.sd.Kept lim low) : (Dies.writeOctets x slot r i b).sd.Kept lim low := by
  unfold Dies.writeOctets
  try dsimp only
  repeat' (first
    | with_reducible assumption
    | with_reducible apply Dies.requestOf_kept
    | with_reducible apply SafetyDie.foldl_kept
    | (simp only [↓SafetyDie.kept_mk]; refine ⟨?_, ?_, ?_⟩)
    | with_reducible apply SafetyDie.Kept.log_le (lim := lim) (low := low)
    | with_reducible apply SafetyDie.Kept.staged_le (lim := lim) (low := low)
    | with_reducible apply SafetyDie.Kept.le_floor (lim := lim) (low := low)
    | split
    | (intro _)
    | (rw [id_eq])
    | (simp; done))

theorem Dies.writeBody_kept (x : Dies) (slot : Nat) (r : OdRow) (i : Nat) (b : ImageBody) (last : Bool) (h : x.sd.Kept lim low) : (Dies.writeBody x slot r i b last).sd.Kept lim low := by
  unfold Dies.writeBody
  try dsimp only
  repeat' (first
    | with_reducible assumption
    | with_reducible apply Dies.requestOf_kept
    | with_reducible apply SafetyDie.foldl_kept
    | (simp only [↓SafetyDie.kept_mk]; refine ⟨?_, ?_, ?_⟩)
    | with_reducible apply SafetyDie.Kept.log_le (lim := lim) (low := low)
    | with_reducible apply SafetyDie.Kept.staged_le (lim := lim) (low := low)
    | with_reducible apply SafetyDie.Kept.le_floor (lim := lim) (low := low)
    | split
    | (intro _)
    | (rw [id_eq])
    | (simp; done))

theorem SafetyDie.idleTimeout_kept (s : SafetyDie) (slot : Nat) (h : s.Kept lim low) : (SafetyDie.idleTimeout s slot).Kept lim low := by
  unfold SafetyDie.idleTimeout
  try dsimp only
  repeat' (first
    | with_reducible assumption
    | with_reducible apply SafetyDie.endSession_kept
    | with_reducible apply SafetyDie.foldl_kept
    | (simp only [↓SafetyDie.kept_mk]; refine ⟨?_, ?_, ?_⟩)
    | with_reducible apply SafetyDie.Kept.log_le (lim := lim) (low := low)
    | with_reducible apply SafetyDie.Kept.staged_le (lim := lim) (low := low)
    | with_reducible apply SafetyDie.Kept.le_floor (lim := lim) (low := low)
    | split
    | (intro _)
    | (rw [id_eq])
    | (simp; done))

theorem Dies.storeDone_kept (x : Dies) (ok : Bool) (h : x.sd.Kept lim low) : (Dies.storeDone x ok).sd.Kept lim low := by
  unfold Dies.storeDone
  try dsimp only
  repeat' (first
    | with_reducible assumption
    | with_reducible apply Dies.pumpAll_kept
    | with_reducible apply Dies.setBoth_kept
    | with_reducible apply SafetyDie.answerBusy_kept
    | with_reducible apply SafetyDie.undoStore_kept
    | with_reducible apply SafetyDie.undoStores_kept
    | with_reducible apply SafetyDie.writeStore_kept
    | with_reducible apply SafetyDie.foldl_kept
    | (simp only [↓SafetyDie.kept_mk]; refine ⟨?_, ?_, ?_⟩)
    | with_reducible apply SafetyDie.Kept.log_le (lim := lim) (low := low)
    | with_reducible apply SafetyDie.Kept.staged_le (lim := lim) (low := low)
    | with_reducible apply SafetyDie.Kept.le_floor (lim := lim) (low := low)
    | split
    | (intro _)
    | (rw [id_eq])
    | (simp; done))

theorem Dies.commitStored_kept (x : Dies) (ok : Bool) (h : x.sd.Kept lim low) : (Dies.commitStored x ok).sd.Kept lim low := by
  unfold Dies.commitStored
  try dsimp only
  repeat' (first
    | with_reducible assumption
    | with_reducible apply Dies.pumpAll_kept
    | with_reducible apply Dies.safety_kept
    | with_reducible apply SafetyDie.commitStored_kept
    | with_reducible apply SafetyDie.foldl_kept
    | (simp only [↓SafetyDie.kept_mk]; refine ⟨?_, ?_, ?_⟩)
    | with_reducible apply SafetyDie.Kept.log_le (lim := lim) (low := low)
    | with_reducible apply SafetyDie.Kept.staged_le (lim := lim) (low := low)
    | with_reducible apply SafetyDie.Kept.le_floor (lim := lim) (low := low)
    | split
    | (intro _)
    | (rw [id_eq])
    | (simp; done))

theorem Dies.imageStored_kept (x : Dies) (ok : Bool) (h : x.sd.Kept lim low) : (Dies.imageStored x ok).sd.Kept lim low := by
  unfold Dies.imageStored
  try dsimp only
  repeat' (first
    | with_reducible assumption
    | with_reducible apply Dies.follow_kept
    | with_reducible apply Dies.pumpAll_kept
    | with_reducible apply SafetyDie.answerBusy_kept
    | with_reducible apply SafetyDie.warmRestart_kept
    | with_reducible apply SafetyDie.foldl_kept
    | (simp only [↓SafetyDie.kept_mk]; refine ⟨?_, ?_, ?_⟩)
    | with_reducible apply SafetyDie.Kept.log_le (lim := lim) (low := low)
    | with_reducible apply SafetyDie.Kept.staged_le (lim := lim) (low := low)
    | with_reducible apply SafetyDie.Kept.le_floor (lim := lim) (low := low)
    | split
    | (intro _)
    | (rw [id_eq])
    | (simp; done))

theorem Dies.plainUpload_kept (x : Dies) (bus idx sub : Nat) (h : x.sd.Kept lim low) : (Dies.plainUpload x bus idx sub).sd.Kept lim low := by
  unfold Dies.plainUpload
  try dsimp only
  repeat' (first
    | with_reducible assumption
    | with_reducible apply SafetyDie.put_kept
    | with_reducible apply SafetyDie.foldl_kept
    | (simp only [↓SafetyDie.kept_mk]; refine ⟨?_, ?_, ?_⟩)
    | with_reducible apply SafetyDie.Kept.log_le (lim := lim) (low := low)
    | with_reducible apply SafetyDie.Kept.staged_le (lim := lim) (low := low)
    | with_reducible apply SafetyDie.Kept.le_floor (lim := lim) (low := low)
    | split
    | (intro _)
    | (rw [id_eq])
    | (simp; done))

theorem Dies.marginDue_kept (x : Dies) (h : x.sd.Kept lim low) : (Dies.marginDue x).sd.Kept lim low := by
  unfold Dies.marginDue
  try dsimp only
  repeat' (first
    | with_reducible assumption
    | with_reducible apply Dies.marginTry_kept
    | with_reducible apply SafetyDie.foldl_kept
    | (simp only [↓SafetyDie.kept_mk]; refine ⟨?_, ?_, ?_⟩)
    | with_reducible apply SafetyDie.Kept.log_le (lim := lim) (low := low)
    | with_reducible apply SafetyDie.Kept.staged_le (lim := lim) (low := low)
    | with_reducible apply SafetyDie.Kept.le_floor (lim := lim) (low := low)
    | split
    | (intro _)
    | (rw [id_eq])
    | (simp; done))

theorem Dies.marginAgain_kept (x : Dies) (h : x.sd.Kept lim low) : (Dies.marginAgain x).sd.Kept lim low := by
  unfold Dies.marginAgain
  try dsimp only
  repeat' (first
    | with_reducible assumption
    | with_reducible apply SafetyDie.foldl_kept
    | (simp only [↓SafetyDie.kept_mk]; refine ⟨?_, ?_, ?_⟩)
    | with_reducible apply SafetyDie.Kept.log_le (lim := lim) (low := low)
    | with_reducible apply SafetyDie.Kept.staged_le (lim := lim) (low := low)
    | with_reducible apply SafetyDie.Kept.le_floor (lim := lim) (low := low)
    | split
    | (intro _)
    | (rw [id_eq])
    | (simp; done))

theorem Dies.marginRetry_kept (x : Dies) (h : x.sd.Kept lim low) : (Dies.marginRetry x).sd.Kept lim low := by
  unfold Dies.marginRetry
  try dsimp only
  repeat' (first
    | with_reducible assumption
    | with_reducible apply Dies.marginAgain_kept
    | with_reducible apply Dies.marginTry_kept
    | with_reducible apply SafetyDie.foldl_kept
    | (simp only [↓SafetyDie.kept_mk]; refine ⟨?_, ?_, ?_⟩)
    | with_reducible apply SafetyDie.Kept.log_le (lim := lim) (low := low)
    | with_reducible apply SafetyDie.Kept.staged_le (lim := lim) (low := low)
    | with_reducible apply SafetyDie.Kept.le_floor (lim := lim) (low := low)
    | split
    | (intro _)
    | (rw [id_eq])
    | (simp; done))

theorem Dies.marginRestored_kept (x : Dies) (h : x.sd.Kept lim low) : (Dies.marginRestored x).sd.Kept lim low := by
  unfold Dies.marginRestored
  try dsimp only
  repeat' (first
    | with_reducible assumption
    | with_reducible apply Dies.marginTry_kept
    | with_reducible apply SafetyDie.setGuest_kept
    | with_reducible apply SafetyDie.foldl_kept
    | (simp only [↓SafetyDie.kept_mk]; refine ⟨?_, ?_, ?_⟩)
    | with_reducible apply SafetyDie.Kept.log_le (lim := lim) (low := low)
    | with_reducible apply SafetyDie.Kept.staged_le (lim := lim) (low := low)
    | with_reducible apply SafetyDie.Kept.le_floor (lim := lim) (low := low)
    | split
    | (intro _)
    | (rw [id_eq])
    | (simp; done))

theorem Dies.batchSigned_kept (x : Dies) (h : x.sd.Kept lim low) : (Dies.batchSigned x).sd.Kept lim low := by
  unfold Dies.batchSigned
  try dsimp only
  repeat' (first
    | with_reducible assumption
    | with_reducible apply Dies.attest_kept
    | with_reducible apply SafetyDie.setGuest_kept
    | with_reducible apply SafetyDie.foldl_kept
    | (simp only [↓SafetyDie.kept_mk]; refine ⟨?_, ?_, ?_⟩)
    | with_reducible apply SafetyDie.Kept.log_le (lim := lim) (low := low)
    | with_reducible apply SafetyDie.Kept.staged_le (lim := lim) (low := low)
    | with_reducible apply SafetyDie.Kept.le_floor (lim := lim) (low := low)
    | split
    | (intro _)
    | (rw [id_eq])
    | (simp; done))

theorem Dies.attestSigned_kept (x : Dies) (h : x.sd.Kept lim low) : (Dies.attestSigned x).sd.Kept lim low := by
  unfold Dies.attestSigned
  try dsimp only
  repeat' (first
    | with_reducible assumption
    | with_reducible apply Dies.attest_kept
    | with_reducible apply SafetyDie.foldl_kept
    | (simp only [↓SafetyDie.kept_mk]; refine ⟨?_, ?_, ?_⟩)
    | with_reducible apply SafetyDie.Kept.log_le (lim := lim) (low := low)
    | with_reducible apply SafetyDie.Kept.staged_le (lim := lim) (low := low)
    | with_reducible apply SafetyDie.Kept.le_floor (lim := lim) (low := low)
    | split
    | (intro _)
    | (rw [id_eq])
    | (simp; done))

theorem Dies.durationEnd_kept (x : Dies) (j : Nat) (h : x.sd.Kept lim low) : (Dies.durationEnd x j).sd.Kept lim low := by
  unfold Dies.durationEnd
  try dsimp only
  repeat' (first
    | with_reducible assumption
    | with_reducible apply Dies.check_kept
    | with_reducible apply Dies.safety_kept
    | with_reducible apply SafetyDie.disarmInjector_kept
    | with_reducible apply SafetyDie.foldl_kept
    | (simp only [↓SafetyDie.kept_mk]; refine ⟨?_, ?_, ?_⟩)
    | with_reducible apply SafetyDie.Kept.log_le (lim := lim) (low := low)
    | with_reducible apply SafetyDie.Kept.staged_le (lim := lim) (low := low)
    | with_reducible apply SafetyDie.Kept.le_floor (lim := lim) (low := low)
    | split
    | (intro _)
    | (rw [id_eq])
    | (simp; done))

theorem Dies.heldRelease_kept (x : Dies) (j : Nat) (h : x.sd.Kept lim low) : (Dies.heldRelease x j).sd.Kept lim low := by
  unfold Dies.heldRelease
  try dsimp only
  repeat' (first
    | with_reducible assumption
    | with_reducible apply Dies.check_kept
    | with_reducible apply Dies.safety_kept
    | with_reducible apply SafetyDie.releaseNow_kept
    | with_reducible apply SafetyDie.foldl_kept
    | (simp only [↓SafetyDie.kept_mk]; refine ⟨?_, ?_, ?_⟩)
    | with_reducible apply SafetyDie.Kept.log_le (lim := lim) (low := low)
    | with_reducible apply SafetyDie.Kept.staged_le (lim := lim) (low := low)
    | with_reducible apply SafetyDie.Kept.le_floor (lim := lim) (low := low)
    | split
    | (intro _)
    | (rw [id_eq])
    | (simp; done))

theorem Dies.train_kept (x : Dies) (toCheck crcOk : Bool) (h : x.sd.Kept lim low) : (Dies.train x toCheck crcOk).sd.Kept lim low := by
  unfold Dies.train
  try dsimp only
  repeat' (first
    | with_reducible assumption
    | with_reducible apply Dies.safety_kept
    | with_reducible apply SafetyDie.sendTime_kept
    | with_reducible apply SafetyDie.trainIn_kept
    | with_reducible apply SafetyDie.foldl_kept
    | (simp only [↓SafetyDie.kept_mk]; refine ⟨?_, ?_, ?_⟩)
    | with_reducible apply SafetyDie.Kept.log_le (lim := lim) (low := low)
    | with_reducible apply SafetyDie.Kept.staged_le (lim := lim) (low := low)
    | with_reducible apply SafetyDie.Kept.le_floor (lim := lim) (low := low)
    | split
    | (intro _)
    | (rw [id_eq])
    | (simp; done))

theorem SafetyDie.linkAcks_kept (s : SafetyDie) (gts ack : Nat) (nak : Bool) (expected : Nat) (h : s.Kept lim low) : (SafetyDie.linkAcks s gts ack nak expected).Kept lim low := by
  unfold SafetyDie.linkAcks
  try dsimp only
  repeat' (first
    | with_reducible assumption
    | with_reducible apply SafetyDie.commitAcked_kept
    | with_reducible apply SafetyDie.linkIn_kept
    | with_reducible apply SafetyDie.foldl_kept
    | (simp only [↓SafetyDie.kept_mk]; refine ⟨?_, ?_, ?_⟩)
    | with_reducible apply SafetyDie.Kept.log_le (lim := lim) (low := low)
    | with_reducible apply SafetyDie.Kept.staged_le (lim := lim) (low := low)
    | with_reducible apply SafetyDie.Kept.le_floor (lim := lim) (low := low)
    | split
    | (intro _)
    | (rw [id_eq])
    | (simp; done))

theorem Dies.linkFlit_kept (x : Dies) (toCheck : Bool) (ack : Nat) (nak : Bool) (expected : Nat) (h : x.sd.Kept lim low) : (Dies.linkFlit x toCheck ack nak expected).sd.Kept lim low := by
  unfold Dies.linkFlit
  try dsimp only
  repeat' (first
    | with_reducible assumption
    | with_reducible apply Dies.onSafetyLink_kept
    | with_reducible apply Dies.pumpAll_kept
    | with_reducible apply SafetyDie.linkAcks_kept
    | with_reducible apply SafetyDie.linkIn_kept
    | with_reducible apply SafetyDie.foldl_kept
    | (simp only [↓SafetyDie.kept_mk]; refine ⟨?_, ?_, ?_⟩)
    | with_reducible apply SafetyDie.Kept.log_le (lim := lim) (low := low)
    | with_reducible apply SafetyDie.Kept.staged_le (lim := lim) (low := low)
    | with_reducible apply SafetyDie.Kept.le_floor (lim := lim) (low := low)
    | split
    | (intro _)
    | (rw [id_eq])
    | (simp; done))

theorem Dies.refreshImage_kept (x : Dies) (h : x.sd.Kept lim low) : (Dies.refreshImage x).sd.Kept lim low := by
  unfold Dies.refreshImage
  try dsimp only
  repeat' (first
    | with_reducible assumption
    | with_reducible apply Dies.check_kept
    | with_reducible apply SafetyDie.foldl_kept
    | (simp only [↓SafetyDie.kept_mk]; refine ⟨?_, ?_, ?_⟩)
    | with_reducible apply SafetyDie.Kept.log_le (lim := lim) (low := low)
    | with_reducible apply SafetyDie.Kept.staged_le (lim := lim) (low := low)
    | with_reducible apply SafetyDie.Kept.le_floor (lim := lim) (low := low)
    | split
    | (intro _)
    | (rw [id_eq])
    | (simp; done))

theorem Dies.resetEnded_kept (x : Dies) (bad fails : List (Nat × Nat)) (h : x.sd.Kept lim low) : (Dies.resetEnded x bad fails).sd.Kept lim low := by
  unfold Dies.resetEnded
  try dsimp only
  repeat' (first
    | with_reducible assumption
    | with_reducible apply Dies.pumpAll_kept
    | with_reducible apply Dies.resetEnd_kept
    | with_reducible apply SafetyDie.foldl_kept
    | (simp only [↓SafetyDie.kept_mk]; refine ⟨?_, ?_, ?_⟩)
    | with_reducible apply SafetyDie.Kept.log_le (lim := lim) (low := low)
    | with_reducible apply SafetyDie.Kept.staged_le (lim := lim) (low := low)
    | with_reducible apply SafetyDie.Kept.le_floor (lim := lim) (low := low)
    | split
    | (intro _)
    | (rw [id_eq])
    | (simp; done))

theorem SafetyDie.pcieReset_kept (s : SafetyDie) (h : s.Kept lim low) : (SafetyDie.pcieReset s).Kept lim low := by
  unfold SafetyDie.pcieReset
  try dsimp only
  repeat' (first
    | with_reducible assumption
    | with_reducible apply SafetyDie.dropInjectors_kept
    | with_reducible apply SafetyDie.foldl_kept
    | (simp only [↓SafetyDie.kept_mk]; refine ⟨?_, ?_, ?_⟩)
    | with_reducible apply SafetyDie.Kept.log_le (lim := lim) (low := low)
    | with_reducible apply SafetyDie.Kept.staged_le (lim := lim) (low := low)
    | with_reducible apply SafetyDie.Kept.le_floor (lim := lim) (low := low)
    | split
    | (intro _)
    | (rw [id_eq])
    | (simp; done))

theorem Dies.supplyTrip_kept (x : Dies) (h : x.sd.Kept lim low) : (Dies.supplyTrip x).sd.Kept lim low := by
  unfold Dies.supplyTrip
  try dsimp only
  repeat' (first
    | with_reducible assumption
    | with_reducible apply Dies.check_kept
    | with_reducible apply Dies.safety_kept
    | with_reducible apply SafetyDie.supplyTrip_kept
    | with_reducible apply SafetyDie.foldl_kept
    | (simp only [↓SafetyDie.kept_mk]; refine ⟨?_, ?_, ?_⟩)
    | with_reducible apply SafetyDie.Kept.log_le (lim := lim) (low := low)
    | with_reducible apply SafetyDie.Kept.staged_le (lim := lim) (low := low)
    | with_reducible apply SafetyDie.Kept.le_floor (lim := lim) (low := low)
    | split
    | (intro _)
    | (rw [id_eq])
    | (simp; done))

theorem Dies.selfRefresh_kept (x : Dies) (h : x.sd.Kept lim low) : (Dies.selfRefresh x).sd.Kept lim low := by
  unfold Dies.selfRefresh
  try dsimp only
  repeat' (first
    | with_reducible assumption
    | with_reducible apply Dies.safety_kept
    | with_reducible apply SafetyDie.selfRefresh_kept
    | with_reducible apply SafetyDie.foldl_kept
    | (simp only [↓SafetyDie.kept_mk]; refine ⟨?_, ?_, ?_⟩)
    | with_reducible apply SafetyDie.Kept.log_le (lim := lim) (low := low)
    | with_reducible apply SafetyDie.Kept.staged_le (lim := lim) (low := low)
    | with_reducible apply SafetyDie.Kept.le_floor (lim := lim) (low := low)
    | split
    | (intro _)
    | (rw [id_eq])
    | (simp; done))

theorem Dies.functionReset_kept (x : Dies) (h : x.sd.Kept lim low) : (Dies.functionReset x).sd.Kept lim low := by
  unfold Dies.functionReset
  try dsimp only
  repeat' (first
    | with_reducible assumption
    | with_reducible apply Dies.safety_kept
    | with_reducible apply SafetyDie.pcieReset_kept
    | with_reducible apply SafetyDie.foldl_kept
    | (simp only [↓SafetyDie.kept_mk]; refine ⟨?_, ?_, ?_⟩)
    | with_reducible apply SafetyDie.Kept.log_le (lim := lim) (low := low)
    | with_reducible apply SafetyDie.Kept.staged_le (lim := lim) (low := low)
    | with_reducible apply SafetyDie.Kept.le_floor (lim := lim) (low := low)
    | split
    | (intro _)
    | (rw [id_eq])
    | (simp; done))

theorem Dies.perstLevel_kept (x : Dies) (pin : Bool) (h : x.sd.Kept lim low) : (Dies.perstLevel x pin).sd.Kept lim low := by
  unfold Dies.perstLevel
  try dsimp only
  repeat' (first
    | with_reducible assumption
    | with_reducible apply Dies.safety_kept
    | with_reducible apply SafetyDie.pcieReset_kept
    | with_reducible apply SafetyDie.foldl_kept
    | (simp only [↓SafetyDie.kept_mk]; refine ⟨?_, ?_, ?_⟩)
    | with_reducible apply SafetyDie.Kept.log_le (lim := lim) (low := low)
    | with_reducible apply SafetyDie.Kept.staged_le (lim := lim) (low := low)
    | with_reducible apply SafetyDie.Kept.le_floor (lim := lim) (low := low)
    | split
    | (intro _)
    | (rw [id_eq])
    | (simp; done))

end Sys2Proof.Machine
end

