-- ==== Sys2Proof/Laws/Ops.lean ====
section
/-! SUPPORT. What each shared operation of Machine/Ops.lean can do, said once. -/

namespace Sys2Proof.Machine

open Host

/-- What a command that reaches the check die alone may have done: the queue and, its clock aside, the safety die stay; a check die that does
not run stays too. -/
def State.OnlyCheck (s : State) (t : Nat) (s' : State) : Prop :=
  s'.pending = s.pending ∧ s'.dies.sd = s.dies.sd.tick t ∧ (¬ s.Runs → s'.dies.cd = s.dies.cd.tick t)

/-- An update of the check die while it runs leaves the safety die. -/
@[simp] theorem Dies.check_sd (x : Dies) (f : CheckDie → CheckDie) : (x.check f).sd = x.sd := by
  unfold Dies.check; split <;> rfl

/-- An update of the check die acts while it runs. -/
theorem Dies.check_runs (x : Dies) (f : CheckDie → CheckDie) (h : x.cd.runs = true) : x.check f = { x with cd := f x.cd } := by
  unfold Dies.check; rw [if_pos h]

/-- A check die that does not run is left alone. -/
theorem Dies.check_rests (x : Dies) (f : CheckDie → CheckDie) (h : x.cd.runs = false) : x.check f = x := by
  unfold Dies.check; rw [if_neg (by simp [h])]

/-- Commands always answer a next state, of the dies alone. -/
theorem State.act_next (s : State) (t : Nat) (f : Dies → Dies) (s' : State) (h : s.act t f = .next s') :
    s'.pending = s.pending ∧ s'.dies = f (s.dies.tick t) := by
  simp only [State.act, Outcome.next.injEq] at h
  subst h
  exact ⟨rfl, rfl⟩

/-- A command that acts on the check die, or does nothing, does no more than that. -/
theorem State.onlyCheck_of (s : State) (t : Nat) (f : CheckDie → CheckDie) (s' : State) (hp : s'.pending = s.pending)
    (h : s'.dies = (s.dies.tick t).check f ∨ s'.dies = s.dies.tick t) : s.OnlyCheck t s' := by
  rcases h with h | h
  · refine ⟨hp, by rw [h]; exact Dies.check_sd _ _, fun hr => ?_⟩
    rw [h, Dies.check_rests _ _ (by simpa [State.Runs, Dies.tick] using hr)]
    rfl
  · exact ⟨hp, by rw [h]; rfl, fun _ => by rw [h]; rfl⟩

/-- A happening of the check die. -/
theorem State.onCheck_next (s : State) (t : Nat) (f : CheckDie → CheckDie) (s' : State) (h : s.onCheck t f = .next s') :
    s.OnlyCheck t s' := by
  obtain ⟨h1, h2⟩ := State.act_next _ _ _ _ h
  exact State.onlyCheck_of s t f s' h1 (.inl h2)

/-- A happening at an instance of the check die's. -/
theorem State.onCheckIf_next (s : State) (t : Nat) (c : Prop) [Decidable c] (f : CheckDie → CheckDie) (s' : State)
    (h : s.onCheckIf t c f = .next s') : s.OnlyCheck t s' := by
  obtain ⟨h1, h2⟩ := State.act_next _ _ _ _ h
  refine State.onlyCheck_of s t f s' h1 ?_
  split at h2
  · exact .inl h2
  · exact .inr h2

/-- An access of the host. -/
theorem State.onHost_next (s : State) (t : Nat) (f : CheckDie → CheckDie) (s' : State) (h : s.onHost t f = .next s') :
    s.OnlyCheck t s' := by
  obtain ⟨h1, h2⟩ := State.act_next _ _ _ _ h
  refine State.onlyCheck_of s t f s' h1 ?_
  split at h2
  · exact .inr h2
  · exact .inl h2

/-- An access of the host to an instance. -/
theorem State.onHostIf_next (s : State) (t : Nat) (c : Prop) [Decidable c] (f : CheckDie → CheckDie) (s' : State)
    (h : s.onHostIf t c f = .next s') : s.OnlyCheck t s' := by
  obtain ⟨h1, h2⟩ := State.act_next _ _ _ _ h
  refine State.onlyCheck_of s t f s' h1 ?_
  split at h2
  · exact .inr h2
  · exact .inl h2

/-- The device state and SD_CD_KILL of the safety die that follows an update are those of the update. -/
theorem Dies.follow_device (x : Dies) (y : SafetyDie) :
    (x.follow y).sd.device = ((y.runClock x.sd.device).permitFollow 5).device ∧
      (x.follow y).sd.kill = ((y.runClock x.sd.device).permitFollow 5).kill := by
  unfold Dies.follow
  dsimp only
  split <;> exact ⟨rfl, rfl⟩

/-- What follows from an update of the safety die leaves the check die, unless the device state changes or SD_CD_KILL is asserted
(R257, R427). -/
theorem Dies.follow_cd (x : Dies) (y : SafetyDie) (hd : (x.follow y).sd.device = x.sd.device)
    (hk : (x.follow y).sd.kill.on = true → x.sd.kill.on = true) : (x.follow y).cd = x.cd := by
  rw [(Dies.follow_device x y).1] at hd
  rw [(Dies.follow_device x y).2] at hk
  unfold Dies.follow
  dsimp only
  have h1 : (((y.runClock x.sd.device).permitFollow 5).kill.on && !x.sd.kill.on) = false := by
    cases hkk : ((y.runClock x.sd.device).permitFollow 5).kill.on with
    | false => rfl
    | true => simp [hk hkk]
  simp [h1, hd]

/-- What a command of the safety die may have done: the queue stays, and the check die, its clock aside, unless the device state changes
or SD_CD_KILL is asserted. -/
def State.OnlySafety (s : State) (t : Nat) (s' : State) : Prop :=
  s'.pending = s.pending ∧
    (s'.dies.sd.device = s.dies.sd.device → (s'.dies.sd.kill.on = true → s.dies.sd.kill.on = true) →
      s'.dies.cd = s.dies.cd.tick t)

/-- A happening of the safety die. -/
theorem State.onSafety_next (s : State) (t : Nat) (f : SafetyDie → SafetyDie) (s' : State) (h : s.onSafety t f = .next s') :
    s.OnlySafety t s' := by
  obtain ⟨h1, h2⟩ := State.act_next _ _ _ _ h
  refine ⟨h1, fun hd hk => ?_⟩
  rw [h2] at hd hk ⊢
  exact Dies.follow_cd (s.dies.tick t) _ hd hk

/-- A happening at an instance of the safety die's. -/
theorem State.onSafetyIf_next (s : State) (t : Nat) (c : Prop) [Decidable c] (f : SafetyDie → SafetyDie) (s' : State)
    (h : s.onSafetyIf t c f = .next s') : s.OnlySafety t s' := by
  by_cases hc : c
  · exact State.onSafety_next s t f s' (by simpa [State.onSafetyIf, State.onSafety, State.act, hc] using h)
  · obtain ⟨h1, h2⟩ := State.act_next _ _ _ _ h
    exact ⟨h1, fun _ _ => by rw [h2, if_neg hc]; rfl⟩

/-- A flit toward the safety die. -/
theorem State.onSafetyLink_next (s : State) (t : Nat) (f : SafetyDie → SafetyDie) (s' : State) (h : s.onSafetyLink t f = .next s') :
    s.OnlySafety t s' := by
  obtain ⟨h1, h2⟩ := State.act_next _ _ _ _ h
  refine ⟨h1, fun hd hk => ?_⟩
  rw [h2] at hd hk ⊢
  unfold Dies.onSafetyLink Dies.onSafety at hd hk ⊢
  simp only at hd hk ⊢
  split
  · rename_i e
    rw [if_pos e] at hd hk
    exact Dies.follow_cd (s.dies.tick t) _ hd hk
  · rename_i e
    rw [if_neg e] at hd hk
    exact Dies.follow_cd (s.dies.tick t) _ hd hk

/-- A flit toward the check die leaves the queue. -/
theorem State.onCheckLink_next (s : State) (t : Nat) (f : CheckDie → CheckDie) (s' : State) (h : s.onCheckLink t f = .next s') :
    s'.pending = s.pending ∧ s'.dies = (s.dies.tick t).onCheckLink t f := State.act_next _ _ _ _ h

end Sys2Proof.Machine
end

