-- ==== Sys2Proof/Laws/Requests.lean ====
section
/-! SUPPORT. What an accepted request of a session does: taken, served, answered. -/

namespace Sys2Proof.Machine

/-- A session written to its slot is there. -/
@[simp] theorem SafetyDie.session_setSession (s : SafetyDie) (i : Nat) (x : Session) :
    (s.setSession i (some x)).session i = some x :=
  Tbl.get_set_same none s.sessions i (some x) (by simp)

/-- The later of two writes to a slot stands. -/
@[simp] theorem SafetyDie.setSession_setSession (s : SafetyDie) (i : Nat) (x y : Session) :
    (s.setSession i (some x)).setSession i (some y) = s.setSession i (some y) := by
  simp only [SafetyDie.setSession]
  rw [Tbl.set_set none s.sessions i (some x) (some y) (by simp) (by simp)]

/-- The one waiting request of a session that is not busy is served. -/
theorem Dies.pump_one (x : Dies) (slot : Nat) (y : Session) (r : Req) (hb : y.busy = none) (hw : y.waiting = [r]) :
    Dies.pump 6 slot { x with sd := x.sd.setSession slot (some y) }
      = Dies.answered slot r (({ x with sd := x.sd.setSession slot (some { y with waiting := [] }) } : Dies).serve slot
          { y with waiting := [] } r) := by
  rw [Dies.pump]
  simp only [SafetyDie.session_setSession, hb, hw, Option.isSome_none, Bool.false_eq_true, if_false,
    SafetyDie.setSession_setSession, Dies.serveOne, Dies.answered] <;> rfl

/-- A request with a later SEQ, other than CLOSE, of a session with nothing unanswered is taken, served and answered at once
(R349, R350). -/
theorem Dies.admit_fresh (x : Dies) (slot : Nat) (ses : Session) (r : Req) (tag : Octets) (h3 : ses.waiting = [])
    (h4 : ses.busy = none) (hs : ses.lastSeq < r.seq) (hk : r.kind ≠ 0x12) :
    x.accept slot ses r tag
      = Dies.answered slot r ((x.taken slot ses r tag).serve slot (ses.took x.sd r tag) r) := by
  have hl : ¬ r.seq ≤ ses.lastSeq := by omega
  have hu : ¬ 4 ≤ Session.unanswered { ses with heardAt := x.sd.now } := by simp [Session.unanswered, h3, h4, b01]
  have hc : ¬ (r.kind = 0x12 ∧ (!r.bad) = true) := fun e => hk e.1
  unfold Dies.accept
  dsimp only
  rw [if_neg hl, if_neg hu, if_neg hc]
  refine (Dies.pump_one x slot _ r ?_ ?_).trans ?_
  · exact h4
  · show ses.waiting ++ [r] = [r]
    rw [h3]
    rfl
  · rfl

/-- A request other than CLOSE of a session ready to be served is taken, served and answered at once (R349, R350). -/
theorem Dies.requestOf_fresh (x : Dies) (slot : Nat) (ses : Session) (kind key offset : Nat) (data : Octets)
    (image : Option ImageBody) (last : Bool) (h : x.Fresh slot ses) (hk : kind ≠ 0x12) :
    x.requestOf slot kind key offset data image last
      = Dies.answered slot (ses.next kind key offset data image last)
          ((x.taken slot ses (ses.next kind key offset data image last) (ses.tag slot (ses.next kind key offset data image last))).serve
            slot (ses.took x.sd (ses.next kind key offset data image last) (ses.tag slot (ses.next kind key offset data image last)))
            (ses.next kind key offset data image last)) := by
  obtain ⟨h1, h2, h7, h3, h4, h5, h6⟩ := h
  have ha : x.awakeSlot slot = x := by simp [Dies.awakeSlot, h1, h7]
  have hs : ¬ ses.lastSeq = 0xFFFFFFFF := by omega
  have hkey : key / 256 * 256 + key % 256 = key := by omega
  rw [← Dies.admit_fresh x slot ses _ _ h3 h4 (by simp [Session.next]) (by simpa [Session.next] using hk)]
  simp only [Dies.requestOf, ha, h1, h2, h6, Bool.not_true, Bool.or_self, Bool.false_or, beq_iff_eq, hs, if_false, Session.next, Session.tag,
    hkey]

/-- A number's bytes spell it again. -/
theorem ofLe_le (n v : Nat) (h : v < 256 ^ n) : ofLe (le n v) = v := by
  induction n generalizing v with
  | zero => simp at h; subst h; rfl
  | succ n ih =>
    have h2 : v / 256 < 256 ^ n := by
      rw [Nat.div_lt_iff_lt_mul (by norm_num)]; rw [pow_succ] at h; exact h
    simp only [le, ofLe, ih _ h2]
    omega

/-- `n` bytes. -/
@[simp] theorem le_length (n v : Nat) : (le n v).length = n := by
  induction n generalizing v with
  | zero => rfl
  | succ n ih => simp [le, ih]

/-- An index that a row lies in is allocated. -/
theorem odAllocated_of_find (idx sub : Nat) (w : OdRow) (h : odFind idx sub = some w) : odAllocated idx = true := by
  have h1 := List.find?_some h
  have h2 := List.mem_of_find?_eq_some h
  simp only [odAllocated, List.any_eq_true]
  refine ⟨w, h2, ?_⟩
  simp only [OdRow.covers, decide_eq_true_eq] at h1 ⊢
  omega

/-- A write to a wo or rw entry of a type other than OSTR and DOMAIN, of octets that spell a value, reaches what writes do (R340). -/
theorem Dies.serve_value (x : Dies) (slot : Nat) (ses : Session) (w : OdRow) (i : Nat) (b : Octets) (v : Val) (ses0 : Session)
    (h : x.Allows ses w i) (ha : w.access = .wo ∨ w.access = .rw) (hnd : w.type ≠ .domain) (hno : w.type ≠ .ostr)
    (hv : w.type.value b = some v) :
    x.serve slot ses (ses0.writeBytes w i b) = x.writeValue slot (w.index + i) w.sub w v := by
  obtain ⟨h1, h2, h3, h8, h9, h10⟩ := h
  have hd : w.key i / 256 = w.index + i := by simp only [OdRow.key]; omega
  have hm : w.key i % 256 = w.sub := by simp only [OdRow.key]; omega
  have hc : (w.onCheckDie (w.index + i) w.sub && !x.sd.cdServes) = false := by
    cases hw : w.onCheckDie (w.index + i) w.sub with
    | false => rfl
    | true => simp [h10 hw]
  have hro : (w.access == .ro || w.access == .const) = false := by rcases ha with e | e <;> rw [e] <;> rfl
  have hrs : (w.access == .rws) = false := by rcases ha with e | e <;> rw [e] <;> rfl
  have hr : ses.role ∈ x.sd.writers (w.index + i) w.sub := by simpa using h8
  simp [Dies.serve, Session.writeBytes, Session.next, Dies.serveWrite, hd, hm, odAllocated_of_find _ _ _ h2, h2, h3.1, hro, hrs, hr,
    h9, hc, Dies.writeData, hnd, hno, hv]

/-- A write to a wo or rw entry that is admitted reaches what writes do (R340). -/
theorem Dies.serve_write (x : Dies) (slot : Nat) (ses : Session) (w : OdRow) (i v : Nat) (ses0 : Session)
    (h : x.Admits ses w i v) (ha : w.access = .wo ∨ w.access = .rw) :
    x.serve slot ses (ses0.write w i v) = x.writeValue slot (w.index + i) w.sub w (.num v) := by
  have hv : w.type.value (le (w.type.bits / 8) v) = some (.num v) := by
    simp only [OdType.value, h.numeric, if_true, le_length]
    rw [if_pos h.bits.symm, ofLe_le _ _ h.fits]
  have hnd : w.type ≠ .domain := by intro e; have h4 := h.numeric; rw [e] at h4; simp [OdType.numeric, OdType.bits] at h4
  have hno : w.type ≠ .ostr := by intro e; have h4 := h.numeric; rw [e] at h4; simp [OdType.numeric, OdType.bits] at h4
  exact Dies.serve_value x slot ses w i _ _ ses0 h.toAllows ha hnd hno hv

/-- An admitted write of a number to a wo entry acts and is answered (R340, R349, R350). -/
theorem Dies.writeEntry_act (x : Dies) (slot : Nat) (ses : Session) (w : OdRow) (i v : Nat) (hf : x.Fresh slot ses)
    (h : x.Admits ses w i v) (ha : w.access = .wo) :
    x.writeEntry slot w i v
      = Dies.answered slot (ses.write w i v) ((x.taken slot ses (ses.write w i v) (ses.tag slot (ses.write w i v))).act slot (w.index + i) w.sub (.num v)) := by
  have h' : (x.taken slot ses (ses.write w i v) (ses.tag slot (ses.write w i v))).Admits (ses.took x.sd (ses.write w i v) (ses.tag slot (ses.write w i v))) w i v :=
    ⟨⟨h.inst, h.found, h.sub, h.role, h.device, h.serves⟩, h.numeric, h.bits, h.fits, h.range⟩
  rw [Dies.writeEntry, if_pos h.inst, Dies.requestOf_fresh x slot ses 0x11 (w.key i) 0 _ none true hf (by decide)]
  have e := Dies.serve_write (x.taken slot ses (ses.write w i v) (ses.tag slot (ses.write w i v))) slot (ses.took x.sd (ses.write w i v) (ses.tag slot (ses.write w i v))) w i v ses h' (.inl ha)
  simp only [Session.write] at e ⊢
  rw [e]
  simp [Dies.writeValue, h.range, ha]

/-- An admitted write of a number to an rw entry takes effect and is answered. -/
theorem Dies.writeEntry_rw (x : Dies) (slot : Nat) (ses : Session) (w : OdRow) (i v : Nat) (hf : x.Fresh slot ses)
    (h : x.Admits ses w i v) (ha : w.access = .rw) :
    x.writeEntry slot w i v
      = Dies.answered slot (ses.write w i v) ((x.taken slot ses (ses.write w i v) (ses.tag slot (ses.write w i v))).writeRw slot (w.index + i) w.sub w (.num v)) := by
  have h' : (x.taken slot ses (ses.write w i v) (ses.tag slot (ses.write w i v))).Admits (ses.took x.sd (ses.write w i v) (ses.tag slot (ses.write w i v))) w i v :=
    ⟨⟨h.inst, h.found, h.sub, h.role, h.device, h.serves⟩, h.numeric, h.bits, h.fits, h.range⟩
  rw [Dies.writeEntry, if_pos h.inst, Dies.requestOf_fresh x slot ses 0x11 (w.key i) 0 _ none true hf (by decide)]
  have e := Dies.serve_write (x.taken slot ses (ses.write w i v) (ses.tag slot (ses.write w i v))) slot (ses.took x.sd (ses.write w i v) (ses.tag slot (ses.write w i v))) w i v ses h' (.inr ha)
  simp only [Session.write] at e ⊢
  rw [e]
  simp [Dies.writeValue, h.range, ha]

/-- A write of an image, or of a segment of one, to an entry of type DOMAIN reaches what it does (R340, R344). -/
theorem Dies.serve_image (x : Dies) (slot : Nat) (ses : Session) (w : OdRow) (i : Nat) (b : ImageBody) (last : Bool) (ses0 : Session)
    (h : x.Allows ses w i) (ha : w.access = .wo ∨ w.access = .rw) (ht : w.type = .domain) (hk : w.index + i ≠ 0x7F00) :
    x.serve slot ses (ses0.writeImage w i b last)
      = (x.wrote slot (w.key i) last).writeDomain slot (w.index + i) w.sub (some b) [] last := by
  obtain ⟨h1, h2, h3, h8, h9, h10⟩ := h
  have hd : w.key i / 256 = w.index + i := by simp only [OdRow.key]; omega
  have hm : w.key i % 256 = w.sub := by simp only [OdRow.key]; omega
  have hc : (w.onCheckDie (w.index + i) w.sub && !x.sd.cdServes) = false := by
    cases hw : w.onCheckDie (w.index + i) w.sub with
    | false => rfl
    | true => simp [h10 hw]
  have hro : (w.access == .ro || w.access == .const) = false := by rcases ha with e | e <;> rw [e] <;> rfl
  have hrs : (w.access == .rws) = false := by rcases ha with e | e <;> rw [e] <;> rfl
  have hr : ses.role ∈ x.sd.writers (w.index + i) w.sub := by simpa using h8
  have hb : (b01 last).testBit 0 = last := by cases last <;> rfl
  have hkey : (w.index + i) * 256 + w.sub = w.key i := rfl
  simp [Dies.serve, Session.writeImage, Session.next, Dies.serveWrite, hd, hm, odAllocated_of_find _ _ _ h2, h2, h3.1, hro, hrs, hr,
    h9, hk, hc, Dies.writeData, ht, Dies.wrote, hb, hkey]

/-- An admitted write of an image, or of a segment of one, acts (R340, R349, R350). -/
theorem Dies.writeBody_image (x : Dies) (slot : Nat) (ses : Session) (w : OdRow) (i : Nat) (b : ImageBody) (last : Bool)
    (hf : x.Fresh slot ses) (h : x.Allows ses w i) (ha : w.access = .wo ∨ w.access = .rw) (ht : w.type = .domain)
    (hk : w.index + i ≠ 0x7F00) :
    x.writeBody slot w i b last
      = Dies.answered slot (ses.writeImage w i b last)
          (((x.taken slot ses (ses.writeImage w i b last) (ses.tag slot (ses.writeImage w i b last))).wrote slot (w.key i) last).writeDomain slot (w.index + i) w.sub (some b) []
            last) := by
  have h' : (x.taken slot ses (ses.writeImage w i b last) (ses.tag slot (ses.writeImage w i b last))).Allows (ses.took x.sd (ses.writeImage w i b last) (ses.tag slot (ses.writeImage w i b last))) w i :=
    ⟨h.inst, h.found, h.sub, h.role, h.device, h.serves⟩
  rw [Dies.writeBody, if_pos h.inst, Dies.requestOf_fresh x slot ses 0x11 (w.key i) 0 [] (some b) last hf (by decide)]
  have e := Dies.serve_image (x.taken slot ses (ses.writeImage w i b last) (ses.tag slot (ses.writeImage w i b last))) slot (ses.took x.sd (ses.writeImage w i b last) (ses.tag slot (ses.writeImage w i b last))) w i
    b last ses h' ha ht hk
  simp only [Session.writeImage] at e ⊢
  rw [e]

/-- A write of octets to an entry of type OSTR reaches what writes do (R340, R344). -/
theorem Dies.serve_octets (x : Dies) (slot : Nat) (ses : Session) (w : OdRow) (i : Nat) (b : Octets) (ses0 : Session)
    (h : x.Allows ses w i) (ha : w.access = .wo ∨ w.access = .rw) (ht : w.type = .ostr) (hk : w.index + i ≠ 0x7F00)
    (hl : b.length ≤ 67108864) :
    x.serve slot ses (ses0.writeBytes w i b) = (x.wrote slot (w.key i) true).writeValue slot (w.index + i) w.sub w (.bytes b) := by
  obtain ⟨h1, h2, h3, h8, h9, h10⟩ := h
  have hd : w.key i / 256 = w.index + i := by simp only [OdRow.key]; omega
  have hm : w.key i % 256 = w.sub := by simp only [OdRow.key]; omega
  have hc : (w.onCheckDie (w.index + i) w.sub && !x.sd.cdServes) = false := by
    cases hw : w.onCheckDie (w.index + i) w.sub with
    | false => rfl
    | true => simp [h10 hw]
  have hro : (w.access == .ro || w.access == .const) = false := by rcases ha with e | e <;> rw [e] <;> rfl
  have hrs : (w.access == .rws) = false := by rcases ha with e | e <;> rw [e] <;> rfl
  have hr : ses.role ∈ x.sd.writers (w.index + i) w.sub := by simpa using h8
  have hll : ¬ 67108864 < b.length := by omega
  simp [Dies.serve, Session.writeBytes, Session.next, Dies.serveWrite, hd, hm, odAllocated_of_find _ _ _ h2, h2, h3.1, hro, hrs, hr,
    h9, hk, hc, Dies.writeData, ht, Dies.wrote, Session.gather, hll, show (b01 true).testBit 0 = true from rfl]

/-- An admitted write of octets to a wo entry acts (R340, R349, R350). -/
theorem Dies.writeOctets_act (x : Dies) (slot : Nat) (ses : Session) (w : OdRow) (i : Nat) (b : Octets)
    (hf : x.Fresh slot ses) (h : x.Allows ses w i) (ha : w.access = .wo) (ht : w.type = .ostr)
    (hk : w.index + i ≠ 0x7F00) (hl : b.length ≤ 67108864) (hv : w.check (.bytes b) = .ok) :
    x.writeOctets slot w i b
      = Dies.answered slot (ses.writeBytes w i b)
          (((x.taken slot ses (ses.writeBytes w i b) (ses.tag slot (ses.writeBytes w i b))).wrote slot (w.key i) true).act slot (w.index + i) w.sub (.bytes b)) := by
  have h' : (x.taken slot ses (ses.writeBytes w i b) (ses.tag slot (ses.writeBytes w i b))).Allows (ses.took x.sd (ses.writeBytes w i b) (ses.tag slot (ses.writeBytes w i b))) w i :=
    ⟨h.inst, h.found, h.sub, h.role, h.device, h.serves⟩
  rw [Dies.writeOctets, if_pos h.inst, Dies.requestOf_fresh x slot ses 0x11 (w.key i) 0 b none true hf (by decide)]
  have e := Dies.serve_octets (x.taken slot ses (ses.writeBytes w i b) (ses.tag slot (ses.writeBytes w i b))) slot (ses.took x.sd (ses.writeBytes w i b) (ses.tag slot (ses.writeBytes w i b))) w i b ses h'
    (.inl ha) ht hk hl
  simp only [Session.writeBytes] at e ⊢
  rw [e]
  simp [Dies.writeValue, hv, ha]

/-- An admitted write of text to a wo entry acts (R340, R349, R350). -/
theorem Dies.writeOctets_text (x : Dies) (slot : Nat) (ses : Session) (w : OdRow) (i : Nat) (b : Octets)
    (hf : x.Fresh slot ses) (h : x.Allows ses w i) (ha : w.access = .wo) (ht : w.type = .vstr) (hl : b.length ≤ 255)
    (hv : w.check (.bytes b) = .ok) :
    x.writeOctets slot w i b
      = Dies.answered slot (ses.writeBytes w i b)
          ((x.taken slot ses (ses.writeBytes w i b) (ses.tag slot (ses.writeBytes w i b))).act slot (w.index + i) w.sub (.bytes b)) := by
  have h' : (x.taken slot ses (ses.writeBytes w i b) (ses.tag slot (ses.writeBytes w i b))).Allows
      (ses.took x.sd (ses.writeBytes w i b) (ses.tag slot (ses.writeBytes w i b))) w i :=
    ⟨h.inst, h.found, h.sub, h.role, h.device, h.serves⟩
  rw [Dies.writeOctets, if_pos h.inst, Dies.requestOf_fresh x slot ses 0x11 (w.key i) 0 b none true hf (by decide)]
  have e := Dies.serve_value (x.taken slot ses (ses.writeBytes w i b) (ses.tag slot (ses.writeBytes w i b))) slot
    (ses.took x.sd (ses.writeBytes w i b) (ses.tag slot (ses.writeBytes w i b))) w i b (.bytes b) ses h' (.inl ha) (by rw [ht]; decide) (by rw [ht]; decide)
    (by rw [ht, OdType.value, if_neg (by decide), if_neg (by omega)])
  simp only [Session.writeBytes] at e ⊢
  rw [e]
  simp [Dies.writeValue, hv, ha]

end Sys2Proof.Machine
end

