-- ==== Sys2Proof/Tests/Slice0.lean ====
section
/-! SUPPORT. Tests: ill-formed commands refused, values of the spec's own examples, and for each statement with hypotheses a state and
operands that meet them. -/

set_option Elab.async false

namespace Sys2Proof.Tests

open Sys2Proof.Machine Host

/-! Well-formedness: one ill-formed operand for each kind of check. -/

theorem test_wf_refuses_stream_12 : (Instr.strayDataBlock 0 12).wf = false := by decide
theorem test_wf_refuses_octet_256 : (Instr.heartbeatItem 0 0 { octets := [256] }).wf = false := by decide
theorem test_wf_refuses_slot_64 : (Instr.runRequest 0 64 1).wf = false := by decide
theorem test_wf_refuses_seq_256 : (Instr.safeEnter 0 256).wf = false := by decide
theorem test_wf_refuses_role_5 : (Instr.roleKey 0 0 5 []).wf = false := by decide
theorem test_wf_refuses_value_256 : (Instr.logClear 0 0 256).wf = false := by decide
theorem test_wf_refuses_path_4 : (Instr.hello 0 4 0 0 []).wf = false := by decide
theorem test_wf_refuses_word_105 : (Instr.compareWord 0 none (some (2 ^ 104)) false false none false false false).wf = false := by decide
theorem test_wf_takes_last_stream : (Instr.strayDataBlock 0 11).wf = true := by decide

/-! The spec's own examples. -/

/-- R44: HEADER_CRC over "123456789". -/
theorem test_header_crc : crc16 [0x31, 0x32, 0x33, 0x34, 0x35, 0x36, 0x37, 0x38, 0x39] = 0x29B1 := by decide +kernel
/-- R47: kinds 0, 1 and 2 over "123456789". -/
theorem test_check_values :
    checkValue 0 [0x31, 0x32, 0x33, 0x34, 0x35, 0x36, 0x37, 0x38, 0x39] = 0xE3069283 ∧
    checkValue 1 [0x31, 0x32, 0x33, 0x34, 0x35, 0x36, 0x37, 0x38, 0x39] = 0xCBF43926 ∧
    checkValue 2 [0x31, 0x32, 0x33, 0x34, 0x35, 0x36, 0x37, 0x38, 0x39] = 0x6C40DF5F0B497347 := by decide +kernel
/-- R120: the budget of two thirds of the array. -/
theorem test_budget : planBudget (2 / 3) = 8620000 := by decide +kernel
/-- R209: the KIND bytes of egress records. -/
theorem test_egress_kinds : (EgKind.result.code, EgKind.verdict.code, EgKind.retract.code, EgKind.fence.code, EgKind.heartbeat.code)
    = (1, 2, 3, 4, 5) := by decide
/-- R405: the last four bytes of BAR0 exist, the next do not. -/
theorem test_bar0_end : exec (.registerWrite 0 67108864 4 0) .reset = .fault .outsideBar := by rfl

/-! States of the witnesses. -/

/-- In RUN, both dies up, the corridor up at both ends, the brake released. -/
def running : State :=
  { dies :=
    { sd := { device := .run, cdState := .run, demand := false, guest := { GuestBook.delivered with bt := .valid }
              corRx := { up := true }, heart := { armed := true }
              kill := { on := false, released := some 0, awaiting := false, pwrEn := true, pg := true }
              brake := { latch := false, arm := true, relA := true, onB := true, state := .released, brbA := true, brbB := true,
                         bfbA := true, bfbB := true } }
      cd := { up := true, state := .run, device := .run, corRx := { up := true } } } }

/-- That state with another safety die. -/
def withSd (f : SafetyDie → SafetyDie) : State := { running with dies := { running.dies with sd := f running.dies.sd } }
/-- That state with another check die. -/
def withCd (f : CheckDie → CheckDie) : State := { running with dies := { running.dies with cd := f running.dies.cd } }

/-- An open session. -/
def client (role path : Nat) : Session := { role := role, path := path, opened := true, key := List.replicate 32 7 }

/-- A device state in which the session of slot 0 is open, on a CAN bus, both dies up. -/
def served (role : Nat) (device : DevState) : State :=
  withSd (fun s => { s with device := device, sessions := [(0, some (client role 3))] })

/-- An entry's write admitted, its value aside, as a value. -/
def allowsB (x : Dies) (ses : Session) (w : OdRow) (i : Nat) : Bool :=
  decide (i < w.count) && decide (odFind (w.index + i) w.sub = some w) && decide (w.sub ≠ 0 ∧ w.sub < 256)
    && (x.sd.writers (w.index + i) w.sub).contains ses.role && admitsWrite x.sd.device (w.index + i)
    && (!w.onCheckDie (w.index + i) w.sub || x.sd.cdServes)

theorem allows_of_allowsB {x : Dies} {ses : Session} {w : OdRow} {i : Nat} (h : allowsB x ses w i = true) : x.Allows ses w i := by
  simp only [allowsB, Bool.and_eq_true, decide_eq_true_eq, Bool.or_eq_true, Bool.not_eq_true'] at h
  obtain ⟨⟨⟨⟨⟨h1, h2⟩, h3⟩, h4⟩, h5⟩, h6⟩ := h
  exact ⟨h1, h2, h3, h4, h5, fun h => h6.resolve_left (by simp [h])⟩

/-- The same with a number. -/
def admitsB (x : Dies) (ses : Session) (w : OdRow) (i v : Nat) : Bool :=
  allowsB x ses w i && w.type.numeric && decide (w.type.bits = w.type.bits / 8 * 8) && decide (v < 256 ^ (w.type.bits / 8))
    && decide (w.check (.num v) = .ok)

theorem admits_of_admitsB {x : Dies} {ses : Session} {w : OdRow} {i v : Nat} (h : admitsB x ses w i v = true) : x.Admits ses w i v := by
  simp only [admitsB, Bool.and_eq_true, decide_eq_true_eq] at h
  obtain ⟨⟨⟨⟨h1, h2⟩, h3⟩, h4⟩, h5⟩ := h
  exact { allows_of_allowsB h1 with numeric := h2, bits := h3, fits := h4, range := h5 }

theorem test_fresh_session (role : Nat) (device : DevState) : ((served role device).dies.tick 0).Fresh 0 (client role 3) :=
  ⟨rfl, rfl, rfl, rfl, rfl, Nat.zero_lt_succ _, rfl⟩

/-- The commands of the streams, the clusters and the brake, with the device states that they ask for. -/
theorem test_stream_cluster_and_brake_writes :
    (served 4 .run).dies.Admits (client 4 3) Od.STREAM_RESTART 11 1 ∧ (served 4 .service).dies.Admits (client 4 3) Od.FENCE_CLEAR 0 15 ∧
    (served 4 .service).dies.Admits (client 4 3) Od.ARRAY_RETEST 0 15 ∧ (served 4 .run).dies.Admits (client 4 3) Od.FAULT_CLEAR 0 1 ∧
    (served 4 .run).dies.Admits (client 4 3) Od.BT_START 0 1 ∧ (served 4 .run).dies.Admits (client 4 3) Od.HOLD_REQUEST 0 1 ∧
    (served 4 .service).dies.sd.device = .service := by
  refine ⟨?_, ?_, ?_, ?_, ?_, ?_, rfl⟩ <;> exact admits_of_admitsB (by decide +kernel)

theorem test_log_fabric_time_and_intake_writes :
    (served 4 .run).dies.Admits (client 4 3) Od.LOG_CLEAR 0 3 ∧ (served 4 .run).dies.Admits (client 4 3) Od.MARGIN_START 0 15 ∧
    (served 4 .run).dies.Admits (client 4 3) Od.FABRIC_RESTART 0 1 ∧ (served 4 .service).dies.Admits (client 4 3) Od.TIME_STEP_NS 0 1 ∧
    (served 4 .run).dies.Admits (client 4 3) Od.INTAKE_ENABLE 255 1 ∧ (served 4 .run).dies.Admits (client 4 3) Od.ARM 7 1 ∧
    (served 4 .run).dies.Admits (client 4 3) Od.ARM 7 0 := by
  refine ⟨?_, ?_, ?_, ?_, ?_, ?_, ?_⟩ <;> exact admits_of_admitsB (by decide +kernel)

theorem test_batch_read : admitsRead (served 4 .run).dies.sd.device 0x4800 0x0F = true ∧ (served 4 .run).dies.sd.cdServes = true ∧
    (served 4 .service).dies.sd.device ≠ .run := by decide

theorem test_commit_and_key_writes :
    (served 3 .run).dies.Admits (client 3 3) Od.COMMIT_CRC 0 0 ∧ (served 3 .run).dies.Admits (client 3 3) Od.STAGE_DISCARD 0 1 ∧
    (served 4 .run).dies.Admits (client 4 3) Od.PARTNER_SELECT 0 0 ∧
    (served 2 .run).dies.Allows (client 2 3) Od.ROLE_KEY 4 ∧
    (served 2 .run).dies.Allows (client 2 3) Od.OPERATOR_PASSPHRASE 0 ∧ (served 3 .run).dies.sd.stageBusy 0 = false := by
  refine ⟨admits_of_admitsB ?_, admits_of_admitsB ?_, admits_of_admitsB ?_, allows_of_allowsB ?_, allows_of_allowsB ?_, ?_⟩ <;> decide +kernel

theorem test_power_writes :
    (served 4 .ready).dies.Admits (client 4 3) Od.RUN_REQUEST 0 1 ∧ (served 4 .safeHold).dies.Admits (client 4 3) Od.SERVICE_REQUEST 0 1 ∧
    (served 4 .ready).dies.Admits (client 4 3) Od.SERVICE_REQUEST 0 1 ∧
    (served 4 .service).dies.Admits (client 4 3) Od.SERVICE_REQUEST 0 0 ∧ (served 4 .run).dies.Admits (client 4 3) Od.POWER_REQUEST 0 4 ∧
    (served 4 .safeHold).dies.Admits (client 4 3) Od.WARM_RESET 0 1 ∧ (served 4 .run).dies.Admits (client 4 3) Od.CHECK_DIE_RESET 0 1 ∧
    (served 4 .run).dies.Admits (client 4 3) Od.CD_RESET_LOCKED 0 0 ∧ (served 4 .run).dies.Allows (client 4 3) Od.ATTEST_NONCE 0 ∧
    (served 4 .safeHold).dies.sd.device ≠ .run ∧ (served 4 .safeHold).dies.sd.staging.status ≠ 2 ∧
    (served 4 .run).dies.sd.boot.failed.testBit 5 = false := by
  refine ⟨?_, ?_, ?_, ?_, ?_, ?_, ?_, ?_, allows_of_allowsB (by decide +kernel), by decide, by decide, by decide⟩ <;>
    exact admits_of_admitsB (by decide +kernel)

theorem test_sec_version_raise : (served 4 .safeHold).dies.Admits (client 4 3) Od.SEC_VERSION_RAISE 0 1 :=
  admits_of_admitsB (by decide +kernel)

theorem test_image_writes :
    (served 4 .safeHold).dies.Allows (client 4 3) Od.SLOT_IMAGE 15 ∧ (served 4 .safeHold).dies.Allows (client 4 3) Od.MANIFEST_IMAGE 31 ∧
    (served 4 .safeHold).dies.Allows (client 4 3) Od.LANTERN_SET 11 ∧ (served 4 .safeHold).dies.Allows (client 4 3) Od.MAP_IMAGE 15 ∧
    (served 4 .safeHold).dies.Allows (client 4 3) Od.FW_IMAGE 0 ∧ (served 4 .safeHold).dies.Allows (client 4 3) Od.DEVICE_CERT 0 := by
  refine ⟨?_, ?_, ?_, ?_, ?_, ?_⟩ <;> exact allows_of_allowsB (by decide +kernel)

/-- The slots are vacant, no judgement, audit or firmware image uses them. -/
theorem test_images_free :
    ((served 4 .safeHold).dies.cd.package 15).vacant = true ∧ (served 4 .safeHold).dies.sd.names Od.MANIFEST_SLOT 31 = false ∧
    (served 4 .safeHold).dies.cd.audit.open_.any (fun a => a.manifest == 31) = false ∧
    (served 4 .safeHold).dies.sd.namesSet 11 = false ∧ (served 4 .safeHold).dies.cd.setPending 11 = false ∧
    (served 4 .safeHold).dies.sd.names Od.MAP_SLOT 15 = false ∧ (served 4 .safeHold).dies.sd.names Od.FALLBACK_MAP_SLOT 15 = false ∧ (served 4 .safeHold).dies.cd.mapPending 15 = false ∧
    (served 4 .safeHold).dies.sd.device ≠ .run ∧ (served 4 .safeHold).dies.sd.fw.next = none := by decide +kernel

/-- Bindings that name the slots, with a VALID package, and an integrator's lantern set. -/
theorem test_images_in_use :
    let put (r : OdRow) (i v : Nat) (m : OdStore) : OdStore := m.putKey (r.key i) (.num v)
    let s := withSd (fun x => { x with values := put Od.PRIMARY_SLOT 0 15 (put Od.MANIFEST_SLOT 0 31 (put Od.MAP_SLOT 0 15
      (put Od.STREAM_ENABLE 11 1 (put Od.LANTERN_PERIOD 11 100 [])))) })
    s.dies.sd.names Od.PRIMARY_SLOT 15 = true ∧ s.dies.sd.names Od.MANIFEST_SLOT 31 = true ∧ s.dies.sd.names Od.MAP_SLOT 15 = true ∧
    s.dies.sd.namesSet 11 = true ∧
    ((withCd (fun d => { d with packages := [(15, { state := .valid })] })).dies.cd.package 15).vacant = false := by decide +kernel

/-! Witnesses of the statements about every command. -/

/-- A command waits, alone or with another behind it; none waits, with the check die running or not. -/
theorem test_queues : ({ running with pending := [.debugHalt 0, .debugResume 1] } : State).pending = [.debugHalt 0, .debugResume 1] ∧
    running.pending = [] ∧ running.Runs ∧ State.reset.pending = [] ∧ ¬ State.reset.Runs := ⟨rfl, rfl, rfl, rfl, Bool.false_ne_true⟩

/-- A full safety log and a full staged set keep the limits through a step. -/
def full : State := withSd (fun s =>
  { s with log := List.replicate 256 { name := .logCleared, onSafety := true, gts := 0 }
           staging := { entries := List.replicate 2048 (0x200002, .num 0) } })
theorem test_limits_step : full.Fits ∧ ∃ s', step { full with pending := [.motionEdge 0 0] } = .next s' :=
  ⟨⟨by decide +kernel, by decide +kernel⟩, _, rfl⟩

/-- A released brake holds its conditions through a step, and its pin BRK_A is energised. -/
theorem test_held_step : running.dies.sd.Held ∧ running.dies.sd.brake.onB = true ∧ running.dies.sd.pinA = true ∧
    ∃ s', step { running with pending := [.motionEdge 0 0] } = .next s' :=
  ⟨fun _ => by decide, rfl, by decide, _, rfl⟩

theorem test_frames_apply : (Instr.strayDataBlock 0 11).atCheckDie = some 0 ∧ (∃ s', exec (.strayDataBlock 0 11) running = .next s') ∧
    (Instr.motionEdge 0 0).atSafetyDie = some 0 ∧ (∃ s', exec (.motionEdge 0 0) running = .next s') ∧ ¬ State.reset.Runs ∧
    ∃ s', exec (.strayDataBlock 0 11) .reset = .next s' := ⟨rfl, ⟨_, rfl⟩, rfl, ⟨_, rfl⟩, Bool.false_ne_true, _, rfl⟩

/-- After a command the device state is as it was and SD_CD_KILL no newly asserted. -/
theorem test_safety_frame_applies : ∃ s', exec (.motionEdge 0 0) running = .next s' ∧ s'.dies.sd.device = running.dies.sd.device ∧
    s'.dies.sd.kill.on = running.dies.sd.kill.on := ⟨_, rfl, by decide +kernel, by decide +kernel⟩

/-- A slot without a session, and one whose session is only challenged. -/
theorem test_no_open_session : (Instr.runRequest 0 0 1).ofSession = some (0, 0) ∧ running.dies.sd.session 0 = none ∧
    (withSd (fun s => { s with sessions := [(0, some { client 4 3 with opened := false })] })).dies.sd.session 0
      = some { client 4 3 with opened := false } := ⟨rfl, rfl, rfl⟩

theorem test_beyond_bars : (1073741824 : Nat) < 1073741820 + (List.replicate 5 0 : Octets).length ∧ (67108864 : Nat) < 67108861 + 4 ∧
    (16777216 : Nat) < 16777212 + (List.replicate 5 0 : Octets).length := by decide

/-! The brake, the heartbeat and the resets. -/

/-- RUN with an epoch boundary by EPOCH_ADVANCE, and RUN with the check die killed. -/
theorem test_stop_in_run : running.dies.sd.device = .run ∧ running.dies.sd.kill.on = false ∧ running.dies.sd.kill.wanted = none ∧
    running.dies.sd.cdState.serves = true ∧ running.dies.sd.kill.released = some 0 ∧
    running.dies.sd.advancedAt ≠ some running.dies.sd.now ∧ running.dies.sd.brake.release = .none ∧
    (withSd (fun s => { s with kill := { s.kill with on := true } })).dies.sd.kill.on = true ∧
    (withSd (fun s => { s with kill := { s.kill with on := true } })).dies.sd.device = .run := by decide

/-- No demand, no release; one that began in the cycle of the demand. -/
theorem test_demand_low : running.dies.sd.demand = false ∧ running.dies.sd.brake.release = .none ∧
    (let s := withSd (fun x => { x with brake := { x.brake with release := .waitReadback, restartAt := x.now } })
     s.dies.sd.demand = false ∧ s.dies.sd.device = .run ∧ s.dies.sd.brake.release ≠ .none ∧
      s.dies.sd.brake.restartAt = (s.dies.sd.tick 0).now) := by decide
/-- R256: 129 ns is no demand, 130 ns is one. -/
theorem test_demand_129 : (∃ s', exec (.cdSafeDemandLow 0 129) running = .next s' ∧ s'.dies.sd.demand = false) ∧
    ∃ s', exec (.cdSafeDemandLow 0 130) running = .next s' ∧ s'.dies.sd.demand = true := ⟨⟨_, rfl, by decide +kernel⟩, _, rfl, by decide +kernel⟩

/-- The monitor armed, in RUN, no kill wanted: the last edge lies 5 ms back, or 449 ns. -/
theorem test_heartbeat : running.dies.sd.heart.armed = true ∧ running.dies.sd.power ≠ .retain ∧ running.dies.sd.kill.on = false ∧
    running.dies.sd.kill.wanted = none ∧ running.dies.sd.device = .run ∧
    running.dies.sd.heart.lastEdge * 100 + running.dies.sd.get Od.HEART_LOSS_NS * 88 < (running.dies.sd.tick 5000000).now * 100 ∧
    (withSd (fun s => { s with heart := { s.heart with edge := true } })).dies.sd.heart.edge = true ∧
    (running.dies.sd.tick 449).now < running.dies.sd.heart.lastEdge + 450 := by decide +kernel

theorem test_power_good_fall : running.dies.sd.kill.pwrEn = true ∧ running.dies.sd.kill.pg = true ∧ running.dies.sd.kill.on = false ∧
    running.dies.sd.kill.wanted = none := by decide

/-- A wanted kill whose BRK_A reads off, and one that is 60 µs old. -/
theorem test_kill_due : let y : SafetyDie := (withSd (fun s => { s with now := 60000, kill := { s.kill with wanted := some 0 } })).dies.sd
    y.kill.wanted = some 0 ∧ y.kill.on = false ∧ 0 + 60000 ≤ y.now ∧ ({} : Brake).brbA = false := by decide

/-- The safe state, calm, with the reasons for a release. -/
def calmSd : SafetyDie :=
  { running.dies.sd with device := .safeHold, now := 100000000, brake := { calm := some 0 }
                         guest := { GuestBook.delivered with bt := .valid, btPass := some 0 }
                         values := OdStore.putKey [] (Od.RESTART_MODE.key 0) (.num 1) }

/-- No HBL source, no condition of the release fails; the other restart mode's event is due. -/
theorem test_restart_releases : calmSd.eventTest.hblSource = false ∧
    (calmSd.eventTest.setBrake (fun b => { b with latch := false, causes := calmSd.eventTest.activeCauses })).releaseFails = none ∧
    calmSd.brake.calm = some 0 ∧ calmSd.get Od.RESTART_MODE = 1 ∧ calmSd.brake.latch = true ∧
    0 + 100000000 ≤ (calmSd.tick 0).now := by decide +kernel

/-- A heartbeat trip holds the latch; a lost check die fails the release. -/
theorem test_restart_refused : ({ calmSd with heart := { tripped := true } } : SafetyDie).eventTest.hblSource = true ∧
    ({ calmSd with heart := {} } : SafetyDie).eventTest.hblSource = false ∧
    ((({ calmSd with heart := {} } : SafetyDie).eventTest).setBrake (fun b =>
      { b with latch := false, causes := ({ calmSd with heart := {} } : SafetyDie).eventTest.activeCauses })).releaseFails = some 3 := by
  decide +kernel

theorem test_release_step : (withSd (fun s => { s with brake := { release := .waitReadback } })).dies.sd.brake.release = .waitReadback := rfl

/-- Pulses of either channel that are due in RELEASED. -/
theorem test_pulses_due : running.dies.sd.brake.onB = running.dies.sd.mayB ∧ running.dies.sd.brake.state = .released ∧
    running.dies.sd.brake.pulseA = none ∧ running.dies.sd.brake.pulseB = none ∧
    running.dies.sd.brake.pulsedA + running.dies.sd.get Od.PULSE_PERIOD_MS * 1000000 ≤ (running.dies.sd.tick 10000000000).now ∧
    running.dies.sd.brake.pulsedB + running.dies.sd.get Od.PULSE_PERIOD_MS * 1000000 ≤ (running.dies.sd.tick 10000000000).now ∧
    running.dies.sd.brake.pulsedA + running.dies.sd.get Od.PULSE_PERIOD_MS * 1000000 / 2 ≤ (running.dies.sd.tick 10000000000).now := by
  decide +kernel

/-- R435: 499 ns of RESET_N resets nothing; 500 ns does, with no store in progress and no reset held. -/
theorem test_reset_n : running.dies.sd.boot.heldSince = none ∧ running.dies.sd.stores = [] ∧
    (∃ s', exec (.resetN 0 499) running = .next s' ∧ s'.dies.sd.device = .run) ∧
    ∃ s', exec (.resetN 0 500) running = .next s' ∧ s'.dies.sd.device = .boot :=
  ⟨rfl, rfl, ⟨_, rfl, by decide +kernel⟩, _, rfl, by decide +kernel⟩

/-- Payloads with no reserved code, epochs in and not in force, a set's CRC, no flit of an unfinished item. -/
theorem test_flit_payloads : malformedReport (flitToken (11 * 2 ^ 60 + 10 * 2 ^ 56)) = false ∧
    malformedReport (flitStream 11 6 true true 255) = false ∧ running.dies.sd.corRx.part 0x03 = 0 ∧ running.dies.cd.corRx.part 0x21 = 0 ∧
    running.dies.cd.corRx.part 0x30 = 0 ∧ running.dies.cd.epoch < 2 ^ 32 ∧ 2 ^ 32 - 1 ≠ running.dies.cd.epoch ∧
    ({ epoch := 1, crc := crc32c (setOctets []) } : SetEnds).crc = crc32c (setOctets []) := by decide +kernel

theorem test_epoch_boundary : running.dies.sd.kill.on = false ∧ running.dies.sd.kill.wanted = none ∧
    running.dies.sd.cdState.serves = true ∧ running.dies.sd.kill.released = some 0 ∧ running.dies.cd.device = .run ∧
    running.dies.cd.state = .run ∧ running.dies.cd.injectors = [] ∧ running.dies.sd.advancedAt ≠ some running.dies.sd.now ∧
    (withSd (fun s => { s with advancedAt := some s.now })).dies.sd.advancedAt = some running.dies.sd.now := by decide

/-! Watchdogs. -/

/-- WDS running, not armed; armed since the first key; past its first service. -/
def dog (armed : Option Nat) : SafetyDie := { running.dies.sd with wds := { state := .running, armed := armed } }

theorem test_watchdog : (dog none).wds.state = .running ∧ (dog none).wds.held = none ∧ (dog none).keeper.halted = false ∧
    ((dog none).tick 16000).now < (dog none).wds.base + (dog none).wds.timeout * 1000 ∧ (0xA35C : Nat) % 65536 = 0xA35C ∧
    (dog none).wds.armed = none := by decide
theorem test_watchdog_second_key : (0x5CA3 : Nat) % 65536 = 0x5CA3 ∧ (dog (some 0)).wds.armed = some 0 ∧ ((dog (some 0)).tick 16000).now ≤ 0 + 16000 ∧
    (dog (some 0)).wds.window = false ∧ ((dog (some 0)).tick 16000).now < (dog (some 0)).wds.base + (dog (some 0)).wds.timeout * 1000 := by
  decide
theorem test_watchdog_wrong_key : (1 : Nat) % 65536 ≠ 0xA35C ∧ (1 : Nat) % 65536 ≠ 0x5CA3 ∧ (dog none).wds.boot = false := by decide

theorem test_from_check : running.FromCheck 256 := ⟨rfl, by decide, rfl, rfl⟩
theorem test_from_safety : running.FromSafety 0 := ⟨⟨rfl, rfl⟩, by decide, rfl, rfl⟩

/-- WDH not due, locked; or unlocked with both keys of the disable sequence received in time, or too long ago. -/
theorem test_wdh : let s (g : DogGate) := withSd (fun x => { x with gate := g })
    (s { lock := true }).FromCheck 0 ∧ (s { lock := true }).dies.sd.wdh.due ((s {}).dies.sd.tick 16000).now = false ∧
    (s { step := 2 }).FromCheck 0 ∧ (s { step := 2 }).dies.sd.gate.lock = false ∧
    ((s { step := 2 }).dies.sd.tick 16000).now ≤ (s { step := 2 }).dies.sd.gate.stepAt + 16000 ∧
    (s { step := 2 }).dies.sd.gate.stepAt + 16000 < ((s { step := 2 }).dies.sd.tick 16001).now :=
  ⟨⟨rfl, by decide, rfl, rfl⟩, by decide, ⟨rfl, by decide, rfl, rfl⟩, rfl, by decide, by decide⟩

/-! Sessions. -/

/-- An OD message: length, KIND, FLAGS, slot, SEQ, key, data of 8 n octets, all but its TAG (R344). -/
def message (kind slot seq key n : Nat) (data : Octets) : Octets :=
  le 2 (8 * n + 40) ++ [kind, 0, slot, 0, 0, 0] ++ le 4 seq ++ le 2 (key / 256) ++ [key % 256, 0] ++ le 4 0 ++ le 4 (8 * n) ++ data

/-- A HELLO for a role on path 3. -/
def helloOf (role : Nat) : Octets := message 1 0xFF 0 0 5 ([role, 3, 0, 0, 0, 0, 0, 0] ++ List.replicate 32 9) ++ List.replicate 16 0

/-- A role locked for 60 s, and a role without a key. -/
theorem test_hello_refused : helloFormed 3 (helloOf 4) = true ∧
    (withSd (fun s => { s with guest := {} })).dies.sd.lockLeft (field (dataOf (helloOf 4)) 0 1) = 60 ∧
    running.dies.sd.roleKey (field (dataOf (helloOf 4)) 0 1) = none := by decide +kernel

/-- A challenged session of a role with a key. -/
def challenged : SafetyDie :=
  { running.dies.sd with sessions := [(0, some { role := 4, path := 3 })], keys := [(4, List.replicate 32 1)] }

/-- A PROOF with the octet `v` repeated. -/
def proofOf (v : Nat) : Octets := message 3 0 0 0 4 (List.replicate 32 v) ++ List.replicate 16 0

theorem proof_formed (v : Nat) (h : v < 2) : challenged.session (field (proofOf v) 4 1) = some { role := 4, path := 3 } ∧
    messageFormed 3 0 (proofOf v) = true ∧ zeros (tagOf (proofOf v)) = true ∧ dataOf (proofOf v) = List.replicate 32 v ∧
    challenged.lockLeft 4 = 0 ∧ challenged.now ≤ 0 + 10000000000 ∧ challenged.roleKey 4 = some (List.replicate 32 1) := by
  interval_cases v <;> decide +kernel

/-- Of two PROOFs at least one is wrong. -/
theorem test_wrong_proof : ∃ b : Octets, challenged.session (field b 4 1) = some { role := 4, path := 3 } ∧ messageFormed 3 0 b = true ∧
    zeros (tagOf b) = true ∧ (dataOf b).length = 32 ∧ challenged.lockLeft 4 = 0 ∧ challenged.now ≤ 0 + 10000000000 ∧
    challenged.roleKey 4 = some (List.replicate 32 1) ∧ dataOf b ≠ padTo 32 (Config.kmac256 (List.replicate 32 1)
      (({ role := 4, path := 3 } : Session).transcript (field b 4 1)) 256 "OPEN-C") := by
  obtain ⟨a1, a2, a3, a4, a5, a6, a7⟩ := proof_formed 0 (by decide)
  obtain ⟨b1, b2, b3, b4, b5, b6, b7⟩ := proof_formed 1 (by decide)
  by_cases h : dataOf (proofOf 0) = padTo 32 (Config.kmac256 (List.replicate 32 1)
      (({ role := 4, path := 3 } : Session).transcript (field (proofOf 0) 4 1)) 256 "OPEN-C")
  · refine ⟨proofOf 1, b1, b2, b3, by rw [b4]; rfl, b5, b6, b7, fun h1 => ?_⟩
    have e : field (proofOf 1) 4 1 = field (proofOf 0) 4 1 := rfl
    rw [e, ← h, a4, b4] at h1
    exact absurd h1 (by decide)
  · exact ⟨proofOf 0, a1, a2, a3, by rw [a4]; rfl, a5, a6, a7, h⟩

/-- A request of slot 0 with SEQ 1 and its right TAG. -/
def asked (kind : Nat) : Octets :=
  message kind 0 1 0x100001 0 [] ++ tagWanted (client 4 3).key (message kind 0 1 0x100001 0 [] ++ List.replicate 16 0)

theorem padTo_length (n : Nat) (b : Octets) : (padTo n b).length = n := by simp [padTo]; omega

theorem asked_length (kind : Nat) : (asked kind).length = 40 := by
  simp only [asked, List.length_append, tagWanted, padTo_length]; rfl

theorem asked_tag (kind : Nat) : tagOf (asked kind) = tagWanted (client 4 3).key (asked kind) := by
  have h : (asked kind).take 24 = message kind 0 1 0x100001 0 [] := by
    rw [asked]; exact List.take_left' rfl
  have h1 : tagWanted (client 4 3).key (asked kind)
      = tagWanted (client 4 3).key (message kind 0 1 0x100001 0 [] ++ List.replicate 16 0) := by
    simp only [tagWanted, asked_length]
    rw [show (40 - 16 : Nat) = 24 from rfl, h]
    rfl
  rw [h1, tagOf, asked_length, asked, show (40 - 16 : Nat) = 24 from rfl]
  exact List.drop_left' rfl

theorem test_hears (device : DevState) (b : Octets) : ((served 4 device).dies.tick 0).Hears 3 0 0 b :=
  ⟨rfl, fun _ => by decide, fun h => absurd rfl h⟩

/-- A READ, a WRITE and a CLOSE of the open session: its right TAG, SEQ later than the last, nothing unanswered. -/
theorem test_requests (kind : Nat) (h : kind < 256) : let y := ((served 4 .run).dies.tick 0).carried 3 0 (asked kind)
    y.sd.session (field (asked kind) 4 1) = some (client 4 3) ∧ (client 4 3).opened = true ∧ (client 4 3).path = 3 ∧
    (client 4 3).origin = originOf 3 0 ∧ y.sd.idle (client 4 3) = false ∧ (client 4 3).waiting = [] ∧ (client 4 3).busy = none ∧ 40 ≤ (asked kind).length ∧
    tagOf (asked kind) = tagWanted (client 4 3).key (asked kind) ∧ (client 4 3).lastSeq < (parseReq 3 (asked kind)).seq ∧
    kindOf (asked kind) = kind :=
  ⟨rfl, rfl, rfl, rfl, rfl, rfl, rfl, by rw [asked_length], asked_tag kind, Nat.zero_lt_one, by show ofLe [kind] = kind; simp [ofLe, Nat.mod_eq_of_lt h]⟩

theorem test_close_formed : (parseReq 3 (asked 0x12)).bad = false := by
  have h1 : field (asked 0x12) 0 2 = 40 := rfl
  have h2 : field (asked 0x12) 20 4 = 0 := rfl
  have h3 : field (asked 0x12) 3 1 = 0 := rfl
  have h4 : kindOf (asked 0x12) = 0x12 := rfl
  have h5 : zeros (((asked 0x12).drop 5).take 3) = true := rfl
  have h6 : zeros (((asked 0x12).drop 15).take 1) = true := rfl
  have h7 : zeros [] = true := rfl
  simp [parseReq, messageFormed, asked_length, h1, h2, h3, h4, h5, h6, h7, pathMax]

/-- A message too short for a TAG; its session's eighth; a session that has used SEQ 2; one whose last request it was. -/
theorem test_tag_failures : ([0, 0, 0x10, 0, 0] : Octets).length < 40 ∧ kindOf [0, 0, 0x10, 0, 0] = 0x10 ∧ field [0, 0, 0x10, 0, 0] 4 1 = 0 ∧
    (client 4 3).tagFails + 1 < 8 ∧ 8 ≤ ({ client 4 3 with tagFails := 7 } : Session).tagFails + 1 := by decide

theorem test_replays : (parseReq 3 (asked 0x10)).seq ≤ ({ client 4 3 with lastSeq := 2 } : Session).lastSeq ∧
    (parseReq 3 (asked 0x10)).seq ≠ ({ client 4 3 with lastSeq := 2 } : Session).lastSeq ∧
    (let ses : Session := { client 4 3 with lastSeq := 1, lastTag := tagOf (asked 0x10), response := [0] }
     (parseReq 3 (asked 0x10)).seq = ses.lastSeq ∧ tagOf (asked 0x10) = ses.lastTag ∧ ses.response ≠ [] ∧
      tagOf (asked 0x10) = tagWanted ses.key (asked 0x10)) :=
  ⟨Nat.le_succ 1, Nat.ne_of_lt Nat.one_lt_two, rfl, rfl, List.cons_ne_nil _ _, asked_tag 0x10⟩

theorem test_handshakes : kindOf (helloOf 4) = 1 ∧ kindOf (proofOf 0) = 3 := by decide +kernel

/-- A plain upload of an entry and of OD_TUNNEL_OUT, an idle session. -/
theorem test_access : (served 4 .run).dies.reaches 3 = true ∧ (running.dies.tick 0).plainRead 1 0x1280 2 = some [] ∧
    (served 4 .run).dies.sd.session 0 = some (client 4 3) ∧ (client 4 3).opened = true ∧
    (client 4 3).heardAt + (served 4 .run).dies.sd.get Od.SESSION_IDLE_S * 1000000000
      ≤ ((served 4 .run).dies.sd.tick 3600000000000).now ∧ (served 4 .run).dies.sd.keeper.halted = false := by decide +kernel

/-! The log, the corridor, verdicts and the fabric. -/

theorem test_log : let r : EventRec := { name := .coreMismatch, onSafety := true, gts := 0 }
    r ∈ [r] ∧ r.name.severity = .safety ∧ [r].length < 256 ∧ 256 ≤ (List.replicate 256 r).length ∧ running.dies.sd.log = [] ∧
    r.onSafety = true ∧ r.gts = (withSd (fun s => { s with log := [r] })).dies.sd.gts := by decide +kernel

theorem test_flit_out_of_order : running.dies.sd.kill.on = false ∧ running.dies.sd.power ≠ .retain ∧ running.dies.sd.injectors = [] ∧ running.dies.sd.corRx.up = true ∧
    (1 : Nat) % 256 ≠ running.dies.sd.corRx.expected ∧ running.dies.sd.corRx.nakCount < 3 := by decide

/-- R189: each provisional verdict has its reasons. -/
theorem test_provisional : composeCode (nbMask [] 0) rSAFE_STATE false true = vWITHHELD ∧ composeCode (nbMask [] 0) 0 true true = vNO_INPUT ∧
    composeCode (nbMask [] 0) 1 false true = vNOT_BELIEVED ∧ composeCode (nbMask [] 0) 0 false false = vNO_RESULT ∧
    composeCode (nbMask [] 0) rAGE_EXCEEDED false true = vSTALE ∧ composeCode (nbMask [] 0) 0 false true = vBELIEVED := by decide +kernel

/-- A port that carries fabric frames. -/
theorem test_fabric_port : let s := withCd (fun d => { d with cfg := OdStore.putKey [] (Od.FABRIC_ENABLE.key 0) (.num 1)
                                                              fab := { fpEnable := 15, ports := [(3, { linkUp := true })] } })
    (s.dies.cd.tick 0).fabOn 3 = true ∧ s.dies.cd.runs = true := by decide +kernel

theorem test_link : running.dies.cd.up = true ∧ running.dies.cd.clock = true ∧ running.dies.sd.kill.on = false ∧
    running.dies.cd.power ≠ .retain ∧ running.dies.sd.power ≠ .retain ∧
    (running.dies.cd.trainIn true).corRx.up = running.dies.cd.corRx.up ∧ (running.dies.sd.trainIn true).corRx.up = running.dies.sd.corRx.up ∧
    (let d := (withCd (fun d => { d with corRx := { train := 63 } })).dies.cd
     (d.trainIn true).corRx.up = true ∧ d.corRx.up = false) := by decide +kernel

theorem test_wires : running.dies.cd.up = true ∧ running.dies.cd.demand = false ∧ running.dies.cd.perst = false := by decide
theorem test_clock_loss : (2 : Nat) ≤ 2 ∧ ¬ (running.dies.sd.power = .standby ∧ 2 ≤ 1) ∧ (2 : Nat) < 3 := by decide
theorem test_thermal_trip : tmax16 + 240 ≤ tmax16 + 240 ∧ (19 : Nat) < 20 ∧ running.dies.sd.kill.on = false := ⟨le_refl _, by decide, rfl⟩

/-! The data path. -/

theorem test_check_die_exact : running.dies.cd.time.ptmAsked = none ∧
    ((running.dies.cd.cluster 15).boundAt + running.dies.cd.get Od.BOUND_TEST_PERIOD_MS * 1000000 ≤ (running.dies.cd.tick 100000000000).now ∧
      (let v : TileLane := { row := 0, fmtW := 10, fmtX := 10, pairs := [({ word := 0x3C00 }, { word := 0x3C00 })] }
       ub24Pattern (v.bound v.run) = 0x7F0000)) ∧
    (let d := (withCd (fun d => { d with time := { d.time with ppsHigh := true }, wl := { busy := true } })).dies.cd
     d.time.ppsHigh = true ∧ d.time.ppsRoseAt + d.get Od.PPS_OUT_WIDTH_US * 1000 ≤ (d.tick 1000000000).now ∧ d.wl.busy = true ∧
      d.perst = false) := by decide +kernel

theorem test_safety_die_exact : (running.dies.sd.pair 7).rawA ≠ true ∧ (999 : Nat) < 1000 ∧ (0xD15A : Nat) % 65536 = 0xD15A ∧
    running.dies.sd.gate.step = 0 ∧ (withSd (fun s => { s with brake := { test := some 0 } })).dies.sd.brake.test = some 0 ∧
    0 + running.dies.sd.get Od.BT_DURATION_MS * 1000000 ≤ (running.dies.sd.tick 60000000000).now := by decide +kernel

/-- A lane of one INT8 product, 3 × 5, or one of FP16 products, 1 × 1 and 1 × 2^-24, with what goes wrong in it. -/
def lane1 (faults : List LaneFault) : TileLane := { row := 0, fmtW := 2, fmtX := 2, pairs := [({ word := 3 }, { word := 5 })], faults := faults }
def lane2 : TileLane := { row := 0, fmtW := 10, fmtX := 10, pairs := [({ word := 0x3C00 }, { word := 0x3C00 }), ({ word := 0x3C00 }, { word := 1 })] }
theorem test_residues : (lane1 []).mismatch = false ∧ (lane1 [.product 0 32385]).mismatch = false ∧ (lane1 [.product 0 1]).mismatch = true := by
  decide +kernel
theorem test_residue_lane : (lane1 [.product 0 1]).float = false ∧ (∀ f ∈ (lane1 [.product 0 1]).faults, ∃ k e, f = .product k e) ∧
    |(((lane1 [.product 0 1]).pairs.zip (List.range 1)).foldl (lane1 [.product 0 1]).takeInt {}).acc| < 2 ^ 47 :=
  ⟨rfl, by simp [lane1], by decide +kernel⟩
theorem test_residue_float : lane2.faults = [] ∧ ∀ b ∈ lane2.blockList false, (∀ p ∈ b.1, lane2.special p.1 = none) ∧
    |(b.1.foldl (lane2.takeProduct (lane2.blockExp b.1)) { acc := 0 }).acc| < 2 ^ 63 := by decide +kernel

/-- A row not yet watched, a row watched in the window with no other row fenced and a limit of 0, a cluster under test. -/
def watched : CheckDie := (withCd (fun d => { d with clusters := [(3, { watch := [{ row := 95, at_ := 0 }] }), (4, { out := true })] })).dies.cd
theorem test_rows : (watched.cluster 4).out = true ∧ (watched.cluster 3).out = false ∧
    (watched.cluster 3).watch.any (fun w => w.row == 0xFF && w.margin) = false ∧ (watched.cluster 3).watch.any (fun w => w.row == 0) = false ∧
    ({ row := 95, at_ := 0 } : Watch) ∈ (watched.cluster 3).watch ∧ watched.now ≤ 0 + watched.get Od.ROW_FENCE_WINDOW_MS * 1000000 ∧
    (watched.cluster 3).rows.contains 95 = false := by decide +kernel
/-- R103: one row more than ROW_FENCE_LIMIT fences the cluster. -/
theorem test_row_limit : let d := { watched with cfg := OdStore.putKey [] (Od.ROW_FENCE_LIMIT.key 0) (.num 0) }
    d.get Od.ROW_FENCE_LIMIT < ((d.countAgainst 3 95).cluster 3).rows.length ∧ ((d.countAgainst 3 95).cluster 3).fenced = true := by
  decide +kernel

/-- A ring of 8 entries, empty, full or off. -/
def ringOf (x : Ring) : CheckDie := (withCd (fun d => { d with rings := [(2, x)] })).dies.cd
theorem test_ring : (ringOf { ctrl := 0x30001 }).busMaster = true ∧ ((ringOf { ctrl := 0x30001 }).ring 2).on = true ∧
    (let x := (ringOf { ctrl := 0x30001, write := 0xFFFFFFFF, read := 0xFFFFFFF8 }).ring 2
     subMod 32 x.write x.read < 2 ^ bitsOf x.ctrl 16 5) ∧
    (let x := (ringOf { ctrl := 0x30001, write := 7, read := 0xFFFFFFFF }).ring 2
     2 ^ bitsOf x.ctrl 16 5 ≤ subMod 32 x.write x.read) ∧ ((ringOf {}).ring 2).on = false := by decide +kernel

/-- A lane with a record due, and one that sends a RESULT while a RETRACT falls due. -/
def laneOf (x : Lane) : CheckDie := (withCd (fun d => { d with lanes := [(3, x)] })).dies.cd
def item (k : EgKind) : EgItem := { kind := k, consumer := 9, due := 0 }
theorem test_egress : let d := laneOf { up := true, queue := [item .verdict] }
    let e := laneOf { up := true, queue := [item .retract], sending := some { item := item .result, start := 0, stop := 1, seq := 0, octets := [] } }
    ((d.laneCatchUp 3).dropOver 3).lane 3 = d.lane 3 ∧ (d.lane 3).sending = none ∧ (((d.egressStart 3).lane 3).sending).isSome = true ∧
    ((laneOf {}).laneCatchUp 3).dropOver 3 = laneOf {} ∧ ((laneOf {}).lane 3).up = false ∧
    (e.lane 3).up = true ∧ ((e.laneCatchUp 3).dropOver 3).lane 3 = e.lane 3 ∧
    (e.lane 3).queue.any (fun y => y.preempts && decide (0 ≤ y.due)) = true ∧
    (((e.lane 3).sending).map (fun s => s.item.kind)) = some .result := by decide +kernel
/-- A RESULT starts with its consumer's credit, and not without it. -/
theorem test_egress_credit : let x : Lane := { up := true, queue := [{ item .result with body := List.replicate 16 0 }] }
    (((laneOf x).egressStart 3).lane 3).sending = none ∧
    ((((({ laneOf x with consumers := [(9, { enabled := true, credit := true, total := 100 })] } : CheckDie).egressStart 3).lane 3).sending).map
      (fun s => s.item.kind)) = some .result := by decide +kernel

end Sys2Proof.Tests
end

section
/-! PROOFS. The outcome of a command on the die that takes it: each shared shape of Machine/Ops.lean, when that die takes part. -/

namespace Sys2Proof.Machine

open Host

/-- A happening of a check die that runs does `f` on it. -/
theorem State.onCheck_checkDid (s : State) (t : Nat) (f : CheckDie → CheckDie) (hr : s.Runs) : s.onCheck t f = s.checkDid t f := by
  simp only [State.onCheck, State.act, Dies.check_runs (s.dies.tick t) f hr, State.checkDid, Dies.tick_sd, Dies.tick_cd]

/-- The same at a unit that exists. -/
theorem State.onCheckIf_checkDid (s : State) (t : Nat) (c : Prop) [Decidable c] (f : CheckDie → CheckDie) (hr : s.Runs) (hc : c) :
    s.onCheckIf t c f = s.checkDid t f := by
  unfold State.onCheckIf
  rw [← State.onCheck_checkDid s t f hr]
  simp only [if_pos hc, State.onCheck]

/-- An access of the host to a check die that runs, with PERST# high, does `f` on it (R404). -/
theorem State.onHost_checkDid (s : State) (t : Nat) (f : CheckDie → CheckDie) (hr : s.Runs) (hp : s.dies.cd.perst = false) :
    s.onHost t f = s.checkDid t f := by
  rw [← State.onCheck_checkDid s t f hr]
  have hp' : ¬ (s.dies.tick t).cd.perst = true := by simp [Dies.tick, CheckDie.tick, hp]
  simp only [State.onHost, State.onCheck, State.act, if_neg hp']

/-- What the check die did is judged at the die with its clock moved. -/
theorem State.checkDid_congr (s : State) (t : Nat) (f g : CheckDie → CheckDie) (h : f (s.dies.cd.tick t) = g (s.dies.cd.tick t)) :
    s.checkDid t f = s.checkDid t g := by
  unfold State.checkDid; rw [h]

/-- What the safety die did is judged at the die with its clock moved. -/
theorem State.safetyDid_congr (s : State) (t : Nat) (f g : SafetyDie → SafetyDie) (h : f (s.dies.sd.tick t) = g (s.dies.sd.tick t)) :
    s.safetyDid t f = s.safetyDid t g := by
  unfold State.safetyDid; rw [h]

/-- A happening of the safety die does `f` on it, and what follows from that. -/
theorem State.onSafety_safetyDid (s : State) (t : Nat) (f : SafetyDie → SafetyDie) : s.onSafety t f = s.safetyDid t f := rfl

/-- An update of the safety die at the time its clock has been moved to. -/
theorem Dies.tick_onSafety (x : Dies) (t : Nat) (f : SafetyDie → SafetyDie) :
    (x.tick t).onSafety t f = (x.tick t).follow (f (x.sd.tick t)) := by
  simp [Dies.onSafety]

/-- A flit that the safety die receives does `f` on it (R31, R248). -/
theorem State.onSafetyLink_safetyDid (s : State) (t seq : Nat) (f : SafetyDie → SafetyDie) (h : s.FromCheck seq) :
    s.onSafetyLink t f = s.safetyDid t f := by
  have hopen : ¬ ((s.dies.sd.kill.on || (s.dies.sd.power == .retain
      && decide ((s.dies.sd.tick t).sleepAt + 5000000 ≤ (s.dies.sd.tick t).now))) = true) := by
    simp [h.released, h.awake]
  simp only [State.onSafetyLink, State.act, State.safetyDid, Dies.onSafetyLink, Dies.tick_sd, SafetyDie.tick_tick, SafetyDie.tick_kill,
    SafetyDie.tick_power, if_neg hopen, Dies.tick_onSafety]

end Sys2Proof.Machine
end

section
/-! PROOFS. The commands of the check die reach that die alone (spec/01_architecture.md). -/

namespace Sys2Proof.Machine

open Host

/-- An access of the host to a BAR, within its end or not, reaches the check die alone (R405). -/
theorem State.hostInBar_next (s : State) (t : Nat) (p : Prop) [Decidable p] (f : CheckDie → CheckDie) (s' : State)
    (h : (if p then s.onHost t f else .fault .outsideBar) = .next s') : s.OnlyCheck t s' := by
  split at h
  · exact State.onHost_next s t f s' h
  · cases h

/-- A command of the check die, or an access of the host to it, reaches the check die alone (R16, R17): each is a happening of the die,
one at a unit of the die, or an access of the host. -/
theorem exec_onlyCheck (c : Instr) (t : Nat) (s s' : State) (hc : c.atCheckDie = some t) (h : exec c s = .next s') :
    s.OnlyCheck t s' := by
  cases c with
  | sentinelReady | resultDeadline | replanComplete | retestClusterDone | sramScrubPass | lpddr5xScrubPass | auditEpochEnd
  | deliveryChecksDone | deliverByTimeout | finalPassStart | batchPassDone | allowanceEnd | secondOpinionTimeout | cdHeartToggle
  | coalesceWindowClose | safetyRecordWaitEnd | overflow | sigBatchPeriod | marginStressReady | marginVectorsDone | mgmtOdDatagram
  | lsaRefresh | lsaExpiry | claimRoundEnd | routeComputeDone | peerAbsenceTimeout | managerLost | holdingEnd | claimBackoffEnd
  | retransmitTimeout | standaloneAckTimer | soRerunDone | soBudgetExpiry | relayDatagram | ptpSyncSend | referenceTimeout | ppsInEdge
  | ppsOutRise | ppsOutFall | ptmPeriod | timeSamplePeriod | configCrcPeriod | weightLoadDone | ptpAnnounceSend | ptpDelayRequestSend
  | ptmResponse =>
    cases hc
    exact State.onCheck_next s t _ s' h
  | viBlockLockAcquired | viBlockLockLost | strayDataBlock | passportComplete | frameT0 | frameGapTimeout | heartbeatItem | creditPeriod
  | timePeriod | resyncReqRepeat | noInputSlot | stallLimitTimeout | stallSafeTimeout | tileComplete | spectralTransformComplete
  | macPhaseDeadline | boundTest | watchWindowExpiry | packageVerifyDone | manifestVerifyDone | lanternSetVerifyDone | mapVerifyDone
  | consumerCredit | veRxLockRegained | egressRecordStart | veHeartbeatPeriod | releaseWaitTimeout | linkHello | linkHelloPeriod
  | adjacencyTimeout | lsa | fabricPortDown | assign | put | get | fetchAdd | cmpSwap | response | ack | ptpSync | ptpAnnounce
  | slotIncompleteTimeout | orphanTimeout | clusterGateIdle | veRxLockLost | fabricPortUp | ptpFollowUp | ptpDelayReq | ptpDelayResp
  | ptpPdelayReq | ptpPdelayResp | ptpManagementGet =>
    cases hc
    exact State.onCheckIf_next s t _ _ s' h
  | bar0OdWindow | gtsLoRead | weightLoadGo =>
    cases hc
    exact State.onHost_next s t _ s' h
  | ringEnable | ringRead | ringWriteback | ringIrqTimer =>
    cases hc
    exact State.onHostIf_next s t _ _ s' h
  | landingZoneWrite | registerWrite | resultIntakeWrite =>
    cases hc
    exact State.hostInBar_next s t _ _ s' h
  | _ => cases hc

/-- Settles O8: such a command reaches the check die alone. -/
theorem checkDieCommandsFrame : Obligations.CheckDieCommandsFrame := exec_onlyCheck

end Sys2Proof.Machine
end

section
/-! PROOFS. Host writes to WDH and roll call: a HOST_WRITE flit received in order acts on the register it names (R17, R245, R318). -/

namespace Sys2Proof.Machine

open Host

/-- A flit in order is accepted, then acted on (R248). -/
theorem SafetyDie.receive_takes (y : SafetyDie) (seq n : Nat) (f : SafetyDie → SafetyDie) (h : y.corRx.takes seq = true) :
    y.receive seq n f = f (y.accepted n) := by
  rw [SafetyDie.receive, if_pos h]
  rfl

/-- A flit in order meets the receiver as it was sent when no injector stands at the point (R456). -/
theorem SafetyDie.flitArrives_clear (y : SafetyDie) (seq : Nat) (f : Flit) (hi : y.injectors = []) (h : y.corRx.takes seq = true) :
    y.flitArrives seq f = SafetyDie.flitEffect f (y.accepted 1) := by
  rw [SafetyDie.flitArrives, if_neg (by simp [hi]), SafetyDie.receive_takes y seq 1 _ h]

/-- A value under 2^32 reads back from the lower half of a HOST_WRITE's payload (R245). -/
theorem bitsOf_hostWrite_value (offset v : Nat) (hv : v < 2 ^ 32) : bitsOf (flitHostWrite offset v).payload 0 32 = v := by
  simp only [bitsOf, flitHostWrite, Nat.shiftRight_zero]
  omega

/-- An offset of 24 bits reads back from the upper half of a HOST_WRITE's payload (R245). -/
theorem bitsOf_hostWrite_offset (offset v : Nat) (ho : offset < 2 ^ 24) (hv : v < 2 ^ 32) :
    bitsOf (flitHostWrite offset v).payload 32 24 = offset := by
  simp only [bitsOf, flitHostWrite, Nat.shiftRight_eq_div_pow]
  omega

/-- The type of a HOST_WRITE has no reserved code (R5). -/
theorem malformedReport_hostWrite (offset v : Nat) : malformedReport (flitHostWrite offset v) = false := by
  simp [malformedReport, flitHostWrite]

/-- A HOST_WRITE writes its value to the register at its offset (R17, R318). -/
theorem SafetyDie.flitEffect_hostWrite (y : SafetyDie) (offset v : Nat) (ho : offset < 2 ^ 24) (hv : v < 2 ^ 32) :
    SafetyDie.flitEffect (flitHostWrite offset v) y = y.hostRegister offset v := by
  have htype : (flitHostWrite offset v).type = 0x0C := rfl
  simp [SafetyDie.flitEffect, malformedReport_hostWrite, htype, bitsOf_hostWrite_offset offset v ho hv,
    bitsOf_hostWrite_value offset v hv]

/-- A HOST_WRITE that the safety die receives is accepted and writes the register (R245, R248). -/
theorem State.hostWrite_safetyDid (s : State) (t seq offset v : Nat) (h : s.FromCheck seq) (ho : offset < 2 ^ 24) (hv : v < 2 ^ 32) :
    s.onSafetyLink t (fun y => y.flitArrives seq (flitHostWrite offset v))
      = s.safetyDid t (fun y => (y.accepted 1).hostRegister offset v) := by
  rw [State.onSafetyLink_safetyDid s t seq _ h]
  refine State.safetyDid_congr s t _ _ ?_
  rw [SafetyDie.flitArrives_clear (s.dies.sd.tick t) seq _ h.clear h.order, SafetyDie.flitEffect_hostWrite _ offset v ho hv]

/-- Settles O47: each of the registers is the one that its offset names. -/
theorem hostWatchdogWritesAct : Obligations.HostWatchdogWritesAct := by
  intro s t seq h
  refine ⟨?_, ?_, fun en => ?_, fun v hv => ⟨?_, ?_, ?_⟩⟩
  · exact State.hostWrite_safetyDid s t seq 0x2000 1 h (by decide) (by decide)
  · exact State.hostWrite_safetyDid s t seq 0x2000 0 h (by decide) (by decide)
  · exact State.hostWrite_safetyDid s t seq 0x2000 (2 + b01 en) h (by decide) (by cases en <;> decide)
  · exact State.hostWrite_safetyDid s t seq 0x2004 v h (by decide) hv
  · exact State.hostWrite_safetyDid s t seq 0x2008 v h (by decide) hv
  · exact State.hostWrite_safetyDid s t seq 0x2040 v h (by decide) hv

end Sys2Proof.Machine
end

section
/-! PROOFS. What single commands of the check die, of the wires between the dies and of reset and power do to the die that takes them. -/

namespace Sys2Proof.Machine

open Host

/-- A bound test that is due and agrees with the stored bound only notes its time (R87). -/
theorem CheckDie.boundTest_agrees (d : CheckDie) (c m : Nat) (v : TileLane)
    (hdue : (d.cluster c).boundAt + d.get Od.BOUND_TEST_PERIOD_MS * 1000000 ≤ d.now) (hm : ub24Pattern (v.bound v.run) = m) :
    d.boundTest c v m = d.updCluster c (fun x => { x with boundAt := d.now }) := by
  rw [CheckDie.boundTest, if_neg (Nat.not_lt.mpr hdue)]
  exact if_pos hm

/-- PPS_OUT falls once its width has passed (R399). -/
theorem CheckDie.ppsFall_due (d : CheckDie) (hh : d.time.ppsHigh = true)
    (hdue : d.time.ppsRoseAt + d.get Od.PPS_OUT_WIDTH_US * 1000 ≤ d.now) :
    d.ppsFall = { d with time := { d.time with ppsHigh := false } } := by
  rw [CheckDie.ppsFall, if_pos (by simp [hh, hdue])]
  rfl

/-- A PTM Response outside a dialogue does nothing (R400). -/
theorem CheckDie.ptmResponse_unasked (d : CheckDie) (master delay : Nat) (h : d.time.ptmAsked = none) :
    d.ptmResponse master delay = d := by
  rw [CheckDie.ptmResponse, if_neg (by simp [h])]

/-- GO does nothing while a weight load is busy (R420). -/
theorem CheckDie.weightGo_busy (d : CheckDie) (staged : Nat → Bool) (h : d.wl.busy = true) : d.weightGo staged = d := by
  rw [CheckDie.weightGo, if_pos h]

/-- A clock of the check die that is lost stops it, whether it runs or not (R30). -/
theorem exec_clockLoss_checkDie (s : State) (t which : Nat) (hw : 2 < which) :
    exec (.clockLoss t which) s = s.checkDid t CheckDie.clockStops := by
  have hx : (s.dies.tick t).clockLoss t which = (s.dies.tick t).onCheckAny t CheckDie.clockStops := by
    rw [Dies.clockLoss, if_neg (Nat.not_le.mpr hw)]
  calc exec (.clockLoss t which) s = s.became ((s.dies.tick t).clockLoss t which) := rfl
    _ = s.checkDid t CheckDie.clockStops := by
      rw [hx]; simp only [Dies.onCheckAny, Dies.tick_cd, Dies.tick_sd, CheckDie.tick_tick, State.became, State.checkDid]

/-- A clock of the safety die that is lost resets it, but for one that STANDBY stops itself (R30). -/
theorem exec_clockLoss_safetyDie (s : State) (t which : Nat) (hw : which ≤ 2) (hs : ¬ (s.dies.sd.power = .standby ∧ which ≤ 1)) :
    exec (.clockLoss t which) s = s.safetyDid t (fun y => y.safetyReset .clockLoss 0xFF which 0xFFFF) := by
  have hx : (s.dies.tick t).clockLoss t which
      = (s.dies.tick t).follow ((s.dies.sd.tick t).safetyReset .clockLoss 0xFF which 0xFFFF) := by
    rw [Dies.clockLoss, if_pos hw, Dies.tick_onSafety, SafetyDie.tick_power, if_neg hs]
  calc exec (.clockLoss t which) s = s.became ((s.dies.tick t).clockLoss t which) := rfl
    _ = s.safetyDid t (fun y => y.safetyReset .clockLoss 0xFF which 0xFFFF) := by rw [hx]; rfl

/-- A check-die sensor at its limit stops PLL_SYS while SD_CD_KILL is off (R493). -/
theorem Dies.checkThermal_trips (x : Dies) (t sensor : Nat) (v : Int) (hv : tmax16 + 240 ≤ v) (hs : sensor < 20)
    (hk : x.sd.kill.on = false) :
    (x.tick t).checkThermal t sensor v = { sd := (x.sd.tick t).reading sensor v, cd := (x.cd.tick t).clockStops } := by
  have hin : ¬ (v < tmax16 + 240 ∨ 20 ≤ sensor) := by omega
  simp [Dies.checkThermal, if_neg hin, hk, Dies.onCheckAny]

/-- Settles O32: each of the commands reaches the check die, and there its one register or field. -/
theorem checkDieExactEffects : Obligations.CheckDieExactEffects := by
  intro s t hr
  refine ⟨fun n hn => ?_, fun c m v hc hdue hm => ?_, fun c row hc => ?_, fun hp => ?_, fun hh hdue => ?_, fun master delay ha => ?_,
    fun hp hb => ?_, fun which hw => ?_⟩
  · exact State.onCheckIf_checkDid s t _ _ hr hn
  · refine (State.onCheckIf_checkDid s t _ _ hr hc).trans (State.checkDid_congr s t _ _ ?_)
    rw [CheckDie.boundTest_agrees (s.dies.cd.tick t) c m v hdue hm]
  · exact State.onCheckIf_checkDid s t _ _ hr hc
  · exact State.onHost_checkDid s t _ hr hp
  · exact (State.onCheck_checkDid s t _ hr).trans (State.checkDid_congr s t _ _ (CheckDie.ppsFall_due (s.dies.cd.tick t) hh hdue))
  · exact (State.onCheck_checkDid s t _ hr).trans
      (State.checkDid_congr s t _ id (CheckDie.ptmResponse_unasked (s.dies.cd.tick t) master delay ha))
  · exact (State.onHost_checkDid s t _ hr hp).trans (State.checkDid_congr s t _ id (CheckDie.weightGo_busy (s.dies.cd.tick t) _ hb))
  · exact exec_clockLoss_checkDie s t which hw

/-- Settles O50: the wires and the queue reach the safety die, the toggle and the reports the check die that runs. -/
theorem heartAndDemandCommandsComplete : Obligations.HeartAndDemandCommandsComplete := by
  intro s t
  refine ⟨fun hr => ⟨fun porter composer gate tx => ?_, ?_, ?_⟩, ?_, ?_, fun ns => ?_, fun hu hd => ?_, ?_⟩
  · exact State.onCheck_checkDid s t _ hr
  · exact State.onCheck_checkDid s t _ hr
  · exact State.onCheck_checkDid s t _ hr
  · exact State.onSafety_safetyDid s t _
  · exact State.onSafety_safetyDid s t _
  · exact State.onSafety_safetyDid s t _
  · have hhigh : (s.dies.cd.up && !s.dies.cd.demand) = true := by simp [hu, hd]
    calc exec (.cdSafeDemandHigh t) s
        = s.became (if s.dies.cd.up && !s.dies.cd.demand then (s.dies.tick t).safety SafetyDie.demandHigh else s.dies.tick t) := rfl
      _ = s.safetyDid t SafetyDie.demandHigh := by rw [if_pos hhigh]; rfl
  · exact State.onSafety_safetyDid s t _

/-- Settles O52: the clocks by `exec_clockLoss_safetyDie` and `exec_clockLoss_checkDie`, the thermal trip by `Dies.checkThermal_trips`;
the others are an update of both dies each. -/
theorem resetAndPowerEventsComplete : Obligations.ResetAndPowerEventsComplete := by
  intro s t
  refine ⟨exec_clockLoss_safetyDie s t, exec_clockLoss_checkDie s t, rfl, rfl, fun _ _ => rfl, fun _ _ _ => rfl, fun _ => rfl,
    fun _ => rfl, fun sensor v hv hs hk => ?_, fun _ => rfl, fun hr c hc => ?_⟩
  · exact congrArg s.became (Dies.checkThermal_trips s.dies t sensor v hv hs hk)
  · exact State.onCheckIf_checkDid s t _ _ hr hc

end Sys2Proof.Machine
end

section
/-! PROOFS. The check values of the stream links: each CRC takes one byte at a time, with the parameters that R44 and R47 give. -/

namespace Sys2Proof.Machine

/-- A CRC without reflection takes a further byte at the top of its register. -/
theorem crcMsb_append (w poly init : Nat) (b : Octets) (x : Nat) :
    crcMsb w poly init (b ++ [x]) = iter (crcMsbBit w poly) 8 (crcMsb w poly init b ^^^ (x <<< (w - 8))) := by
  simp only [crcMsb, List.foldl_append, List.foldl_cons, List.foldl_nil]

/-- One bit of the 16-bit register of HEADER_CRC, shifted out at the top (R44). -/
theorem crcMsbBit_header :
    crcMsbBit 16 0x1021 = fun c => if c.testBit 15 then ((c <<< 1) % 65536) ^^^ 0x1021 else (c <<< 1) % 65536 := rfl

/-- Settles O12: the register takes its bytes by `crcMsb_append`, each bit by `crcMsbBit_header`; the rest is evaluation. -/
theorem headerCrc : Obligations.HeaderCrc := by
  refine ⟨rfl, fun b x => ?append, ?checkString, fun b => rfl⟩
  case append =>
    rw [← crcMsbBit_header]
    exact crcMsb_append 16 0x1021 0xFFFF b x
  case checkString => decide +kernel

/-- Settles O13: each kind is the CRC of its parameters by definition; the reflected polynomials agree bit by bit. -/
theorem checkValues : Obligations.CheckValues := by
  refine ⟨?reflected32c, ?reflected32, fun b => rfl, fun b => rfl, fun b => rfl, ?string32c, ?string32, ?string64, rfl⟩
  case reflected32c => decide
  case reflected32 => decide
  case string32c => decide +kernel
  case string32 => decide +kernel
  case string64 => decide +kernel

end Sys2Proof.Machine
end

section
/-! PROOFS. The commands of the porters, the check array, its scrubbers and the dispatcher (spec/02_stream_ingress.md,
spec/03_check_arithmetic.md). -/

namespace Sys2Proof.Machine

/-- Settles O38: a command that names a stream, a cluster or a package slot is a happening at that unit, the others are happenings of
the die; a check die that runs does them. -/
theorem ingressAndCheckCommandsComplete : Obligations.IngressAndCheckCommandsComplete := by
  intro s t hr
  have atUnit (unit : Prop) [Decidable unit] (f : CheckDie → CheckDie) (h : unit) : s.onCheckIf t unit f = s.checkDid t f :=
    State.onCheckIf_checkDid s t unit f hr h
  have onDie (f : CheckDie → CheckDie) : s.onCheck t f = s.checkDid t f := State.onCheck_checkDid s t f hr
  exact ⟨
    -- the porters
    fun _ hn => atUnit _ _ hn, fun _ _ _ hn => atUnit _ _ hn, fun _ hn => atUnit _ _ hn, fun _ _ _ hn => atUnit _ _ hn,
    fun _ _ _ _ _ hn => atUnit _ _ hn, fun _ _ _ hn => atUnit _ _ hn, fun _ _ hn => atUnit _ _ hn, fun _ hn => atUnit _ _ hn,
    fun _ hn => atUnit _ _ hn, fun _ hn => atUnit _ _ hn, fun _ hn => atUnit _ _ hn, fun _ hq => atUnit _ _ hq,
    fun _ hq => atUnit _ _ hq,
    -- the check array and the sentinels
    fun _ _ _ _ hc => atUnit _ _ hc, fun _ _ _ _ _ _ _ _ _ _ hc => atUnit _ _ hc, fun _ _ _ _ _ => onDie _, fun _ => onDie _,
    fun _ _ hc => atUnit _ _ hc, fun _ _ _ hc => atUnit _ _ hc, fun _ _ hc => atUnit _ _ hc,
    -- the dispatcher, the re-test, the scrubbers and the load checks
    onDie _, fun _ _ _ => onDie _, fun _ _ _ => onDie _, fun _ _ => onDie _, fun _ hk => atUnit _ _ hk⟩

end Sys2Proof.Machine
end

section
/-! PROOFS. Admitted writes to the commands of the streams, the clusters and the brake: what each entry does, and that the session's
write does it (R68, R106, R107, R281, R289, R290, R340). -/

namespace Sys2Proof.Machine

open Host

/-- What lets a session write an entry does not depend on the time. -/
theorem Dies.Allows.tick {x : Dies} {ses : Session} {w : OdRow} {i : Nat} (h : x.Allows ses w i) (t : Nat) :
    (x.tick t).Allows ses w i :=
  ⟨h.inst, h.found, h.sub, h.role, h.device, h.serves⟩

/-- What lets a session write a number does not depend on the time. -/
theorem Dies.Admits.tick {x : Dies} {ses : Session} {w : OdRow} {i v : Nat} (h : x.Admits ses w i v) (t : Nat) :
    (x.tick t).Admits ses w i v :=
  ⟨h.toAllows.tick t, h.numeric, h.bits, h.fits, h.range⟩

/-- An admitted write of a number to a wo entry is the request that does what the entry does, in the device state of its arrival
(R340, R349, R350). -/
theorem State.writeEntry_requested (s : State) (t slot : Nat) (ses : Session) (w : OdRow) (i v : Nat) (f : Dies → Served)
    (hf : (s.dies.tick t).Fresh slot ses) (ha : s.dies.Admits ses w i v) (hwo : w.access = .wo)
    (hact : ∀ y : Dies, y.sd.device = s.dies.sd.device → y.act slot (w.index + i) w.sub (.num v) = f y) :
    s.act t (fun x => x.writeEntry slot w i v) = s.requested t slot ses (ses.write w i v) f := by
  have hdone := hact ((s.dies.tick t).taken slot ses (ses.write w i v) (ses.tag slot (ses.write w i v))) rfl
  simp only [State.act, State.requested]
  rw [Dies.writeEntry_act (s.dies.tick t) slot ses w i v hf (ha.tick t) hwo, hdone]

/-- A write to STREAM_RESTART takes its stream through IDLE (R68). -/
theorem Dies.act_streamRestart (y : Dies) (slot n sub : Nat) (v : Val) (hn : n < 12) :
    y.act slot (0x2000 + n) sub v = (y.check (fun d => d.streamRestart n)).done := by
  have hidx : 0x2000 ≤ 0x2000 + n ∧ 0x2000 + n ≤ 0x200B := by omega
  rw [Dies.act, if_pos hidx, Nat.add_sub_cancel_left]

/-- In SERVICE a write to FENCE_CLEAR clears the fences of the clusters it names (R106). -/
theorem Dies.act_fenceClear (y : Dies) (slot v : Nat) (hs : y.sd.device = .service) :
    y.act slot 0x3400 0x04 (.num v) = (y.fenceClear v).done := by
  simp [Dies.act, hs, Val.n]

/-- In SERVICE a write to ARRAY_RETEST starts the re-test of the clusters it names (R107). -/
theorem Dies.act_arrayRetest (y : Dies) (slot v : Nat) (hs : y.sd.device = .service) :
    y.act slot 0x3400 0x0E (.num v) = (y.check (fun d => d.arrayRetest v)).done := by
  simp [Dies.act, hs, Val.n]

/-- A write to FAULT_CLEAR clears the faults it names (R289). -/
theorem Dies.act_faultClear (y : Dies) (slot v : Nat) :
    y.act slot 0x4100 0x12 (.num v) = (y.safety (fun z => z.faultClear v)).done := rfl

/-- A write to BT_START starts a brake test, or is answered STATE where none may start, which is the model's choice (R290; log entry 57). -/
theorem Dies.act_btStart (y : Dies) (slot : Nat) (v : Val) :
    y.act slot 0x4100 0x0A v = (y.safety (fun _ => y.sd.btStart.1)).say (if y.sd.btStart.2 then .ok else .state) := rfl

/-- A write to HOLD_REQUEST is a stop cause (R281). -/
theorem Dies.act_holdRequest (y : Dies) (slot : Nat) (v : Val) :
    y.act slot 0x4100 0x0E v = (y.safety SafetyDie.holdRequest).done := rfl

/-- Settles O56: each of the writes is `State.writeEntry_requested` with what its entry does. -/
theorem streamClusterAndBrakeWritesAct : Obligations.StreamClusterAndBrakeWritesAct := by
  intro s t
  refine ⟨fun slot n v ses hf ha => ?streamRestart, fun slot v ses hf ha hs => ?fenceClear, fun slot v ses hf ha hs => ?arrayRetest,
    fun slot v ses hf ha => ?faultClear, fun slot v ses hf ha => ?btStart, fun slot v ses hf ha => ?holdRequest⟩
  case streamRestart =>
    exact State.writeEntry_requested s t slot ses Od.STREAM_RESTART n v _ hf ha rfl
      (fun y _ => Dies.act_streamRestart y slot n _ _ ha.inst)
  case fenceClear =>
    exact State.writeEntry_requested s t slot ses Od.FENCE_CLEAR 0 v _ hf ha rfl
      (fun y hd => Dies.act_fenceClear y slot v (hd.trans hs))
  case arrayRetest =>
    exact State.writeEntry_requested s t slot ses Od.ARRAY_RETEST 0 v _ hf ha rfl
      (fun y hd => Dies.act_arrayRetest y slot v (hd.trans hs))
  case faultClear =>
    exact State.writeEntry_requested s t slot ses Od.FAULT_CLEAR 0 v _ hf ha rfl (fun y _ => Dies.act_faultClear y slot v)
  case btStart =>
    exact State.writeEntry_requested s t slot ses Od.BT_START 0 v _ hf ha rfl (fun y _ => Dies.act_btStart y slot _)
  case holdRequest =>
    exact State.writeEntry_requested s t slot ses Od.HOLD_REQUEST 0 v _ hf ha rfl (fun y _ => Dies.act_holdRequest y slot _)

end Sys2Proof.Machine
end

section
/-! PROOFS. The residues of a lane's tile: what the comparison of an integer tile sees, and what a block of a floating tile adds to the
predicted and the actual residues (R76, R80, R81, R83). -/

namespace Sys2Proof.Machine

/-- A number agrees with the residue of a value modulo `m` just when it is congruent to that value. -/
theorem mod_eq_residue_mod_iff (m : Nat) (hm : 0 < m) (p : Nat) (v : Int) : p % m = residue m v % m ↔ (p : Int) ≡ v [ZMOD m] :=
  Int.natCast_modEq_iff.symm.trans
    ⟨fun h => h.trans (residue_modEq m hm v), fun h => h.trans (residue_modEq m hm v).symm⟩

/-- Only products of the lane go wrong. -/
def TileLane.OnlyProducts (l : TileLane) : Prop := ∀ f ∈ l.faults, ∃ k e, f = .product k e

/-- Where only products go wrong, what gathers other faults gathers nothing. -/
theorem TileLane.OnlyProducts.foldl_faults {α : Type} {l : TileLane} (h : l.OnlyProducts) (gather : α → LaneFault → α) (a : α)
    (hskip : ∀ m k e, gather m (.product k e) = m) : l.faults.foldl gather a = a := by
  refine List.foldlRecOn (motive := (· = a)) l.faults gather rfl fun m hm f hf => ?_
  obtain ⟨k, e, rfl⟩ := h f hf
  exact (hskip m k e).trans hm

/-- Where only products go wrong, no bit of an accumulator flips. -/
theorem TileLane.OnlyProducts.accMask_zero {l : TileLane} (h : l.OnlyProducts) (b : Nat) : l.accMask b = 0 :=
  h.foldl_faults _ 0 fun _ _ _ => rfl

/-- Where only products go wrong, the predicted residues are as the residue sub-lane forms them. -/
theorem TileLane.OnlyProducts.residueErr_zero {l : TileLane} (h : l.OnlyProducts) (m127 : Bool) : l.residueErr m127 = 0 :=
  h.foldl_faults _ 0 fun _ _ _ => rfl

/-- The lane of an integer tile after its products, before its accumulator is read (R76, item 1). -/
def TileLane.intSum (l : TileLane) : LaneRun := (l.pairs.zip (List.range l.pairs.length)).foldl l.takeInt {}

/-- The errors of an integer tile's products. -/
def TileLane.errorSum (l : TileLane) : Int := ((List.range l.pairs.length).map (fun k => l.productErr k)).sum

/-- Without its errors the accumulator of an integer tile is congruent to the predicted residues; no product touches the rest. -/
theorem TileLane.intSum_residue (l : TileLane) :
    l.intSum.acc - l.errorSum ≡ l.intSum.pred255 [ZMOD 255] ∧ l.intSum.acc - l.errorSum ≡ l.intSum.pred127 [ZMOD 127] ∧
    l.intSum.sum = .fin 0 ∧ l.intSum.special = none ∧ l.intSum.bad = false := by
  obtain ⟨h255, h127, hsum, hspecial, hbad⟩ := l.int_residue (l.pairs.zip (List.range l.pairs.length)) {}
  have herr : ((l.pairs.zip (List.range l.pairs.length)).map (fun p => l.productErr p.2)).sum = l.errorSum := by
    have hpos : (l.pairs.zip (List.range l.pairs.length)).map Prod.snd = List.range l.pairs.length := List.map_snd_zip (by simp)
    rw [TileLane.errorSum, ← congrArg (List.map _) hpos, List.map_map]
    rfl
  rw [herr] at h255 h127
  exact ⟨(Int.modEq_of_dvd (Int.modEq_zero_iff_dvd.1 h255)).symm, (Int.modEq_of_dvd (Int.modEq_zero_iff_dvd.1 h127)).symm,
    hsum, hspecial, hbad⟩

/-- An integer tile whose sum fits the 48-bit accumulator ends with that sum and its residues. -/
theorem TileLane.run_int (l : TileLane) (hint : l.float = false) (h : l.OnlyProducts) (hfit : |l.intSum.acc| < 2 ^ 47) :
    l.run = { l.intSum with act255 := residue 255 l.intSum.acc, act127 := residue 127 l.intSum.acc } := by
  have hreg : flipBits 48 l.intSum.acc (l.accMask 0) = l.intSum.acc := by
    rw [h.accMask_zero, flipBits_zero 48 _ (by decide) hfit]
  have hrun : l.run = { l.intSum with
      acc := flipBits 48 l.intSum.acc (l.accMask 0)
      act255 := residue 255 (flipBits 48 l.intSum.acc (l.accMask 0))
      act127 := residue 127 (flipBits 48 l.intSum.acc (l.accMask 0)) } := by
    simp only [TileLane.run, hint, Bool.false_eq_true, if_false, TileLane.intSum]
  rw [hrun, hreg]

/-- The comparison at the end of an integer tile is that of its residues alone (R83). -/
theorem TileLane.mismatch_int (l : TileLane) (hint : l.float = false) (h : l.OnlyProducts) (hfit : |l.intSum.acc| < 2 ^ 47) :
    l.mismatch = false ↔ (l.intSum.pred255 : Int) ≡ l.intSum.acc [ZMOD 255] ∧ (l.intSum.pred127 : Int) ≡ l.intSum.acc [ZMOD 127] := by
  obtain ⟨-, -, hsum, hspecial, hbad⟩ := l.intSum_residue
  have hvalue : l.run.value = .fin 0 := by simp only [l.run_int hint h hfit, LaneRun.value, hspecial, hsum]
  have hbad' : l.run.bad = false := by rw [l.run_int hint h hfit]; exact hbad
  have hcmp : l.mismatch = false ↔ l.predicted l.run = (l.run.act255 % 255, l.run.act127 % 127) := by
    simp [TileLane.mismatch, TileLane.fails, hvalue, FpVal.finite, hint, hbad']
  rw [hcmp, l.run_int hint h hfit]
  simp only [TileLane.predicted, h.residueErr_zero, add_zero, Prod.mk.injEq, mod_eq_residue_mod_iff 255 (by decide),
    mod_eq_residue_mod_iff 127 (by decide), Nat.cast_ofNat]

/-- A block of a floating tile in which nothing goes wrong, with its sum within the 64-bit accumulator, keeps the predicted residues of
its products and adds the residues of that sum to the actual ones (R83). -/
theorem TileLane.takeBlock_clean (l : TileLane) (r : LaneRun) (b : List ((Operand × Operand) × Nat) × Nat) (s : LaneRun)
    (hs : s = b.1.foldl (l.takeProduct (l.blockExp b.1)) { r with acc := 0 }) (h : l.faults = []) (hfit : |s.acc| < 2 ^ 63) :
    (l.takeBlock r b).pred255 = s.pred255 ∧ (l.takeBlock r b).act255 = s.act255 + residue 255 s.acc ∧
    (l.takeBlock r b).pred127 = s.pred127 ∧ (l.takeBlock r b).act127 = s.act127 + residue 127 s.acc := by
  have hreg : flipBits 64 s.acc (l.accMask b.2) = s.acc := by
    rw [(l.errs_nil h b.2 false).2.2, flipBits_zero 64 _ (by decide) hfit]
  subst hs
  refine ⟨rfl, ?_, rfl, ?_⟩ <;> simp only [TileLane.takeBlock, hreg]

/-- Such a block adds the same to the predicted residues as to the actual ones (R81, R83). -/
theorem TileLane.takeBlock_residue (l : TileLane) (r : LaneRun) (b : List ((Operand × Operand) × Nat) × Nat) (h : l.faults = [])
    (hfin : ∀ p ∈ b.1, l.special p.1 = none)
    (hfit : |(b.1.foldl (l.takeProduct (l.blockExp b.1)) { r with acc := 0 }).acc| < 2 ^ 63) :
    ((l.takeBlock r b).pred255 : Int) - r.pred255 ≡ (l.takeBlock r b).act255 - r.act255 [ZMOD 255] ∧
    ((l.takeBlock r b).pred127 : Int) - r.pred127 ≡ (l.takeBlock r b).act127 - r.act127 [ZMOD 127] := by
  obtain ⟨p255, a255, p127, a127⟩ := l.takeBlock_clean r b _ rfl h hfit
  obtain ⟨h255, h127, e255, e127⟩ := l.block_residue (l.blockExp b.1) h b.1 hfin { r with acc := 0 }
  rw [p255, a255, p127, a127, e255, e127]
  push_cast
  simp only [add_sub_cancel_left, sub_zero] at h255 h127 ⊢
  exact ⟨h255.trans (residue_modEq 255 (by decide) _).symm, h127.trans (residue_modEq 127 (by decide) _).symm⟩

/-- Settles O34: the accumulator of an integer tile is off its predicted residues by the errors, and 255 and 127 both divide these just
when 32,385 does; a block of a floating tile by `takeBlock_residue`. -/
theorem residuesOfALane : Obligations.ResiduesOfALane := by
  refine ⟨fun l hint h hfit => ?integer, fun l r b h hfin hfit => l.takeBlock_residue r b h hfin hfit⟩
  case integer =>
    obtain ⟨h255, h127, -⟩ := l.intSum_residue
    have off (m p : Int) (hp : l.intSum.acc - l.errorSum ≡ p [ZMOD m]) : p ≡ l.intSum.acc [ZMOD m] ↔ m ∣ l.errorSum := by
      have hoff : p ≡ l.intSum.acc [ZMOD m] ↔ l.intSum.acc - l.errorSum ≡ l.intSum.acc [ZMOD m] := ⟨hp.trans, hp.symm.trans⟩
      rw [hoff, Int.modEq_iff_dvd, sub_sub_cancel]
    have both : (255 : Int) ∣ l.errorSum ∧ (127 : Int) ∣ l.errorSum ↔ (32385 : Int) ∣ l.errorSum := by omega
    rw [l.mismatch_int hint h hfit, off 255 _ h255, off 127 _ h127, both]
    rfl

end Sys2Proof.Machine
end

section
/-! PROOFS. The fences of rows and clusters: what a fenced row leaves of a cluster's rows, and when the cluster follows it (R101, R103). -/

namespace Sys2Proof.Machine

/-- An updated cluster reads back its image, where that has a fenced row. -/
theorem CheckDie.cluster_updCluster_same (d : CheckDie) (c : Nat) (f : Cluster → Cluster) (h : (f (d.cluster c)).rows ≠ []) :
    (d.updCluster c f).cluster c = f (d.cluster c) :=
  Tbl.get_upd _ _ _ _ fun hinit => h (congrArg Cluster.rows hinit)

/-- The update of a cluster leaves the others. -/
theorem CheckDie.cluster_updCluster_other (d : CheckDie) (c k : Nat) (f : Cluster → Cluster) (h : k ≠ c) :
    (d.updCluster c f).cluster k = d.cluster k := Tbl.get_set_other _ _ _ _ _ h

/-- An update of one cluster that leaves its rows leaves those of every cluster that has some. -/
theorem CheckDie.updCluster_rows (d : CheckDie) (c k : Nat) (f : Cluster → Cluster) (hf : ∀ x, (f x).rows = x.rows)
    (h : (d.cluster k).rows ≠ []) : ((d.updCluster c f).cluster k).rows = (d.cluster k).rows := by
  by_cases hk : k = c
  · subst hk
    rw [d.cluster_updCluster_same k f (by rwa [hf]), hf]
  · rw [d.cluster_updCluster_other c k f hk]

/-- A fence that happens keeps the rows already fenced: a margin test that has not started puts its cluster back into service. -/
theorem CheckDie.fencing_rows (d : CheckDie) (c : Nat) (h : (d.cluster c).rows ≠ []) :
    (d.fencing.cluster c).rows = (d.cluster c).rows := by
  unfold CheckDie.fencing
  split
  · exact d.updCluster_rows d.margin.cluster c (fun x => { x with out := false }) (fun _ => rfl) h
  · rfl

/-- A fence that happens leaves the settings. -/
theorem CheckDie.fencing_get (d : CheckDie) (r : OdRow) (i : Nat) : d.fencing.get r i = d.get r i := by
  unfold CheckDie.fencing
  split <;> rfl

/-- A cluster that is fenced whole keeps the rows already fenced. -/
theorem CheckDie.fenceCluster_rows (d : CheckDie) (c : Nat) (h : (d.cluster c).rows ≠ []) :
    ((d.fenceCluster c).cluster c).rows = (d.cluster c).rows := by
  cases hf : (d.cluster c).fenced with
  | true => simp [CheckDie.fenceCluster, hf]
  | false => rw [(d.fenceCluster_fences c).2 hf, d.fencing_rows c h]

/-- The check die once the fence of a row is entered and told the safety die, before the limit of R103 is looked at. -/
def CheckDie.enterRow (d : CheckDie) (c row : Nat) : CheckDie :=
  (d.fencing.updCluster c (fun x =>
    { x with rows := insertRow row x.rows, watch := x.watch.filter (fun w => w.row != row) })).sendFlit (flitFence c row true)

/-- The fence of a row that is fenced does nothing. -/
theorem CheckDie.fenceRow_old (d : CheckDie) (c row : Nat) (h : (d.cluster c).rows.contains row = true) : d.fenceRow c row = d :=
  if_pos h

/-- The fence of a row that is not fenced enters it; then the cluster follows it beyond the limit (R103), or its streams are moved. -/
theorem CheckDie.fenceRow_new (d : CheckDie) (c row : Nat) (h : (d.cluster c).rows.contains row = false) :
    d.fenceRow c row =
      if (d.enterRow c row).get Od.ROW_FENCE_LIMIT < ((d.enterRow c row).cluster c).rows.length then (d.enterRow c row).fenceCluster c
      else if ((d.enterRow c row).cluster c).capacity < (d.enterRow c row).disp.load c then (d.enterRow c row).displace c
      else d.enterRow c row := if_neg (Bool.eq_false_iff.1 h)

/-- The row is among the fenced ones once it is entered. -/
theorem CheckDie.mem_enterRow (d : CheckDie) (c row : Nat) : row ∈ ((d.enterRow c row).cluster c).rows := by
  have hmem := mem_insertRow row (d.fencing.cluster c).rows
  have hsame := d.fencing.cluster_updCluster_same c
    (fun x => { x with rows := insertRow row x.rows, watch := x.watch.filter (fun w => w.row != row) }) (List.ne_nil_of_mem hmem)
  exact (congrArg Cluster.rows hsame).symm ▸ hmem

/-- A row entered leaves the settings. -/
theorem CheckDie.enterRow_get (d : CheckDie) (c row : Nat) (r : OdRow) (i : Nat) : (d.enterRow c row).get r i = d.get r i :=
  d.fencing_get r i

/-- The fence of a row leaves the cluster's rows as they are once it is entered. -/
theorem CheckDie.fenceRow_rows (d : CheckDie) (c row : Nat) (h : (d.cluster c).rows.contains row = false) :
    ((d.fenceRow c row).cluster c).rows = ((d.enterRow c row).cluster c).rows := by
  rw [d.fenceRow_new c row h]
  split_ifs
  · exact CheckDie.fenceCluster_rows _ c (List.ne_nil_of_mem (d.mem_enterRow c row))
  · exact congrArg Cluster.rows (CheckDie.cluster_of _ _ c (CheckDie.displace_clusters _ c))
  · rfl

/-- A fenced row is among its cluster's fenced rows (R101). -/
theorem CheckDie.mem_fenceRow (d : CheckDie) (c row : Nat) : row ∈ ((d.fenceRow c row).cluster c).rows := by
  cases h : (d.cluster c).rows.contains row with
  | true => rw [d.fenceRow_old c row h]; exact List.contains_iff_mem.1 h
  | false => rw [d.fenceRow_rows c row h]; exact d.mem_enterRow c row

/-- A cluster with more rows fenced than ROW_FENCE_LIMIT once a new one is fenced is fenced whole (R103). -/
theorem CheckDie.fenceRow_limit (d : CheckDie) (c row : Nat) (h : (d.cluster c).rows.contains row = false)
    (hl : d.get Od.ROW_FENCE_LIMIT < ((d.fenceRow c row).cluster c).rows.length) : ((d.fenceRow c row).cluster c).fenced = true := by
  rw [d.fenceRow_rows c row h, ← d.enterRow_get c row] at hl
  rw [d.fenceRow_new c row h, if_pos hl]
  exact (CheckDie.fenceCluster_fences _ c).1

/-- A mismatch of a row in a cluster in service without a margin mark of its own: the row is fenced where it stands on the watch list
with a margin mark or within the window, else goes onto the list (R101, R336). -/
theorem CheckDie.countAgainst_row (d : CheckDie) (c row : Nat) (hrow : row < 96) (hin : (d.cluster c).out = false)
    (hmark : (d.cluster c).watch.any (fun w => w.row == 0xFF && w.margin) = false) :
    d.countAgainst c row =
      if (d.cluster c).watch.any (fun w => w.row == row &&
          (w.margin || decide (d.now ≤ w.at_ + d.get Od.ROW_FENCE_WINDOW_MS * 1000000))) then d.fenceRow c row
      else (d.updCluster c (fun x =>
        { x with watch := x.watch.filter (fun w => w.row != row) ++ [{ row := row, at_ := d.now }] })).sendFlit
        (flitFence c row false) := by
  have hunit : d.fenceUnit c row = d.fenceRow c row := if_neg (by omega)
  simp only [CheckDie.countAgainst, hin, hmark, hunit, Bool.false_eq_true, if_false]

/-- Settles O35: `countAgainst_row` says what a mismatch of a row does; the fence it may end in is `mem_fenceRow` and
`fenceRow_limit`. -/
theorem rowFences : Obligations.RowFences := by
  intro d c row hrow
  refine ⟨fun hout => if_pos hout, fun hin hmark => ⟨fun hnew => ?unwatched, fun w hw hwrow hwin => ?again⟩⟩
  case unwatched =>
    rw [d.countAgainst_row c row hrow hin hmark, if_neg]
    simp only [List.any_eq_false, List.any_eq_true, Bool.and_eq_true, not_exists, not_and] at hnew ⊢
    exact fun w hw hwrow => absurd hwrow (hnew w hw)
  case again =>
    have hfence : d.countAgainst c row = d.fenceRow c row := by
      rw [d.countAgainst_row c row hrow hin hmark, if_pos]
      exact List.any_eq_true.2 ⟨w, hw, by simp [hwrow, hwin]⟩
    rw [hfence]
    exact ⟨d.mem_fenceRow c row, d.fenceRow_limit c row⟩

end Sys2Proof.Machine
end

section
/-! PROOFS. The MAC budget of a stream (spec/04_sentinel_execution.md), and the writes of images: which of them a slot in use refuses, and
that the session's write does it (R114, R115, R135, R138, R170, R185, R203, R340, R446, R449). -/

namespace Sys2Proof.Machine

open Host

/-- Settles O14: 12,940,000 / 10,000 is 1294; both values are evaluated. -/
theorem budgetOfAStream : Obligations.BudgetOfAStream := by
  refine ⟨fun f => ?formula, ?whole, ?twoThirds⟩
  case formula =>
    have hmac : f * 12940000 / 10000 = f * 1294 := by ring
    rw [hmac, planBudget]
  case whole => decide +kernel
  case twoThirds => decide +kernel

/-- What a request does is judged at the dies that have taken it. -/
theorem State.requested_congr (s : State) (t slot : Nat) (ses : Session) (r : Req) {f g : Dies → Served}
    (h : f ((s.dies.tick t).taken slot ses r (ses.tag slot r)) = g ((s.dies.tick t).taken slot ses r (ses.tag slot r))) :
    s.requested t slot ses r f = s.requested t slot ses r g := by
  unfold State.requested; rw [h]

/-- An admitted write of an image, or of a segment of one, is the request that does what its entry does (R340, R344). -/
theorem State.writeBody_requested (s : State) (t slot : Nat) (ses : Session) (w : OdRow) (i : Nat) (b : ImageBody) (last : Bool)
    (hf : (s.dies.tick t).Fresh slot ses) (ha : s.dies.Allows ses w i) (hacc : w.access = .wo ∨ w.access = .rw)
    (ht : w.type = .domain) (hk : w.index + i ≠ 0x7F00) :
    s.act t (fun x => x.writeBody slot w i b last) = s.requested t slot ses (ses.writeImage w i b last)
      (fun y => (y.wrote slot (w.key i) last).writeDomain slot (w.index + i) w.sub (some b) [] last) := by
  simp only [State.act, State.requested]
  rw [Dies.writeBody_image (s.dies.tick t) slot ses w i b last hf (ha.tick t) hacc ht hk]

/-- An entry of the check die's takes an image by `writeImage`. -/
theorem Dies.writeDomain_checkDie (y : Dies) (slot idx sub : Nat) (b : ImageBody) (last : Bool) (hlo : 0x2000 ≤ idx) (hhi : idx ≤ 0x3FFF) :
    y.writeDomain slot idx sub (some b) [] last = y.writeImage idx b last := by
  have hfw : ¬ idx = 0x6001 := by omega
  rw [Dies.writeDomain, if_neg hfw, if_pos ⟨hlo, hhi⟩]
  rfl

/-- A package slot that is not vacant and that a binding in force or staged names is in use (R115). -/
def Dies.packageInUse (x : Dies) (k : Nat) : Bool :=
  !(x.cd.package k).vacant && (x.sd.names Od.PRIMARY_SLOT k || x.sd.names Od.FALLBACK_SLOT k)

/-- A manifest slot that a binding or an open audit names is in use (R138). -/
def Dies.manifestInUse (x : Dies) (k : Nat) : Bool :=
  x.sd.names Od.MANIFEST_SLOT k || x.cd.audit.open_.any (fun a => a.manifest == k)

/-- A lantern set that its stream names, or of which a lantern has no provisional verdict yet, is in use (R203). -/
def Dies.lanternsInUse (x : Dies) (n : Nat) : Bool := x.sd.namesSet n || x.cd.setPending n

/-- A map slot that a binding or a judgement names is in use (R203). -/
def Dies.mapInUse (x : Dies) (k : Nat) : Bool :=
  x.sd.names Od.MAP_SLOT k || x.sd.names Od.FALLBACK_MAP_SLOT k || x.cd.mapPending k

/-- An image taken by an entry of the check die's, or refused with IN_USE. -/
def Dies.put (y : Dies) (used : Bool) (f : CheckDie → CheckDie) : Served :=
  if used then y.say .inUse else ({ y with cd := f y.cd } : Dies).done

/-- A write to SLOT_IMAGE puts the package into its slot, unless the slot is in use (R114, R115). -/
theorem Dies.writeImage_package (y : Dies) (k : Nat) (p : Package) (last : Bool) (hk : k < 16) :
    y.writeImage (0x2401 + k) (.package p) last = y.put (y.packageInUse k) (fun d => d.packageWrite k p last) := by
  have h1 : 0x2401 ≤ 0x2401 + k ∧ 0x2401 + k ≤ 0x2410 := by omega
  rw [Dies.writeImage, if_pos h1, Nat.add_sub_cancel_left]
  rfl

/-- A write to MANIFEST_IMAGE puts the manifest into its slot, unless the slot is in use (R135, R138). -/
theorem Dies.writeImage_manifest (y : Dies) (k : Nat) (m : Manifest) (last : Bool) (hk : k < 32) :
    y.writeImage (0x2C10 + k) (.manifest m) last = y.put (y.manifestInUse k) (fun d => d.manifestWrite k m last) := by
  have h1 : ¬ (0x2401 ≤ 0x2C10 + k ∧ 0x2C10 + k ≤ 0x2410) := by omega
  have h2 : 0x2C10 ≤ 0x2C10 + k ∧ 0x2C10 + k ≤ 0x2C2F := by omega
  rw [Dies.writeImage, if_neg h1, if_pos h2, Nat.add_sub_cancel_left]
  rfl

/-- A write to LANTERN_SET puts the set into its stream, unless the set is in use (R170, R203). -/
theorem Dies.writeImage_lanterns (y : Dies) (n : Nat) (l : LanternSet) (last : Bool) (hn : n < 12) :
    y.writeImage (0x2080 + n) (.lanterns l) last = y.put (y.lanternsInUse n) (fun d => d.setWrite n l last) := by
  have h1 : ¬ (0x2401 ≤ 0x2080 + n ∧ 0x2080 + n ≤ 0x2410) := by omega
  have h2 : ¬ (0x2C10 ≤ 0x2080 + n ∧ 0x2080 + n ≤ 0x2C2F) := by omega
  have h3 : 0x2080 ≤ 0x2080 + n ∧ 0x2080 + n ≤ 0x208B := by omega
  rw [Dies.writeImage, if_neg h1, if_neg h2, if_pos h3, Nat.add_sub_cancel_left]
  rfl

/-- A write to MAP_IMAGE puts the map into its slot, unless the slot is in use (R185, R203). -/
theorem Dies.writeImage_map (y : Dies) (k : Nat) (m : CompatMap) (last : Bool) :
    y.writeImage (0x3010 + k) (.map m) last = y.put (y.mapInUse k) (fun d => d.mapWrite k m last) := by
  have h1 : ¬ (0x2401 ≤ 0x3010 + k ∧ 0x3010 + k ≤ 0x2410) := by omega
  have h2 : ¬ (0x2C10 ≤ 0x3010 + k ∧ 0x3010 + k ≤ 0x2C2F) := by omega
  have h3 : ¬ (0x2080 ≤ 0x3010 + k ∧ 0x3010 + k ≤ 0x208B) := by omega
  rw [Dies.writeImage, if_neg h1, if_neg h2, if_neg h3, Nat.add_sub_cancel_left]
  rfl

/-- An admitted write of an image to an entry of the check die's puts it there, or is answered IN_USE, as the dies stand before the
command. -/
theorem State.imageWrite_put (s : State) (t slot : Nat) (ses : Session) (w : OdRow) (i : Nat) (b : ImageBody) (last : Bool)
    (inUse : Dies → Bool) (f : CheckDie → CheckDie)
    (hf : (s.dies.tick t).Fresh slot ses) (ha : s.dies.Allows ses w i) (hacc : w.access = .wo) (ht : w.type = .domain)
    (hlo : 0x2000 ≤ w.index) (hhi : w.index + i ≤ 0x3FFF)
    (hput : ∀ y : Dies, y.writeImage (w.index + i) b last = y.put (inUse y) f)
    (hsame : ∀ (r : Req) (tag : Octets),
      inUse (((s.dies.tick t).taken slot ses r tag).wrote slot (w.key i) last) = inUse s.dies) :
    s.act t (fun x => x.writeBody slot w i b last)
      = s.requested t slot ses (ses.writeImage w i b last) (fun y => (y.wrote slot (w.key i) last).put (inUse s.dies) f) := by
  refine (State.writeBody_requested s t slot ses w i b last hf ha (.inl hacc) ht (by omega)).trans
    (State.requested_congr s t slot ses _ ?_)
  rw [Dies.writeDomain_checkDie _ slot _ _ b last (by omega) hhi, hput, hsame]

/-- PACKAGE_IMAGE_WRITE puts the image into its slot, or is answered IN_USE (R114, R115). -/
theorem exec_packageImageWrite_put (s : State) (t slot k : Nat) (image : Package) (last : Bool) (ses : Session)
    (hf : (s.dies.tick t).Fresh slot ses) (ha : s.dies.Allows ses Od.SLOT_IMAGE k) :
    exec (.packageImageWrite t slot k image last) s
      = s.requested t slot ses (ses.writeImage Od.SLOT_IMAGE k (.package image) last)
          (fun y => (y.wrote slot (Od.SLOT_IMAGE.key k) last).put (s.dies.packageInUse k) (fun d => d.packageWrite k image last)) := by
  have hk : k < 16 := ha.inst
  have hidx : 0x2401 + k ≤ 0x3FFF := by omega
  exact State.imageWrite_put s t slot ses Od.SLOT_IMAGE k (.package image) last (fun x => x.packageInUse k) _ hf ha rfl rfl (by decide) hidx
    (fun y => y.writeImage_package k image last hk) (fun _ _ => rfl)

/-- MANIFEST_IMAGE_WRITE puts the image into its slot, or is answered IN_USE (R135, R138). -/
theorem exec_manifestImageWrite_put (s : State) (t slot k : Nat) (image : Manifest) (last : Bool) (ses : Session)
    (hf : (s.dies.tick t).Fresh slot ses) (ha : s.dies.Allows ses Od.MANIFEST_IMAGE k) :
    exec (.manifestImageWrite t slot k image last) s
      = s.requested t slot ses (ses.writeImage Od.MANIFEST_IMAGE k (.manifest image) last)
          (fun y => (y.wrote slot (Od.MANIFEST_IMAGE.key k) last).put (s.dies.manifestInUse k) (fun d => d.manifestWrite k image last)) := by
  have hk : k < 32 := ha.inst
  have hidx : 0x2C10 + k ≤ 0x3FFF := by omega
  exact State.imageWrite_put s t slot ses Od.MANIFEST_IMAGE k (.manifest image) last (fun x => x.manifestInUse k) _ hf ha rfl rfl (by decide)
    hidx (fun y => y.writeImage_manifest k image last hk) (fun _ _ => rfl)

/-- LANTERN_SET_WRITE puts the set into its stream, or is answered IN_USE (R170, R203). -/
theorem exec_lanternSetWrite_put (s : State) (t slot n : Nat) (image : LanternSet) (last : Bool) (ses : Session)
    (hf : (s.dies.tick t).Fresh slot ses) (ha : s.dies.Allows ses Od.LANTERN_SET n) :
    exec (.lanternSetWrite t slot n image last) s
      = s.requested t slot ses (ses.writeImage Od.LANTERN_SET n (.lanterns image) last)
          (fun y => (y.wrote slot (Od.LANTERN_SET.key n) last).put (s.dies.lanternsInUse n) (fun d => d.setWrite n image last)) := by
  have hn : n < 12 := ha.inst
  have hidx : 0x2080 + n ≤ 0x3FFF := by omega
  exact State.imageWrite_put s t slot ses Od.LANTERN_SET n (.lanterns image) last (fun x => x.lanternsInUse n) _ hf ha rfl rfl (by decide)
    hidx (fun y => y.writeImage_lanterns n image last hn) (fun _ _ => rfl)

/-- MAP_IMAGE_WRITE puts the map into its slot, or is answered IN_USE (R185, R203). -/
theorem exec_mapImageWrite_put (s : State) (t slot k : Nat) (image : CompatMap) (last : Bool) (ses : Session)
    (hf : (s.dies.tick t).Fresh slot ses) (ha : s.dies.Allows ses Od.MAP_IMAGE k) :
    exec (.mapImageWrite t slot k image last) s
      = s.requested t slot ses (ses.writeImage Od.MAP_IMAGE k (.map image) last)
          (fun y => (y.wrote slot (Od.MAP_IMAGE.key k) last).put (s.dies.mapInUse k) (fun d => d.mapWrite k image last)) := by
  have hk : k < 16 := ha.inst
  have hidx : 0x3010 + k ≤ 0x3FFF := by omega
  exact State.imageWrite_put s t slot ses Od.MAP_IMAGE k (.map image) last (fun x => x.mapInUse k) _ hf ha rfl rfl (by decide) hidx
    (fun y => y.writeImage_map k image last) (fun _ _ => rfl)

/-- FW_IMAGE takes the image of an admitted write by `writeFirmware` (R446). -/
theorem exec_fwImage_requested (s : State) (t slot : Nat) (image : ImageBody) (last : Bool) (ses : Session)
    (hf : (s.dies.tick t).Fresh slot ses) (ha : s.dies.Allows ses Od.FW_IMAGE 0) :
    exec (.fwImage t slot image last) s
      = s.requested t slot ses (ses.writeImage Od.FW_IMAGE 0 image last)
          (fun y => (y.wrote slot (Od.FW_IMAGE.key 0) last).writeFirmware slot image last) :=
  State.writeBody_requested s t slot ses Od.FW_IMAGE 0 image last hf ha (.inl rfl) rfl (by decide)

/-- DEVICE_CERT takes the last segment of an admitted write by `writeCert` (R449). -/
theorem exec_deviceCert_requested (s : State) (t slot : Nat) (image : ImageBody) (ses : Session)
    (hf : (s.dies.tick t).Fresh slot ses) (ha : s.dies.Allows ses Od.DEVICE_CERT 0) :
    exec (.deviceCert t slot image true) s
      = s.requested t slot ses (ses.writeImage Od.DEVICE_CERT 0 image true)
          (fun y => (y.wrote slot (Od.DEVICE_CERT.key 0) true).writeCert slot image) :=
  State.writeBody_requested s t slot ses Od.DEVICE_CERT 0 image true hf ha (.inr rfl) rfl (by decide)

/-- A certificate of this device's keys is stored (R449). -/
theorem Dies.writeCert_own (y : Dies) (slot : Nat) (o uid key : Octets) (hu : uid = ownUid) (hk : key = padTo 64 Config.identityKey) :
    y.writeCert slot (.cert o uid key) = ({ y with sd := { y.sd with cert := o } } : Dies).storing slot (.cert y.sd.cert) :=
  if_pos ⟨hu, hk⟩

/-- Settles O60: each image goes where its entry puts it; the hypotheses of the statement say which way `Dies.put` goes. -/
theorem imageWritesAct : Obligations.ImageWritesAct := by
  intro s t
  refine ⟨fun slot k image last ses hf ha hfree => ?package, fun slot k image last ses hf ha hname haudit => ?manifest,
    fun slot n image last ses hf ha hname hpend => ?lanterns, fun slot k image last ses hf ha hname hfall hpend => ?map,
    fun slot k image last ses hf ha hfull hname => ?packageUsed, fun slot k image last ses hf ha hused => ?manifestUsed,
    fun slot n image last ses hf ha hused => ?lanternsUsed, fun slot k image last ses hf ha hused => ?mapUsed,
    fun slot image last ses hf ha _ _ => exec_fwImage_requested s t slot image last ses hf ha,
    fun slot o uid key ses hf ha hu hk => ?cert⟩
  case package =>
    have h : s.dies.packageInUse k = false := by rcases hfree with hv | ⟨hp, hfb⟩ <;> simp [Dies.packageInUse, *]
    rw [exec_packageImageWrite_put s t slot k image last ses hf ha, h]; rfl
  case manifest =>
    have h : s.dies.manifestInUse k = false := by simp [Dies.manifestInUse, hname, haudit]
    rw [exec_manifestImageWrite_put s t slot k image last ses hf ha, h]; rfl
  case lanterns =>
    have h : s.dies.lanternsInUse n = false := by simp [Dies.lanternsInUse, hname, hpend]
    rw [exec_lanternSetWrite_put s t slot n image last ses hf ha, h]; rfl
  case map =>
    have h : s.dies.mapInUse k = false := by simp [Dies.mapInUse, hname, hfall, hpend]
    rw [exec_mapImageWrite_put s t slot k image last ses hf ha, h]; rfl
  case packageUsed =>
    have h : s.dies.packageInUse k = true := by simp [Dies.packageInUse, hfull, hname]
    rw [exec_packageImageWrite_put s t slot k image last ses hf ha, h]; rfl
  case manifestUsed =>
    have h : s.dies.manifestInUse k = true := by rw [Dies.manifestInUse, Bool.or_eq_true]; exact hused
    rw [exec_manifestImageWrite_put s t slot k image last ses hf ha, h]; rfl
  case lanternsUsed =>
    have h : s.dies.lanternsInUse n = true := by rw [Dies.lanternsInUse, Bool.or_eq_true]; exact hused
    rw [exec_lanternSetWrite_put s t slot n image last ses hf ha, h]; rfl
  case mapUsed =>
    have h : s.dies.mapInUse k = true := by rw [Dies.mapInUse, Bool.or_eq_true, Bool.or_eq_true, or_assoc]; exact hused
    rw [exec_mapImageWrite_put s t slot k image last ses hf ha, h]; rfl
  case cert =>
    refine (exec_deviceCert_requested s t slot _ ses hf ha).trans (State.requested_congr s t slot ses _ ?_)
    rw [Dies.writeCert_own _ slot o uid key hu hk]
    rfl

end Sys2Proof.Machine
end

section
/-! PROOFS. The commands of the audit engine, of verdict composition and of the toll gate (R137, R148-R171, R194-R224). -/

namespace Sys2Proof.Machine

/-- Settles O39: a command that names a slot, a stream, a lane or a consumer is a happening at that instance, which its bound says
exists; the others are happenings of the die. A check die that runs does them. -/
theorem auditVerdictAndReleaseCommandsComplete : Obligations.AuditVerdictAndReleaseCommandsComplete := by
  intro s t hr
  have onDie (f : CheckDie → CheckDie) : s.onCheck t f = s.checkDid t f := State.onCheck_checkDid s t f hr
  have below (i n : Nat) (f : CheckDie → CheckDie) (h : i < n) : s.onCheckIf t (i < n) f = s.checkDid t f :=
    State.onCheckIf_checkDid s t (i < n) f hr h
  refine ⟨?manifest, ?epochEnd, ?checks, ?deliverBy, ?finalPass, ?pass, ?allowance, ?lanterns, ?map, ?opinion, ?credit, ?lockRegained,
    ?record, ?heartbeat, ?releaseWait, ?lockLost⟩
  case epochEnd => exact onDie CheckDie.epochEnd
  case checks => exact fun audit => onDie (fun d => d.deliveryChecks audit)
  case deliverBy => exact fun audit => onDie (fun d => d.deliverBy audit)
  case finalPass => exact fun epoch => onDie (fun d => d.finalPass epoch)
  case pass => exact fun p => onDie (fun d => d.passDone p)
  case allowance => exact fun epoch => onDie (fun d => d.allowanceEnd epoch)
  case opinion => exact fun opinion => onDie (fun d => (d.opinionTimeout opinion).composeDue)
  case manifest => exact fun k hk => below k 32 (fun d => d.manifestVerified k) hk
  case lanterns => exact fun n hn => below n 12 (fun d => d.setVerified n) hn
  case map => exact fun k hk => below k 16 (fun d => d.mapVerified k) hk
  case credit => exact fun l kindOk b hl => below l 4 (fun d => d.takeCredit l kindOk b) hl
  case lockRegained => exact fun l hl => below l 4 (fun d => d.veLockRegained l) hl
  case record => exact fun l hl => below l 4 (fun d => d.egressStart l) hl
  case heartbeat => exact fun c hc => below c 256 (fun d => d.egressHeartbeat c) hc
  case releaseWait => exact fun c entry hc => below c 256 (fun d => d.dropResult c entry) hc
  case lockLost => exact fun l hl => below l 4 (fun d => d.veLockLost l) hl

end Sys2Proof.Machine
end

section
/-! PROOFS. The provisional verdict: composeCode condition by condition, and the bits that a BELIEVED frame cannot have (R187, R189). -/

namespace Sys2Proof.Machine

/-- A bitmap that shares no bit with a mask has each of the mask's bits clear. -/
theorem testBit_of_anyBit_false {r m k : Nat} (h : anyBit r m = false) (hk : m.testBit k = true) : r.testBit k = false := by
  have hz : r &&& m = 0 := by simpa [anyBit] using h
  have hbit : (r &&& m).testBit k = false := by rw [hz, Nat.zero_testBit]
  simpa [Nat.testBit_and, hk] using hbit

/-- Whatever the settings, NB_MASK holds the reasons that are always NB (R187, R189). -/
theorem nbMask_testBit_of_alwaysNb (cfg : OdStore) (n : Nat) {k : Nat} (h : alwaysNb.testBit k = true) :
    (nbMask cfg n).testBit k = true := by
  simp [nbMask, Nat.testBit_or, h]

/-- BELIEVED is what is left when no condition of R189 holds. -/
theorem composeCode_believed_iff (nb r : Nat) (noFrame onTime : Bool) :
    composeCode nb r noFrame onTime = vBELIEVED ↔
      anyBit r (rLANTERN_SLOT ||| rSAFE_STATE) = false ∧ noFrame = false ∧ anyBit r nb = false ∧ onTime = true ∧
        anyBit r rAGE_EXCEEDED = false := by
  cases hs : anyBit r (rLANTERN_SLOT ||| rSAFE_STATE) with
  | true => simp [composeCode, hs, vWITHHELD, vBELIEVED]
  | false =>
    cases noFrame with
    | true => simp [composeCode, hs, vNO_INPUT, vBELIEVED]
    | false =>
      cases hn : anyBit r nb with
      | true => simp [composeCode, hs, hn, vNOT_BELIEVED, vBELIEVED]
      | false =>
        cases onTime with
        | false => simp [composeCode, hs, hn, vNO_RESULT, vBELIEVED]
        | true => cases ha : anyBit r rAGE_EXCEEDED <;> simp [composeCode, hs, hn, ha, vSTALE, vBELIEVED]

/-- Settles O28: the chain of R189 is `composeCode` read from its first condition on; what BELIEVED excludes is
`composeCode_believed_iff`, bit by bit. -/
theorem provisionalVerdict : Obligations.ProvisionalVerdict := by
  intro cfg n r noFrame onTime
  refine ⟨fun hs => ?withheld, fun hs => ⟨fun hf => ?noInput, fun hf => ⟨fun hn => ?notBelieved, fun hn =>
    ⟨fun ht => ?noResult, fun ht ha => ?stale, fun ht ha => ?believed⟩⟩⟩, fun h => ?excluded⟩
  case withheld => simp [composeCode, hs]
  case noInput => simp [composeCode, hs, hf]
  case notBelieved => simp [composeCode, hs, hf, hn]
  case noResult => simp [composeCode, hs, hf, hn, ht]
  case stale => simp [composeCode, hs, hf, hn, ht, ha]
  case believed => exact (composeCode_believed_iff (nbMask cfg n) r noFrame onTime).2 ⟨hs, hf, hn, ht, ha⟩
  case excluded =>
    obtain ⟨hs, hf, hn, ht, ha⟩ := (composeCode_believed_iff (nbMask cfg n) r noFrame onTime).1 h
    refine ⟨hf, ht, fun k _ hk => ?_⟩
    obtain hnb | rfl | rfl | rfl := hk
    · exact testBit_of_anyBit_false hn (nbMask_testBit_of_alwaysNb cfg n hnb)
    · exact testBit_of_anyBit_false ha (by decide)
    · exact testBit_of_anyBit_false hs (by decide)
    · exact testBit_of_anyBit_false hs (by decide)

end Sys2Proof.Machine
end

section
/-! PROOFS. The verdict epoch: its advance on the safety die (R199, R358; log entries 36 and 85), and the boundary of a safe-state entry
on the check die (R199, R201, R202). -/

namespace Sys2Proof.Machine

/-- Flits leave for a check die whose reset has been released. -/
theorem SafetyDie.sendFlits_released (x : SafetyDie) (fs : List Flit) {r : Nat} (hr : x.kill.released = some r) :
    x.sendFlits fs = { x with corTx := x.corTx.give x.now fs } := by
  simp [SafetyDie.sendFlits, hr]

/-- An advance for a check die that is in reset, about to be, or does not serve, waits for the end of the reset (R199). -/
theorem SafetyDie.advance_waits (x : SafetyDie) (causes : Nat)
    (h : x.kill.on = true ∨ x.kill.wanted.isSome = true ∨ x.cdState.serves = false) :
    x.advance causes = { x with pending := x.pending ||| causes } := by
  have hc : (x.kill.on || x.kill.wanted.isSome || !x.cdState.serves) = true := by
    obtain h | h | h := h <;> simp [h]
  rw [SafetyDie.advance, if_pos hc]

section Serving

variable {x : SafetyDie} (hon : x.kill.on = false) (hwanted : x.kill.wanted = none) (hserves : x.cdState.serves = true)

include hon hwanted hserves

/-- An advance for a check die that serves goes out at once (R199). -/
theorem SafetyDie.advance_serving (causes : Nat) : x.advance causes = x.stepEpoch.sendEpoch causes := by
  rw [SafetyDie.advance, if_neg (by simp [hon, hwanted, hserves])]

/-- The first cause of a cycle opens a boundary: one epoch further, one EPOCH_ADVANCE (R199). -/
theorem SafetyDie.advance_first (causes : Nat) {r : Nat} (hr : x.kill.released = some r) (h : x.advancedAt ≠ some x.now) :
    x.advance causes = { x with
      guest := { x.guest with epoch := (x.guest.epoch + 1) % 2 ^ 32 }
      advancedAt := some x.now
      corTx := x.corTx.give x.now [flitEpoch ((x.guest.epoch + 1) % 2 ^ 32) causes] } := by
  rw [SafetyDie.advance_serving hon hwanted hserves causes, SafetyDie.stepEpoch, if_neg h]
  exact SafetyDie.sendFlits_released _ _ hr

/-- A further cause of that cycle joins the boundary: the epoch again in an EPOCH_ADVANCE of its own (R358; log entry 85). -/
theorem SafetyDie.advance_joins (causes : Nat) {r : Nat} (hr : x.kill.released = some r) (h : x.advancedAt = some x.now) :
    x.advance causes = { x with corTx := x.corTx.give x.now [flitEpoch x.guest.epoch causes] } := by
  rw [SafetyDie.advance_serving hon hwanted hserves causes, SafetyDie.stepEpoch, if_pos h]
  exact SafetyDie.sendFlits_released _ _ hr

end Serving

/-- In RUN, with no injector armed, the check die follows the safe-state entry with its view of the device state alone (R201). -/
theorem CheckDie.setDevice_safeHold (d : CheckDie) (hd : d.device = .run) (hs : d.state = .run) (hi : d.injectors = []) :
    d.setDevice .safeHold = { d with device := .safeHold } := by
  unfold CheckDie.setDevice
  extract_lets d1 d2
  have h1 : d1 = d := if_neg (by simp [hd])
  have h2 : d2 = { d with device := .safeHold } := by
    unfold d2
    rw [h1]
    exact CheckDie.checkPermit_none _ 5 hi
  have hnotReady : (d2.state == .ready) = false := by
    rw [h2, hs]
    rfl
  rw [if_neg (by simp [hnotReady]), h2]

/-- Dies that agree have the same injectors armed. -/
theorem CheckDie.SameForce.injectors_eq {d e : CheckDie} (h : d.SameForce e) : e.injectors = d.injectors := by
  obtain ⟨-, -, -, -, -, -, hinj, -⟩ := h
  exact hinj

/-- Records dropped for a consumer that ends leave the epoch in force. -/
theorem CheckDie.sameForce_endConsumers (d : CheckDie) (cs : List Nat) : d.SameForce (d.endConsumers cs) := by
  unfold CheckDie.endConsumers
  refine CheckDie.sameForce_forEach _ (fun d c => ?_) cs d
  exact .refl d

/-- CONFIG_CRC sent leaves the epoch in force. -/
theorem CheckDie.sameForce_reportConfig (d : CheckDie) : d.SameForce d.reportConfig := .refl d

/-- Before the causes act, the boundary of a safe-state entry has put its epoch, instant and causes in force, and changed none of the
configuration, the states and the injectors (R199, R202). -/
theorem CheckDie.boundary_safeEntry (d : CheckDie) (epoch : Nat) (hi : d.injectors = []) :
    ∃ e : CheckDie, ({ d with epoch := epoch, causes := 2, boundaryGts := d.gts, epochImage := epoch } : CheckDie).SameForce e ∧
      d.boundary epoch 2 = (e.setDevice .safeHold).reportConfig := by
  unfold CheckDie.boundary
  extract_lets old was g commit next now_ d1 d2 fresh d3 d4
  have hcommit : commit = false := rfl
  have hnext : next.cfg = d.cfg := rfl
  have h1 : d.SameForce d1 := (CheckDie.sameForce_fence d was d.epoch epoch 2 g hi).trans (CheckDie.sameForce_endConsumers _ _)
  obtain ⟨-, -, -, -, device1, -, injectors1, state1⟩ := h1
  have h2 : ({ d with epoch := epoch, causes := 2, boundaryGts := g, epochImage := epoch } : CheckDie).SameForce d2 :=
    ⟨rfl, rfl, rfl, rfl, device1, hnext, injectors1, state1⟩
  have hcredit : ∀ (y : CheckDie) (c : Nat),
      y.SameForce (if d.pairOf c = d2.pairOf c then y else y.updConsumer c (fun x => { x with credit := false })) := by
    intro y c
    split
    · exact .refl y
    · exact .refl y
  have h3 : d2.SameForce (d2.forEach fresh _) := CheckDie.sameForce_forEach _ hcredit fresh d2
  have h4 := CheckDie.sameForce_fence _ fresh d.epoch epoch 2 g ((h2.trans h3).injectors_eq.trans hi)
  exact ⟨d4, (h2.trans h3).trans h4, rfl⟩

/-- Settles O31: on the safety die by `SafetyDie.advance_first` and `SafetyDie.advance_joins`, on the check die by
`CheckDie.boundary_safeEntry`. -/
theorem epochBoundary : Obligations.EpochBoundary := by
  refine ⟨fun x causes r hon hwanted hserves hr => ⟨fun h => ?first, fun h => ?joins⟩, fun d epoch hd hs hi => ?inForce⟩
  case first =>
    rw [SafetyDie.advance_first hon hwanted hserves causes hr h]
    exact ⟨rfl, rfl⟩
  case joins =>
    rw [SafetyDie.advance_joins hon hwanted hserves causes hr h]
    exact ⟨rfl, rfl⟩
  case inForce =>
    obtain ⟨e, ⟨hepoch, hcauses, hgts, himage, hdevice, hcfg, hinj, hstate⟩, heq⟩ := d.boundary_safeEntry epoch hi
    rw [heq, e.setDevice_safeHold (hdevice.trans hd) (hstate.trans hs) (hinj.trans hi)]
    exact ⟨hepoch, hcauses, hgts, himage, rfl, hcfg⟩

end Sys2Proof.Machine
end

section
/-! PROOFS. A stop cause in RUN: what it does to the device, the brake and the epoch, and what a second one adds (R199, R280, R293). -/

namespace Sys2Proof.Machine

/-- Two states of the safety die that an advance of the epoch cannot tell apart, the flits sent aside. -/
structure SafetyDie.SameEpoch (x y : SafetyDie) : Prop where
  now : y.now = x.now
  kill : y.kill = x.kill
  cdState : y.cdState = x.cdState
  advancedAt : y.advancedAt = x.advancedAt
  epoch : y.guest.epoch = x.guest.epoch
  pending : y.pending = x.pending

/-- One after the other. -/
theorem SafetyDie.SameEpoch.trans {x y z : SafetyDie} (h : x.SameEpoch y) (k : y.SameEpoch z) : x.SameEpoch z :=
  ⟨k.now.trans h.now, k.kill.trans h.kill, k.cdState.trans h.cdState, k.advancedAt.trans h.advancedAt, k.epoch.trans h.epoch,
    k.pending.trans h.pending⟩

/-- What recording an event changes is not of the epoch. -/
theorem SafetyDie.Recorded.sameEpoch {x y : SafetyDie} (h : x.Recorded y) : x.SameEpoch y := by
  obtain ⟨_, _, _, _, _, _, rfl⟩ := h
  exact ⟨rfl, rfl, rfl, rfl, rfl, rfl⟩

/-- Recording an event leaves the brake. -/
theorem SafetyDie.Recorded.brake_eq {x y : SafetyDie} (h : x.Recorded y) : y.brake = x.brake := by
  obtain ⟨_, _, _, _, _, _, rfl⟩ := h
  rfl

/-- An advance of the epoch leaves the brake. -/
theorem SafetyDie.advance_brake (x : SafetyDie) (causes : Nat) : (x.advance causes).brake = x.brake := by
  have hstep : x.stepEpoch.brake = x.brake := by
    unfold SafetyDie.stepEpoch
    split <;> rfl
  have hsend : (x.stepEpoch.sendEpoch causes).brake = x.stepEpoch.brake := (SafetyDie.recorded_sendFlits _ _).brake_eq
  unfold SafetyDie.advance
  split
  · rfl
  · exact hsend.trans hstep

/-- An end of the brake test changes the brake and the guest book alone, and of them neither the causes nor the epoch. -/
theorem SafetyDie.abortTest_spec (x : SafetyDie) : ∃ (b : Brake) (g : GuestBook),
    x.abortTest = { x with brake := b, guest := g } ∧ b.causes = x.brake.causes ∧ g.epoch = x.guest.epoch := by
  have hpass : ∃ (b : Brake) (g : GuestBook),
      x.btPass = { x with brake := b, guest := g } ∧ b.causes = x.brake.causes ∧ g.epoch = x.guest.epoch := by
    unfold SafetyDie.btPass
    split
    · split
      · exact ⟨_, _, rfl, rfl, rfl⟩
      · exact ⟨_, _, rfl, rfl, rfl⟩
    · exact ⟨_, _, rfl, rfl, rfl⟩
  obtain ⟨b, g, hx, hb, hg⟩ := hpass
  unfold SafetyDie.abortTest SafetyDie.endTest
  rw [hx]
  split
  · exact ⟨_, _, rfl, hb, hg⟩
  · exact ⟨b, g, rfl, hb, hg⟩

/-- No release of this cycle gives way when none is under way or the one under way began before (R293). -/
theorem SafetyDie.refuseRestart_none (x : SafetyDie) (h : x.brake.release = .none ∨ x.brake.restartAt ≠ x.now) :
    x.refuseRestart = x := by
  rw [SafetyDie.refuseRestart, if_neg (by tauto)]

/-- What the refusal of a release changes is not of the epoch. -/
theorem SafetyDie.refuseRestart_sameEpoch (x : SafetyDie) : x.SameEpoch x.refuseRestart := by
  unfold SafetyDie.refuseRestart
  split
  · exact (SafetyDie.recorded_raise x .restartRefused 0 0 2 0xFFFF).sameEpoch
  · exact (SafetyDie.Recorded.refl x).sameEpoch

/-- A stop cause noted: a release of its cycle gives way, the cause is recorded, a running brake test is aborted (R281, R290, R293). -/
def SafetyDie.noteStop (x : SafetyDie) (bit : Nat) : SafetyDie :=
  (x.refuseRestart.setBrake (fun b => { b with causes := b.causes ||| 2 ^ bit, stopAt := some x.now })).abortTest

/-- The safe-state entry: both channels off, SAFE_HOLD, SAFE_ENTER to the check die (R280). -/
def SafetyDie.enterSafeHold (x : SafetyDie) : SafetyDie :=
  ({ x.channelsOff with device := .safeHold } : SafetyDie).sendFlit flitSafeEnter

/-- After the refusal a cause noted changes the brake and the guest book alone: the cause is added, the epoch stays. -/
theorem SafetyDie.noteStop_spec (x : SafetyDie) (bit : Nat) : ∃ (b : Brake) (g : GuestBook),
    x.noteStop bit = { x.refuseRestart with brake := b, guest := g } ∧ b.causes = x.refuseRestart.brake.causes ||| 2 ^ bit ∧
      g.epoch = x.refuseRestart.guest.epoch :=
  (x.refuseRestart.setBrake (fun b => { b with causes := b.causes ||| 2 ^ bit, stopAt := some x.now })).abortTest_spec

/-- A cause noted is recorded beside those that were, and leaves the device state (R281). -/
theorem SafetyDie.noteStop_device_causes (x : SafetyDie) (bit : Nat) :
    (x.noteStop bit).device = x.device ∧ (x.noteStop bit).brake.causes = x.brake.causes ||| 2 ^ bit := by
  obtain ⟨hdevice, hbrake, -, -⟩ := x.refuseRestart_frame
  obtain ⟨b, g, hnote, hb, -⟩ := x.noteStop_spec bit
  rw [hnote]
  exact ⟨hdevice, by rw [hb, hbrake]⟩

/-- A cause noted is not of the epoch. -/
theorem SafetyDie.noteStop_sameEpoch (x : SafetyDie) (bit : Nat) : x.SameEpoch (x.noteStop bit) := by
  refine x.refuseRestart_sameEpoch.trans ?_
  obtain ⟨b, g, hnote, -, hg⟩ := x.noteStop_spec bit
  rw [hnote]
  exact ⟨rfl, rfl, rfl, rfl, hg, rfl⟩

/-- A cause noted sends nothing when no release of its cycle gives way. -/
theorem SafetyDie.noteStop_corTx (x : SafetyDie) (bit : Nat) (h : x.brake.release = .none ∨ x.brake.restartAt ≠ x.now) :
    (x.noteStop bit).corTx = x.corTx := by
  obtain ⟨b, g, hnote, -, -⟩ := x.noteStop_spec bit
  rw [hnote, x.refuseRestart_none h]

/-- The safe-state entry is not of the epoch. -/
theorem SafetyDie.enterSafeHold_sameEpoch (x : SafetyDie) : x.SameEpoch x.enterSafeHold :=
  SafetyDie.SameEpoch.trans (y := { x.channelsOff with device := .safeHold }) ⟨rfl, rfl, rfl, rfl, rfl, rfl⟩
    (SafetyDie.recorded_sendFlits _ [flitSafeEnter]).sameEpoch

/-- The safe-state entry sends SAFE_ENTER to a check die out of reset. -/
theorem SafetyDie.enterSafeHold_corTx (x : SafetyDie) {r : Nat} (hr : x.kill.released = some r) :
    x.enterSafeHold.corTx = x.corTx.give x.now [flitSafeEnter] :=
  congrArg SafetyDie.corTx
    (SafetyDie.sendFlits_released ({ x.channelsOff with device := .safeHold } : SafetyDie) [flitSafeEnter] hr)

/-- The safe-state entry ends a release under way. -/
theorem SafetyDie.enterSafeHold_release (x : SafetyDie) : x.enterSafeHold.brake.release = .none := by
  have hbrake : x.enterSafeHold.brake = x.channelsOff.brake := (SafetyDie.recorded_sendFlits _ _).brake_eq
  rw [hbrake]
  rfl

/-- In RUN a stop cause is noted, the safe state entered, and the epoch advances for it (R280). -/
theorem SafetyDie.stop_run (x : SafetyDie) (bit : Nat) (h : x.device = .run) :
    x.stop bit = (x.noteStop bit).enterSafeHold.advance 2 := by
  have hd : (x.noteStop bit).device = .run := (x.noteStop_device_causes bit).1.trans h
  exact if_neg (not_not.2 hd)

/-- Outside RUN a stop cause is noted alone, and the outputs follow (R280, R281). -/
theorem SafetyDie.stop_outside_run (x : SafetyDie) (bit : Nat) (h : x.device ≠ .run) : x.stop bit = (x.noteStop bit).settle := by
  have hd : (x.noteStop bit).device ≠ .run := (x.noteStop_device_causes bit).1.trans_ne h
  exact if_pos hd

/-- The die that the epoch advances on in a stop is, for the epoch, the one that the cause found. -/
theorem SafetyDie.stop_sameEpoch (x : SafetyDie) (bit : Nat) : x.SameEpoch (x.noteStop bit).enterSafeHold :=
  (x.noteStop_sameEpoch bit).trans (x.noteStop bit).enterSafeHold_sameEpoch

/-- With a check die that serves, a stop cause in RUN, the first boundary cause of its cycle, sends SAFE_ENTER, then EPOCH_ADVANCE with
the epoch one further (R199, R280). -/
theorem SafetyDie.stop_advances (x : SafetyDie) (bit : Nat) (h : x.device = .run) (hon : x.kill.on = false) (hwanted : x.kill.wanted = none)
    (hserves : x.cdState.serves = true) (hfirst : x.advancedAt ≠ some x.now)
    (hrelease : x.brake.release = .none ∨ x.brake.restartAt ≠ x.now) {r : Nat} (hr : x.kill.released = some r) :
    (x.stop bit).guest.epoch = (x.guest.epoch + 1) % 2 ^ 32 ∧
      (x.stop bit).corTx = (x.corTx.give x.now [flitSafeEnter]).give x.now [flitEpoch ((x.guest.epoch + 1) % 2 ^ 32) 2] := by
  have hnote := x.noteStop_sameEpoch bit
  have hsame := x.stop_sameEpoch bit
  have hsent : (x.noteStop bit).enterSafeHold.corTx = x.corTx.give x.now [flitSafeEnter] := by
    rw [(x.noteStop bit).enterSafeHold_corTx (hnote.kill ▸ hr), x.noteStop_corTx bit hrelease, hnote.now]
  have hadvance := SafetyDie.advance_first (x := (x.noteStop bit).enterSafeHold) (hsame.kill ▸ hon) (hsame.kill ▸ hwanted)
    (hsame.cdState ▸ hserves) 2 (hsame.kill ▸ hr) (by rw [hsame.advancedAt, hsame.now]; exact hfirst)
  rw [x.stop_run bit h, hadvance]
  simp only [hsent, hsame.epoch, hsame.now, and_self]

/-- With a check die in reset, about to be, or not serving, a stop cause in RUN leaves the epoch to the end of the reset (R199, R280). -/
theorem SafetyDie.stop_waits (x : SafetyDie) (bit : Nat) (h : x.device = .run)
    (hreset : x.kill.on = true ∨ x.kill.wanted.isSome = true ∨ x.cdState.serves = false) :
    (x.stop bit).guest.epoch = x.guest.epoch ∧ (x.stop bit).pending = x.pending ||| 2 := by
  have hsame := x.stop_sameEpoch bit
  rw [x.stop_run bit h, SafetyDie.advance_waits _ 2 (by rwa [hsame.kill, hsame.cdState])]
  exact ⟨hsame.epoch, congrArg (· ||| 2) hsame.pending⟩

/-- After a stop in RUN no release is under way. -/
theorem SafetyDie.stop_release (x : SafetyDie) (bit : Nat) (h : x.device = .run) : (x.stop bit).brake.release = .none := by
  rw [x.stop_run bit h, SafetyDie.advance_brake]
  exact (x.noteStop bit).enterSafeHold_release

/-- Outside RUN, with no release under way, a stop cause is recorded and changes neither state, epoch nor flits (R280). -/
theorem SafetyDie.stop_outside_run_records (x : SafetyDie) (bit : Nat) (h : x.device ≠ .run) (hrelease : x.brake.release = .none) :
    (x.stop bit).device = x.device ∧ (x.stop bit).guest.epoch = x.guest.epoch ∧ (x.stop bit).corTx = x.corTx ∧
      (x.stop bit).brake.causes = x.brake.causes ||| 2 ^ bit := by
  obtain ⟨hdevice, hcauses⟩ := x.noteStop_device_causes bit
  rw [x.stop_outside_run bit h]
  exact ⟨hdevice, (x.noteStop_sameEpoch bit).epoch, x.noteStop_corTx bit (.inl hrelease), hcauses⟩

/-- Settles O16: the state and the brake by `SafetyDie.stop_spec`, the epoch by `SafetyDie.stop_advances` and `SafetyDie.stop_waits`, a
second cause by `SafetyDie.stop_outside_run_records`. -/
theorem stopInRun : Obligations.StopInRun := by
  intro x bit h
  obtain ⟨hdevice, hlatch, hrelA, -, hoffB, hcauses, -, -⟩ := x.stop_spec bit false h
  refine ⟨hdevice, hlatch, hrelA, by simp [SafetyDie.driveA, hrelA], hoffB, hcauses,
    fun hon hwanted hserves hfirst hrelease r hr => x.stop_advances bit h hon hwanted hserves hfirst hrelease hr,
    x.stop_waits bit h, fun other => ?second⟩
  case second =>
    obtain ⟨hdevice2, hepoch2, hsent2, hcauses2⟩ :=
      (x.stop bit).stop_outside_run_records other (by rw [hdevice]; decide) (x.stop_release bit h)
    exact ⟨hdevice2.trans hdevice, hepoch2, hsent2, by rw [hcauses2, hcauses]⟩

end Sys2Proof.Machine
end

section
/-! PROOFS. What may start on a VE lane: the start of a record on a lane that is down, idle, or busy with a record (R210, R213-R215, R224). -/

namespace Sys2Proof.Machine

/-- A RESULT that may start is covered by its consumer's credit (R213). -/
theorem CheckDie.startable_result (d : CheckDie) (q : List EgItem) (y : EgItem) (hk : y.kind = .result) (h : d.startable q y = true) :
    (d.consumer y.consumer).credit = true ∧ (d.consumer y.consumer).used + y.units ≤ (d.consumer y.consumer).total := by
  simp only [CheckDie.startable, hk, Bool.and_eq_true, decide_eq_true_eq] at h
  obtain ⟨⟨hcredit, -⟩, -⟩ := h
  exact hcredit

section Lane
variable {d x : CheckDie} {l : Nat} (hx : x = (d.laneCatchUp l).dropOver l)
include hx

/-- A lane that is down starts nothing, once its waits are over. -/
theorem CheckDie.egressStart_down (hdown : (x.lane l).up = false) : d.egressStart l = x := by
  simp only [CheckDie.egressStart, ← hx, hdown, Bool.not_false, if_true]

/-- An idle lane starts nothing, or a VERDICT that follows its RESULT or a record that may start now (R214). -/
theorem CheckDie.egressStart_idle (hidle : (x.lane l).sending = none) :
    d.egressStart l = x ∨ ∃ y rest, d.egressStart l = x.startItem l y rest ∧
      (y.kind = .verdict ∨ x.startable (x.lane l).queue y = true) := by
  simp only [CheckDie.egressStart, ← hx, hidle]
  split
  case isTrue => exact .inl rfl
  case isFalse =>
    split
    case h_1 y rest hpick =>
      have hfollows := pickFirst_spec _ _ _ _ hpick
      simp only [Bool.and_eq_true, beq_iff_eq] at hfollows
      obtain ⟨⟨hverdict, -⟩, -⟩ := hfollows
      exact .inr ⟨y, rest, rfl, .inl hverdict⟩
    case h_2 =>
      split
      case h_1 y rest hpick => exact .inr ⟨y, rest, rfl, .inr (pickFirst_spec _ _ _ _ hpick)⟩
      case h_2 => exact .inl rfl

/-- A record in progress goes on when it is no RESULT, or when no RETRACT or EPOCH_FENCE has fallen due since it started (R215). -/
theorem CheckDie.egressStart_busy {s : Sending} (hs : (x.lane l).sending = some s)
    (hgoes : s.item.kind ≠ .result ∨ (x.lane l).queue.any (fun y => y.preempts && decide (s.start ≤ y.due)) = false) :
    d.egressStart l = x := by
  simp only [CheckDie.egressStart, ← hx, hs]
  split
  case isTrue => rfl
  case isFalse =>
    split
    case isTrue hresult => rw [(pickFirst_none _ _).2 (hgoes.resolve_left (not_not_intro hresult))]
    case isFalse => rfl

/-- A RETRACT or EPOCH_FENCE that fell due since a RESULT in progress started ends it and starts; the RESULT is queued again (R215). -/
theorem CheckDie.egressStart_preempts {s : Sending} (hup : (x.lane l).up = true) (hs : (x.lane l).sending = some s)
    (hresult : s.item.kind = .result)
    (hdue : (x.lane l).queue.any (fun y => y.preempts && decide (s.start ≤ y.due)) = true) :
    ∃ y rest, y.preempts = true ∧
      d.egressStart l = (x.abandon l).startItem l y (insertItem { s.item with resend := true } rest) := by
  obtain ⟨⟨y, rest⟩, hpick⟩ := Option.ne_none_iff_exists'.1 fun hnone =>
    Bool.false_ne_true (((pickFirst_none _ _).1 hnone).symm.trans hdue)
  refine ⟨y, rest, (Bool.and_eq_true_iff.1 (pickFirst_spec _ _ _ _ hpick)).1, ?_⟩
  simp only [CheckDie.egressStart, ← hx, hup, hs, hresult, hpick, Bool.not_true, Bool.false_eq_true, if_false, if_true]

end Lane

/-- Settles O37: a lane that is down by `CheckDie.egressStart_down`, an idle one by `CheckDie.egressStart_idle`, a busy one by
`CheckDie.egressStart_busy` and `CheckDie.egressStart_preempts`; what a start makes of its lane is `CheckDie.startItem_lane`. -/
theorem egressStart : Obligations.EgressStart := by
  intro d l x hx
  refine ⟨CheckDie.egressStart_down hx, fun hidle s hs => ?idle,
    fun s hup hs => ⟨CheckDie.egressStart_busy hx hs, fun hresult hdue => ?preempted⟩⟩
  case idle =>
    obtain hnone | ⟨y, rest, hstart, hy⟩ := CheckDie.egressStart_idle hx hidle
    · rw [hnone, hidle] at hs
      cases hs
    · obtain ⟨-, o, stop, hsending⟩ := x.startItem_lane l y rest
      obtain rfl := Option.some.inj (hsending.symm.trans (hstart ▸ hs))
      refine ⟨fun hresult => x.startable_result _ y hresult (hy.resolve_left fun hverdict => ?_), rfl, rfl⟩
      cases hresult.symm.trans hverdict
  case preempted =>
    obtain ⟨y, rest, hpreempts, hstart⟩ := CheckDie.egressStart_preempts hx hup hs hresult hdue
    obtain ⟨hqueue, o, stop, hsending⟩ := (x.abandon l).startItem_lane l y (insertItem { s.item with resend := true } rest)
    rw [hstart, hqueue]
    exact ⟨_, hsending, hpreempts, insertItem_mem _ rest⟩

end Sys2Proof.Machine
end

section
/-! PROOFS. The commands of the safety die reach the check die only through the device state and SD_CD_KILL; those of the keeper pair and
of the input pairs are a happening of the safety die each (R257, R427). -/

namespace Sys2Proof.Machine

open Host

/-- A happening at a unit of the safety die that exists does `f` on it, and what follows from that. -/
theorem State.onSafetyIf_safetyDid (s : State) (t : Nat) (c : Prop) [Decidable c] (f : SafetyDie → SafetyDie) (hc : c) :
    s.onSafetyIf t c f = s.safetyDid t f := by
  unfold State.onSafetyIf
  simp only [if_pos hc]
  exact State.onSafety_safetyDid s t f

/-- The self-refresh report is a happening of the safety die while the check die is clocked, and nothing while it is not (R431). -/
theorem State.selfRefresh_next (s : State) (t : Nat) (s' : State) (h : s.act t Dies.selfRefresh = .next s') : s.OnlySafety t s' :=
  State.onSafetyIf_next s t (s.dies.cd.clock = true) SafetyDie.selfRefresh s' h

/-- A command that the safety die takes, or a flit toward it, reaches the check die by nothing but the device state and SD_CD_KILL
(R257, R427): each is a happening of that die, one at a unit of the die, or a flit. -/
theorem exec_onlySafety (c : Instr) (t : Nat) (s s' : State) (hc : c.atSafetyDie = some t) (h : exec c s = .next s') :
    s.OnlySafety t s' := by
  cases c with
  | compareWord | comparatorInjection | debugHalt | debugResume | splitAppTrap | keeperActionQueue | cdHeartEdge | heartLossTimeout
  | cdSafeDemandLow | killPowerDelay | autoRestartTimeout | readbackEdge | releaseLapse | readbackMismatchTimeout | outputPulseStart
  | outputPulseCheck | brakeFeedbackEdge | bfbTimeout | btTorqueEnd | btPass | motionEdge | btOverdue | btExpired | wdsServiceStore
  | serviceArmLapse | watchdogExpiry | graceExpiry | clockMonitorTrip | disableSequenceLapse | rollCallCycleEnd | sessionIdleTimeout
  | por | resetN | selftestDone | pgCdRise | pgCdTimeout | pgCdFall | thermalWarn | thermalClear | safetyDieThermalTrip | outputPulseEnd
  | resetNRelease | safetyResetEnd | bootTemperatureResume | softwareSelfTest =>
    cases hc
    exact State.onSafety_next s t _ s' h
  | safetyInputEdge | inputFilterElapsed | discrepancyTimeout | testPulseWindow | testPulseHoldEnd | evaluatorDisagreeTimeout
  | faultTestRelease =>
    cases hc
    exact State.onSafetyIf_next s t _ _ s' h
  | verdictToken | streamState | eventFlits | configCrc | status | fenceChange | timeSample | hostWrite | wdhSvc | wdhEnable | wdhDisable
  | wdhLock | wdhKey | rcCheckin =>
    cases hc
    exact State.onSafetyLink_next s t _ s' h
  | selfRefreshReport =>
    cases hc
    exact State.selfRefresh_next s t s' h
  | _ => cases hc

/-- Settles O9: such a command reaches the safety die, and the check die by what follows. -/
theorem safetyDieCommandsFrame : Obligations.SafetyDieCommandsFrame := exec_onlySafety

/-- Settles O40: a command of the keeper pair is a happening of the safety die, one of an input pair a happening at that pair. -/
theorem keeperAndInputCommandsComplete : Obligations.KeeperAndInputCommandsComplete := by
  intro s t
  have hdie (f : SafetyDie → SafetyDie) : s.onSafety t f = s.safetyDid t f := State.onSafety_safetyDid s t f
  have hpair (pair : Nat) (hp : pair < 8) (f : SafetyDie → SafetyDie) : s.onSafetyIf t (pair < 8) f = s.safetyDid t f :=
    State.onSafetyIf_safetyDid s t _ f hp
  exact ⟨fun _ _ _ _ _ _ _ _ => hdie _, fun _ _ => hdie _, hdie _, hdie _, hdie _, hdie _,
    fun pair _ _ hp => hpair pair hp _, fun pair _ _ _ hp => hpair pair hp _, fun pair hp => hpair pair hp _,
    fun pair _ _ _ _ hp => hpair pair hp _, fun pair _ hp => hpair pair hp _, fun pair hp => hpair pair hp _,
    fun pair hp => hpair pair hp _⟩

end Sys2Proof.Machine
end

section
/-! PROOFS. Flits of the check die received in order: each acts with the operands that its payload spells (R245, R246, R248). -/

namespace Sys2Proof.Machine

open Host

/-- A flit of the check die received in order is accepted and has its effect (R248). -/
theorem State.flit_safetyDid (s : State) (t seq : Nat) (f : Flit) (h : s.FromCheck seq) :
    s.onSafetyLink t (fun y => y.flitArrives seq f) = s.safetyDid t (fun y => SafetyDie.flitEffect f (y.accepted 1)) := by
  rw [State.onSafetyLink_safetyDid s t seq _ h]
  exact State.safetyDid_congr s t _ _ (SafetyDie.flitArrives_clear (s.dies.sd.tick t) seq f h.clear h.order)

/-- The same with the effect that the flit's fields name. -/
theorem State.flit_safetyDid_of_effect (s : State) (t seq : Nat) (f : Flit) (g : SafetyDie → SafetyDie) (h : s.FromCheck seq)
    (heffect : ∀ y : SafetyDie, SafetyDie.flitEffect f y = g y) :
    s.onSafetyLink t (fun y => y.flitArrives seq f) = s.safetyDid t (fun y => g (y.accepted 1)) := by
  rw [State.flit_safetyDid s t seq f h]
  exact State.safetyDid_congr s t _ _ (heffect _)

/-- A flit for the token sorter over which TS_X and TS_Y agree is a flit as any other (R250). -/
theorem State.sorterFlit_agreed (s : State) (t seq : Nat) (f : Flit) (g : SafetyDie → SafetyDie) (h : s.FromCheck seq)
    (heffect : ∀ y : SafetyDie, SafetyDie.flitEffect f y = g y) :
    s.onSafetyLink t (fun y => y.sorterFlit seq f false) = s.safetyDid t (fun y => g (y.accepted 1)) :=
  State.flit_safetyDid_of_effect s t seq f g h heffect

/-- A flit over which TS_X and TS_Y disagree is a keeper fault after its effect (R250). -/
theorem State.sorterFlit_split (s : State) (t seq : Nat) (f : Flit) (g : SafetyDie → SafetyDie) (h : s.FromCheck seq)
    (heffect : ∀ y : SafetyDie, SafetyDie.flitEffect f y = g y) :
    s.onSafetyLink t (fun y => y.sorterFlit seq f true)
      = s.safetyDid t (fun y => (g (y.accepted 1)).keeperFault .sorterSplit 0 0) := by
  have horder : (s.dies.sd.tick t).corRx.takes seq = true := h.order
  have harrives := SafetyDie.flitArrives_clear (s.dies.sd.tick t) seq f h.clear horder
  rw [State.onSafetyLink_safetyDid s t seq _ h]
  refine State.safetyDid_congr s t _ _ ?_
  rw [SafetyDie.sorterFlit, harrives, heffect, horder]
  rfl

/-- A VERDICT_TOKEN without a reserved code hands its token to the sorter (R247). -/
theorem SafetyDie.flitEffect_token (y : SafetyDie) (payload : Nat) (h : malformedReport (flitToken payload) = false) :
    SafetyDie.flitEffect (flitToken payload) y = y.token (Token.ofPayload payload) := by
  have htype : (flitToken payload).type = 0x01 := rfl
  have hpayload : (flitToken payload).payload = payload := rfl
  simp [SafetyDie.flitEffect, h, htype, hpayload]

/-- A STREAM_STATE without a reserved code hands its payload to the sorter (R245). -/
theorem SafetyDie.flitEffect_stream (y : SafetyDie) (n state gen : Nat) (escalated starved : Bool)
    (h : malformedReport (flitStream n state escalated starved gen) = false) :
    SafetyDie.flitEffect (flitStream n state escalated starved gen) y
      = y.streamState (flitStream n state escalated starved gen).payload := by
  have htype : (flitStream n state escalated starved gen).type = 0x02 := rfl
  simp [SafetyDie.flitEffect, h, htype]

/-- The CRC reads back from the lower half of a CONFIG_CRC (R245). -/
theorem bitsOf_configCrc_crc (crc epoch : Nat) (hcrc : crc < 2 ^ 32) : bitsOf (flitConfigCrc crc epoch).payload 0 32 = crc := by
  simp only [bitsOf, flitConfigCrc, Nat.shiftRight_zero]
  omega

/-- The epoch reads back from the upper half of a CONFIG_CRC (R245). -/
theorem bitsOf_configCrc_epoch (crc epoch : Nat) (hcrc : crc < 2 ^ 32) (hepoch : epoch < 2 ^ 32) :
    bitsOf (flitConfigCrc crc epoch).payload 32 32 = epoch := by
  simp only [bitsOf, flitConfigCrc, Nat.shiftRight_eq_div_pow]
  omega

/-- A CONFIG_CRC reports its CRC for its epoch (R18). -/
theorem SafetyDie.flitEffect_configCrc (y : SafetyDie) (crc epoch : Nat) (hcrc : crc < 2 ^ 32) (hepoch : epoch < 2 ^ 32) :
    SafetyDie.flitEffect (flitConfigCrc crc epoch) y = y.reportedCrc crc epoch := by
  have heffect : SafetyDie.flitEffect (flitConfigCrc crc epoch) y
      = y.reportedCrc (bitsOf (flitConfigCrc crc epoch).payload 0 32) (bitsOf (flitConfigCrc crc epoch).payload 32 32) := rfl
  rw [heffect, bitsOf_configCrc_crc crc epoch hcrc, bitsOf_configCrc_epoch crc epoch hcrc hepoch]

/-- The state reads back from the lowest byte of a STATUS (R245). -/
theorem bitsOf_status (code demands : Nat) (hcode : code < 4) : bitsOf (flitStatus code demands).payload 0 8 = code := by
  simp only [bitsOf, flitStatus, Nat.shiftRight_zero]
  omega

/-- A STATUS with a state up to FAULT has no reserved code (R5). -/
theorem malformedReport_status (code demands : Nat) (hcode : code < 4) : malformedReport (flitStatus code demands) = false := by
  have hreport : malformedReport (flitStatus code demands) = decide (4 ≤ bitsOf (flitStatus code demands).payload 0 8) := rfl
  rw [hreport, bitsOf_status code demands hcode]
  exact decide_eq_false (by omega)

/-- A STATUS reports its state (R253). -/
theorem SafetyDie.flitEffect_status (y : SafetyDie) (code demands : Nat) (hcode : code < 4) :
    SafetyDie.flitEffect (flitStatus code demands) y = y.status code := by
  have heffect : SafetyDie.flitEffect (flitStatus code demands) y
      = if malformedReport (flitStatus code demands) = true then y.corridorFailure 5
        else y.status (bitsOf (flitStatus code demands).payload 0 8) := rfl
  rw [heffect, malformedReport_status code demands hcode, bitsOf_status code demands hcode]
  rfl

/-- The cluster, the row and the map of a FENCE_CHANGE read back from its payload (R245). -/
theorem bitsOf_fence (c row : Nat) (fenced : Bool) (hc : c < 256) (hrow : row < 256) :
    bitsOf (flitFence c row fenced).payload 8 8 = c ∧ bitsOf (flitFence c row fenced).payload 0 8 = row ∧
      (flitFence c row fenced).payload.testBit 16 = fenced := by
  simp only [bitsOf, flitFence, Nat.shiftRight_eq_div_pow, Nat.testBit_eq_decide_div_mod_eq]
  cases fenced with
  | false =>
    have hbit : b01 false = 0 := rfl
    exact ⟨by omega, by omega, decide_eq_false (by omega)⟩
  | true =>
    have hbit : b01 true = 1 := rfl
    exact ⟨by omega, by omega, decide_eq_true (by omega)⟩

/-- A FENCE_CHANGE changes the map that it names (R245). -/
theorem SafetyDie.flitEffect_fence (y : SafetyDie) (c row : Nat) (fenced : Bool) (hc : c < 256) (hrow : row < 256) :
    SafetyDie.flitEffect (flitFence c row fenced) y = y.fenceChange c row fenced := by
  obtain ⟨hcluster, hr, hmap⟩ := bitsOf_fence c row fenced hc hrow
  have heffect : SafetyDie.flitEffect (flitFence c row fenced) y
      = y.fenceChange (bitsOf (flitFence c row fenced).payload 8 8) (bitsOf (flitFence c row fenced).payload 0 8)
        ((flitFence c row fenced).payload.testBit 16) := rfl
  rw [heffect, hcluster, hr, hmap]

/-- The four flits of a record, received in order with no part of an item before them, are accepted together (R246, R248). -/
theorem SafetyDie.recordArrives_whole (y : SafetyDie) (seq : Nat) (r : EventRec) (hpart : y.corRx.part 0x03 = 0) (hi : y.injectors = [])
    (horder : y.corRx.takes seq = true) : y.recordArrives seq r = (y.accepted 4).takeRecord r := by
  have hadmit : y.groupAdmit seq (flitsEvent r) = (y.accepted 4, true) := by
    calc y.groupAdmit seq (flitsEvent r)
        = (y.receive seq (flitsEvent r).length id, y.corRx.takes seq) := if_pos ⟨hpart, hi⟩
      _ = (y.accepted 4, true) := by rw [SafetyDie.receive_takes y seq _ id horder, horder]; rfl
  rw [SafetyDie.recordArrives, SafetyDie.groupArrives, hadmit]
  rfl

/-- Settles O46: each flit is accepted and has its effect by `State.flit_safetyDid_of_effect`; the effect takes the operands that its
payload spells. -/
theorem flitsToTheSafetyDieAct : Obligations.FlitsToTheSafetyDieAct := by
  intro s t seq h
  refine ⟨fun payload hform => ?token, fun payload hform => ?tokenSplit, fun n state gen escalated starved hform => ?stream,
    fun n state gen escalated starved hform => ?streamSplit, fun r hpart => ?record, fun crc epoch hcrc hepoch => ?config,
    fun code demands hcode => ?status, fun c row fenced hc hrow => ?fence, fun gts => ?time, fun offset v ho hv => ?host⟩
  case token =>
    exact State.sorterFlit_agreed s t seq _ (fun y => y.token (Token.ofPayload payload)) h fun y => y.flitEffect_token payload hform
  case tokenSplit =>
    exact State.sorterFlit_split s t seq _ (fun y => y.token (Token.ofPayload payload)) h fun y => y.flitEffect_token payload hform
  case stream =>
    exact State.sorterFlit_agreed s t seq _ (fun y => y.streamState (flitStream n state escalated starved gen).payload) h
      fun y => y.flitEffect_stream n state gen escalated starved hform
  case streamSplit =>
    exact State.sorterFlit_split s t seq _ (fun y => y.streamState (flitStream n state escalated starved gen).payload) h
      fun y => y.flitEffect_stream n state gen escalated starved hform
  case record =>
    refine (State.onSafetyLink_safetyDid s t seq _ h).trans (State.safetyDid_congr s t _ _ ?_)
    exact (s.dies.sd.tick t).recordArrives_whole seq r hpart h.clear h.order
  case config =>
    exact State.flit_safetyDid_of_effect s t seq _ (fun y => y.reportedCrc crc epoch) h
      fun y => y.flitEffect_configCrc crc epoch hcrc hepoch
  case status =>
    exact State.flit_safetyDid_of_effect s t seq _ (fun y => y.status code) h fun y => y.flitEffect_status code demands hcode
  case fence =>
    exact State.flit_safetyDid_of_effect s t seq _ (fun y => y.fenceChange c row fenced) h fun y => y.flitEffect_fence c row fenced hc hrow
  case time => exact State.flit_safetyDid_of_effect s t seq _ (fun y => y.timeSample gts) h fun y => rfl
  case host => exact State.hostWrite_safetyDid s t seq offset v h ho hv

end Sys2Proof.Machine
end

section
/-! PROOFS. Commands of the safety die whose whole effect is one register or field (R245, R267, R290, R306, R321). -/

namespace Sys2Proof.Machine

open Host

/-- Accepting flits leaves the clock, the guest book and the watchdogs' gate. -/
theorem SafetyDie.accepted_keeps (y : SafetyDie) (n : Nat) :
    (y.accepted n).now = y.now ∧ (y.accepted n).guest = y.guest ∧ (y.accepted n).gate = y.gate := by
  unfold SafetyDie.accepted
  split
  · exact ⟨rfl, rfl, rfl⟩
  · exact ⟨rfl, rfl, rfl⟩

/-- A new level of channel A of a pair is noted with its time (R267). -/
theorem SafetyDie.inputEdge_changes (y : SafetyDie) (i : Nat) (level : Bool) (hi : i < 8) (hlevel : (y.pair i).rawA ≠ level) :
    y.inputEdge i false level
      = { y with pairs := y.pairs.upd {} i (fun p => { p with rawA := level, edgeA := y.now }) } := by
  have hp : (y.pairs.get {} i).rawA ≠ level := hlevel
  rw [SafetyDie.inputEdge, if_neg (Nat.not_le.2 hi)]
  simp only [Tbl.upd, Bool.false_eq_true, if_false, if_neg hp]

/-- The torque of a running brake test ends once its duration has passed (R290). -/
theorem SafetyDie.btTorqueEnd_due (y : SafetyDie) (u : Nat) (htest : y.brake.test = some u)
    (hdue : u + y.get Od.BT_DURATION_MS * 1000000 ≤ y.now) :
    y.btTorqueEnd = { y with brake := { y.brake with tq := false } } := by
  calc y.btTorqueEnd
      = if u + y.btDuration ≤ y.now then y.setBrake (fun b => { b with tq := false }) else y := by
        simp only [SafetyDie.btTorqueEnd, htest]
    _ = y.setBrake (fun b => { b with tq := false }) := if_pos hdue

/-- A motion edge shorter than 1 µs is none (R290). -/
theorem SafetyDie.motion_short (y : SafetyDie) (ns : Nat) (hns : ns < 1000) : y.motion ns = y := by
  have hshort (u : Nat) : ¬ (1000 ≤ ns ∧ y.now ≤ u + y.btDuration + 100000000) := fun ⟨hlong, _⟩ => absurd hlong (Nat.not_le.2 hns)
  unfold SafetyDie.motion
  split
  · exact if_neg (hshort _)
  · rfl

/-- The first key of WDH's disable sequence starts the sequence (R306). -/
theorem SafetyDie.wdhKey_first (y : SafetyDie) (v : Nat) (hstep : y.gate.step = 0) (hv : v % 65536 = 0xD15A) :
    y.wdhKey v = { y with gate := { y.gate with step := 1 } } := by
  rw [SafetyDie.wdhKey]
  exact if_pos ⟨hstep, hv⟩

/-- A completed disable sequence lapses after 16 ticks, and is counted (R306). -/
theorem SafetyDie.disableLapse_due (y : SafetyDie) (hstep : y.gate.step = 2) (hdue : y.gate.stepAt + 16000 < y.now) :
    y.disableLapse = { y with gate := { y.gate with step := 0 }, regs := y.regs.bump Od.WDH_IGNORED 0 1 } := by
  rw [SafetyDie.disableLapse, if_pos ⟨hstep, hdue⟩]
  rfl

/-- Settles O33: a happening of the safety die, or a flit accepted, and there its one register or field. -/
theorem safetyDieExactEffects : Obligations.SafetyDieExactEffects := by
  intro s t
  refine ⟨fun i level hi hlevel => ?edge, fun u htest hdue => ?torque, fun ns hns => ?motion, fun seq gts h => ?time,
    fun seq c row h hc hrow => ?watch, fun seq v h hv32 hv hstep => ?key, fun hstep hdue => ?lapse⟩
  case edge =>
    exact (State.onSafetyIf_safetyDid s t _ _ hi).trans
      (State.safetyDid_congr s t _ _ ((s.dies.sd.tick t).inputEdge_changes i level hi hlevel))
  case torque =>
    exact (State.onSafety_safetyDid s t _).trans (State.safetyDid_congr s t _ _ ((s.dies.sd.tick t).btTorqueEnd_due u htest hdue))
  case motion => exact (State.onSafety_safetyDid s t _).trans (State.safetyDid_congr s t _ id ((s.dies.sd.tick t).motion_short ns hns))
  case time =>
    obtain ⟨hnow, -, -⟩ := (s.dies.sd.tick t).accepted_keeps 1
    have hflit := State.flit_safetyDid_of_effect s t seq (flitTime gts) (fun y => y.timeSample gts) h fun y => rfl
    refine hflit.trans (State.safetyDid_congr s t _ _ ?_)
    simp only [SafetyDie.timeSample, hnow]
  case watch =>
    obtain ⟨-, hguest, -⟩ := (s.dies.sd.tick t).accepted_keeps 1
    have hflit := State.flit_safetyDid_of_effect s t seq (flitFence c row false) (fun y => y.fenceChange c row false) h
      fun y => y.flitEffect_fence c row false hc hrow
    refine hflit.trans (State.safetyDid_congr s t _ _ ?_)
    simp only [SafetyDie.fenceChange, SafetyDie.setGuest, hguest, Bool.false_eq_true, if_false]
  case key =>
    obtain ⟨-, -, hgate⟩ := (s.dies.sd.tick t).accepted_keeps 1
    refine (State.hostWrite_safetyDid s t seq 0x2008 v h (by decide) hv32).trans (State.safetyDid_congr s t _ _ ?_)
    have hkey := SafetyDie.wdhKey_first ((s.dies.sd.tick t).accepted 1) v (by rw [hgate]; exact hstep) hv
    rw [hgate] at hkey
    exact hkey
  case lapse =>
    exact (State.onSafety_safetyDid s t _).trans (State.safetyDid_congr s t _ _ ((s.dies.sd.tick t).disableLapse_due hstep hdue))

end Sys2Proof.Machine
end

section
/-! PROOFS. The corridor at both ends: what its receivers and timers see that is no sequenced flit (R244, R248, R249). -/

namespace Sys2Proof.Machine

open Host

/-- The link runs at the check die: out of reset, its links clocked, not in RETAIN (R29, R431). -/
structure CheckDie.LinkAlive (d : CheckDie) : Prop where
  up : d.up = true
  clock : d.clock = true
  awake : d.power ≠ .retain

/-- Such a link runs at any time. -/
theorem CheckDie.LinkAlive.tick_linkRuns {d : CheckDie} (h : d.LinkAlive) (t : Nat) : (d.tick t).linkRuns = true := by
  simp [CheckDie.linkRuns, h.up, h.clock, h.awake]

/-- A happening of the check die's end of the corridor does `f` on that die while its link runs (R248). -/
theorem State.onLinks_checkDid (s : State) (t : Nat) (f : CheckDie → CheckDie) (h : s.dies.cd.LinkAlive) :
    s.act t (fun x => x.onLinks t f) = s.checkDid t f := by
  simp only [State.act, State.checkDid, Dies.onLinks, Dies.tick_cd, Dies.tick_sd, CheckDie.tick_tick, if_pos (h.tick_linkRuns t)]

/-- A LINK flit does its acknowledgement on the check die while its link runs (R248). -/
theorem State.linkFlit_checkDid (s : State) (t acked expected : Nat) (nak : Bool) (h : s.dies.cd.LinkAlive) :
    s.act t (fun x => x.linkFlit true acked nak expected) = s.checkDid t (fun d => d.linkIn acked nak expected) := by
  simp only [State.act, State.checkDid, Dies.linkFlit, Dies.tick_cd, Dies.tick_sd, h.tick_linkRuns t, if_true]

/-- What reaches the safety die's receiver acts while SD_CD_KILL is off and the die is not in RETAIN (R31, R248). -/
theorem Dies.onSafetyLink_open (x : Dies) (t : Nat) (f : SafetyDie → SafetyDie) (hkill : x.sd.kill.on = false)
    (hpower : x.sd.power ≠ .retain) : x.onSafetyLink t f = x.onSafety t f := by
  have hopen : ¬ ((x.sd.kill.on || (x.sd.power == .retain && decide ((x.sd.tick t).sleepAt + 5000000 ≤ (x.sd.tick t).now))) = true) := by
    simp [hkill, hpower]
  simp only [Dies.onSafetyLink, SafetyDie.tick_kill, SafetyDie.tick_power]
  exact if_neg hopen

/-- A TRAIN flit at the check die that leaves the direction as it was does nothing else (R244). -/
theorem State.train_checkDid (s : State) (t : Nat) (crcOk : Bool) (hclock : s.dies.cd.clock = true)
    (hup : ((s.dies.cd.tick t).trainIn crcOk).corRx.up = s.dies.cd.corRx.up) :
    s.act t (fun x => x.train true crcOk) = s.checkDid t (fun d => d.trainIn crcOk) := by
  simp [State.act, State.checkDid, Dies.train, hclock, hup]

/-- The TRAIN flit that brings the direction to the check die up lets TIME_SET follow (R244, R321). -/
theorem State.train_comesUp (s : State) (t : Nat) (crcOk : Bool) (hclock : s.dies.cd.clock = true)
    (hup : ((s.dies.cd.tick t).trainIn crcOk).corRx.up = true) (hdown : s.dies.cd.corRx.up = false) :
    s.act t (fun x => x.train true crcOk)
      = s.became (({ sd := s.dies.sd.tick t, cd := (s.dies.cd.tick t).trainIn crcOk } : Dies).safety SafetyDie.sendTime) := by
  simp [State.act, State.became, Dies.train, hclock, hup, hdown]

/-- A TRAIN flit at the safety die that leaves the direction as it was does nothing on the check die (R244). -/
theorem State.train_safetyDid (s : State) (t : Nat) (crcOk : Bool)
    (hup : ((s.dies.sd.tick t).trainIn crcOk).corRx.up = s.dies.sd.corRx.up) :
    s.act t (fun x => x.train false crcOk) = s.safetyDid t (fun y => y.trainIn crcOk) := by
  simp [State.act, State.safetyDid, Dies.train, Dies.safety, hup]

/-- Settles O49: the check die's end by `State.onLinks_checkDid`, the safety die's by `Dies.onSafetyLink_open`, training by the three
lemmas on `Dies.train`. -/
theorem linkCommandsComplete : Obligations.LinkCommandsComplete := by
  intro s t
  have hdie (f : SafetyDie → SafetyDie) (hkill : s.dies.sd.kill.on = false) (hpower : s.dies.sd.power ≠ .retain) (u : Nat) :
      (s.dies.tick t).onSafetyLink u f = (s.dies.tick t).onSafety u f := Dies.onSafetyLink_open (s.dies.tick t) u f hkill hpower
  refine ⟨fun hup hclock hpower => ?atCheck, fun hkill hpower => ?corrupt, fun hkill hpower acked expected nak => ?link,
    fun crcOk hup => State.train_safetyDid s t crcOk hup, State.onSafety_safetyDid s t _, State.onSafety_safetyDid s t _,
    State.onSafety_safetyDid s t _⟩
  case atCheck =>
    have halive : s.dies.cd.LinkAlive := ⟨hup, hclock, hpower⟩
    exact ⟨State.onLinks_checkDid s t _ halive, fun acked expected nak => State.linkFlit_checkDid s t acked expected nak halive,
      fun crcOk h => State.train_checkDid s t crcOk hclock h, fun crcOk h hdown => State.train_comesUp s t crcOk hclock h hdown,
      State.onLinks_checkDid s t _ halive, State.onLinks_checkDid s t _ halive, State.onLinks_checkDid s t _ halive⟩
  case corrupt =>
    calc exec (.corruptFlit t false) s
        = s.became ((s.dies.tick t).onSafetyLink t SafetyDie.flitCrcError) := rfl
      _ = s.safetyDid t SafetyDie.flitCrcError := by
        rw [hdie _ hkill hpower, Dies.tick_onSafety]
        rfl
  case link =>
    calc exec (.link t false acked nak expected) s
        = s.became (((s.dies.tick t).onSafetyLink (s.dies.tick t).sd.now
            (fun y => y.linkAcks s.dies.cd.boundaryGts acked nak expected)).pumpAll) := rfl
      _ = s.became (((s.dies.tick t).safety (fun y => y.linkAcks s.dies.cd.boundaryGts acked nak expected)).pumpAll) := by
        rw [hdie _ hkill hpower, Dies.onSafety, SafetyDie.tick_self]
        rfl

end Sys2Proof.Machine
end

section
/-! PROOFS. Flits of the safety die received in order: each acts with the operands that its payload spells (R245, R246, R248). -/

namespace Sys2Proof.Machine

open Host

/-- A flit that the check die receives does `f` on it (R31, R248). -/
theorem State.onCheckLink_checkDid (s : State) (t seq : Nat) (f : CheckDie → CheckDie) (h : s.FromSafety seq) :
    s.onCheckLink t f = s.checkDid t f := by
  obtain ⟨hup, hclock⟩ := h.alive
  exact State.onLinks_checkDid s t f ⟨hup, hclock, h.awake⟩

/-- A flit in order is accepted, then acted on (R248). -/
theorem CheckDie.receive_takes (d : CheckDie) (seq n : Nat) (f : CheckDie → CheckDie) (h : d.corRx.takes seq = true) :
    d.receive seq n f = f (d.accepted n) := by
  rw [CheckDie.receive, if_pos h]
  rfl

/-- Accepting flits leaves the epoch in force. -/
theorem CheckDie.accepted_epoch (d : CheckDie) (n : Nat) : (d.accepted n).epoch = d.epoch := by
  unfold CheckDie.accepted
  split
  · rfl
  · rfl

/-- A flit in order meets the receiver as it was sent when no injector stands at the point (R456). -/
theorem CheckDie.flitArrives_clear (d : CheckDie) (seq : Nat) (f : Flit) (hi : d.armedAt 3 1 = false) (h : d.corRx.takes seq = true) :
    d.flitArrives seq f = CheckDie.flitEffect f (d.accepted 1) := by
  rw [CheckDie.flitArrives, if_neg (by simp [hi]), CheckDie.receive_takes d seq 1 _ h]

/-- A flit of the safety die received in order is accepted and has its effect (R248). -/
theorem State.checkFlit_checkDid (s : State) (t seq : Nat) (f : Flit) (h : s.FromSafety seq) :
    s.onCheckLink t (fun d => d.flitArrives seq f) = s.checkDid t (fun d => CheckDie.flitEffect f (d.accepted 1)) := by
  rw [State.onCheckLink_checkDid s t seq _ h]
  exact State.checkDid_congr s t _ _ (CheckDie.flitArrives_clear (s.dies.cd.tick t) seq f h.clear h.order)

/-- The same with the effect that the flit's fields name on a die whose epoch is the one in force. -/
theorem State.checkFlit_checkDid_of_effect (s : State) (t seq : Nat) (f : Flit) (g : CheckDie → CheckDie) (h : s.FromSafety seq)
    (heffect : ∀ d : CheckDie, d.epoch = s.dies.cd.epoch → CheckDie.flitEffect f d = g d) :
    s.onCheckLink t (fun d => d.flitArrives seq f) = s.checkDid t (fun d => g (d.accepted 1)) := by
  rw [State.checkFlit_checkDid s t seq f h]
  exact State.checkDid_congr s t _ _ (heffect _ (CheckDie.accepted_epoch _ 1))

/-- The flits of one item, received in order with no part of an item before them, are accepted together (R246, R248). -/
theorem CheckDie.groupArrives_whole (d : CheckDie) (seq : Nat) (fs : List Flit) (f : CheckDie → CheckDie)
    (hpart : d.corRx.part (fs.headD ⟨0, 0⟩).type = 0) (hi : d.armedAt 3 1 = false) (h : d.corRx.takes seq = true) :
    d.groupArrives seq fs f = f (d.accepted fs.length) := by
  calc d.groupArrives seq fs f = d.receive seq fs.length f := if_pos ⟨hpart, by simp [hi]⟩
    _ = f (d.accepted fs.length) := CheckDie.receive_takes d seq _ f h

/-- An item that the check die receives whole and in order is accepted and has its effect (R246). -/
theorem State.checkItem_checkDid (s : State) (t seq : Nat) (fs : List Flit) (f : CheckDie → CheckDie) (h : s.FromSafety seq)
    (hpart : s.dies.cd.corRx.part (fs.headD ⟨0, 0⟩).type = 0) :
    s.onCheckLink t (fun d => d.groupArrives seq fs f) = s.checkDid t (fun d => f (d.accepted fs.length)) := by
  rw [State.onCheckLink_checkDid s t seq _ h]
  exact State.checkDid_congr s t _ _ ((s.dies.cd.tick t).groupArrives_whole seq fs f hpart h.clear h.order)

/-- The data flits asked for. -/
theorem dataFlits_length (type n : Nat) (b : Octets) : (dataFlits type n b).length = n := by
  induction n generalizing b with
  | zero => rfl
  | succ n ih => simp [dataFlits, ih]

/-- A configuration set takes one flit for each 8 bytes, and CONFIG_BEGIN and CONFIG_END (R246). -/
theorem flitsConfig_length (b : Octets) (epoch : Nat) : (flitsConfig b epoch).length = ceilDiv b.length 8 + 2 := by
  simp [flitsConfig, dataFlits_length]

/-- An OD message takes one flit for each 8 bytes, and OD_BEGIN and OD_END (R246). -/
theorem flitsOd_length (slot path : Nat) (b : Octets) : (flitsOd slot path b).length = ceilDiv b.length 8 + 2 := by
  simp [flitsOd, dataFlits_length]

/-- A record has 32 bytes (R320). -/
theorem EventRec.octets_length (r : EventRec) : r.octets.length = 32 := by
  simp only [EventRec.octets, EventRec.body, List.length_append, le_length]

/-- A record as an OD message takes six flits (R246). -/
theorem OdDown.flits_record_length (r : EventRec) : (OdDown.record r).flits.length = 6 := by
  rw [OdDown.flits, flitsOd_length, r.octets_length]
  rfl

/-- The opcode, the causes and the epoch of an EPOCH_ADVANCE read back from its payload (R245). -/
theorem bitsOf_epoch (epoch causes : Nat) (hepoch : epoch < 2 ^ 32) (hcauses : causes < 256) :
    bitsOf (flitEpoch epoch causes).payload 0 8 = 1 ∧ bitsOf (flitEpoch epoch causes).payload 8 8 = causes ∧
      bitsOf (flitEpoch epoch causes).payload 32 32 = epoch := by
  simp only [bitsOf, flitEpoch, Nat.shiftRight_eq_div_pow]
  exact ⟨by omega, by omega, by omega⟩

/-- The opcode, the cluster and the row of a FENCE read back from its payload (R245). -/
theorem bitsOf_fenceCmd (c row : Nat) (hc : c < 256) (hrow : row < 256) :
    bitsOf (flitFenceCmd c row).payload 0 8 = 4 ∧ bitsOf (flitFenceCmd c row).payload 16 8 = c ∧
      bitsOf (flitFenceCmd c row).payload 24 8 = row := by
  simp only [bitsOf, flitFenceCmd, Nat.shiftRight_eq_div_pow]
  exact ⟨by omega, by omega, by omega⟩

/-- The opcode and the cluster of a MARGIN_TEST read back from its payload (R245). -/
theorem bitsOf_margin (c : Nat) (hc : c < 256) :
    bitsOf (flitMargin c).payload 0 8 = 5 ∧ bitsOf (flitMargin c).payload 16 8 = c := by
  simp only [bitsOf, flitMargin, Nat.shiftRight_eq_div_pow]
  exact ⟨by omega, by omega⟩

/-- The opcode, the injector and the direction of an INJECT read back from its payload (R245, R454). -/
theorem bitsOf_inject (j : Nat) (arm : Bool) (hj : j < 256) :
    bitsOf (flitInject j arm).payload 0 8 = 6 ∧ bitsOf (flitInject j arm).payload 8 8 = j ∧
      (flitInject j arm).payload.testBit 16 = arm := by
  simp only [bitsOf, flitInject, Nat.shiftRight_eq_div_pow, Nat.testBit_eq_decide_div_mod_eq]
  cases arm with
  | false =>
    have hbit : b01 false = 0 := rfl
    exact ⟨by omega, by omega, decide_eq_false (by omega)⟩
  | true =>
    have hbit : b01 true = 1 := rfl
    exact ⟨by omega, by omega, decide_eq_true (by omega)⟩

/-- An EPOCH_ADVANCE to another epoch is a boundary (R199). -/
theorem CheckDie.flitEffect_epoch (d : CheckDie) (epoch causes : Nat) (hepoch : epoch < 2 ^ 32) (hcauses : causes < 256)
    (hnew : epoch ≠ d.epoch) : CheckDie.flitEffect (flitEpoch epoch causes) d = d.boundary epoch causes := by
  obtain ⟨hop, hc, he⟩ := bitsOf_epoch epoch causes hepoch hcauses
  have htype : (flitEpoch epoch causes).type = 0x24 := rfl
  simp only [CheckDie.flitEffect, htype, hop, hc, he, if_true, if_neg hnew]

/-- An EPOCH_ADVANCE of the epoch in force joins its causes to the boundary just passed (R199, item 3; log entries 36 and 85). -/
theorem CheckDie.flitEffect_epochAgain (d : CheckDie) (causes : Nat) (hepoch : d.epoch < 2 ^ 32) (hcauses : causes < 256) :
    CheckDie.flitEffect (flitEpoch d.epoch causes) d = d.boundaryJoins causes := by
  obtain ⟨hop, hc, he⟩ := bitsOf_epoch d.epoch causes hepoch hcauses
  have htype : (flitEpoch d.epoch causes).type = 0x24 := rfl
  simp only [CheckDie.flitEffect, htype, hop, hc, he, if_true]

/-- A FENCE fences the unit that it names (R245). -/
theorem CheckDie.flitEffect_fence (d : CheckDie) (c row : Nat) (hc : c < 256) (hrow : row < 256) :
    CheckDie.flitEffect (flitFenceCmd c row) d = d.fenceUnit c row := by
  obtain ⟨hop, hcluster, hr⟩ := bitsOf_fenceCmd c row hc hrow
  have htype : (flitFenceCmd c row).type = 0x24 := rfl
  simp [CheckDie.flitEffect, htype, hop, hcluster, hr]

/-- A MARGIN_TEST starts the test of its cluster (R335). -/
theorem CheckDie.flitEffect_margin (d : CheckDie) (c : Nat) (hc : c < 256) :
    CheckDie.flitEffect (flitMargin c) d = d.marginStart c := by
  obtain ⟨hop, hcluster⟩ := bitsOf_margin c hc
  have htype : (flitMargin c).type = 0x24 := rfl
  simp [CheckDie.flitEffect, htype, hop, hcluster]

/-- An INJECT arms or disarms its injector (R454). -/
theorem CheckDie.flitEffect_inject (d : CheckDie) (j : Nat) (arm : Bool) (hj : j < 256) :
    CheckDie.flitEffect (flitInject j arm) d = d.injectCommand j arm := by
  obtain ⟨hop, hinj, harm⟩ := bitsOf_inject j arm hj
  have htype : (flitInject j arm).type = 0x24 := rfl
  simp [CheckDie.flitEffect, htype, hop, hinj, harm]

/-- Settles O48: each flit is accepted and has its effect by `State.checkFlit_checkDid_of_effect`, each item by
`State.checkItem_checkDid`; the effect takes the operands that its payload spells. That an EPOCH_ADVANCE of the epoch in force joins its
boundary is the model's choice (log entries 36 and 85). -/
theorem flitsToTheCheckDieAct : Obligations.FlitsToTheCheckDieAct := by
  intro s t seq h
  refine ⟨fun set ends hpart hcrc => ?set, fun epoch causes hepoch hcauses hnew => ?advance, fun causes hepoch hcauses => ?joins,
    ?enter, ?exit, fun c row hc hrow => ?fence, fun c hc => ?margin, fun j arm hj => ?inject, fun gts => ?time,
    fun path b hpart => ?response, fun r hpart => ?record⟩
  case set =>
    have hitem := State.checkItem_checkDid s t seq (flitsConfig (setOctets set) ends.epoch)
      (fun d => if ends.crc = crc32c (setOctets set) then { d with delivered := some (ends.epoch, set) } else d.flitCrcError) h hpart
    refine hitem.trans (State.checkDid_congr s t _ _ ?_)
    rw [if_pos hcrc, flitsConfig_length]
  case advance =>
    exact State.checkFlit_checkDid_of_effect s t seq _ (fun d => d.boundary epoch causes) h
      fun d hd => d.flitEffect_epoch epoch causes hepoch hcauses (hd ▸ hnew)
  case joins =>
    exact State.checkFlit_checkDid_of_effect s t seq _ (fun d => d.boundaryJoins causes) h
      fun d hd => hd ▸ d.flitEffect_epochAgain causes (hd ▸ hepoch) hcauses
  case enter => exact State.checkFlit_checkDid_of_effect s t seq _ (fun d => d.setDevice .safeHold) h fun d _ => rfl
  case exit => exact State.checkFlit_checkDid_of_effect s t seq _ (fun d => d.safeExit) h fun d _ => rfl
  case fence =>
    exact State.checkFlit_checkDid_of_effect s t seq _ (fun d => d.fenceUnit c row) h fun d _ => d.flitEffect_fence c row hc hrow
  case margin =>
    exact State.checkFlit_checkDid_of_effect s t seq _ (fun d => d.marginStart c) h fun d _ => d.flitEffect_margin c hc
  case inject =>
    exact State.checkFlit_checkDid_of_effect s t seq _ (fun d => d.injectCommand j arm) h fun d _ => d.flitEffect_inject j arm hj
  case time => exact State.checkFlit_checkDid_of_effect s t seq _ (fun d => d.timeSet gts) h fun d _ => rfl
  case response =>
    have hitem := State.checkItem_checkDid s t seq (flitsOd (field b 4 1) path b) (fun d => d.answer path b) h hpart
    rw [flitsOd_length] at hitem
    exact hitem
  case record =>
    have hitem := State.checkItem_checkDid s t seq (OdDown.record r).flits (fun d => d.takeRecord r) h hpart
    rw [OdDown.flits_record_length r] at hitem
    exact hitem

end Sys2Proof.Machine
end

section
/-! PROOFS. CD_SAFE_DEMAND and the heartbeat monitor: what each does to the device and the brake (R253, R254, R256, R264, R281, R293). -/

namespace Sys2Proof.Machine

open Host

/-- CD_SAFE_DEMAND noted: the stop latch set, bit 2 of SAFE_CAUSES recorded, BRK_B off (R256, R264, R281). -/
def SafetyDie.noteDemand (y : SafetyDie) : SafetyDie :=
  (({ y with demand := true } : SafetyDie).setBrake (fun b =>
    { b with latch := true, causes := b.causes ||| 4, stopAt := some y.now })).settle

/-- A demand shorter than 130 ns is none (R256). -/
theorem SafetyDie.demandLow_short (y : SafetyDie) (ns : Nat) (hns : ns < 130) : y.demandLow ns = y := by
  rw [SafetyDie.demandLow, if_pos (Or.inl hns)]

/-- A demand that stops no release of its cycle is noted, and the token brings BRK_A off (R256, R281). -/
theorem SafetyDie.demandLow_notes (y : SafetyDie) (ns : Nat) (hns : 130 ≤ ns) (hd : y.demand = false)
    (hrelease : y.brake.release = .none ∨ y.brake.restartAt ≠ y.now) : y.demandLow ns = y.noteDemand := by
  have hlong : ¬ (ns < 130 ∨ y.demand = true) := by simp [hns, hd]
  have hnone : ¬ (y.brake.release ≠ .none ∧ y.brake.restartAt = y.now) := by tauto
  rw [SafetyDie.demandLow, if_neg hlong]
  exact if_neg hnone

/-- A demand in the cycle in which a release began is noted, and stops it (R293). -/
theorem SafetyDie.demandLow_stops (y : SafetyDie) (ns : Nat) (hns : 130 ≤ ns) (hd : y.demand = false)
    (hrelease : y.brake.release ≠ .none) (hsame : y.brake.restartAt = y.now) : y.demandLow ns = y.noteDemand.stop 2 := by
  have hlong : ¬ (ns < 130 ∨ y.demand = true) := by simp [hns, hd]
  rw [SafetyDie.demandLow, if_neg hlong]
  exact if_pos ⟨hrelease, hsame⟩

/-- With the latch set BRK_B is off (R264). -/
theorem SafetyDie.settle_onB_of_latch (y : SafetyDie) (h : y.brake.latch = true) : y.settle.brake.onB = false := by
  obtain ⟨-, -, -, -, -, -, -, -, -, honB⟩ := y.settle_spec
  rw [honB, SafetyDie.mayB, h]
  rfl

/-- A demand noted sets the latch, takes BRK_B off and records bit 2; RELEASE, the device state and the kill stay (R256, R264, R281). -/
theorem SafetyDie.noteDemand_spec (y : SafetyDie) : y.noteDemand.demand = true ∧ y.noteDemand.brake.latch = true ∧
    y.noteDemand.brake.onB = false ∧ y.noteDemand.brake.causes = y.brake.causes ||| 4 ∧ y.noteDemand.device = y.device ∧
    y.noteDemand.brake.relA = y.brake.relA ∧ y.noteDemand.kill = y.kill :=
  ⟨rfl, rfl, SafetyDie.settle_onB_of_latch _ rfl, rfl, rfl, rfl, rfl⟩

/-- Settles O17: a short demand by `SafetyDie.demandLow_short`, a safe demand by `SafetyDie.noteDemand_spec`, one in the cycle in which a
release began by `SafetyDie.stop_spec`. That a cycle is one value of the model's clock is the model's choice (log entry 77). -/
theorem safeDemand : Obligations.SafeDemand := by
  intro s t ns hd
  have hexec : exec (.cdSafeDemandLow t ns) s = s.safetyDid t (fun y => y.demandLow ns) := State.onSafety_safetyDid s t _
  refine ⟨fun hns => ?short, fun hns hrelease => ?demand, fun hns hrun hrelease hsame => ?sameCycle⟩
  case short =>
    exact hexec.trans (State.safetyDid_congr s t _ id ((s.dies.sd.tick t).demandLow_short ns hns))
  case demand =>
    obtain ⟨fbrake, -, fkill, fdevice, -, -, -, fdemand, -⟩ := Dies.follow_keeps (s.dies.tick t) (s.dies.sd.tick t).noteDemand
    obtain ⟨hdemand, hlatch, honB, hcauses, hdevice, hrelA, hkill⟩ := (s.dies.sd.tick t).noteDemand_spec
    have hnotes := (s.dies.sd.tick t).demandLow_notes ns hns hd hrelease
    refine ⟨_, hexec.trans (State.safetyDid_congr s t _ SafetyDie.noteDemand hnotes), fdemand.trans hdemand, ?_, ?_, ?_, ?_,
      fdevice.trans hdevice, ?_, ?_⟩
    · exact (congrArg Brake.latch fbrake).trans hlatch
    · exact (congrArg Brake.onB fbrake).trans honB
    · simp only [SafetyDie.pinB, fbrake, honB, Bool.false_and]
    · exact (congrArg Brake.causes fbrake).trans hcauses
    · exact (congrArg Brake.relA fbrake).trans hrelA
    · refine Dies.follow_cd (s.dies.tick t) _ (fdevice.trans hdevice) fun hon => ?_
      rwa [fkill, hkill] at hon
  case sameCycle =>
    have hstops := (s.dies.sd.tick t).demandLow_stops ns hns hd hrelease hsame
    obtain ⟨fbrake, -, -, fdevice, -⟩ := Dies.follow_keeps (s.dies.tick t) ((s.dies.sd.tick t).noteDemand.stop 2)
    obtain ⟨hdevice, hlatch, hrelA, -, honB, -, -, -⟩ := (s.dies.sd.tick t).noteDemand.stop_spec 2 false hrun
    refine ⟨_, hexec.trans (State.safetyDid_congr s t _ (fun y => y.noteDemand.stop 2) hstops), fdevice.trans hdevice, ?_, ?_, ?_⟩
    · exact (congrArg Brake.relA fbrake).trans hrelA
    · exact (congrArg Brake.onB fbrake).trans honB
    · exact (congrArg Brake.latch fbrake).trans hlatch

/-- A trip noted: the monitor has tripped, the kill is wanted from now (R254). -/
def SafetyDie.noteTrip (y : SafetyDie) : SafetyDie :=
  { y with heart := { y.heart with tripped := true }, kill := { y.kill with wanted := some y.now } }

/-- With no kill under way a trip is noted, recorded, and a stop through the HBL (R254, R260). -/
theorem SafetyDie.trip_free (y : SafetyDie) (hon : y.kill.on = false) (hwanted : y.kill.wanted = none) :
    y.trip = (y.noteTrip.raise .heartTrip).hblStop 3 true :=
  if_neg (by simp [hon, hwanted])

/-- A stop through the HBL in RUN enters SAFE_HOLD with both outputs off and the latch set, records its cause, and leaves the monitor and
the kill (R264, R280). -/
theorem SafetyDie.hblStop_spec (y : SafetyDie) (bit : Nat) (merge : Bool) (hrun : y.device = .run) :
    (y.hblStop bit merge).device = .safeHold ∧ (y.hblStop bit merge).brake.latch = true ∧ (y.hblStop bit merge).brake.relA = false ∧
      (y.hblStop bit merge).brake.onB = false ∧ (y.hblStop bit merge).brake.causes = y.brake.causes ||| 2 ^ bit ∧
      (y.hblStop bit merge).heart = y.heart ∧ (y.hblStop bit merge).kill = y.kill := by
  obtain ⟨hdevice, hlatch, hrelA, -, honB, hcauses, hheart, hkill⟩ :=
    ((y.setBrake (fun b => { b with latch := true, calm := none })).settle).stop_spec bit merge hrun
  exact ⟨hdevice, hlatch, hrelA, honB, hcauses, hheart, hkill⟩

/-- Recording an event leaves the device state, the monitor and the kill. -/
theorem SafetyDie.Recorded.tripSide {x y : SafetyDie} (h : x.Recorded y) :
    y.device = x.device ∧ y.heart = x.heart ∧ y.kill = x.kill := by
  obtain ⟨_, _, _, _, _, _, rfl⟩ := h
  exact ⟨rfl, rfl, rfl⟩

/-- A heartbeat trip of a die in RUN with no kill under way: SAFE_HOLD with both outputs off and the latch set, bit 3 of SAFE_CAUSES, the
kill wanted from now (R254, R260, R281). -/
theorem SafetyDie.trip_run (y : SafetyDie) (hon : y.kill.on = false) (hwanted : y.kill.wanted = none) (hrun : y.device = .run) :
    y.trip.heart.tripped = true ∧ y.trip.kill.wanted = some y.now ∧ y.trip.device = .safeHold ∧ y.trip.brake.relA = false ∧
      y.trip.brake.onB = false ∧ y.trip.brake.latch = true ∧ y.trip.brake.causes.testBit 3 = true := by
  obtain ⟨rdevice, rheart, rkill⟩ := (y.noteTrip.recorded_raise .heartTrip 0 0 0 0xFFFF).tripSide
  obtain ⟨hdevice, hlatch, hrelA, honB, hcauses, hheart, hkill⟩ :=
    (y.noteTrip.raise .heartTrip).hblStop_spec 3 true (rdevice.trans hrun)
  rw [y.trip_free hon hwanted]
  refine ⟨?_, ?_, hdevice, hrelA, honB, hlatch, ?_⟩
  · rw [hheart, rheart]
    rfl
  · rw [hkill, rkill]
    rfl
  · rw [hcauses, Nat.testBit_or, Nat.testBit_two_pow_self, Bool.or_true]

/-- A gap in or beyond the band below HEART_LOSS_NS trips an armed monitor (R253; log entry 37). -/
theorem SafetyDie.heartLoss_trips (y : SafetyDie) (harmed : y.heart.armed = true) (hpower : y.power ≠ .retain)
    (hgap : y.heart.lastEdge * 100 + y.get Od.HEART_LOSS_NS * 88 < y.now * 100) : y.heartLoss = y.trip := by
  rw [SafetyDie.heartLoss, if_pos ⟨harmed, hpower, hgap⟩]

/-- The edge of CD_HEART noted (R253). -/
def SafetyDie.noteEdge (y : SafetyDie) : SafetyDie := { y with heart := { y.heart with lastEdge := y.now, edge := true } }

/-- An edge sooner than 450 ns after the last trips an armed monitor (R253). -/
theorem SafetyDie.heartEdge_trips (y : SafetyDie) (harmed : y.heart.armed = true) (hpower : y.power ≠ .retain)
    (hedge : y.heart.edge = true) (hsoon : y.now < y.heart.lastEdge + 450) : y.heartEdge = y.noteEdge.trip := by
  rw [SafetyDie.heartEdge]
  exact if_pos ⟨harmed, hpower, .inl ⟨hedge, hsoon⟩⟩

/-- The outcome of a command that trips the monitor of a die in RUN, on the block (R254, R260). -/
theorem State.safetyDid_trip (s : State) (t : Nat) (f : SafetyDie → SafetyDie) (y : SafetyDie) (hf : f (s.dies.sd.tick t) = y.trip)
    (hnow : y.now = (s.dies.sd.tick t).now) (hon : y.kill.on = false) (hwanted : y.kill.wanted = none) (hrun : y.device = .run) :
    ∃ s' : State, s.safetyDid t f = .next s' ∧ s'.dies.sd.heart.tripped = true ∧
      s'.dies.sd.kill.wanted = some (s.dies.sd.tick t).now ∧ s'.dies.sd.device = .safeHold ∧ s'.dies.sd.driveA = false ∧
      s'.dies.sd.brake.onB = false ∧ s'.dies.sd.brake.latch = true ∧ s'.dies.sd.brake.causes.testBit 3 = true := by
  obtain ⟨fbrake, fheart, fkill, fdevice, -⟩ := Dies.follow_keeps (s.dies.tick t) y.trip
  obtain ⟨htripped, hkill, hdevice, hrelA, honB, hlatch, hcauses⟩ := y.trip_run hon hwanted hrun
  refine ⟨{ s with dies := (s.dies.tick t).follow y.trip }, by rw [State.safetyDid, hf], ?_, ?_, fdevice.trans hdevice, ?_, ?_, ?_, ?_⟩
  · exact (congrArg HeartMon.tripped fheart).trans htripped
  · rw [← hnow]
    exact (congrArg Kill.wanted fkill).trans hkill
  · simp only [SafetyDie.driveA, fbrake, hrelA, Bool.false_and]
  · exact (congrArg Brake.onB fbrake).trans honB
  · exact (congrArg Brake.latch fbrake).trans hlatch
  · rw [fbrake]
    exact hcauses

/-- Settles O18: either way the monitor trips, and the trip is `State.safetyDid_trip`. That a gap trips from the low end of the band of
R253 on is the model's choice (log entries 19 and 37). -/
theorem heartbeatTrip : Obligations.HeartbeatTrip := by
  rintro s t harmed hpower hon hwanted hrun c (⟨rfl, hgap⟩ | ⟨rfl, hedge, hsoon⟩)
  · exact State.safetyDid_trip s t SafetyDie.heartLoss (s.dies.sd.tick t) ((s.dies.sd.tick t).heartLoss_trips harmed hpower hgap) rfl
      hon hwanted hrun
  · exact State.safetyDid_trip s t SafetyDie.heartEdge (s.dies.sd.tick t).noteEdge
      ((s.dies.sd.tick t).heartEdge_trips harmed hpower hedge hsoon) rfl hon hwanted hrun

end Sys2Proof.Machine
end

section
/-! PROOFS. Every step keeps BRK_B within the conditions of the stop path: one lemma per shared shape of Machine/Ops.lean, then each command
by the lemma of Laws/Brake.lean about its operation (R263, R264, R281). -/

namespace Sys2Proof.Machine

open Host

/-- A command whose outcome is a next state with other dies. -/
theorem State.next_held {s s' : State} {o : Outcome State Fault Refusal} {x : Dies} (h : o = .next s')
    (ho : o = .next { s with dies := x }) (hx : x.sd.Held) : s'.dies.sd.Held := by
  obtain rfl : { s with dies := x } = s' := by simpa [ho] using h
  exact hx

/-- One of two ways the dies go. -/
theorem Dies.ite_held {x y : Dies} (c : Prop) [Decidable c] (hx : x.sd.Held) (hy : y.sd.Held) : (if c then x else y).sd.Held := by
  split
  · exact hx
  · exact hy

/-- A timer of the corridor, at either end of it. -/
theorem Dies.atEitherEnd_held (x : Dies) (t : Nat) (atCheck : Bool) (f : CheckDie → CheckDie) (g : SafetyDie → SafetyDie)
    (hx : x.sd.Held) (hg : ∀ y : SafetyDie, y.Held → (g y).Held) :
    (if atCheck then x.onLinks t f else x.safety g).sd.Held :=
  Dies.ite_held _ (x.onLinks_held t f hx) (x.safety_held g hx hg)

section Shapes

variable {s s' : State} {t : Nat} {f : SafetyDie → SafetyDie} (hs : s.dies.sd.Held) (hf : ∀ y : SafetyDie, y.Held → (f y).Held)
include hs hf

/-- A happening of the safety die. -/
theorem State.onSafety_held (h : s.onSafety t f = .next s') : s'.dies.sd.Held :=
  State.next_held h rfl ((s.dies.tick t).safety_held f (s.dies.tick_held t hs) hf)

/-- A happening at a unit of the safety die that exists. -/
theorem State.onSafetyIf_held {c : Prop} [Decidable c] (h : s.onSafetyIf t c f = .next s') : s'.dies.sd.Held :=
  State.next_held h rfl (Dies.ite_held c ((s.dies.tick t).safety_held f (s.dies.tick_held t hs) hf) (s.dies.tick_held t hs))

/-- A flit toward the safety die. -/
theorem State.onSafetyLink_held (h : s.onSafetyLink t f = .next s') : s'.dies.sd.Held :=
  State.next_held h rfl ((s.dies.tick t).onSafetyLink_held t f (s.dies.tick_held t hs) hf)

end Shapes

/-- A command that the safety die takes, or a flit toward it. -/
theorem exec_held_of_atSafetyDie (c : Instr) (t : Nat) (s s' : State) (hc : c.atSafetyDie = some t) (hs : s.dies.sd.Held)
    (h : exec c s = .next s') : s'.dies.sd.Held := by
  cases c with
  | compareWord => exact State.onSafety_held hs (fun y => y.compareWord_held _ _ _ _ _ _ _ _) h
  | comparatorInjection => exact State.onSafety_held hs (fun y => y.injectPair_held _ _) h
  | debugHalt => exact State.onSafety_held hs SafetyDie.debugHalt_held h
  | debugResume => exact State.onSafety_held hs SafetyDie.debugResume_held h
  | splitAppTrap => exact State.onSafety_held hs SafetyDie.splitTrap_held h
  | softwareSelfTest => exact State.onSafety_held hs SafetyDie.libraryTest_held h
  | keeperActionQueue => exact State.onSafety_held hs SafetyDie.serve_held h
  | cdHeartEdge => exact State.onSafety_held hs SafetyDie.heartEdge_held h
  | heartLossTimeout => exact State.onSafety_held hs SafetyDie.heartLoss_held h
  | cdSafeDemandLow => exact State.onSafety_held hs (fun y => y.demandLow_held _) h
  | killPowerDelay => exact State.onSafety_held hs SafetyDie.killPower_held h
  | autoRestartTimeout => exact State.onSafety_held hs SafetyDie.autoRestart_held h
  | readbackEdge => exact State.onSafety_held hs (fun y => y.readback_held _ _) h
  | releaseLapse => exact State.onSafety_held hs SafetyDie.releaseLapse_held h
  | readbackMismatchTimeout => exact State.onSafety_held hs (fun y => y.readbackTimeout_held _) h
  | outputPulseStart => exact State.onSafety_held hs (fun y => y.pulseStart_held _) h
  | outputPulseCheck => exact State.onSafety_held hs (fun y => y.pulseCheck_held _) h
  | outputPulseEnd => exact State.onSafety_held hs (fun y => y.pulseEnd_held _) h
  | brakeFeedbackEdge => exact State.onSafety_held hs (fun y => y.feedback_held _ _) h
  | bfbTimeout => exact State.onSafety_held hs SafetyDie.feedbackTimeout_held h
  | btTorqueEnd => exact State.onSafety_held hs SafetyDie.btTorqueEnd_held h
  | btPass => exact State.onSafety_held hs SafetyDie.btPass_held h
  | motionEdge => exact State.onSafety_held hs (fun y => y.motion_held _) h
  | btOverdue => exact State.onSafety_held hs SafetyDie.btOverdue_held h
  | btExpired => exact State.onSafety_held hs SafetyDie.btExpired_held h
  | wdsServiceStore => exact State.onSafety_held hs (fun y => y.wdsStore_held _) h
  | serviceArmLapse => exact State.onSafety_held hs (fun y => y.armLapse_held _) h
  | watchdogExpiry => exact State.onSafety_held hs (fun y => y.dogExpiry_held _) h
  | graceExpiry => exact State.onSafety_held hs (fun y => y.graceExpiry_held _) h
  | clockMonitorTrip => exact State.onSafety_held hs (fun y => y.clockTrip_held _) h
  | disableSequenceLapse => exact State.onSafety_held hs SafetyDie.disableLapse_held h
  | rollCallCycleEnd => exact State.onSafety_held hs SafetyDie.cycleEnd_held h
  | sessionIdleTimeout => exact State.onSafety_held hs (fun y => y.idleTimeout_held _) h
  | por => exact State.onSafety_held hs (fun y => y.por_held _ _ _) h
  | resetN => exact State.onSafety_held hs (fun y => y.resetN_held _) h
  | resetNRelease => exact State.onSafety_held hs (fun y => y.resetNEnd_held _ _) h
  | safetyResetEnd => exact State.onSafety_held hs (fun y => y.safetyEnd_held _ _) h
  | selftestDone => exact State.onSafety_held hs (fun y => y.selftestDone_held _ _ _) h
  | bootTemperatureResume => exact State.onSafety_held hs (fun y => y.temperatureResume_held _) h
  | pgCdRise => exact State.onSafety_held hs SafetyDie.pgRise_held h
  | pgCdTimeout => exact State.onSafety_held hs SafetyDie.pgTimeout_held h
  | pgCdFall => exact State.onSafety_held hs SafetyDie.pgFall_held h
  | thermalWarn => exact State.onSafety_held hs (fun y => y.thermalWarn_held _ _) h
  | thermalClear => exact State.onSafety_held hs (fun y => y.thermalClear_held _ _) h
  | safetyDieThermalTrip => exact State.onSafety_held hs (fun y => y.safetyThermal_held _ _) h
  | safetyInputEdge => exact State.onSafetyIf_held hs (fun y => y.inputEdge_held _ _ _) h
  | inputFilterElapsed => exact State.onSafetyIf_held hs (fun y => y.filterElapsed_held _ _ _ _) h
  | discrepancyTimeout => exact State.onSafetyIf_held hs (fun y => y.discrepancy_held _) h
  | testPulseWindow => exact State.onSafetyIf_held hs (fun y => y.pulseWindow_held _ _ _ _ _) h
  | testPulseHoldEnd => exact State.onSafetyIf_held hs (fun y => y.pulseHoldEnd_held _ _) h
  | evaluatorDisagreeTimeout => exact State.onSafetyIf_held hs (fun y => y.disagree_held _) h
  | faultTestRelease => exact State.onSafetyIf_held hs (fun y => y.testRelease_held _) h
  | verdictToken | streamState => exact State.onSafetyLink_held hs (fun y => y.sorterFlit_held _ _ _) h
  | eventFlits => exact State.onSafetyLink_held hs (fun y => y.recordArrives_held _ _) h
  | configCrc | status | fenceChange | timeSample | hostWrite | wdhSvc | wdhEnable | wdhDisable | wdhLock | wdhKey | rcCheckin =>
    exact State.onSafetyLink_held hs (fun y => y.flitArrives_held _ _) h
  | selfRefreshReport => exact State.next_held h rfl (Dies.selfRefresh_held _ (s.dies.tick_held _ hs))
  | _ => cases hc

/-- A command that is one row a session writes or reads: a request (R340, R344). -/
theorem exec_held_of_ofSession (c : Instr) (p : Nat × Nat) (s s' : State) (hc : c.ofSession = some p) (hs : s.dies.sd.Held)
    (h : exec c s = .next s') : s'.dies.sd.Held := by
  have hx (t : Nat) : (s.dies.tick t).sd.Held := s.dies.tick_held t hs
  cases c with
  | streamRestart | fenceClear | arrayRetest | cdResetLockedClear | faultClear | btStart | holdRequest | logClear | marginStart
  | commitCrc | stageDiscard | partnerSelect | fabricRestart | timeStepNs | intakeEnable | warmReset | checkDieReset | runRequest
  | serviceRequestEnter | serviceRequestLeave | powerRequest | secVersionRaise | arm | disarm =>
    exact State.next_held h rfl (Dies.writeEntry_held _ _ _ _ _ (hx _))
  | packageImageWrite | manifestImageWrite | lanternSetWrite | mapImageWrite | fwImage | deviceCert =>
    exact State.next_held h rfl (Dies.writeBody_held _ _ _ _ _ _ (hx _))
  | roleKey | operatorPassphrase | attestNonce => exact State.next_held h rfl (Dies.writeOctets_held _ _ _ _ _ (hx _))
  | sigBatchRead => exact State.next_held h rfl (Dies.requestOf_held _ _ _ _ _ _ _ _ (hx _))
  | _ => cases hc

/-- A command of both dies, or of the corridor toward the check die. -/
theorem exec_held_of_bothDies (c : Instr) (s s' : State) (hc : c.atCheckDie = none ∧ c.atSafetyDie = none ∧ c.ofSession = none)
    (hs : s.dies.sd.Held) (h : exec c s = .next s') : s'.dies.sd.Held := by
  have hx (t : Nat) : (s.dies.tick t).sd.Held := s.dies.tick_held t hs
  cases c with
  | configSetFlits | epochAdvance | safeEnter | safeExit | fence | marginTest | inject | timeSet | odResponseFlits =>
    exact State.next_held h rfl (Dies.onCheckLink_held _ _ _ (hx _))
  | corruptFlit t =>
    exact State.next_held h rfl (Dies.ite_held _ (Dies.onLinks_held _ _ _ (hx t)) (Dies.onSafetyLink_held _ _ _ (hx t)
      SafetyDie.flitCrcError_held))
  | linkUpTimeout t => exact State.next_held h rfl (Dies.atEitherEnd_held _ t _ _ _ (hx t) SafetyDie.linkTimeout_held)
  | ackTimeout t => exact State.next_held h rfl (Dies.atEitherEnd_held _ t _ _ _ (hx t) SafetyDie.ackTimeout_held)
  | linkAckPeriod t => exact State.next_held h rfl (Dies.atEitherEnd_held _ t _ _ _ (hx t) SafetyDie.ackPeriod_held)
  | cdSafeDemandHigh t =>
    exact State.next_held h rfl (Dies.ite_held _ (Dies.safety_held _ _ (hx t) SafetyDie.demandHigh_held) (hx t))
  | link => exact State.next_held h rfl (Dies.linkFlit_held _ _ _ _ _ (hx _))
  | train => exact State.next_held h rfl (Dies.train_held _ _ _ (hx _))
  | clockLoss => exact State.next_held h rfl (Dies.clockLoss_held _ _ _ (hx _))
  | killHoldEnd => exact State.next_held h rfl (Dies.killHoldEnd_held _ (hx _))
  | checkDieResetEnd => exact State.next_held h rfl (Dies.resetEnded_held _ _ _ (hx _))
  | checkDieResetRelease => exact State.next_held h rfl (Dies.resetRelease_held _ (hx _))
  | statusImageRefresh => exact State.next_held h rfl (Dies.refreshImage_held _ (hx _))
  | batchSigned => exact State.next_held h rfl (Dies.batchSigned_held _ (hx _))
  | attestSigned => exact State.next_held h rfl (Dies.attestSigned_held _ (hx _))
  | marginDue => exact State.next_held h rfl (Dies.marginDue_held _ (hx _))
  | marginRetry => exact State.next_held h rfl (Dies.marginRetry_held _ (hx _))
  | marginRestored => exact State.next_held h rfl (Dies.marginRestored_held _ (hx _))
  | hello | proof | read | write | close | canUsdoDownload => exact State.next_held h rfl (Dies.odIn_held _ _ _ _ _ _ (hx _))
  | plainUsdoUpload => exact State.next_held h rfl (Dies.plainUpload_held _ _ _ _ (hx _))
  | commitStored => exact State.next_held h rfl (Dies.commitStored_held _ _ (hx _))
  | qspiStoreDone => exact State.next_held h rfl (Dies.storeDone_held _ _ (hx _))
  | fwImageStored => exact State.next_held h rfl (Dies.imageStored_held _ _ (hx _))
  | bootImageChecked => exact State.next_held h rfl (Dies.imageChecked_held _ _ _ _ (hx _))
  | rtcSet => exact State.next_held h rfl (Dies.rtcSet_held _ (hx _))
  | functionLevelReset => exact State.next_held h rfl (Dies.functionReset_held _ (hx _))
  | perst => exact State.next_held h rfl (Dies.perstLevel_held _ _ (hx _))
  | supplyMonitorTrip => exact State.next_held h rfl (Dies.supplyTrip_held _ (hx _))
  | wakeEvent => exact State.next_held h rfl (Dies.wake_held _ _ (hx _))
  | checkDieThermalTrip => exact State.next_held h rfl (Dies.checkThermal_held _ _ _ _ (hx _))
  | injectDurationEnd => exact State.next_held h rfl (Dies.durationEnd_held _ _ (hx _))
  | injectHeldRelease => exact State.next_held h rfl (Dies.heldRelease_held _ _ (hx _))
  | _ => simp [Instr.atCheckDie, Instr.atSafetyDie, Instr.ofSession] at hc

/-- Every command keeps BRK_B within the conditions of the stop path: one that the check die alone takes moves the safety die's clock and
no more. -/
theorem exec_held (c : Instr) (s s' : State) (hs : s.dies.sd.Held) (h : exec c s = .next s') : s'.dies.sd.Held := by
  cases hcheck : c.atCheckDie with
  | some t =>
    obtain ⟨-, hsd, -⟩ := exec_onlyCheck c t s s' hcheck h
    rw [hsd]
    exact s.dies.sd.tick_held t hs
  | none =>
    cases hsafety : c.atSafetyDie with
    | some t => exact exec_held_of_atSafetyDie c t s s' hsafety hs h
    | none =>
      cases hsession : c.ofSession with
      | some p => exact exec_held_of_ofSession c p s s' hsession hs h
      | none => exact exec_held_of_bothDies c s s' ⟨hcheck, hsafety, hsession⟩ hs h

/-- Settles O5: a step runs the command at the front by `exec_held`, and an idle step leaves the safety die. -/
theorem brakeHeldByEveryStep : Obligations.BrakeHeldByEveryStep := by
  intro s s' hs h
  cases hpending : s.pending with
  | nil =>
    have hidle : s' = s.idle := by simpa [step, hpending] using h.symm
    rw [hidle]
    exact s.dies.check_held _ hs
  | cons c rest => exact exec_held c { s with pending := rest } s' hs (by simpa [step, hpending] using h)

end Sys2Proof.Machine
end

section
/-! PROOFS. The restart event and what it leaves, the output pulses, the driver of BRK_A, and the commands of the brake, the brake test and
the watchdogs, each a happening of the safety die (R265, R282-R293, R296-R314). -/

namespace Sys2Proof.Machine

open Host

/-- Two states of the safety die with one device state, one stop latch and one RELEASE of BRK_A. -/
structure SafetyDie.SameStand (x y : SafetyDie) : Prop where
  device : y.device = x.device
  latch : y.brake.latch = x.brake.latch
  relA : y.brake.relA = x.brake.relA

/-- One after the other. -/
theorem SafetyDie.SameStand.trans {x y z : SafetyDie} (h : x.SameStand y) (k : y.SameStand z) : x.SameStand z :=
  ⟨k.device.trans h.device, k.latch.trans h.latch, k.relA.trans h.relA⟩

/-- Recording an event or sending flits changes none of the three. -/
theorem SafetyDie.Recorded.sameStand {x y : SafetyDie} (h : x.Recorded y) : x.SameStand y := by
  obtain ⟨_, _, _, _, _, _, rfl⟩ := h
  exact ⟨rfl, rfl, rfl⟩

/-- The outputs following the conditions changes none of the three. -/
theorem SafetyDie.settle_sameStand (x : SafetyDie) : x.SameStand x.settle := ⟨rfl, rfl, rfl⟩

/-- An advance of the epoch changes none of the three. -/
theorem SafetyDie.advance_sameStand (x : SafetyDie) (causes : Nat) : x.SameStand (x.advance causes) := by
  have hstep : x.SameStand x.stepEpoch := by
    unfold SafetyDie.stepEpoch
    split <;> exact ⟨rfl, rfl, rfl⟩
  unfold SafetyDie.advance
  split
  · exact ⟨rfl, rfl, rfl⟩
  · exact hstep.trans (SafetyDie.recorded_sendFlits _ _).sameStand

/-- A pass of the brake test changes none of the three. -/
theorem SafetyDie.btPass_sameStand (x : SafetyDie) : x.SameStand x.btPass := by
  unfold SafetyDie.btPass
  split
  · split <;> exact ⟨rfl, rfl, rfl⟩
  · exact ⟨rfl, rfl, rfl⟩

/-- An end of the brake test changes none of the three. -/
theorem SafetyDie.endTest_sameStand (x : SafetyDie) (result : Nat) : x.SameStand (x.endTest result) := by
  unfold SafetyDie.endTest
  split <;> exact ⟨rfl, rfl, rfl⟩

/-- What a restart event does to the brake test changes none of the three (R290, R293). -/
theorem SafetyDie.eventTest_sameStand (x : SafetyDie) : x.SameStand x.eventTest := by
  have htest : x.SameStand (if x.brake.test = some x.now then x.endTest 4 else x.abortTest) := by
    split
    · exact x.endTest_sameStand 4
    · exact x.btPass_sameStand.trans (x.btPass.endTest_sameStand 3)
  exact htest.trans ⟨rfl, rfl, rfl⟩

/-- The HBL's latch cleared by a restart event, the causes taken anew (R283, R284). -/
def SafetyDie.clearLatch (z : SafetyDie) : SafetyDie := z.setBrake (fun b => { b with latch := false, causes := z.activeCauses })

/-- With an HBL source active a restart event is refused (R283). -/
theorem SafetyDie.restart_source (x : SafetyDie) (h : x.eventTest.hblSource = true) :
    x.restart = x.eventTest.raise .restartRefused 0 0 2 := by
  rw [SafetyDie.restart]
  exact if_pos h

/-- With none, and no condition that fails, a release starts (R284). -/
theorem SafetyDie.restart_releases (x : SafetyDie) (h : x.eventTest.hblSource = false)
    (hnone : x.eventTest.clearLatch.releaseFails = none) : x.restart = x.eventTest.clearLatch.release := by
  unfold SafetyDie.clearLatch at hnone ⊢
  simp [SafetyDie.restart, h, hnone]

/-- With none, and a condition that fails, the latch is set again and the condition named (R284). -/
theorem SafetyDie.restart_refused (x : SafetyDie) (k : Nat) (h : x.eventTest.hblSource = false)
    (hfails : x.eventTest.clearLatch.releaseFails = some k) :
    x.restart = ((x.eventTest.clearLatch.setBrake (fun b => { b with latch := true, calm := none })).settle).raise
      .restartRefused 0 0 k := by
  unfold SafetyDie.clearLatch at hfails ⊢
  simp [SafetyDie.restart, h, hfails]

/-- The first condition of a release holds in SAFE_HOLD and in RUN alone (R284). -/
theorem SafetyDie.device_of_releaseFails (y : SafetyDie) (h : y.releaseFails = none) : y.device = .safeHold ∨ y.device = .run := by
  by_contra hno
  obtain ⟨hsafe, hrun⟩ := not_or.1 hno
  by_cases hblocked : y.boot.blocked = true
  · simp [SafetyDie.releaseFails, hblocked] at h
  · simp [SafetyDie.releaseFails, hblocked, hsafe, hrun] at h

/-- A release leaves SAFE_HOLD for RUN by SAFE_EXIT and a boundary (R285). -/
def SafetyDie.leaveSafeHold (y : SafetyDie) : SafetyDie :=
  if y.device = .safeHold then (({ y with device := .run } : SafetyDie).sendFlit flitSafeExit).advance 4 else y

/-- After it the device is in RUN, and the latch and RELEASE are as they were. -/
theorem SafetyDie.leaveSafeHold_sameStand (y : SafetyDie) (h : y.device = .safeHold ∨ y.device = .run) :
    ({ y with device := .run } : SafetyDie).SameStand y.leaveSafeHold := by
  unfold SafetyDie.leaveSafeHold
  split
  · exact (SafetyDie.recorded_sendFlits _ [flitSafeExit]).sameStand.trans (SafetyDie.advance_sameStand _ 4)
  case isFalse hsafe => exact ⟨h.resolve_left hsafe, rfl, rfl⟩

/-- Without BRK_B_ARM the HBL does not energise BRK_B (R264). -/
theorem SafetyDie.mayB_of_disarmed (y : SafetyDie) (h : y.brake.arm = false) : y.mayB = false := by simp [SafetyDie.mayB, h]

/-- With BRK_B kept off, `settle` leaves BRAKE_STATE unless it is RELEASED. -/
theorem SafetyDie.settle_state (y : SafetyDie) (hoff : y.mayB = false) (h : y.brake.state ≠ .released) :
    y.settle.brake.state = y.brake.state := by
  simp [SafetyDie.settle, SafetyDie.setBrake, hoff, h]

/-- RELEASE written and BRK_B_ARM withdrawn, until BRK_A reads back (R285, step 2). -/
def SafetyDie.startRelease (z : SafetyDie) (now : Nat) : SafetyDie :=
  z.setBrake (fun b => { b with relA := true, arm := false, state := .releasing, release := .waitReadback, restartAt := now })

/-- A release leaves SAFE_HOLD, writes RELEASE, and the outputs follow (R285). -/
theorem SafetyDie.release_eq (y : SafetyDie) : y.release = (y.leaveSafeHold.startRelease y.now).settle := rfl

/-- A release that starts in SAFE_HOLD or RUN (R285, steps 1 and 2). -/
theorem SafetyDie.release_spec (y : SafetyDie) (h : y.device = .safeHold ∨ y.device = .run) :
    y.release.device = .run ∧ y.release.brake.latch = y.brake.latch ∧ y.release.brake.relA = true ∧ y.release.brake.arm = false ∧
      y.release.brake.state = .releasing := by
  obtain ⟨hdevice, hlatch, -⟩ := y.leaveSafeHold_sameStand h
  have hstate : (y.leaveSafeHold.startRelease y.now).settle.brake.state = .releasing :=
    SafetyDie.settle_state _ (SafetyDie.mayB_of_disarmed _ rfl) (by simp [SafetyDie.startRelease, SafetyDie.setBrake])
  rw [y.release_eq]
  generalize y.leaveSafeHold = z at hdevice hlatch hstate
  exact ⟨hdevice, hlatch, rfl, rfl, hstate⟩

/-- In AUTOMATIC restart 100 ms of calm bring a restart event (R283). -/
theorem SafetyDie.autoRestart_due (y : SafetyDie) {u : Nat} (hcalm : y.brake.calm = some u) (hmode : y.get Od.RESTART_MODE = 1)
    (hlatch : y.brake.latch = true) (hdue : u + 100000000 ≤ y.now) :
    y.autoRestart = (y.setBrake (fun b => { b with calm := some y.now })).restart := by
  simp [SafetyDie.autoRestart, hcalm, hmode, hlatch, hdue]

/-- The HBL's conditions for BRK_B are of fields that recording an event and the injectors leave. -/
theorem Dies.follow_mayB (x : Dies) (y : SafetyDie) : (x.follow y).sd.mayB = y.mayB := by
  obtain ⟨c, a, i, o, m, p, ⟨l, n, q, f, w, t, rfl⟩, e⟩ := Dies.follow_sd x y
  rw [e]
  rfl

/-- BRK_A read back as energised while a release waits for it sets BRK_B_ARM (R285, step 3). -/
theorem SafetyDie.readback_arms (y : SafetyDie) (h : y.brake.release = .waitReadback) :
    y.readback false true = (y.setBrake (fun b => { b with brbA := true, arm := true, release := .waitB })).settle := by
  simp [SafetyDie.readback, SafetyDie.setBrake, h]

/-- Settles O20: the restart event by `SafetyDie.restart_source`, `SafetyDie.restart_releases` with `SafetyDie.release_spec`, and
`SafetyDie.restart_refused`; AUTOMATIC by `SafetyDie.autoRestart_due`; the readback by `SafetyDie.readback_arms`. The calm started anew
(log entry 77) and the feedback counted with BFB_ENABLE = 0 (log entry 53) are the model's choices. -/
theorem restartConditions : Obligations.RestartConditions := by
  refine ⟨?event, ?automatic, ?readback⟩
  case event =>
    rintro x _ rfl
    have hevent := x.eventTest_sameStand
    refine ⟨fun hsource => ?_, ?_⟩
    · have hstand := hevent.trans (x.eventTest.recorded_raise .restartRefused 0 0 2 0xFFFF).sameStand
      rw [x.restart_source hsource]
      exact ⟨hstand.latch, hstand.device, hstand.relA⟩
    · rintro hsource _ rfl
      refine ⟨fun hnone => ?_, fun k hfails => ?_⟩
      · have hdevice := SafetyDie.device_of_releaseFails x.eventTest.clearLatch hnone
        obtain ⟨hrun, hlatch, hrelA, harm, hstate⟩ := x.eventTest.clearLatch.release_spec hdevice
        rw [x.restart_releases hsource hnone]
        exact ⟨hlatch, hrelA, harm, hstate, hevent.device ▸ hdevice, hrun⟩
      · have hstand := (SafetyDie.settle_sameStand _).trans (SafetyDie.recorded_raise
          (x.eventTest.clearLatch.setBrake (fun b => { b with latch := true, calm := none })).settle .restartRefused 0 0 k 0xFFFF).sameStand
        rw [x.restart_refused k hsource hfails]
        exact ⟨hstand.latch, hstand.device.trans hevent.device, hstand.relA.trans hevent.relA⟩
  case automatic =>
    intro s t u hcalm hmode hlatch hdue
    exact State.safetyDid_congr s t SafetyDie.autoRestart _ ((s.dies.sd.tick t).autoRestart_due hcalm hmode hlatch hdue)
  case readback =>
    intro s t hrelease
    obtain ⟨fbrake, -⟩ := Dies.follow_keeps (s.dies.tick t) ((s.dies.sd.tick t).readback false true)
    have hmayB := Dies.follow_mayB (s.dies.tick t) ((s.dies.sd.tick t).readback false true)
    have harms := (s.dies.sd.tick t).readback_arms hrelease
    refine ⟨_, rfl, ?_, ?_⟩
    · exact (congrArg Brake.arm fbrake).trans (congrArg (fun y : SafetyDie => y.brake.arm) harms)
    · refine (congrArg Brake.onB fbrake).trans (Eq.trans ?_ hmayB.symm)
      rw [harms]
      rfl

/-- A pulse of BRK_A that is due starts (R287). -/
theorem SafetyDie.pulseStart_dueA (y : SafetyDie) (hstate : y.brake.state = .released) (hpulse : y.brake.pulseA = none)
    (hdue : y.brake.pulsedA + y.get Od.PULSE_PERIOD_MS * 1000000 ≤ y.now) :
    y.pulseStart false = (y.setBrake (fun b => { b with pulseA := some y.now, pulsedA := y.now })).settle := by
  simp [SafetyDie.pulseStart, hstate, hpulse, hdue]

/-- A pulse of BRK_B that is due, half a period after BRK_A's at the least, starts (R287). -/
theorem SafetyDie.pulseStart_dueB (y : SafetyDie) (hstate : y.brake.state = .released) (hpulse : y.brake.pulseB = none)
    (hdue : y.brake.pulsedB + y.get Od.PULSE_PERIOD_MS * 1000000 ≤ y.now)
    (hhalf : y.brake.pulsedA + y.get Od.PULSE_PERIOD_MS * 1000000 / 2 ≤ y.now) :
    y.pulseStart true = (y.setBrake (fun b => { b with pulseB := some y.now, pulsedB := y.now })).settle := by
  simp [SafetyDie.pulseStart, hstate, hpulse, hdue, hhalf]

/-- The start of a pulse, or none, leaves SAFE_STATE_N (R282, R287). -/
theorem SafetyDie.pulseStart_safeStateN (y : SafetyDie) (isB : Bool) (h : y.brake.onB = y.mayB) :
    (y.pulseStart isB).safeStateN = y.safeStateN := by
  have hsettle (f : Brake → Brake) (hf : (y.setBrake f).driveA = y.driveA) (hB : (y.setBrake f).mayB = y.mayB) :
      (y.setBrake f).settle.safeStateN = y.safeStateN := by
    have hdrive : (y.setBrake f).settle.driveA = y.driveA := hf
    have honB : (y.setBrake f).settle.brake.onB = y.mayB := hB
    rw [SafetyDie.safeStateN, hdrive, honB, ← h, SafetyDie.safeStateN]
  unfold SafetyDie.pulseStart
  dsimp only
  split
  · rfl
  · split
    · split
      · exact hsettle _ rfl rfl
      · rfl
    · split
      · exact hsettle _ rfl rfl
      · rfl

/-- What follows leaves the pins and SAFE_STATE_N. -/
theorem Dies.follow_pins (x : Dies) (y : SafetyDie) : (x.follow y).sd.pinA = y.pinA ∧ (x.follow y).sd.pinB = y.pinB ∧
    (x.follow y).sd.safeStateN = y.safeStateN := by
  obtain ⟨c, a, i, o, m, p, ⟨l, n, q, f, w, t, rfl⟩, e⟩ := Dies.follow_sd x y
  rw [e]
  exact ⟨rfl, rfl, rfl⟩

/-- Settles O21: SAFE_STATE_N by `SafetyDie.pulseStart_safeStateN`, the pins by the two lemmas of a pulse that is due. -/
theorem pulsesKeepSafeStateN : Obligations.PulsesKeepSafeStateN := by
  intro s t isB honB
  obtain ⟨fpinA, fpinB, fsafe⟩ := Dies.follow_pins (s.dies.tick t) ((s.dies.sd.tick t).pulseStart isB)
  refine ⟨_, rfl, fsafe.trans ((s.dies.sd.tick t).pulseStart_safeStateN isB honB), ?channelA, ?channelB⟩
  case channelA =>
    rintro hstate rfl hpulse hdue
    refine fpinA.trans ?_
    rw [(s.dies.sd.tick t).pulseStart_dueA hstate hpulse hdue]
    exact Bool.and_false _
  case channelB =>
    rintro hstate rfl hpulse hdue hhalf
    refine fpinB.trans ?_
    rw [(s.dies.sd.tick t).pulseStart_dueB hstate hpulse hdue hhalf]
    exact Bool.and_false _

/-- Settles O15: the pin is the driver outside a pulse, and the driver asks for both. -/
theorem brkAConditions : Obligations.BrkAConditions := by
  intro s hpin
  obtain ⟨hdrive, -⟩ := Bool.and_eq_true_iff.1 hpin
  obtain ⟨hkeeper, -⟩ := Bool.and_eq_true_iff.1 hdrive
  exact Bool.and_eq_true_iff.1 hkeeper

/-- Settles O41: each of the commands is a happening of the safety die. -/
theorem brakeAndWatchdogCommandsComplete : Obligations.BrakeAndWatchdogCommandsComplete := by
  intro s t
  have hdie (f : SafetyDie → SafetyDie) : s.onSafety t f = s.safetyDid t f := State.onSafety_safetyDid s t f
  exact ⟨hdie _, fun _ _ => hdie _, hdie _, fun _ => hdie _, fun _ => hdie _, fun _ => hdie _, fun _ _ => hdie _, hdie _, hdie _, hdie _,
    fun _ => hdie _, hdie _, hdie _, fun _ => hdie _, fun _ => hdie _, fun _ => hdie _, fun _ => hdie _, fun _ => hdie _, fun _ => hdie _,
    hdie _, hdie _⟩

end Sys2Proof.Machine
end

section
/-! PROOFS. The keys of a watchdog's service register, and EN = 0 written to WDH_CTRL with and without LOCK (R299-R302, R306, R307). -/

namespace Sys2Proof.Machine

/-- A running watchdog whose count is below TIMEOUT has no expiry due (R300). -/
theorem Dog.due_of_running (x : Dog) (now : Nat) (hrun : x.state = .running) (hcount : now < x.base + x.timeout * 1000) :
    x.due now = false := by
  simp [Dog.due, hrun, hcount]

/-- The count of a watchdog that is neither off nor held is the time since it was 0 (R297). -/
theorem Dog.count_of_running (x : Dog) (now : Nat) (hrun : x.state = .running) (hheld : x.held = none) :
    x.count now = (now - x.base) / 1000 := by
  simp [Dog.count, hrun, hheld]

/-- A service register that is not armed does not lapse. -/
theorem Dog.lapsed_of_unarmed (x : Dog) (now : Nat) (harmed : x.armed = none) : x.lapsed now = false := by simp [Dog.lapsed, harmed]

/-- An arm stands for 16 ticks (R299). -/
theorem Dog.lapsed_of_le (x : Dog) {now u : Nat} (harmed : x.armed = some u) (hsoon : now ≤ u + 16000) : x.lapsed now = false := by
  simp [Dog.lapsed, harmed, hsoon]

/-- A watchdog's service register disarmed (R299). -/
def SafetyDie.disarmDog (y : SafetyDie) (host : Bool) : SafetyDie := y.setDog host { y.dog host with armed := none }

section Service

variable (y : SafetyDie) (host : Bool)

/-- A watchdog replaced by itself. -/
theorem SafetyDie.setDog_dog : y.setDog host (y.dog host) = y := by cases host <;> rfl

/-- A register that is not armed is disarmed already. -/
theorem SafetyDie.disarmDog_of_unarmed (harmed : (y.dog host).armed = none) : y.disarmDog host = y := by
  have hdog : ({ y.dog host with armed := none } : Dog) = y.dog host := by rw [← harmed]
  rw [SafetyDie.disarmDog, hdog, y.setDog_dog host]

/-- Without a lapse nothing happens to the arm (R299). -/
theorem SafetyDie.armLapse_of_not_lapsed (h : (y.dog host).lapsed y.now = false) : y.armLapse host = y := by
  rw [SafetyDie.armLapse]
  exact if_neg (by simp [h])

/-- Nothing that is not due is taken (R300, R302). -/
theorem SafetyDie.dogDue_of_not_due (h : (y.dog host).due y.now = false) : y.dogDue host = y := by
  rw [SafetyDie.dogDue]
  exact if_neg (by simp [h])

/-- The first key arms the service register (R299). -/
theorem SafetyDie.dogKey_first (hon : (y.dog host).state ≠ .off) (harmed : (y.dog host).armed = none) :
    y.dogKey host 0xA35C = y.setDog host { y.dog host with armed := some y.now } := by
  have hlapse := y.armLapse_of_not_lapsed host ((y.dog host).lapsed_of_unarmed y.now harmed)
  simp [SafetyDie.dogKey, hlapse, hon, harmed]

/-- The second key, while the arm stands, disarms the register and is a service (R299). -/
theorem SafetyDie.dogKey_second (hon : (y.dog host).state ≠ .off) (harmed : (y.dog host).armed ≠ none)
    (hstands : (y.dog host).lapsed y.now = false) : y.dogKey host 0x5CA3 = (y.disarmDog host).dogServe host := by
  have hlapse := y.armLapse_of_not_lapsed host hstands
  simp [SafetyDie.dogKey, SafetyDie.disarmDog, hlapse, hon, harmed]

/-- Any value but the first key, while the register is not armed, is a key error (R299). -/
theorem SafetyDie.dogKey_error (v : Nat) (hon : (y.dog host).state ≠ .off) (harmed : (y.dog host).armed = none) (hv : v ≠ 0xA35C) :
    y.dogKey host v = (y.dogDue host).dogFail host 3 y.now := by
  have hlapse := y.armLapse_of_not_lapsed host ((y.dog host).lapsed_of_unarmed y.now harmed)
  have herror : y.dogKey host v = ((y.disarmDog host).dogDue host).dogFail host 3 y.now := by
    simp [SafetyDie.dogKey, SafetyDie.disarmDog, hlapse, hon, harmed, hv]
  rw [herror, y.disarmDog_of_unarmed host harmed]

/-- A service in whose tick no expiry falls due is judged by its window (R300). -/
theorem SafetyDie.dogServe_of_not_due (h : (y.dog host).due y.now = false) : y.dogServe host = y.dogService host := by
  simp [SafetyDie.dogServe, y.dogDue_of_not_due host h, h]

/-- A service with the window open restarts the count, with the settings the dictionary has now (R300, R305). -/
theorem SafetyDie.dogService_of_open (hon : (y.dog host).state ≠ .off)
    (hopen : (y.dog host).window = true → (y.dog host).wopen ≤ (y.dog host).count y.now) :
    y.dogService host = y.setDog host (y.loadDog host
      { y.dog host with state := .running, base := y.now, lastFail := 0, armed := none, held := none }) := by
  have hnotEarly : ¬ ((y.dog host).window = true ∧ (y.dog host).count y.now < (y.dog host).wopen) :=
    fun ⟨hwindow, hearly⟩ => absurd (hopen hwindow) (Nat.not_le.2 hearly)
  rw [SafetyDie.dogService]
  exact (if_neg hon).trans (if_neg hnotEarly)

end Service

/-- The first failure of WDS after its first accepted service brings GRACE, a warning counted and a WARN event (R301, R302). -/
theorem SafetyDie.dogFail_wds_first (y : SafetyDie) (cause at_ : Nat) (hrun : y.wds.state = .running) (hboot : y.wds.boot = false) :
    y.dogFail false cause at_
      = (({ y with wds := { y.wds with state := .grace, base := at_, lastFail := cause, armed := none } } : SafetyDie).bump
          Od.WDS_WARNINGS).raise .wdsWarning 0 (instOf 0 0xFF) cause := by
  have hdog : y.dog false = y.wds := rfl
  simp only [SafetyDie.dogFail, hdog, hrun, hboot]
  rfl

/-- A store of a pair that is not halted is a key of WDS (R296, R309). -/
theorem SafetyDie.wdsStore_of_not_halted (y : SafetyDie) (v : Nat) (h : y.keeper.halted = false) :
    y.wdsStore v = y.dogKey false (v % 65536) := by
  rw [SafetyDie.wdsStore]
  exact if_neg (by simp [h])

/-- WDS running at the count it has now: no expiry due, the keeper pair not halted (R296, R300). -/
structure SafetyDie.WdsCounts (y : SafetyDie) : Prop where
  runs : y.wds.state = .running
  counts : y.wds.held = none
  stores : y.keeper.halted = false
  early : y.wds.due y.now = false

section WdsCounts

variable {y : SafetyDie} (h : y.WdsCounts)
include h

/-- Such a watchdog is not off. -/
theorem SafetyDie.WdsCounts.on : (y.dog false).state ≠ .off := by
  have hrun : (y.dog false).state = .running := h.runs
  simp [hrun]

/-- The first key arms WDS (R299). -/
theorem SafetyDie.WdsCounts.wdsStore_first {v : Nat} (hv : v % 65536 = 0xA35C) (harmed : y.wds.armed = none) :
    y.wdsStore v = { y with wds := { y.wds with armed := some y.now } } := by
  rw [y.wdsStore_of_not_halted v h.stores, hv]
  exact y.dogKey_first false h.on harmed

/-- The second key within 16 ticks serves WDS when its window is open (R299, R300). -/
theorem SafetyDie.WdsCounts.wdsStore_second {v u : Nat} (hv : v % 65536 = 0x5CA3) (harmed : y.wds.armed = some u)
    (hsoon : y.now ≤ u + 16000) (hopen : y.wds.window = true → y.wds.wopen ≤ (y.now - y.wds.base) / 1000) :
    y.wdsStore v = { y with wds := y.loadDog false { y.wds with base := y.now, lastFail := 0, armed := none } } := by
  have harmedDog : (y.dog false).armed ≠ none := fun hnone => Option.some_ne_none u (harmed.symm.trans hnone)
  have hserved : ({ y.wds with state := .running, base := y.now, lastFail := 0, armed := none, held := none } : Dog)
      = { y.wds with base := y.now, lastFail := 0, armed := none } := by rw [← h.runs, ← h.counts]
  calc y.wdsStore v
      = y.dogKey false 0x5CA3 := by rw [y.wdsStore_of_not_halted v h.stores, hv]
    _ = (y.disarmDog false).dogServe false := y.dogKey_second false h.on harmedDog (y.wds.lapsed_of_le harmed hsoon)
    _ = (y.disarmDog false).dogService false := (y.disarmDog false).dogServe_of_not_due false h.early
    _ = y.setDog false (y.loadDog false
          { y.wds with state := .running, base := y.now, lastFail := 0, armed := none, held := none }) :=
        (y.disarmDog false).dogService_of_open false h.on fun hwindow =>
          (hopen hwindow).trans_eq (y.wds.count_of_running y.now h.runs h.counts).symm
    _ = { y with wds := y.loadDog false { y.wds with base := y.now, lastFail := 0, armed := none } } :=
        congrArg (fun x => y.setDog false (y.loadDog false x)) hserved

/-- A wrong value is a key error of WDS: GRACE, a warning counted and a WARN event (R299, R302). -/
theorem SafetyDie.WdsCounts.wdsStore_wrong {v : Nat} (hv : v % 65536 ≠ 0xA35C) (harmed : y.wds.armed = none)
    (hboot : y.wds.boot = false) :
    y.wdsStore v = (({ y with wds := { y.wds with state := .grace, base := y.now, lastFail := 3 } } : SafetyDie).bump
      Od.WDS_WARNINGS).raise .wdsWarning 0 (instOf 0 0xFF) 3 := by
  have hdisarmed : ({ y.wds with state := .grace, base := y.now, lastFail := 3, armed := none } : Dog)
      = { y.wds with state := .grace, base := y.now, lastFail := 3 } := by rw [← harmed]
  rw [y.wdsStore_of_not_halted v h.stores, y.dogKey_error false _ h.on harmed hv, y.dogDue_of_not_due false h.early,
    y.dogFail_wds_first 3 y.now h.runs hboot, hdisarmed]

end WdsCounts

/-- Settles O22: the store is a key of WDS at the die with its clock moved, one lemma of `SafetyDie.WdsCounts` for each kind of key. -/
theorem watchdogService : Obligations.WatchdogService := by
  rintro s t v _ rfl hrun hheld hhalted hcount
  have hwds : (s.dies.sd.tick t).WdsCounts := ⟨hrun, hheld, hhalted, s.dies.sd.wds.due_of_running _ hrun hcount⟩
  refine ⟨fun hv harmed => ?first, fun u hv harmed hsoon hopen => ?second, fun hfirst _ harmed hboot => ?wrong⟩
  case first => exact State.safetyDid_congr s t (fun y => y.wdsStore v) _ (hwds.wdsStore_first hv harmed)
  case second => exact State.safetyDid_congr s t (fun y => y.wdsStore v) _ (hwds.wdsStore_second hv harmed hsoon hopen)
  case wrong => exact State.safetyDid_congr s t (fun y => y.wdsStore v) _ (hwds.wdsStore_wrong hfirst harmed hboot)

/-- EN = 0 alone ends WDH or is refused: LOCK is not set by it (R306). -/
theorem SafetyDie.wdhCtrl_zero (y : SafetyDie) : y.wdhCtrl 0 = y.wdhDisable := by simp [SafetyDie.wdhCtrl]

/-- Two states of the safety die with one LOCK, one EN and one WDH. -/
structure SafetyDie.SameWdh (x y : SafetyDie) : Prop where
  lock : y.gate.lock = x.gate.lock
  en : y.gate.en = x.gate.en
  wdh : y.wdh = x.wdh

/-- One after the other. -/
theorem SafetyDie.SameWdh.trans {x y z : SafetyDie} (h : x.SameWdh y) (k : y.SameWdh z) : x.SameWdh z :=
  ⟨k.lock.trans h.lock, k.en.trans h.en, k.wdh.trans h.wdh⟩

/-- Recording an event changes none of the three. -/
theorem SafetyDie.Recorded.sameWdh {x y : SafetyDie} (h : x.Recorded y) : x.SameWdh y := by
  obtain ⟨_, _, _, _, _, _, rfl⟩ := h
  exact ⟨rfl, rfl, rfl⟩

/-- Accepting flits changes none of the three. -/
theorem SafetyDie.accepted_sameWdh (y : SafetyDie) (n : Nat) : y.SameWdh (y.accepted n) := by
  unfold SafetyDie.accepted
  split <;> exact ⟨rfl, rfl, rfl⟩

/-- What follows from an update changes none of the three. -/
theorem Dies.follow_sameWdh (x : Dies) (y : SafetyDie) : y.SameWdh (x.follow y).sd := by
  obtain ⟨-, -, -, -, hgate, hwdh, -⟩ := Dies.follow_keeps x y
  exact ⟨congrArg DogGate.lock hgate, congrArg DogGate.en hgate, hwdh⟩

/-- The disable sequence under way ends (R306). -/
def SafetyDie.endSequence (y : SafetyDie) : SafetyDie := { y with gate := { y.gate with step := 0 } }

section Disable

variable (y : SafetyDie) (hdue : y.wdh.due y.now = false)
include hdue

/-- Without LOCK, EN = 0 within 16 ticks of the second key ends WDH (R306). -/
theorem SafetyDie.wdhDisable_completed (hlock : y.gate.lock = false) (hkeys : y.gate.step = 2) (hsoon : y.now ≤ y.gate.stepAt + 16000) :
    y.wdhDisable = { y with gate := { y.gate with step := 0, en := false }, wdh := {} } := by
  rw [SafetyDie.wdhDisable, y.dogDue_of_not_due true hdue]
  simp [hlock, hkeys, hsoon]

/-- With LOCK the completed sequence ends, and nothing else is done than to record it (R307). -/
theorem SafetyDie.wdhDisable_refused (hlock : y.gate.lock = true) (hkeys : y.gate.step = 2 ∧ y.now ≤ y.gate.stepAt + 16000) :
    y.wdhDisable = y.endSequence.raise .disableDiscarded := by
  rw [SafetyDie.wdhDisable, y.dogDue_of_not_due true hdue]
  exact (if_pos hkeys).trans (if_pos hlock)

/-- EN = 0 without a completed sequence is counted and recorded, as is the sequence that it breaks (R306). -/
theorem SafetyDie.wdhDisable_ignored (hkeys : ¬ (y.gate.step = 2 ∧ y.now ≤ y.gate.stepAt + 16000)) :
    y.wdhDisable
      = ((if y.gate.step ≠ 0 then y.endSequence.bump Od.WDH_IGNORED else y.endSequence).bump Od.WDH_IGNORED).raise .wdhIgnored := by
  rw [SafetyDie.wdhDisable, y.dogDue_of_not_due true hdue]
  exact if_neg hkeys

/-- While LOCK is set, EN = 0 leaves LOCK, EN and WDH, after a sequence of keys as without one (R307). -/
theorem SafetyDie.wdhDisable_locked (hlock : y.gate.lock = true) : y.SameWdh y.wdhDisable := by
  by_cases hkeys : y.gate.step = 2 ∧ y.now ≤ y.gate.stepAt + 16000
  · have hend : y.SameWdh y.endSequence := ⟨rfl, rfl, rfl⟩
    rw [y.wdhDisable_refused hdue hlock hkeys]
    exact hend.trans (y.endSequence.recorded_raise .disableDiscarded 0 0 0 0xFFFF).sameWdh
  · rw [y.wdhDisable_ignored hdue hkeys]
    refine SafetyDie.SameWdh.trans ?_ (SafetyDie.recorded_raise _ .wdhIgnored 0 0 0 0xFFFF).sameWdh
    split <;> exact ⟨rfl, rfl, rfl⟩

end Disable

/-- A write of EN = 0 that the safety die receives is accepted and judged by the sequence of keys before it (R306). -/
theorem State.wdhDisable_safetyDid (s : State) (t seq : Nat) (h : s.FromCheck seq) :
    exec (.wdhDisable t seq) s = s.safetyDid t (fun y => (y.accepted 1).wdhDisable) :=
  (State.hostWrite_safetyDid s t seq 0x2000 0 h (by decide) (by decide)).trans
    (State.safetyDid_congr s t _ _ (SafetyDie.wdhCtrl_zero _))

/-- Settles O23: with LOCK by `SafetyDie.wdhDisable_locked`, without it by `SafetyDie.wdhDisable_completed`, at the die with the flit
accepted. -/
theorem watchdogLock : Obligations.WatchdogLock := by
  intro s t seq hflit hdue
  have hexec := State.wdhDisable_safetyDid s t seq hflit
  have hsame := (s.dies.sd.tick t).accepted_sameWdh 1
  obtain ⟨hnow, -, hgate⟩ := (s.dies.sd.tick t).accepted_keeps 1
  have hdue' : ((s.dies.sd.tick t).accepted 1).wdh.due ((s.dies.sd.tick t).accepted 1).now = false := by
    rw [hsame.wdh, hnow]
    exact hdue
  refine ⟨fun hlock => ?locked, fun hlock hkeys hsoon => ?unlocked⟩
  case locked =>
    have hdisable := SafetyDie.wdhDisable_locked _ hdue' (hsame.lock.trans hlock)
    obtain ⟨klock, ken, kwdh⟩ := (hsame.trans hdisable).trans (Dies.follow_sameWdh (s.dies.tick t) _)
    exact ⟨_, hexec, klock.trans hlock, ken, kwdh⟩
  case unlocked =>
    have hdisable := SafetyDie.wdhDisable_completed _ hdue' (hsame.lock.trans hlock) ((congrArg DogGate.step hgate).trans hkeys)
      (by rw [hnow, hgate]; exact hsoon)
    obtain ⟨-, -, -, -, fgate, fwdh, -⟩ := Dies.follow_keeps (s.dies.tick t) ((s.dies.sd.tick t).accepted 1).wdhDisable
    have hgateEnd := fgate.trans (congrArg SafetyDie.gate hdisable)
    have hwdhEnd := fwdh.trans (congrArg SafetyDie.wdh hdisable)
    exact ⟨_, hexec, congrArg DogGate.en hgateEnd, congrArg Dog.state hwdhEnd, congrArg DogGate.step hgateEnd⟩

end Sys2Proof.Machine
end

section
/-! PROOFS. Every step keeps the limits of the safety log and of the staged set, and the raised SEC_VERSION floor: each command by the lemma
of Laws/Limits.lean about its operation (R326, R356, R447). -/

namespace Sys2Proof.Machine

/-- With the floor left aside, what every operation keeps is the two limits. -/
theorem SafetyDie.kept_iff_fits (y : SafetyDie) : y.Kept True 0 ↔ y.Fits := by
  simp [SafetyDie.Kept, SafetyDie.Fits]

section Keeping

variable {lim : Prop} {low : Nat}

/-- Either of two ways the dies go keeps the limits and the floor. -/
theorem Dies.ite_kept {x y : Dies} (c : Prop) [Decidable c] (hx : x.sd.Kept lim low) (hy : y.sd.Kept lim low) :
    (if c then x else y).sd.Kept lim low := by
  split
  · exact hx
  · exact hy

variable {s s' : State} (hs : s.dies.sd.Kept lim low)
include hs

/-- A command keeps the limits and the floor when what it does to the dies keeps them. -/
theorem State.act_kept {t : Nat} {f : Dies → Dies} (hf : ∀ x : Dies, x.sd.Kept lim low → (f x).sd.Kept lim low)
    (h : s.act t f = .next s') : s'.dies.sd.Kept lim low := by
  obtain ⟨-, hdies⟩ := State.act_next s t f s' h
  rw [hdies]
  exact hf _ (s.dies.sd.tick_kept t hs)

section Shapes

variable {t : Nat} {f : SafetyDie → SafetyDie} (hf : ∀ y : SafetyDie, y.Kept lim low → (f y).Kept lim low)
include hf

/-- A happening of the safety die. -/
theorem State.onSafety_kept (h : s.onSafety t f = .next s') : s'.dies.sd.Kept lim low :=
  State.act_kept hs (fun x hx => x.safety_kept f hx hf) h

/-- A happening at a unit of the safety die, where that exists. -/
theorem State.onSafetyIf_kept {c : Prop} [Decidable c] (h : s.onSafetyIf t c f = .next s') : s'.dies.sd.Kept lim low :=
  State.act_kept hs (fun x hx => Dies.ite_kept c (x.safety_kept f hx hf) hx) h

/-- A flit toward the safety die. -/
theorem State.onSafetyLink_kept (h : s.onSafetyLink t f = .next s') : s'.dies.sd.Kept lim low :=
  State.act_kept hs (fun x hx => x.onSafetyLink_kept t f hx hf) h

/-- A timer of the corridor, at either end of it. -/
theorem State.atEitherEnd_kept {atCheck : Bool} {g : CheckDie → CheckDie}
    (h : s.act t (fun x => if atCheck then x.onLinks t g else x.safety f) = .next s') : s'.dies.sd.Kept lim low :=
  State.act_kept hs (fun x hx => Dies.ite_kept _ (x.onLinks_kept t g hx) (x.safety_kept f hx hf)) h

end Shapes

/-- A command that the safety die takes, or a flit toward it. -/
theorem exec_kept_of_atSafetyDie (c : Instr) (t : Nat) (hc : c.atSafetyDie = some t) (h : exec c s = .next s') :
    s'.dies.sd.Kept lim low := by
  cases c with
  | compareWord => exact State.onSafety_kept hs (fun y => y.compareWord_kept _ _ _ _ _ _ _ _) h
  | comparatorInjection => exact State.onSafety_kept hs (fun y => y.injectPair_kept _ _) h
  | debugHalt => exact State.onSafety_kept hs SafetyDie.debugHalt_kept h
  | debugResume => exact State.onSafety_kept hs SafetyDie.debugResume_kept h
  | splitAppTrap => exact State.onSafety_kept hs SafetyDie.splitTrap_kept h
  | softwareSelfTest => exact State.onSafety_kept hs SafetyDie.libraryTest_kept h
  | keeperActionQueue => exact State.onSafety_kept hs SafetyDie.serve_kept h
  | cdHeartEdge => exact State.onSafety_kept hs SafetyDie.heartEdge_kept h
  | heartLossTimeout => exact State.onSafety_kept hs SafetyDie.heartLoss_kept h
  | cdSafeDemandLow => exact State.onSafety_kept hs (fun y => y.demandLow_kept _) h
  | killPowerDelay => exact State.onSafety_kept hs SafetyDie.killPower_kept h
  | autoRestartTimeout => exact State.onSafety_kept hs SafetyDie.autoRestart_kept h
  | readbackEdge => exact State.onSafety_kept hs (fun y => y.readback_kept _ _) h
  | releaseLapse => exact State.onSafety_kept hs SafetyDie.releaseLapse_kept h
  | readbackMismatchTimeout => exact State.onSafety_kept hs (fun y => y.readbackTimeout_kept _) h
  | outputPulseStart => exact State.onSafety_kept hs (fun y => y.pulseStart_kept _) h
  | outputPulseCheck => exact State.onSafety_kept hs (fun y => y.pulseCheck_kept _) h
  | outputPulseEnd => exact State.onSafety_kept hs (fun y => y.pulseEnd_kept _) h
  | brakeFeedbackEdge => exact State.onSafety_kept hs (fun y => y.feedback_kept _ _) h
  | bfbTimeout => exact State.onSafety_kept hs SafetyDie.feedbackTimeout_kept h
  | btTorqueEnd => exact State.onSafety_kept hs SafetyDie.btTorqueEnd_kept h
  | btPass => exact State.onSafety_kept hs SafetyDie.btPass_kept h
  | motionEdge => exact State.onSafety_kept hs (fun y => y.motion_kept _) h
  | btOverdue => exact State.onSafety_kept hs SafetyDie.btOverdue_kept h
  | btExpired => exact State.onSafety_kept hs SafetyDie.btExpired_kept h
  | wdsServiceStore => exact State.onSafety_kept hs (fun y => y.wdsStore_kept _) h
  | serviceArmLapse => exact State.onSafety_kept hs (fun y => y.armLapse_kept _) h
  | watchdogExpiry => exact State.onSafety_kept hs (fun y => y.dogExpiry_kept _) h
  | graceExpiry => exact State.onSafety_kept hs (fun y => y.graceExpiry_kept _) h
  | clockMonitorTrip => exact State.onSafety_kept hs (fun y => y.clockTrip_kept _) h
  | disableSequenceLapse => exact State.onSafety_kept hs SafetyDie.disableLapse_kept h
  | rollCallCycleEnd => exact State.onSafety_kept hs SafetyDie.cycleEnd_kept h
  | sessionIdleTimeout => exact State.onSafety_kept hs (fun y => y.idleTimeout_kept _) h
  | por => exact State.onSafety_kept hs (fun y => y.por_kept _ _ _) h
  | resetN => exact State.onSafety_kept hs (fun y => y.resetN_kept _) h
  | resetNRelease => exact State.onSafety_kept hs (fun y => y.resetNEnd_kept _ _) h
  | safetyResetEnd => exact State.onSafety_kept hs (fun y => y.safetyEnd_kept _ _) h
  | selftestDone => exact State.onSafety_kept hs (fun y => y.selftestDone_kept _ _ _) h
  | bootTemperatureResume => exact State.onSafety_kept hs (fun y => y.temperatureResume_kept _) h
  | pgCdRise => exact State.onSafety_kept hs SafetyDie.pgRise_kept h
  | pgCdTimeout => exact State.onSafety_kept hs SafetyDie.pgTimeout_kept h
  | pgCdFall => exact State.onSafety_kept hs SafetyDie.pgFall_kept h
  | thermalWarn => exact State.onSafety_kept hs (fun y => y.thermalWarn_kept _ _) h
  | thermalClear => exact State.onSafety_kept hs (fun y => y.thermalClear_kept _ _) h
  | safetyDieThermalTrip => exact State.onSafety_kept hs (fun y => y.safetyThermal_kept _ _) h
  | safetyInputEdge => exact State.onSafetyIf_kept hs (fun y => y.inputEdge_kept _ _ _) h
  | inputFilterElapsed => exact State.onSafetyIf_kept hs (fun y => y.filterElapsed_kept _ _ _ _) h
  | discrepancyTimeout => exact State.onSafetyIf_kept hs (fun y => y.discrepancy_kept _) h
  | testPulseWindow => exact State.onSafetyIf_kept hs (fun y => y.pulseWindow_kept _ _ _ _ _) h
  | testPulseHoldEnd => exact State.onSafetyIf_kept hs (fun y => y.pulseHoldEnd_kept _ _) h
  | evaluatorDisagreeTimeout => exact State.onSafetyIf_kept hs (fun y => y.disagree_kept _) h
  | faultTestRelease => exact State.onSafetyIf_kept hs (fun y => y.testRelease_kept _) h
  | verdictToken | streamState => exact State.onSafetyLink_kept hs (fun y => y.sorterFlit_kept _ _ _) h
  | eventFlits => exact State.onSafetyLink_kept hs (fun y => y.recordArrives_kept _ _) h
  | configCrc | status | fenceChange | timeSample | hostWrite | wdhSvc | wdhEnable | wdhDisable | wdhLock | wdhKey | rcCheckin =>
    exact State.onSafetyLink_kept hs (fun y => y.flitArrives_kept _ _) h
  | selfRefreshReport => exact State.act_kept hs Dies.selfRefresh_kept h
  | _ => cases hc

/-- A command of both dies, of a session, or of the corridor toward the check die. -/
theorem exec_kept_of_bothDies (c : Instr) (hc : c.atCheckDie = none ∧ c.atSafetyDie = none) (h : exec c s = .next s') :
    s'.dies.sd.Kept lim low := by
  obtain ⟨hcheck, hsafety⟩ := hc
  cases c with
  | streamRestart | fenceClear | arrayRetest | cdResetLockedClear | faultClear | btStart | holdRequest | logClear | marginStart
  | commitCrc | stageDiscard | partnerSelect | fabricRestart | timeStepNs | intakeEnable | warmReset | checkDieReset | runRequest
  | serviceRequestEnter | serviceRequestLeave | powerRequest | secVersionRaise | arm | disarm =>
    exact State.act_kept hs (fun x => x.writeEntry_kept _ _ _ _) h
  | packageImageWrite | manifestImageWrite | lanternSetWrite | mapImageWrite | fwImage | deviceCert =>
    exact State.act_kept hs (fun x => x.writeBody_kept _ _ _ _ _) h
  | roleKey | operatorPassphrase | attestNonce => exact State.act_kept hs (fun x => x.writeOctets_kept _ _ _ _) h
  | sigBatchRead => exact State.act_kept hs (fun x => x.requestOf_kept _ _ _ _ _ _ _) h
  | hello | proof | read | write | close | canUsdoDownload => exact State.act_kept hs (fun x => x.odIn_kept _ _ _ _ _) h
  | plainUsdoUpload => exact State.act_kept hs (fun x => x.plainUpload_kept _ _ _) h
  | configSetFlits | epochAdvance | safeEnter | safeExit | fence | marginTest | inject | timeSet | odResponseFlits =>
    exact State.act_kept hs (fun x => x.onCheckLink_kept _ _) h
  | corruptFlit =>
    exact State.act_kept hs (fun x hx =>
      Dies.ite_kept _ (x.onLinks_kept _ _ hx) (x.onSafetyLink_kept _ _ hx SafetyDie.flitCrcError_kept)) h
  | linkUpTimeout => exact State.atEitherEnd_kept hs SafetyDie.linkTimeout_kept h
  | ackTimeout => exact State.atEitherEnd_kept hs SafetyDie.ackTimeout_kept h
  | linkAckPeriod => exact State.atEitherEnd_kept hs SafetyDie.ackPeriod_kept h
  | link => exact State.act_kept hs (fun x => x.linkFlit_kept _ _ _ _) h
  | train => exact State.act_kept hs (fun x => x.train_kept _ _) h
  | cdSafeDemandHigh =>
    exact State.act_kept hs (fun x hx => Dies.ite_kept _ (x.safety_kept _ hx SafetyDie.demandHigh_kept) hx) h
  | clockLoss => exact State.act_kept hs (fun x => x.clockLoss_kept _ _) h
  | killHoldEnd => exact State.act_kept hs Dies.killHoldEnd_kept h
  | checkDieResetEnd => exact State.act_kept hs (fun x => x.resetEnded_kept _ _) h
  | checkDieResetRelease => exact State.act_kept hs Dies.resetRelease_kept h
  | statusImageRefresh => exact State.act_kept hs Dies.refreshImage_kept h
  | batchSigned => exact State.act_kept hs Dies.batchSigned_kept h
  | attestSigned => exact State.act_kept hs Dies.attestSigned_kept h
  | marginDue => exact State.act_kept hs Dies.marginDue_kept h
  | marginRetry => exact State.act_kept hs Dies.marginRetry_kept h
  | marginRestored => exact State.act_kept hs Dies.marginRestored_kept h
  | commitStored => exact State.act_kept hs (fun x => x.commitStored_kept _) h
  | qspiStoreDone => exact State.act_kept hs (fun x => x.storeDone_kept _) h
  | fwImageStored => exact State.act_kept hs (fun x => x.imageStored_kept _) h
  | bootImageChecked => exact State.act_kept hs (fun x => x.imageChecked_kept _ _ _) h
  | rtcSet => exact State.act_kept hs Dies.rtcSet_kept h
  | functionLevelReset => exact State.act_kept hs Dies.functionReset_kept h
  | perst => exact State.act_kept hs (fun x => x.perstLevel_kept _) h
  | supplyMonitorTrip => exact State.act_kept hs Dies.supplyTrip_kept h
  | wakeEvent => exact State.act_kept hs (fun x => x.wake_kept _) h
  | checkDieThermalTrip => exact State.act_kept hs (fun x => x.checkThermal_kept _ _ _) h
  | injectDurationEnd => exact State.act_kept hs (fun x => x.durationEnd_kept _) h
  | injectHeldRelease => exact State.act_kept hs (fun x => x.heldRelease_kept _) h
  | _ => simp [Instr.atCheckDie, Instr.atSafetyDie] at hcheck hsafety

/-- Every command keeps the limits and the floor; one that the check die alone takes moves the safety die's clock and no more. -/
theorem exec_kept (c : Instr) (h : exec c s = .next s') : s'.dies.sd.Kept lim low := by
  cases hcheck : c.atCheckDie with
  | some t =>
    obtain ⟨-, hsd, -⟩ := exec_onlyCheck c t s s' hcheck h
    rw [hsd]
    exact s.dies.sd.tick_kept t hs
  | none =>
    cases hsafety : c.atSafetyDie with
    | some t => exact exec_kept_of_atSafetyDie hs c t hsafety h
    | none => exact exec_kept_of_bothDies hs c ⟨hcheck, hsafety⟩ h

/-- Every step keeps the limits and the floor: with no command waiting it leaves the safety die. -/
theorem step_kept (h : step s = .next s') : s'.dies.sd.Kept lim low := by
  cases hpending : s.pending with
  | nil =>
    have hidle : s' = s.idle := by simpa [step, hpending] using h.symm
    rw [hidle, State.idle, Dies.check_sd]
    exact hs
  | cons c rest => exact exec_kept (s := { s with pending := rest }) hs c (by simpa [step, hpending] using h)

end Keeping

/-- Settles O4: the two limits are what `step_kept` keeps, whatever the floor. -/
theorem limitsKept : Obligations.LimitsKept := by
  intro s s' hfits h
  exact s'.dies.sd.kept_iff_fits.1 (step_kept (s.dies.sd.kept_iff_fits.2 hfits) h)

end Sys2Proof.Machine
end

section
/-! PROOFS. The safety log: which record leaves a full ring, and what LOG_CLEAR leaves of the ring and of the first-fault table
(R326, R328, R338). -/

namespace Sys2Proof.Machine

/-- A ring with a free place takes the record there (R326). -/
theorem logPush_free (log : List EventRec) (n : Nat) (r : EventRec) (h : log.length < 256) : (logPush log n r).1 = log ++ [r] := by
  rw [logPush, if_pos h]

/-- A full ring gives up its oldest record of another severity than SAFETY, or, without one, does not take the record (R326). -/
theorem logPush_full (log : List EventRec) (n : Nat) (r : EventRec) (h : 256 ≤ log.length) :
    (∃ i, ∃ hi : i < log.length, log[i].name.severity ≠ .safety ∧ (logPush log n r).1 = log.eraseIdx i ++ [r]) ∨
      (logPush log n r).1 = log := by
  rw [logPush, if_neg (Nat.not_lt.2 h)]
  split
  · next i hfind =>
    obtain ⟨hi, hseverity, -⟩ := List.findIdx?_eq_some_iff_getElem.1 hfind
    exact .inl ⟨i, hi, by simpa using hseverity, rfl⟩
  · exact .inr rfl

/-- A SAFETY record stays in the ring whatever is put into it (R326). -/
theorem mem_logPush_of_safety (log : List EventRec) (n : Nat) (r e : EventRec) (he : e ∈ log) (hsafety : e.name.severity = .safety) :
    e ∈ (logPush log n r).1 := by
  rcases Nat.lt_or_ge log.length 256 with hfree | hfull
  · rw [logPush_free log n r hfree]
    exact List.mem_append_left _ he
  · rcases logPush_full log n r hfull with ⟨i, hi, hother, hpush⟩ | hpush
    · rw [hpush]
      obtain ⟨j, hj, rfl⟩ := List.mem_iff_getElem.1 he
      have hij : j ≠ i := by
        rintro rfl
        exact hother hsafety
      exact List.mem_append_left _ (List.mem_eraseIdx_iff_getElem.2 ⟨j, hj, hij, rfl⟩)
    · rw [hpush]
      exact he

/-- A full ring stays as long as it is. -/
theorem logPush_length_of_full (log : List EventRec) (n : Nat) (r : EventRec) (h : 256 ≤ log.length) :
    (logPush log n r).1.length = log.length := by
  rcases logPush_full log n r h with ⟨i, hi, -, hpush⟩ | hpush
  · rw [hpush, List.length_append, List.length_eraseIdx_of_lt hi, List.length_singleton]
    omega
  · rw [hpush]

/-- Two states of the safety die with one ring and one guest book. -/
structure SafetyDie.SameLog (x y : SafetyDie) : Prop where
  log : y.log = x.log
  guest : y.guest = x.guest

/-- One after the other. -/
theorem SafetyDie.SameLog.trans {x y z : SafetyDie} (h : x.SameLog y) (k : y.SameLog z) : x.SameLog z :=
  ⟨k.log.trans h.log, k.guest.trans h.guest⟩

/-- Sent flits change neither. -/
theorem SafetyDie.sendFlits_sameLog (x : SafetyDie) (fs : List Flit) : x.SameLog (x.sendFlits fs) := by
  unfold SafetyDie.sendFlits
  split <;> exact ⟨rfl, rfl⟩

/-- Sent records change neither. -/
theorem SafetyDie.sendRecords_sameLog (rs : List EventRec) (x : SafetyDie) : x.SameLog (x.forEach rs (fun y r => y.sendRecord r)) := by
  induction rs generalizing x with
  | nil => exact ⟨rfl, rfl⟩
  | cons r rs ih => exact (x.sendFlits_sameLog (flitsOd 0xFF 0 r.octets)).trans (ih (x.sendRecord r))

/-- The records sent to the check die stay in the ring (R497). -/
theorem SafetyDie.flushLog_sameLog (x : SafetyDie) : x.SameLog x.flushLog := by
  unfold SafetyDie.flushLog
  split
  · exact ⟨rfl, rfl⟩
  · extract_lets due y
    have hy : x.SameLog y := by
      unfold y
      split
      · obtain ⟨hlog, hguest⟩ := SafetyDie.sendFlits_sameLog { x with logLost := {} } (flitsOd 0xFF 0 (overflowRec 3 x.logLost x.gts).octets)
        exact ⟨hlog, hguest⟩
      · exact ⟨rfl, rfl⟩
    have hsent : x.SameLog { y with logSent := x.log.length } := ⟨hy.log, hy.guest⟩
    exact hsent.trans (SafetyDie.sendRecords_sameLog due _)

/-- A happening puts its record into the ring (R323). -/
theorem SafetyDie.raise_log (x : SafetyDie) (e : EventName) (ctx inst detail opDesc : Nat) :
    ∃ r : EventRec, r.name = e ∧ (x.raise e ctx inst detail opDesc).log = (logPush x.log x.logSent r).1 :=
  ⟨_, rfl, (SafetyDie.flushLog_sameLog _).log⟩

/-- One that is no SAFETY code leaves the guest book (R328). -/
theorem SafetyDie.raise_guest (x : SafetyDie) (e : EventName) (ctx inst detail opDesc : Nat) (he : e.safetyIndex = none) :
    (x.raise e ctx inst detail opDesc).guest = x.guest := by
  refine (SafetyDie.flushLog_sameLog _).guest.trans ?_
  simp only [SafetyDie.store, he]

/-- The records of the safety die from this instant. -/
def SafetyDie.ownNow (x : SafetyDie) : List EventRec := x.log.filter (fun r => r.onSafety && r.gts == x.gts)

/-- What they are. -/
theorem SafetyDie.mem_ownNow (x : SafetyDie) (r : EventRec) : r ∈ x.ownNow ↔ r ∈ x.log ∧ r.onSafety = true ∧ r.gts = x.gts := by
  simp [SafetyDie.ownNow]

/-- An instant without one. -/
theorem SafetyDie.ownNow_eq_nil (x : SafetyDie) (h : ∀ r ∈ x.log, r.onSafety = true → r.gts ≠ x.gts) : x.ownNow = [] := by
  refine List.eq_nil_iff_forall_not_mem.2 (fun r hr => ?_)
  obtain ⟨hlog, hown, hnow⟩ := (x.mem_ownNow r).1 hr
  exact h r hlog hown hnow

/-- LOG_CLEAR of 1 or 3 leaves the records of the safety die from this instant in the ring, and puts LOG_CLEARED after them (R338; log
entry 89). -/
theorem SafetyDie.logClear_log (x : SafetyDie) (v : Nat) (hv : v = 1 ∨ v = 3) :
    ∃ (n : Nat) (r : EventRec), r.name = .logCleared ∧ (x.logClear v).log = (logPush x.ownNow n r).1 := by
  unfold SafetyDie.logClear
  extract_lets kept y guest z
  have hy : y.log = x.ownNow := by
    unfold y
    rw [if_pos hv]
    rfl
  have hz : z.log = y.log := by
    unfold z
    split <;> rfl
  obtain ⟨r, hname, hlog⟩ := z.raise_log .logCleared 0 0 v 0xFFFF
  exact ⟨z.logSent, r, hname, (hz.trans hy) ▸ hlog⟩

/-- LOG_CLEAR of 2 or 3 leaves the first faults of this instant (R328, R338). -/
theorem SafetyDie.logClear_first (x : SafetyDie) (v : Nat) (hv : v = 2 ∨ v = 3) : (x.logClear v).guest.first = x.firstNow := by
  unfold SafetyDie.logClear
  rw [SafetyDie.raise_guest _ .logCleared 0 0 v 0xFFFF rfl, if_pos hv]

/-- LOG_CLEAR of 1 leaves the first-fault table (R338). -/
theorem SafetyDie.logClear_ringOnly (x : SafetyDie) : (x.logClear 1).guest.first = x.guest.first := by
  unfold SafetyDie.logClear
  rw [SafetyDie.raise_guest _ .logCleared 0 0 1 0xFFFF rfl]
  rfl

/-- At an instant without a record LOG_CLEAR of 1 or 3 leaves LOG_CLEARED alone in the ring. -/
theorem SafetyDie.logClear_log_alone (x : SafetyDie) (v : Nat) (hv : v = 1 ∨ v = 3) (h : x.ownNow = []) :
    (x.logClear v).log.map EventRec.name = [.logCleared] := by
  obtain ⟨n, r, hname, hlog⟩ := x.logClear_log v hv
  rw [hlog, h, logPush_free [] n r (by decide), List.nil_append, List.map_singleton, hname]

/-- At an instant without a record LOG_CLEAR of 2 or 3 empties the first-fault table. -/
theorem SafetyDie.logClear_first_empty (x : SafetyDie) (v : Nat) (hv : v = 2 ∨ v = 3) (h : x.ownNow = []) :
    (x.logClear v).guest.first = [] := by
  have hfirst : x.firstNow = [] := by
    rw [SafetyDie.firstNow, ← SafetyDie.ownNow, h]
    rfl
  rw [x.logClear_first v hv, hfirst]

/-- Settles O26: the ring by `mem_logPush_of_safety`, `logPush_free` and `logPush_length_of_full`, LOG_CLEAR by what it leaves of the ring
(`SafetyDie.logClear_log`) and of the first-fault table (`SafetyDie.logClear_first`). -/
theorem safetyLog : Obligations.SafetyLog := by
  refine ⟨mem_logPush_of_safety, logPush_free, logPush_length_of_full, fun x hquiet => ?clears, fun x r hr hown hnow hsafety => ?stays⟩
  case clears =>
    have h := x.ownNow_eq_nil hquiet
    exact ⟨⟨x.logClear_log_alone 1 (.inl rfl) h, x.logClear_ringOnly⟩, x.logClear_first_empty 2 (.inl rfl) h,
      x.logClear_log_alone 3 (.inr rfl) h, x.logClear_first_empty 3 (.inr rfl) h⟩
  case stays =>
    have hkept : r ∈ x.ownNow := (x.mem_ownNow r).2 ⟨hr, hown, hnow⟩
    have hstays (v : Nat) (hv : v = 1 ∨ v = 3) : r ∈ (x.logClear v).log := by
      obtain ⟨n, cleared, -, hlog⟩ := x.logClear_log v hv
      rw [hlog]
      exact mem_logPush_of_safety x.ownNow n cleared r hkept hsafety
    exact ⟨hstays 1 (.inl rfl), hstays 3 (.inr rfl)⟩

end Sys2Proof.Machine
end

section
/-! PROOFS. Admitted requests to the log, the fabric, the time unit, the intake and the injectors: what each entry does, and that the session's
request does it (R331, R333, R338, R340, R364, R378, R398, R402, R408, R453-R455). -/

namespace Sys2Proof.Machine

/-- An admitted write of a number to an rw entry is the request that does what the entry does (R340, R349, R350). -/
theorem State.writeEntry_requested_rw (s : State) (t slot : Nat) (ses : Session) (w : OdRow) (i v : Nat) (f : Dies → Served)
    (hf : (s.dies.tick t).Fresh slot ses) (ha : s.dies.Admits ses w i v) (hrw : w.access = .rw)
    (hdoes : ∀ y : Dies, y.writeRw slot (w.index + i) w.sub w (.num v) = f y) :
    s.act t (fun x => x.writeEntry slot w i v) = s.requested t slot ses (ses.write w i v) f := by
  simp only [State.act, State.requested]
  rw [Dies.writeEntry_rw (s.dies.tick t) slot ses w i v hf (ha.tick t) hrw, hdoes]

/-- A READ of an entry whose values are octets, which the device state admits and the die that holds it serves, is a read of those octets
(R340, R364-R369). -/
theorem Dies.serve_readOctets (x : Dies) (slot : Nat) (ses ses0 : Session) (w : OdRow) (i offset : Nat)
    (hfound : odFind (w.index + i) w.sub = some w) (hsub : w.sub ≠ 0 ∧ w.sub < 256) (hacc : w.access ≠ .wo)
    (htype : w.type.numeric = false) (hdevice : admitsRead x.sd.device (w.index + i) w.sub = true) (hserves : x.sd.cdServes = true) :
    x.serve slot ses (ses0.next 0x10 (w.key i) offset [] none true) =
      let a := x.readOctets slot ses.path (w.key i) offset ses.snap (x.value w (w.index + i) w.sub ses.partner).b
      (a.1, some a.2) := by
  have hindex : w.key i / 256 = w.index + i := by simp only [OdRow.key]; omega
  have hsubOf : w.key i % 256 = w.sub := by simp only [OdRow.key]; omega
  have hkey : (w.index + i) * 256 + w.sub = w.key i := rfl
  have hforce : (b01 true).testBit 1 = false := rfl
  simp [Dies.serve, Dies.serveRead, Session.next, hindex, hsubOf, hkey, hforce, odAllocated_of_find _ _ _ hfound, hfound, hsub.1,
    hacc, htype, hdevice, hserves]

/-- An admitted READ of octets is the request that reads them (R340, R349, R350). -/
theorem State.readOctets_requested (s : State) (t slot : Nat) (ses : Session) (w : OdRow) (i offset : Nat)
    (hf : (s.dies.tick t).Fresh slot ses) (hfound : odFind (w.index + i) w.sub = some w) (hsub : w.sub ≠ 0 ∧ w.sub < 256)
    (hacc : w.access ≠ .wo) (htype : w.type.numeric = false) (hdevice : admitsRead s.dies.sd.device (w.index + i) w.sub = true)
    (hserves : s.dies.sd.cdServes = true) :
    s.act t (fun x => x.requestOf slot 0x10 (w.key i) offset [] none true)
      = s.requested t slot ses (ses.next 0x10 (w.key i) offset [] none true) (fun y =>
          let a := y.readOctets slot ses.path (w.key i) offset ses.snap (y.value w (w.index + i) w.sub ses.partner).b
          (a.1, some a.2)) := by
  have hread (r : Req) (tag : Octets) := Dies.serve_readOctets ((s.dies.tick t).taken slot ses r tag) slot (ses.took (s.dies.tick t).sd r tag)
    ses w i offset hfound hsub hacc htype hdevice hserves
  simp only [State.act, State.requested]
  rw [Dies.requestOf_fresh (s.dies.tick t) slot ses 0x10 (w.key i) offset [] none true hf (by decide), hread]
  rfl

/-- SIG_BATCH_READ is where the dictionary lists it. -/
theorem odFind_sigBatchRead : odFind 0x4800 0x0F = some Od.SIG_BATCH_READ := by decide +kernel

/-- A write to LOG_CLEAR clears what it names (R338). -/
theorem Dies.act_logClear (y : Dies) (slot v : Nat) :
    y.act slot 0x4800 0x0B (.num v) = (y.safety (fun z => z.logClear v)).done := rfl

/-- A write to MARGIN_START makes a test of the cluster it names due (R333). -/
theorem Dies.act_marginStart (y : Dies) (slot v : Nat) : y.act slot 0x4800 0x22 (.num v) = (y.marginStart v).done := rfl

/-- A write to FABRIC_RESTART restarts the fabric (R378, R402). -/
theorem Dies.act_fabricRestart (y : Dies) (slot : Nat) (v : Val) : y.act slot 0x5000 0x09 v = (y.check CheckDie.fabRestart).done := rfl

/-- Outside RUN a write to TIME_STEP_NS steps the time (R398). -/
theorem Dies.act_timeStepNs (y : Dies) (slot v : Nat) (hrun : y.sd.device ≠ .run) :
    y.act slot 0x5400 0x0F (.num v) = (y.check (fun d => d.timeStep (signedOf 64 v))).done := by
  simp [Dies.act, hrun, Val.n]

/-- A write to INTAKE_ENABLE opens or closes the intake of its context (R408). -/
theorem Dies.writeRw_intakeEnable (y : Dies) (slot c v : Nat) (hc : c < 256) :
    y.writeRw slot (0x2D00 + c) 0x04 Od.INTAKE_ENABLE (.num v)
      = ({ sd := { y.sd with values := y.sd.values.putKey (Od.INTAKE_ENABLE.key c) (.num v) }, cd := y.cd.setIntake c (v == 1) } : Dies).done := by
  have hpartner : ¬ 0x2D00 + c = 0x2800 := by omega
  have hring : ¬ (0x2D00 + c = 0x4800 ∧ 0x04 = 0x07) := by omega
  have hlock : ¬ (0x2D00 + c = 0x6000 ∧ 0x04 = 0x24) := by omega
  have hcontext : 0x2D00 ≤ 0x2D00 + c ∧ 0x2D00 + c ≤ 0x2DFF := by omega
  rw [Dies.writeRw, if_neg hpartner, if_neg hring, if_neg hlock, if_pos hcontext, Nat.add_sub_cancel_left]
  rfl

/-- A write to ARM of an injector arms it at 1 and disarms it otherwise (R453-R455). -/
theorem Dies.writeRw_arm (y : Dies) (slot j v : Nat) (hj : j < 8) :
    y.writeRw slot (0x6810 + j) 0x0D Od.ARM (.num v) = if v = 1 then y.arm slot j else y.disarm slot j := by
  have hpartner : ¬ 0x6810 + j = 0x2800 := by omega
  have hring : ¬ (0x6810 + j = 0x4800 ∧ 0x0D = 0x07) := by omega
  have hlock : ¬ (0x6810 + j = 0x6000 ∧ 0x0D = 0x24) := by omega
  have hcontext : ¬ (0x2D00 ≤ 0x6810 + j ∧ 0x6810 + j ≤ 0x2DFF) := by omega
  have hinjector : 0x6810 ≤ 0x6810 + j ∧ 0x6810 + j ≤ 0x6817 := by omega
  rw [Dies.writeRw, if_neg hpartner, if_neg hring, if_neg hlock, if_neg hcontext, if_pos hinjector, Nat.add_sub_cancel_left]
  rfl

/-- Settles O57: the writes by `State.writeEntry_requested` and `State.writeEntry_requested_rw` with what each entry does, the read by
`State.readOctets_requested`. -/
theorem logFabricTimeAndIntakeWritesAct : Obligations.LogFabricTimeAndIntakeWritesAct := by
  intro s t
  refine ⟨fun slot v ses hf ha => ?logClear, fun slot v ses hf ha => ?marginStart, fun slot offset ses r hf hr hdevice hserves => ?sigBatchRead,
    fun slot v ses hf ha => ?fabricRestart, fun slot v ses hf ha hrun => ?timeStepNs, fun slot c v ses hf ha => ?intakeEnable,
    fun slot j ses hf ha => ?arm, fun slot j ses hf ha => ?disarm⟩
  case logClear =>
    exact State.writeEntry_requested s t slot ses Od.LOG_CLEAR 0 v _ hf ha rfl (fun y _ => Dies.act_logClear y slot v)
  case marginStart =>
    exact State.writeEntry_requested s t slot ses Od.MARGIN_START 0 v _ hf ha rfl (fun y _ => Dies.act_marginStart y slot v)
  case fabricRestart =>
    exact State.writeEntry_requested s t slot ses Od.FABRIC_RESTART 0 v _ hf ha rfl (fun y _ => Dies.act_fabricRestart y slot _)
  case timeStepNs =>
    exact State.writeEntry_requested s t slot ses Od.TIME_STEP_NS 0 v _ hf ha rfl
      (fun y hd => Dies.act_timeStepNs y slot v (hd ▸ hrun))
  case intakeEnable =>
    exact State.writeEntry_requested_rw s t slot ses Od.INTAKE_ENABLE c v _ hf ha rfl
      (fun y => Dies.writeRw_intakeEnable y slot c v ha.inst)
  case arm =>
    exact State.writeEntry_requested_rw s t slot ses Od.ARM j 1 _ hf ha rfl (fun y => Dies.writeRw_arm y slot j 1 ha.inst)
  case disarm =>
    exact State.writeEntry_requested_rw s t slot ses Od.ARM j 0 _ hf ha rfl (fun y => Dies.writeRw_arm y slot j 0 ha.inst)
  case sigBatchRead =>
    subst hr
    exact State.readOctets_requested s t slot ses Od.SIG_BATCH_READ 0 offset hf odFind_sigBatchRead (by decide) (by decide) rfl hdevice
      hserves

end Sys2Proof.Machine
end

section
/-! PROOFS. A step with no command waiting; the commands of the event collector, the margin test and the time unit, and those that both dies
take part in (R318, R323-R337, R394-R400, R450, R455, R457). -/

namespace Sys2Proof.Machine
/-- Settles O2: the idle step is an update of the check die, which leaves the safety die, and the check die too when that does not run. -/
theorem stepIdlesOnEmptyQueue : Obligations.StepIdlesOnEmptyQueue := by
  intro s hpending
  refine ⟨by simp only [step, hpending], hpending, Dies.check_sd _ _, fun hrests => ?_⟩
  rw [State.idle, Dies.check_rests _ _ (Bool.not_eq_true _ ▸ hrests)]

/-- Settles O42: a PTP message is a happening at the port that its number names, every other command one of the check die; a check die that
runs does them. -/
theorem eventAndTimeCommandsComplete : Obligations.EventAndTimeCommandsComplete := by
  intro s t hr
  have onDie (f : CheckDie → CheckDie) : s.onCheck t f = s.checkDid t f := State.onCheck_checkDid s t f hr
  have atPort (p : Nat) (f : CheckDie → CheckDie) (hp : p < 5) : s.onCheckIf t (p < 5) f = s.checkDid t f :=
    State.onCheckIf_checkDid s t (p < 5) f hr hp
  exact ⟨
    -- the event collector, the signature batches and the margin test
    onDie _, fun _ => onDie _, fun _ => onDie _, onDie _, onDie _, fun _ _ _ => onDie _,
    -- the time unit
    fun p _ _ hp => atPort p _ hp, fun p _ _ hp => atPort p _ hp, onDie _, onDie _, onDie _, onDie _, onDie _, onDie _,
    fun p _ _ hp => atPort p _ hp, fun p _ _ hp => atPort p _ hp, fun p _ _ hp => atPort p _ hp, fun p _ _ hp => atPort p _ hp,
    fun p _ _ _ hp => atPort p _ hp, fun p _ _ hp => atPort p _ hp, onDie _, onDie _, fun _ _ => onDie _⟩

/-- A command that acts on both dies brings what it makes of them at its time. -/
theorem State.act_became (s : State) (t : Nat) (f : Dies → Dies) : s.act t f = s.became (f (s.dies.tick t)) := rfl

/-- A check die that runs takes the images of the safety die as it is at that time (R318). -/
theorem exec_statusImageRefresh_checkDid (s : State) (t : Nat) (hr : s.Runs) :
    exec (.statusImageRefresh t) s = s.checkDid t (fun d =>
      d.takeImages (s.dies.sd.tick t).statusImage (s.dies.tick t).devStatus s.dies.sd.guest.epoch) :=
  calc exec (.statusImageRefresh t) s = s.became (s.dies.tick t).refreshImage := rfl
    _ = _ := by
      rw [Dies.refreshImage, Dies.check_runs (s.dies.tick t) _ hr]
      rfl

/-- Settles O51: each command acts on both dies at its time; the images are taken by a check die that runs. -/
theorem twoDieCommandsComplete : Obligations.TwoDieCommandsComplete := by
  intro s t
  exact ⟨s.act_became t Dies.batchSigned, s.act_became t Dies.attestSigned, s.act_became t Dies.marginDue, s.act_became t Dies.marginRetry,
    s.act_became t Dies.marginRestored, s.act_became t Dies.rtcSet, exec_statusImageRefresh_checkDid s t,
    fun j => s.act_became t (fun x => x.durationEnd j), fun j => s.act_became t (fun x => x.heldRelease j)⟩

end Sys2Proof.Machine
end

section
/-! PROOFS. What the end of a session, a stop and what follows from an update leave alone: the sessions, the lockout records and SD_CD_KILL
(R257, R280, R351, R352). -/

namespace Sys2Proof.Machine

/-- Two states of the safety die with the same sessions, the same lockout records of the roles and the same stand of SD_CD_KILL. -/
structure SafetyDie.SameAccess (x y : SafetyDie) : Prop where
  sessions : y.sessions = x.sessions
  locks : y.guest.locks = x.guest.locks
  kill : y.kill = x.kill

/-- Every state agrees with itself. -/
theorem SafetyDie.SameAccess.refl (x : SafetyDie) : x.SameAccess x := ⟨rfl, rfl, rfl⟩

/-- One after the other. -/
theorem SafetyDie.SameAccess.trans {x y z : SafetyDie} (h : x.SameAccess y) (k : y.SameAccess z) : x.SameAccess z :=
  ⟨k.sessions.trans h.sessions, k.locks.trans h.locks, k.kill.trans h.kill⟩

/-- A fold of operations that leave the three leaves them. -/
theorem SafetyDie.foldl_sameAccess {α : Type} (f : SafetyDie → α → SafetyDie) (hf : ∀ (y : SafetyDie) (a : α), y.SameAccess (f y a))
    (l : List α) (x : SafetyDie) : x.SameAccess (l.foldl f x) := by
  induction l generalizing x with
  | nil => exact .refl x
  | cons a l ih => exact (hf x a).trans (ih _)

/-- Recording an event and sending flits leave the three. -/
theorem SafetyDie.Recorded.sameAccess {x y : SafetyDie} (h : x.Recorded y) : x.SameAccess y := by
  obtain ⟨_, _, _, _, _, _, rfl⟩ := h
  exact ⟨rfl, rfl, rfl⟩

/-- What follows from an update of the safety die leaves the three of the update. -/
theorem Dies.follow_sameAccess (x : Dies) (y : SafetyDie) : y.SameAccess (x.follow y).sd := by
  obtain ⟨c, _, _, _, _, _, hc, h⟩ := Dies.follow_sd x y
  rw [h]
  exact hc.sameAccess.trans ⟨rfl, rfl, rfl⟩

/-- An injector disarmed. -/
theorem SafetyDie.disarmOne_sameAccess (x : SafetyDie) (cause : Nat) (a : ArmedInj) : x.SameAccess (x.disarmOne cause a) := by
  have hdrop : x.SameAccess { x with
      armed := x.armed.filter (fun y => y.num != a.num)
      injectors := x.injectors.filter (fun (i : Injector) => i.num != a.num) } := ⟨rfl, rfl, rfl⟩
  exact (hdrop.trans (SafetyDie.recorded_sendFlits _ _).sameAccess).trans (SafetyDie.recorded_raise _ _ _ _ _ _).sameAccess

/-- Every injector disarmed. -/
theorem SafetyDie.dropInjectors_sameAccess (x : SafetyDie) : x.SameAccess x.dropInjectors :=
  (SafetyDie.foldl_sameAccess _ (fun _ _ => (SafetyDie.recorded_raise _ _ _ _ _ _).sameAccess) x.armed x).trans ⟨rfl, rfl, rfl⟩

/-- SERVICE left. -/
theorem SafetyDie.leaveService_sameAccess (x : SafetyDie) : x.SameAccess x.leaveService := by
  unfold SafetyDie.leaveService
  split <;> exact ⟨rfl, rfl, rfl⟩

/-- The end of a session that is held takes it from its slot, and of the three changes nothing else (R352). -/
theorem SafetyDie.endSession_sameAccess (x : SafetyDie) (i : Nat) (h : x.session i ≠ none) :
    (x.setSession i none).SameAccess (x.endSession i) := by
  rw [SafetyDie.endSession, if_neg h]
  extract_lets freed fw s1 stage s2 disarmed s3
  have h1 : (x.setSession i none).SameAccess s1 := ⟨rfl, rfl, rfl⟩
  have h2 : s1.SameAccess s2 := by
    unfold s2
    split
    · split <;> exact ⟨rfl, rfl, rfl⟩
    · exact .refl s1
  have hdisarmed : s2.SameAccess disarmed := SafetyDie.foldl_sameAccess _ (fun y a => y.disarmOne_sameAccess 4 a) s2.armed s2
  have h3 : s2.SameAccess s3 := by
    unfold s3
    split
    · exact hdisarmed.trans ⟨rfl, rfl, rfl⟩
    · exact .refl s2
  refine (h1.trans h2).trans (h3.trans ?_)
  split
  · exact s3.leaveService_sameAccess
  · exact .refl s3

/-- The end of a session leaves SD_CD_KILL. -/
theorem SafetyDie.endSession_kill (x : SafetyDie) (i : Nat) : (x.endSession i).kill = x.kill := by
  by_cases h : x.session i = none
  · rw [SafetyDie.endSession, if_pos h]
  · exact (x.endSession_sameAccess i h).kill

/-- The end of the check die's sessions leaves SD_CD_KILL (R352). -/
theorem SafetyDie.endCheckSessions_kill (x : SafetyDie) : x.endCheckSessions.kill = x.kill := by
  have key (l : List Nat) (f : SafetyDie → Nat → SafetyDie) (hf : ∀ (y : SafetyDie) (i : Nat), (f y i).kill = y.kill) :
      ∀ y : SafetyDie, (l.foldl f y).kill = y.kill := by
    induction l with
    | nil => exact fun _ => rfl
    | cons i l ih => exact fun y => (ih (f y i)).trans (hf y i)
  refine key _ _ (fun y i => ?_) x
  split
  · split
    · exact y.endSession_kill i
    · rfl
  · rfl

/-- A pass of the brake test. -/
theorem SafetyDie.btPass_sameAccess (x : SafetyDie) : x.SameAccess x.btPass := by
  unfold SafetyDie.btPass
  split
  · split <;> exact ⟨rfl, rfl, rfl⟩
  · exact .refl x

/-- An end of the brake test without a pass. -/
theorem SafetyDie.endTest_sameAccess (x : SafetyDie) (result : Nat) : x.SameAccess (x.endTest result) := by
  unfold SafetyDie.endTest
  split <;> exact ⟨rfl, rfl, rfl⟩

/-- An advance of the verdict epoch. -/
theorem SafetyDie.advance_sameAccess (x : SafetyDie) (causes : Nat) : x.SameAccess (x.advance causes) := by
  have hstep : x.SameAccess x.stepEpoch := by
    unfold SafetyDie.stepEpoch
    split <;> exact ⟨rfl, rfl, rfl⟩
  unfold SafetyDie.advance
  split
  · exact ⟨rfl, rfl, rfl⟩
  · exact hstep.trans (SafetyDie.recorded_sendFlits _ _).sameAccess

/-- A restart that gives way to a stop of its cycle. -/
theorem SafetyDie.refuseRestart_sameAccess (x : SafetyDie) : x.SameAccess x.refuseRestart := by
  unfold SafetyDie.refuseRestart
  split
  · exact (SafetyDie.recorded_raise _ _ _ _ _ _).sameAccess
  · exact .refl x

/-- A running brake test aborted. -/
theorem SafetyDie.abortTest_sameAccess (x : SafetyDie) : x.SameAccess x.abortTest :=
  x.btPass_sameAccess.trans (x.btPass.endTest_sameAccess 3)

/-- SAFE_HOLD entered, both channels off, SAFE_ENTER sent. -/
theorem SafetyDie.enterSafeHold_sameAccess (x : SafetyDie) :
    x.SameAccess (({ x.channelsOff with device := .safeHold } : SafetyDie).sendFlit flitSafeEnter) :=
  SafetyDie.SameAccess.trans (y := { x.channelsOff with device := .safeHold }) ⟨rfl, rfl, rfl⟩
    (SafetyDie.recorded_sendFlits _ _).sameAccess

/-- A stop cause leaves the three, in every device state (R280). -/
theorem SafetyDie.stop_sameAccess (x : SafetyDie) (bit : Nat) (merge : Bool) : x.SameAccess (x.stop bit merge) := by
  have hcause : x.SameAccess (x.refuseRestart.setBrake (fun b => { b with causes := b.causes ||| 2 ^ bit, stopAt := some x.now })) :=
    x.refuseRestart_sameAccess.trans ⟨rfl, rfl, rfl⟩
  unfold SafetyDie.stop
  extract_lets s1 y s3
  have h1 : x.SameAccess s1 := hcause.trans (SafetyDie.abortTest_sameAccess _)
  have h3 : s1.SameAccess s3 := s1.enterSafeHold_sameAccess
  clear_value s3 s1
  split
  · exact h1.trans ⟨rfl, rfl, rfl⟩
  · refine (h1.trans h3).trans ?_
    split
    · exact ⟨rfl, rfl, rfl⟩
    · exact s3.advance_sameAccess 2

/-- A stop through the HBL leaves the three (R264). -/
theorem SafetyDie.hblStop_sameAccess (x : SafetyDie) (bit : Nat) (merge : Bool) : x.SameAccess (x.hblStop bit merge) :=
  SafetyDie.SameAccess.trans (y := (x.setBrake (fun b => { b with latch := true, calm := none })).settle) ⟨rfl, rfl, rfl⟩
    (SafetyDie.stop_sameAccess _ bit merge)

/-- A demand of the check die leaves the three (R256). -/
theorem SafetyDie.demandLow_sameAccess (x : SafetyDie) (ns : Nat) : x.SameAccess (x.demandLow ns) := by
  have hnote : x.SameAccess x.noteDemand := ⟨rfl, rfl, rfl⟩
  by_cases hnone : ns < 130 ∨ x.demand = true
  · rw [SafetyDie.demandLow, if_pos hnone]
    exact .refl x
  · rw [SafetyDie.demandLow, if_neg hnone]
    dsimp only
    split
    · exact hnote.trans (SafetyDie.stop_sameAccess _ 2 false)
    · exact hnote

end Sys2Proof.Machine
end

section
/-! PROOFS. Messages of the object dictionary at the safety die: handshakes, the requests of an open session, wrong TAGs and repeats
(R344-R353, R355). -/

namespace Sys2Proof.Machine

/-- A slot emptied is empty whatever stood there before. -/
theorem Tbl.set_set_default {α : Type} [DecidableEq α] (d : α) (t : Tbl α) (i : Nat) (v : α) (hv : v ≠ d) :
    Tbl.set d (Tbl.set d t i v) i d = Tbl.set d t i d := by
  induction t with
  | nil => simp [Tbl.set, hv]
  | cons x t ih =>
    obtain ⟨k, w⟩ := x
    simp only [Tbl.set, hv, if_false, if_true]
    split_ifs with hsame hbelow
    · simp [Tbl.set]
    · simp [Tbl.set]
    · simp [Tbl.set, hsame, hbelow, ih]

/-- A session written to a slot that is then emptied is gone. -/
theorem SafetyDie.sessions_emptied (x : SafetyDie) (i : Nat) (y : Session) :
    ((x.setSession i (some y)).setSession i none).sessions = (x.setSession i none).sessions :=
  Tbl.set_set_default none x.sessions i (some y) (by simp)

/-- An OD message that leaves changes neither the sessions, nor the lockout records, nor SD_CD_KILL. -/
theorem SafetyDie.sendOd_sameAccess (x : SafetyDie) (slot path origin : Nat) (b : Octets) :
    x.SameAccess (x.sendOd slot path origin b) := by
  unfold SafetyDie.sendOd
  split
  · exact (x.recorded_sendFlits _).sameAccess
  · exact ⟨rfl, rfl, rfl⟩

/-- A message that reaches the safety die is dispatched by its KIND, from its path and origin (R344, R353). -/
theorem Dies.odIn_hears (x : Dies) (path origin seq : Nat) (b : Octets) (h : x.Hears path origin seq b) :
    x.odIn (kindOf b) path origin seq b = (x.carried path seq b).dispatch path (originOf path origin) b := by
  have hpasses : ¬ ((kindOf b ≠ kindOf b ∧ clientKinds.contains (kindOf b) = true) ∨ (!x.reaches path) = true) := by simp [h.served]
  rw [Dies.odIn, if_neg hpasses]
  by_cases hp : path = 3
  · simp only [Dies.carried, originOf, if_pos hp, if_pos (h.bus hp)]
  · simp only [Dies.carried, originOf, if_neg hp, if_pos (h.flits hp)]

/-- A command that brings such a message of the kind it names. -/
theorem State.odIn_became (s : State) (t kind path origin seq : Nat) (b : Octets) (h : (s.dies.tick t).Hears path origin seq b)
    (hkind : kindOf b = kind) :
    s.act t (fun x => x.odIn kind path origin seq b)
      = s.became (((s.dies.tick t).carried path seq b).dispatch path (originOf path origin) b) := by
  rw [← Dies.odIn_hears _ path origin seq b h, hkind]
  rfl

/-- Settles O53: by `State.odIn_became`; the KIND says to which of the two the message goes. -/
theorem handshakeMessagesAct : Obligations.HandshakeMessagesAct := by
  intro s t path origin seq b h
  refine ⟨fun hkind => ?hello, fun hkind => ?proof⟩
  case hello =>
    refine (State.odIn_became s t 0x01 path origin seq b h hkind).trans (congrArg s.became ?_)
    rw [Dies.dispatch, if_pos hkind]
  case proof =>
    refine (State.odIn_became s t 0x03 path origin seq b h hkind).trans (congrArg s.became ?_)
    rw [Dies.dispatch, if_neg (by rw [hkind]; decide), if_pos hkind]

section Message

variable {y : Dies} {path origin : Nat} {b : Octets} {ses : Session} (hheld : y.sd.session (field b 4 1) = some ses)
  (hopened : ses.opened = true) (hidle : y.sd.idle ses = false) (hpath : ses.path = path) (horigin : ses.origin = origin)
include hheld hopened hidle hpath horigin

/-- A message of an open session of its path, within its idle limit, fails by its TAG or is accepted (R344, R348, R349). -/
theorem Dies.message_open :
    y.message path origin b = if b.length < 40 ∨ tagOf b ≠ tagWanted ses.key b then y.safety (fun z => z.tagFailed (field b 4 1) ses)
      else y.accept (field b 4 1) ses (parseReq path b) (tagOf b) := by
  have hawake : y.awakeSlot (field b 4 1) = y := by simp [Dies.awakeSlot, hheld, hidle]
  simp [Dies.message, hawake, hheld, hopened, hpath, horigin]

/-- One whose KIND is neither HELLO nor PROOF is such a message. -/
theorem Dies.dispatch_open (hkind : kindOf b = 0x10 ∨ kindOf b = 0x11 ∨ kindOf b = 0x12) :
    y.dispatch path origin b = if b.length < 40 ∨ tagOf b ≠ tagWanted ses.key b then y.safety (fun z => z.tagFailed (field b 4 1) ses)
      else y.accept (field b 4 1) ses (parseReq path b) (tagOf b) := by
  have hhello : kindOf b ≠ 0x01 := by omega
  have hproof : kindOf b ≠ 0x03 := by omega
  rw [Dies.dispatch, if_neg hhello, if_neg hproof]
  exact Dies.message_open hheld hopened hidle hpath horigin

/-- One with its right TAG is accepted (R349). -/
theorem Dies.dispatch_authentic (hkind : kindOf b = 0x10 ∨ kindOf b = 0x11 ∨ kindOf b = 0x12) (hlen : 40 ≤ b.length)
    (htag : tagOf b = tagWanted ses.key b) :
    y.dispatch path origin b = y.accept (field b 4 1) ses (parseReq path b) (tagOf b) := by
  rw [Dies.dispatch_open hheld hopened hidle hpath horigin hkind, if_neg (by simp [hlen, htag])]

end Message

/-- A READ or a WRITE with a later SEQ, of a session with nothing unanswered, is taken, served and answered (R349, R350). -/
theorem Dies.accept_request (y : Dies) (path slot : Nat) (b tag : Octets) (ses : Session) (hwaiting : ses.waiting = [])
    (hbusy : ses.busy = none) (hseq : ses.lastSeq < (parseReq path b).seq) (hkind : kindOf b = 0x10 ∨ kindOf b = 0x11) :
    y.accept slot ses (parseReq path b) tag = Dies.answered slot (parseReq path b)
      ((y.taken slot ses (parseReq path b) tag).serve slot (ses.took y.sd (parseReq path b) tag) (parseReq path b)) := by
  have hother : (parseReq path b).kind ≠ 0x12 := show kindOf b ≠ 0x12 by omega
  exact Dies.admit_fresh y slot ses _ tag hwaiting hbusy hseq hother

/-- What a CLOSE makes of the dies: answered OK, its session ended (R352). -/
def Dies.closed (y : Dies) (slot : Nat) (ses : Session) (r : Req) (tag : Octets) : Dies :=
  ({ y with sd := (y.taken slot ses r tag).sd.respond slot r 0 [] false } : Dies).safety (fun z => z.endSession slot)

/-- A CLOSE with a later SEQ, of a session with nothing unanswered, is answered and ends the session (R349, R352). -/
theorem Dies.accept_close (y : Dies) (slot : Nat) (ses : Session) (r : Req) (tag : Octets) (hwaiting : ses.waiting = [])
    (hbusy : ses.busy = none) (hseq : ses.lastSeq < r.seq) (hkind : r.kind = 0x12) (hformed : r.bad = false) :
    y.accept slot ses r tag = y.closed slot ses r tag := by
  have hlater : ¬ r.seq ≤ ses.lastSeq := Nat.not_le.2 hseq
  have hroom : ¬ 4 ≤ Session.unanswered { ses with heardAt := y.sd.now } := by simp [Session.unanswered, hwaiting, hbusy, b01]
  have hclose : r.kind = 0x12 ∧ (!r.bad) = true := ⟨hkind, by rw [hformed]; rfl⟩
  unfold Dies.accept
  dsimp only
  rw [if_neg hlater, if_neg hroom, if_pos hclose]
  simp only [Dies.closed, Dies.taken, Session.took, hwaiting]

/-- An answer to a session changes that session's slot alone, and leaves a session there (R350). -/
theorem SafetyDie.respond_sessions (x : SafetyDie) (slot : Nat) (ses : Session) (r : Req) (status : Nat) (data : Octets) (last : Bool) :
    ∃ ses' : Session, ((x.setSession slot (some ses)).respond slot r status data last).sessions = (x.setSession slot (some ses')).sessions := by
  unfold SafetyDie.respond
  simp only [SafetyDie.session_setSession, SafetyDie.setSession_setSession]
  exact ⟨_, (SafetyDie.sendOd_sameAccess _ _ _ _ _).sessions⟩

/-- A session's slot is empty once the session has ended (R352). -/
theorem SafetyDie.endSession_sessions (x z : SafetyDie) (slot : Nat) (ses : Session)
    (h : z.sessions = (x.setSession slot (some ses)).sessions) : (z.endSession slot).sessions = (x.setSession slot none).sessions := by
  have hheld : z.session slot = some ses := by
    rw [SafetyDie.session, h]
    exact SafetyDie.session_setSession x slot ses
  have hset : (z.setSession slot none).sessions = ((x.setSession slot (some ses)).setSession slot none).sessions := by
    simp only [SafetyDie.setSession, h]
  rw [(z.endSession_sameAccess slot (by simp [hheld])).sessions, hset, SafetyDie.sessions_emptied]

/-- After a CLOSE its session's slot is empty, and no other slot has changed. -/
theorem Dies.closed_sessions (y : Dies) (slot : Nat) (ses : Session) (r : Req) (tag : Octets) :
    (y.closed slot ses r tag).sd.sessions = (y.sd.setSession slot none).sessions := by
  obtain ⟨ses', hses'⟩ := y.sd.respond_sessions slot (ses.took y.sd r tag) r 0 [] false
  exact (Dies.follow_sameAccess _ _).sessions.trans (SafetyDie.endSession_sessions y.sd _ slot ses' hses')

/-- On a CAN bus no flit carries the message, so no SEQ of a flit counts. -/
theorem Dies.Hears.onCan {x : Dies} {origin seq : Nat} {b : Octets} (h : x.Hears 3 origin seq b) : x.Hears 3 origin 0 b :=
  ⟨h.served, h.bus, fun hne => absurd rfl hne⟩

/-- Settles O54: each message is dispatched by `State.odIn_became` and accepted by `Dies.dispatch_authentic`; a READ and a WRITE then go as
`Dies.accept_request` says, a CLOSE as `Dies.accept_close` does. -/
theorem sessionMessagesAct : Obligations.SessionMessagesAct := by
  intro s t path origin seq b ses y h hy hheld hopened hidle hpath horigin hwaiting hbusy hlen htag hseq
  have request (hkind : kindOf b = 0x10 ∨ kindOf b = 0x11) : y.dispatch path (originOf path origin) b =
      Dies.answered (field b 4 1) (parseReq path b) ((y.taken (field b 4 1) ses (parseReq path b) (tagOf b)).serve (field b 4 1)
        (ses.took y.sd (parseReq path b) (tagOf b)) (parseReq path b)) :=
    (Dies.dispatch_authentic hheld hopened hidle hpath horigin (hkind.imp_right .inl) hlen htag).trans
      (y.accept_request path _ b _ ses hwaiting hbusy hseq hkind)
  have close (hkind : kindOf b = 0x12) (hformed : (parseReq path b).bad = false) : y.dispatch path (originOf path origin) b =
      y.closed (field b 4 1) ses (parseReq path b) (tagOf b) :=
    (Dies.dispatch_authentic hheld hopened hidle hpath horigin (.inr (.inr hkind)) hlen htag).trans
      (y.accept_close _ ses _ _ hwaiting hbusy hseq hkind hformed)
  have became {kind : Nat} (hkind : kindOf b = kind) {x : Dies} (hx : y.dispatch path (originOf path origin) b = x) :
      s.act t (fun z => z.odIn kind path origin seq b) = s.became x :=
    (State.odIn_became s t kind path origin seq b h hkind).trans (by rw [← hy, hx])
  have becameOnCan (hcan : path = 3) {x : Dies} (hx : y.dispatch path (originOf path origin) b = x) :
      s.act t (fun z => z.odIn (kindOf b) 3 origin 0 b) = s.became x := by
    subst hcan
    exact (State.odIn_became s t _ 3 origin 0 b h.onCan rfl).trans (by rw [← hx, hy]; rfl)
  exact ⟨fun hkind => ⟨_, rfl, became hkind (request (.inl hkind))⟩, fun hkind => ⟨_, rfl, became hkind (request (.inr hkind))⟩,
    fun hkind hformed => ⟨_, rfl, became hkind (close hkind hformed), Dies.closed_sessions _ _ _ _ _⟩,
    fun hcan hkind => ⟨_, rfl, becameOnCan hcan (request hkind)⟩,
    fun hcan hkind hformed => ⟨_, rfl, becameOnCan hcan (close hkind hformed), Dies.closed_sessions _ _ _ _ _⟩⟩

/-- A wrong TAG short of the eighth is discarded and counted (R348). -/
theorem SafetyDie.tagFailed_counts (x : SafetyDie) (slot : Nat) (ses : Session) (h : ses.tagFails + 1 < 8) :
    x.tagFailed slot ses = (x.bump Od.TAG_FAILURES).setSession slot
      (some { ses with tagFails := ses.tagFails + 1, discarded := ses.discarded + 1 }) := by
  rw [SafetyDie.tagFailed]
  exact if_pos h

/-- The eighth wrong TAG ends the session and adds a failure to its role's lockout record (R348, R351). -/
theorem SafetyDie.tagFailed_ends (x : SafetyDie) (slot : Nat) (ses : Session) (h : 8 ≤ ses.tagFails + 1) :
    (x.tagFailed slot ses).sessions = (x.setSession slot none).sessions ∧
      (x.tagFailed slot ses).guest.locks
        = (x.setLock ses.role { x.lockOf ses.role with fails := (x.lockOf ses.role).fails + 1 }).guest.locks := by
  have hsessions := SafetyDie.endSession_sessions x ((x.bump Od.TAG_FAILURES).setSession slot
    (some { ses with tagFails := ses.tagFails + 1, discarded := ses.discarded + 1 })) slot _ rfl
  have hlocks := (SafetyDie.endSession_sameAccess ((x.bump Od.TAG_FAILURES).setSession slot
    (some { ses with tagFails := ses.tagFails + 1, discarded := ses.discarded + 1 })) slot (by simp)).locks
  unfold SafetyDie.tagFailed
  dsimp only
  rw [if_neg (Nat.not_lt.2 h)]
  refine ⟨hsessions, ?_⟩
  simp only [SafetyDie.setLock, SafetyDie.setGuest_guest]
  rw [hlocks]
  rfl

/-- A SEQ that is not later, of another message than the last request's, is counted in REPLAYS (R349). -/
theorem Dies.accept_replay (y : Dies) (slot : Nat) (ses : Session) (r : Req) (tag : Octets) (hseq : r.seq ≤ ses.lastSeq)
    (hother : ¬ (r.seq = ses.lastSeq ∧ tag = ses.lastTag)) :
    y.accept slot ses r tag
      = { y with sd := (y.sd.bump Od.REPLAYS).setSession slot (some { ses with discarded := ses.discarded + 1 }) } := by
  unfold Dies.accept
  dsimp only
  rw [if_pos hseq, if_neg hother]

/-- The last request repeated brings its response again (R349); that the repeat also counts as a request heard is log entry 55. -/
theorem Dies.accept_repeat (y : Dies) (slot : Nat) (ses : Session) (r : Req) (tag : Octets) (hseq : r.seq = ses.lastSeq)
    (htag : tag = ses.lastTag) (hanswered : ses.response ≠ []) :
    y.accept slot ses r tag = { y with sd :=
      (y.sd.setSession slot (some { ses with heardAt := y.sd.now })).sendOd slot ses.path ses.origin ses.response } := by
  unfold Dies.accept
  dsimp only
  rw [if_pos (Nat.le_of_eq hseq), if_pos ⟨hseq, htag⟩, if_neg hanswered]

/-- Settles O25: the TAG by `Dies.dispatch_open` with `SafetyDie.tagFailed_counts` and `SafetyDie.tagFailed_ends`, the SEQ by
`Dies.accept_replay` and `Dies.accept_repeat`. That a repeat keeps its session alive is the model's choice (log entry 55). -/
theorem tagFailuresAndReplays : Obligations.TagFailuresAndReplays := by
  intro s t path origin seq b ses y c h hy hheld hopened hidle hpath horigin hc
  have hkind : kindOf b = 0x10 ∨ kindOf b = 0x11 ∨ kindOf b = 0x12 := hc.imp And.left (Or.imp And.left And.left)
  have hexec : exec c s = s.became (y.dispatch path (originOf path origin) b) := by
    rw [hy]
    rcases hc with ⟨hk, rfl⟩ | ⟨hk, rfl⟩ | ⟨hk, rfl⟩ <;> exact State.odIn_became s t _ path origin seq b h hk
  refine ⟨fun hbad => ⟨?discarded, fun hfew => y.sd.tagFailed_counts _ ses hfew, fun heighth => y.sd.tagFailed_ends _ ses heighth⟩,
    fun hlen htag hseq => ⟨fun hother => ?replay, fun hsame hlast hanswered => ?again⟩⟩
  case discarded =>
    rw [hexec, Dies.dispatch_open hheld hopened hidle hpath horigin hkind, if_pos hbad]
  case replay =>
    rw [hexec, Dies.dispatch_authentic hheld hopened hidle hpath horigin hkind hlen htag, Dies.accept_replay y _ ses _ _ hseq hother]
  case again =>
    rw [hexec, Dies.dispatch_authentic hheld hopened hidle hpath horigin hkind hlen htag,
      Dies.accept_repeat y _ ses _ _ hsame hlast hanswered]

end Sys2Proof.Machine
end

section
/-! PROOFS. What else the paths of the dictionary bring, and admitted writes of commits, keys and partners (R341-R347, R352-R357, R372). -/

namespace Sys2Proof.Machine

/-- A plain upload on a CAN bus that is served answers the octets it reads (R355). -/
theorem Dies.plainUpload_answers (x : Dies) (bus idx sub : Nat) (v : Octets) (hserved : x.reaches 3 = true) (hbus : bus < 2)
    (hread : x.plainRead bus idx sub = some v) :
    x.plainUpload bus idx sub = { x with sd := x.sd.put (.canAnswer bus v) } := by
  have hanswers : ¬ (!x.reaches 3 || decide (2 ≤ bus)) = true := by simp [hserved, hbus]
  rw [Dies.plainUpload, if_neg hanswers, hread]

/-- A session unheard of for its idle limit ends (R352). -/
theorem SafetyDie.idleTimeout_ends (x : SafetyDie) (slot : Nat) (ses : Session) (hheld : x.session slot = some ses)
    (hidle : x.idle ses = true) : x.idleTimeout slot = x.endSession slot := by
  simp [SafetyDie.idleTimeout, hheld, hidle]

/-- Settles O55: a window and a datagram reach a check die that runs, an upload is answered by `Dies.plainUpload_answers`, a session ends by
`SafetyDie.idleTimeout_ends`, and the ends of stores are an update of both dies each. -/
theorem accessEventsComplete : Obligations.AccessEventsComplete := by
  intro s t
  refine ⟨fun hr hp w b => State.onHost_checkDid s t _ hr hp, fun hr origin b => State.onCheck_checkDid s t _ hr,
    fun bus idx sub v hserved hbus hread => ?upload, fun slot ses hheld hopened hunheard hawake => ?idle, fun _ => rfl, fun _ => rfl⟩
  case upload => exact congrArg s.became (Dies.plainUpload_answers (s.dies.tick t) bus idx sub v hserved hbus hread)
  case idle =>
    have hidle : (s.dies.sd.tick t).idle ses = true := by
      simp only [SafetyDie.idle, Bool.and_eq_true, decide_eq_true_eq, Bool.not_eq_true']
      exact ⟨⟨hopened, hunheard⟩, hawake⟩
    exact (State.onSafety_safetyDid s t _).trans
      (State.safetyDid_congr s t _ _ ((s.dies.sd.tick t).idleTimeout_ends slot ses hheld hidle))

/-- An admitted write of a number to a wo entry is the request that does `f`, where the dies that have taken it do `f` (R340). -/
theorem State.writeEntry_requested_taken (s : State) (t slot : Nat) (ses : Session) (w : OdRow) (i v : Nat) (f : Dies → Served)
    (hf : (s.dies.tick t).Fresh slot ses) (ha : s.dies.Admits ses w i v) (hwo : w.access = .wo)
    (hact : ∀ (r : Req) (tag : Octets), ((s.dies.tick t).taken slot ses r tag).act slot (w.index + i) w.sub (.num v)
      = f ((s.dies.tick t).taken slot ses r tag)) :
    s.act t (fun x => x.writeEntry slot w i v) = s.requested t slot ses (ses.write w i v) f :=
  (State.writeEntry_requested s t slot ses w i v _ hf ha hwo (fun _ _ => rfl)).trans (State.requested_congr s t slot ses _ (hact _ _))

/-- An admitted write of octets to a wo entry of type OSTR is the request that does what the entry does (R340, R344). -/
theorem State.writeOctets_requested (s : State) (t slot : Nat) (ses : Session) (w : OdRow) (i : Nat) (b : Octets)
    (hf : (s.dies.tick t).Fresh slot ses) (ha : s.dies.Allows ses w i) (hwo : w.access = .wo) (htype : w.type = .ostr)
    (hindex : w.index + i ≠ 0x7F00) (hlen : b.length ≤ 67108864) (hcheck : w.check (.bytes b) = .ok) :
    s.act t (fun x => x.writeOctets slot w i b) = s.requested t slot ses (ses.writeBytes w i b)
      (fun y => (y.wrote slot (w.key i) true).act slot (w.index + i) w.sub (.bytes b)) := by
  simp only [State.act, State.requested]
  rw [Dies.writeOctets_act (s.dies.tick t) slot ses w i b hf (ha.tick t) hwo htype hindex hlen hcheck]

/-- An admitted write of text to a wo entry is the request that does what the entry does (R340). -/
theorem State.writeText_requested (s : State) (t slot : Nat) (ses : Session) (w : OdRow) (i : Nat) (b : Octets)
    (hf : (s.dies.tick t).Fresh slot ses) (ha : s.dies.Allows ses w i) (hwo : w.access = .wo) (htype : w.type = .vstr)
    (hlen : b.length ≤ 255) (hcheck : w.check (.bytes b) = .ok) :
    s.act t (fun x => x.writeOctets slot w i b) = s.requested t slot ses (ses.writeBytes w i b)
      (fun y => y.act slot (w.index + i) w.sub (.bytes b)) := by
  simp only [State.act, State.requested]
  rw [Dies.writeOctets_text (s.dies.tick t) slot ses w i b hf (ha.tick t) hwo htype hlen hcheck]

/-- A write to COMMIT_CRC commits the staged set, or refuses it (R357). -/
theorem Dies.act_commitCrc (y : Dies) (slot v : Nat) : y.act slot 0x7F00 0x01 (.num v) = y.writeCommit slot v := rfl

/-- A write to STAGE_DISCARD discards a staged set that the session may discard (R356). -/
theorem Dies.act_stageDiscard (y : Dies) (slot : Nat) (v : Val) (h : y.sd.stageBusy slot = false) :
    y.act slot 0x7F00 0x02 v = ({ y with sd := y.sd.discardStage } : Dies).done := by
  simp [Dies.act, h]

/-- A write to PARTNER_SELECT chooses the session's partner (R372). -/
theorem Dies.writeRw_partnerSelect (y : Dies) (slot v : Nat) :
    y.writeRw slot 0x2800 0x02 Od.PARTNER_SELECT (.num v)
      = ({ y with sd := y.sd.updSession slot (fun z => { z with partner := v }) } : Dies).done := rfl

/-- The write of a role's key stores it, to be undone where the store fails (R341, R352). -/
theorem Dies.act_roleKey (y : Dies) (slot role : Nat) (key : Octets) (hrole : role < 5) :
    y.act slot (0x1210 + role) 0x01 (.bytes key)
      = ({ y with sd := { y.sd with keys := y.sd.keys.set [] role key } } : Dies).storing slot (.roleKey role (y.sd.keys.get [] role)) := by
  have hstream : ¬ (0x2000 ≤ 0x1210 + role ∧ 0x1210 + role ≤ 0x200B) := by omega
  have hcluster : ¬ 0x1210 + role = 0x3400 := by omega
  have hbrake : ¬ 0x1210 + role = 0x4100 := by omega
  have hlog : ¬ 0x1210 + role = 0x4800 := by omega
  have hkeys : 0x1210 ≤ 0x1210 + role ∧ 0x1210 + role ≤ 0x1214 := by omega
  rw [Dies.act]
  simp only [if_neg hstream, if_neg hcluster, if_neg hbrake, if_neg hlog, if_pos hkeys, Nat.add_sub_cancel_left]
  rfl

/-- The write of the passphrase stores the key made of it as OPERATOR's (R347). -/
theorem Dies.act_operatorPassphrase (y : Dies) (slot : Nat) (pass : Octets) :
    y.act slot 0x1211 0x03 (.bytes pass)
      = ({ y with sd := { y.sd with keys := y.sd.keys.set [] 1 (passKey pass) } } : Dies).storing slot
          (.roleKey 1 (y.sd.keys.get [] 1)) := by
  simp [Dies.act, Val.b]

/-- A key of 32 octets is in ROLE_KEY's range. -/
theorem check_roleKey (key : Octets) (h : key.length = 32) : Od.ROLE_KEY.check (.bytes key) = .ok := by
  simp [OdRow.check, Od.ROLE_KEY, OdRange.holds, Val.b, h]

/-- A text of 8 to 64 octets is in OPERATOR_PASSPHRASE's range. -/
theorem check_operatorPassphrase (pass : Octets) (hlo : 8 ≤ pass.length) (hhi : pass.length ≤ 64) :
    Od.OPERATOR_PASSPHRASE.check (.bytes pass) = .ok := by
  simp [OdRow.check, Od.OPERATOR_PASSPHRASE, OdRange.holds, Val.b, hlo, hhi]

/-- Settles O58: each write is the request that its type of entry gives, with what the entry does. -/
theorem commitAndKeyWritesAct : Obligations.CommitAndKeyWritesAct := by
  intro s t
  refine ⟨fun slot v ses hf ha => ?commit, fun slot v ses hf ha hfree => ?discard, fun slot v ses hf ha => ?partner,
    fun slot role key ses hf ha hlen => ?key, fun slot pass ses hf ha hlo hhi => ?pass⟩
  case commit =>
    exact State.writeEntry_requested s t slot ses Od.COMMIT_CRC 0 v _ hf ha rfl (fun y _ => Dies.act_commitCrc y slot v)
  case discard =>
    exact State.writeEntry_requested_taken s t slot ses Od.STAGE_DISCARD 0 v _ hf ha rfl
      (fun _ _ => Dies.act_stageDiscard _ slot _ hfree)
  case partner =>
    exact State.writeEntry_requested_rw s t slot ses Od.PARTNER_SELECT 0 v _ hf ha rfl (fun y => Dies.writeRw_partnerSelect y slot v)
  case key =>
    have hrole : role < 5 := ha.inst
    have hindex : Od.ROLE_KEY.index + role ≠ 0x7F00 := show 0x1210 + role ≠ 0x7F00 by omega
    exact (State.writeOctets_requested s t slot ses Od.ROLE_KEY role key hf ha rfl rfl hindex (by omega) (check_roleKey key hlen)).trans
      (State.requested_congr s t slot ses _ (Dies.act_roleKey _ slot role key hrole))
  case pass =>
    exact (State.writeText_requested s t slot ses Od.OPERATOR_PASSPHRASE 0 pass hf ha rfl rfl (by omega)
      (check_operatorPassphrase pass hlo hhi)).trans (State.requested_congr s t slot ses _ (Dies.act_operatorPassphrase _ slot pass))

end Sys2Proof.Machine
end

section
/-! PROOFS. The fabric: its commands on a check die that runs, and a frame whose FCS fails (R377-R391). -/

namespace Sys2Proof.Machine

/-- Settles O43: a command that names a port is a happening at that port, the others are happenings of the die; a check die that runs does
them. -/
theorem fabricCommandsComplete : Obligations.FabricCommandsComplete := by
  intro s t hr
  have onDie (f : CheckDie → CheckDie) : s.onCheck t f = s.checkDid t f := State.onCheck_checkDid s t f hr
  have atPort (p : Nat) (f : CheckDie → CheckDie) (hp : p < 4) : s.onCheckIf t (p < 4) f = s.checkDid t f :=
    State.onCheckIf_checkDid s t (p < 4) f hr hp
  exact ⟨
    -- hellos and adjacency, the link-state database, routes
    fun p _ _ hp => atPort p _ hp, fun p hp => atPort p _ hp, fun p hp => atPort p _ hp, fun p _ _ hp => atPort p _ hp, onDie _,
    fun _ => onDie _, onDie _, onDie _, fun p hp => atPort p _ hp, fun _ => onDie _,
    -- the manager
    fun p _ _ hp => atPort p _ hp, onDie _, onDie _, onDie _,
    -- operations, responses and acknowledgements of pairs
    fun p _ _ hp => atPort p _ hp, fun p _ _ hp => atPort p _ hp, fun p _ _ hp => atPort p _ hp, fun p _ _ hp => atPort p _ hp,
    fun p _ _ hp => atPort p _ hp, fun p _ _ hp => atPort p _ hp, fun _ => onDie _, fun _ => onDie _,
    -- second opinions, relayed datagrams, a port that comes up
    fun _ _ _ _ => onDie _, fun _ _ => onDie _, fun _ _ => onDie _, fun p hp => atPort p _ hp⟩

/-- An enabled port discards and counts a frame whose FCS fails, whatever its kind (R377). -/
theorem CheckDie.fabFrame_badFcs (d : CheckDie) (kinds : List Nat) (p : Nat) (b : Octets) (hp : d.fabOn p = true) :
    d.fabFrame kinds p false b = d.bump Od.FRAMES_DISCARDED := by
  simp [CheckDie.fabFrame, hp]

/-- Settles O29: each of the nine kinds of frame arrives at the port, where `CheckDie.fabFrame_badFcs` says what becomes of it. -/
theorem badFabricFrames : Obligations.BadFabricFrames := by
  intro s t p b c hr hp hon hc
  have discards (kinds : List Nat) : s.onCheckIf t (p < 4) (fun d => d.fabFrame kinds p false b)
      = s.checkDid t (fun d => { d with regs := d.regs.bump Od.FRAMES_DISCARDED 0 1 }) :=
    (State.onCheckIf_checkDid s t (p < 4) _ hr hp).trans
      (State.checkDid_congr s t _ (fun d => d.bump Od.FRAMES_DISCARDED) (CheckDie.fabFrame_badFcs (s.dies.cd.tick t) kinds p b hon))
  simp only [List.mem_cons, List.not_mem_nil, or_false] at hc
  rcases hc with rfl | rfl | rfl | rfl | rfl | rfl | rfl | rfl | rfl <;> exact discards _

end Sys2Proof.Machine
end

section
/-! PROOFS. The host: its accesses and timers on a check die that runs, and an entry of a host ring (R404-R420). -/

namespace Sys2Proof.Machine

/-- An access of the host to a unit that exists, of a check die that runs, with PERST# high, does `f` on that die (R404). -/
theorem State.onHostIf_checkDid (s : State) (t : Nat) (c : Prop) [Decidable c] (f : CheckDie → CheckDie) (hr : s.Runs)
    (hp : s.dies.cd.perst = false) (hc : c) : s.onHostIf t c f = s.checkDid t f := by
  rw [← State.onHost_checkDid s t f hr hp]
  simp only [State.onHostIf, State.onHost, hc, not_true_eq_false, or_false]

/-- A function-level reset of a check die that runs, with PERST# high, resets its function and closes the intake (R404). -/
theorem Dies.functionReset_runs (x : Dies) (hr : x.cd.runs = true) (hp : x.cd.perst = false) :
    x.functionReset = ({ x with cd := x.cd.functionReset } : Dies).safety SafetyDie.pcieReset := by
  rw [Dies.functionReset, if_neg (by simp [hr, hp])]

/-- Settles O44: an access is one of the host, to the die, to a ring or within a BAR; a timer is a happening of the check die or of one of its
contexts. -/
theorem hostCommandsComplete : Obligations.HostCommandsComplete := by
  intro s t hr hp
  have access (f : CheckDie → CheckDie) : s.onHost t f = s.checkDid t f := State.onHost_checkDid s t f hr hp
  have inBar (size top : Nat) (f : CheckDie → CheckDie) (h : size ≤ top) :
      (if size ≤ top then s.onHost t f else .fault .outsideBar) = s.checkDid t f := (if_pos h).trans (access f)
  have atRing (r : Nat) (f : CheckDie → CheckDie) (h : r < 3) : s.onHostIf t (r < 3) f = s.checkDid t f :=
    State.onHostIf_checkDid s t (r < 3) f hr hp h
  have atContext (c : Nat) (f : CheckDie → CheckDie) (h : c < 256) : s.onCheckIf t (c < 256) f = s.checkDid t f :=
    State.onCheckIf_checkDid s t (c < 256) f hr h
  exact ⟨fun _ _ _ h => inBar _ _ _ h, congrArg s.became (Dies.functionReset_runs (s.dies.tick t) hr hp),
    -- the result intake
    fun _ _ _ h => inBar _ _ _ h, fun c _ hc => atContext c _ hc, fun c _ hc => atContext c _ hc,
    -- the rings
    fun r _ h => atRing r _ h, fun r _ h => atRing r _ h, fun r h => atRing r _ h, fun r h => atRing r _ h,
    -- GTS, weight loads and the landing zone
    access _, access _, fun _ _ => State.onCheck_checkDid s t _ hr, fun _ _ _ h => inBar _ _ _ h⟩

/-- A ring entry written advances RING_WRITE modulo 2^32 (R415). -/
theorem CheckDie.ringWriteOne_write (d : CheckDie) (r : Nat) (b : Octets) :
    ((d.ringWriteOne r b).ring r).write = ((d.ring r).write + 1) % 2 ^ 32 := by
  simp only [CheckDie.ringWriteOne, CheckDie.ring, CheckDie.put_rings, CheckDie.updRing]
  rw [Tbl.get_upd]
  intro hfresh
  exact absurd (congrArg Ring.pending hfresh) (by simp)

/-- An entry of one unit goes to its place in an enabled ring with room (R415, R416). -/
theorem CheckDie.ringPush_room (d : CheckDie) (r : Nat) (b : Octets) (hmaster : d.busMaster = true) (hon : (d.ring r).on = true)
    (hroom : subMod 32 (d.ring r).write (d.ring r).read < 2 ^ bitsOf (d.ring r).ctrl 16 5) :
    d.ringPush r [b] = (d.ringWriteOne r b, true) := by
  have hone : (d.ring r).room 1 = true := decide_eq_true hroom
  simp [CheckDie.ringPush, hmaster, hon, hone]

/-- A ring that is full or disabled drops the entry and counts it (R416). -/
theorem CheckDie.ringPush_drops (d : CheckDie) (r : Nat) (b : Octets)
    (h : (d.ring r).on = false ∨ 2 ^ bitsOf (d.ring r).ctrl 16 5 ≤ subMod 32 (d.ring r).write (d.ring r).read) :
    d.ringPush r [b] = (d.updRing r (fun x => { x with dropped := (x.dropped + 1) % 2 ^ 32 }), false) := by
  have hnoRoom : (d.ring r).on = false ∨ (d.ring r).room 1 = false :=
    h.imp_right fun hfull => decide_eq_false (Nat.not_le.2 (Nat.lt_succ_of_le hfull))
  rcases hnoRoom with hoff | hfull
  · simp [CheckDie.ringPush, hoff]
  · simp [CheckDie.ringPush, hfull]

/-- Settles O36: with room by `CheckDie.ringPush_room`, else by `CheckDie.ringPush_drops`. -/
theorem hostRingEntry : Obligations.HostRingEntry := by
  intro d r b hmaster
  refine ⟨fun hon hroom => ?written, d.ringPush_drops r b⟩
  rw [d.ringPush_room r b hmaster hon hroom]
  exact ⟨rfl, rfl, d.ringWriteOne_write r b, rfl⟩

end Sys2Proof.Machine
end

section
/-! PROOFS. Supplies, resets, boot and temperatures of the safety die, the SEC_VERSION floor and the state after reset (R253, R254, R427,
R435, R447, R482-R486). -/

namespace Sys2Proof.Machine

open Host

/-- Settles O45: each command is a happening of the safety die, or an update of both dies; a clocked check die reports its self-refresh. -/
theorem powerCommandsComplete : Obligations.PowerCommandsComplete := by
  intro s t
  have onDie (f : SafetyDie → SafetyDie) : s.onSafety t f = s.safetyDid t f := State.onSafety_safetyDid s t f
  have reports (hclock : s.dies.cd.clock = true) : s.act t Dies.selfRefresh = s.safetyDid t SafetyDie.selfRefresh :=
    congrArg s.became (if_pos hclock)
  exact ⟨onDie _, fun _ _ _ => onDie _, rfl, fun _ => onDie _, fun _ _ _ => onDie _, reports, onDie _, onDie _, onDie _,
    fun _ _ => onDie _, fun _ _ => onDie _, fun _ _ => onDie _, fun _ _ => onDie _, fun _ _ => onDie _, fun _ => onDie _⟩

/-- A fall of PG_CD with CD_PWR_EN high and SD_CD_KILL not asserted trips (R486). -/
theorem SafetyDie.pgFall_trips (y : SafetyDie) (hpower : y.kill.pwrEn = true) (hgood : y.kill.pg = true) (hon : y.kill.on = false) :
    y.pgFall = ({ y with kill := { y.kill with pg := false } } : SafetyDie).trip := by
  simp [SafetyDie.pgFall, hpower, hgood, hon]

/-- A trip with no kill under way wants one from now, in every device state (R254). -/
theorem SafetyDie.trip_wanted (y : SafetyDie) (hon : y.kill.on = false) (hwanted : y.kill.wanted = none) :
    y.trip.kill.wanted = some y.now := by
  obtain ⟨-, -, hrecorded⟩ := (y.noteTrip.recorded_raise .heartTrip 0 0 0 0xFFFF).tripSide
  rw [y.trip_free hon hwanted, (SafetyDie.hblStop_sameAccess _ 3 true).kill, hrecorded]
  rfl

/-- A counted kill is asserted, and its time is the last of those that CD_RESET_LIMIT counts (R257, R259). -/
theorem SafetyDie.assertKill_counts (y : SafetyDie) (power keep : Bool) (hon : y.kill.on = false) :
    (y.assertKill true power keep).kill.on = true ∧ y.now ∈ (y.assertKill true power keep).kill.times := by
  unfold SafetyDie.assertKill
  rw [if_neg (by simp [hon])]
  extract_lets w times locked sorter heart kill stage s1 s2
  have hkill : s2.kill = s1.kill :=
    ((SafetyDie.demandLow_sameAccess _ 130).kill.trans (SafetyDie.dropInjectors_sameAccess _).kill).trans s1.endCheckSessions_kill
  have hlast : y.now ∈ s1.kill.times := by
    simp [s1, times, SafetyDie.bump]
  have hasserted : s2.kill.on = true ∧ y.now ∈ s2.kill.times := by
    rw [hkill]
    exact ⟨rfl, hlast⟩
  clear_value s2
  split
  · rw [(SafetyDie.recorded_raise _ _ _ _ _ _).sameAccess.kill]
    exact hasserted
  · exact hasserted

/-- The kill that a trip wants is asserted once BRK_A reads off, or 60 µs after the trip (R254). -/
theorem SafetyDie.killIfDue_due (y : SafetyDie) (u : Nat) (hwanted : y.kill.wanted = some u)
    (hdue : y.brake.brbA = false ∨ u + 60000 ≤ y.now) : y.killIfDue = y.assertKill true (y.on Od.KILL_POWER) false := by
  have hnow : (!y.brake.brbA || decide (u + 60000 ≤ y.now)) = true := by simpa using hdue
  simp only [SafetyDie.killIfDue, hwanted, hnow, if_true]

/-- Settles O19: the fall by `SafetyDie.pgFall_trips`, the trip's kill by `SafetyDie.trip_wanted` and `SafetyDie.assertKill_counts`. That a
heartbeat loss trips from the low end of the band of R253 on is the model's choice (log entry 37). -/
theorem powerGoodFall : Obligations.PowerGoodFall := by
  refine ⟨fun s t hpower hgood hon => ?fall, fun y => rfl, fun y hon hwanted => y.trip_wanted hon hwanted,
    fun y u hwanted hon hdue => ?kill⟩
  case fall =>
    exact (State.onSafety_safetyDid s t _).trans
      (State.safetyDid_congr s t _ _ ((s.dies.sd.tick t).pgFall_trips hpower hgood hon))
  case kill =>
    rw [y.killIfDue_due u hwanted hdue]
    exact y.assertKill_counts _ _ hon

/-- Settles O6: the raised floor is what `step_kept` keeps; the floor of the device itself is fixed. -/
theorem floorNeverFalls : Obligations.FloorNeverFalls := by
  intro s s' h
  have hkept : s'.dies.sd.Kept False s.dies.sd.floor := step_kept ⟨False.elim, False.elim, le_rfl⟩ h
  exact max_le_max le_rfl hkept.le_floor

/-- Of the entries of the device's state SEC_VERSION_RAISE is SERVICE's alone to write (R447). -/
theorem SafetyDie.writers_secVersionRaise (y : SafetyDie) : y.writers 0x6000 0x33 = [4] := rfl

/-- A write to SEC_VERSION_RAISE raises the floor, or is answered RANGE (R447). -/
theorem Dies.act_secVersionRaise (y : Dies) (slot v : Nat) : y.act slot 0x6000 0x33 (.num v) = y.raiseFloor v := rfl

/-- Settles O11: the role by `SafetyDie.writers_secVersionRaise`; the write is the request that `Dies.raiseFloor` is, with the floor and the
running image as they stand before it. -/
theorem secVersionRaise : Obligations.SecVersionRaise := by
  intro s t slot v ses hf ha
  refine ⟨?role, ?raises⟩
  case role => simpa [SafetyDie.writers_secVersionRaise] using show (s.dies.sd.writers 0x6000 0x33).contains ses.role = true from ha.role
  case raises =>
    exact State.writeEntry_requested_taken s t slot ses Od.SEC_VERSION_RAISE 0 v _ hf ha rfl (fun _ _ => Dies.act_secVersionRaise _ slot v)

/-- Settles O3: each value is one of `State.reset`'s; a check die that is not up does not run, an empty log and an empty staged set are within
their limits, and BRK_B is off. -/
theorem resetState : Obligations.ResetState := by
  refine ⟨rfl, rfl, rfl, rfl, rfl, rfl, ?rests, fun slot => rfl, ?fits, ?held⟩
  case rests => exact fun hruns => Bool.false_ne_true hruns
  case fits => exact ⟨Nat.zero_le _, Nat.zero_le _⟩
  case held => exact fun hon => absurd hon (by decide)

end Sys2Proof.Machine
end

section
/-! PROOFS. What holds of every command, and of every row that a session writes: a step runs the command at the front, a command completes
unless the host reaches beyond a BAR, a row without an open session only moves the clocks (R340, R344, R405). -/

namespace Sys2Proof.Machine

open Host

/-- Settles O1: a step looks at the front of the queue alone. -/
theorem stepRunsTheFrontCommand : Obligations.StepRunsTheFrontCommand := by
  intro s c rest hpending
  simp only [step, hpending]

/-- An access of the host within a BAR of `top` bytes completes, one beyond its end goes to no address (R405). -/
theorem State.hostInBar_completes (s : State) (t size top : Nat) (f : CheckDie → CheckDie) :
    (∃ x : Dies, (if size ≤ top then s.onHost t f else .fault .outsideBar) = .next { s with dies := x }) ∨ top < size := by
  rcases Nat.lt_or_ge top size with hbeyond | hwithin
  · exact .inr hbeyond
  · exact .inl ⟨_, if_pos hwithin⟩

/-- Settles O7: the three accesses of the host to a BAR by `State.hostInBar_completes`; every other command is `State.act`, which brings a next
state whatever the dies. That an access beyond a BAR is a fault is the model's own choice: R405 gives the sizes alone. -/
theorem everyCommandCompletes : Obligations.EveryCommandCompletes := by
  refine ⟨fun s c => ?completes, fun s t offset requester size v b => ⟨fun h => ?landing, fun h => ?register, fun h => ?intake⟩⟩
  case completes =>
    cases c with
    | landingZoneWrite t offset requester b =>
      exact (State.hostInBar_completes s t (offset + b.length) _ _).imp_right fun h => .inl ⟨t, offset, requester, b, rfl, h⟩
    | registerWrite t offset size v =>
      exact (State.hostInBar_completes s t (offset + size) _ _).imp_right fun h => .inr (.inl ⟨t, offset, size, v, rfl, h⟩)
    | resultIntakeWrite t offset requester b =>
      exact (State.hostInBar_completes s t (offset + b.length) _ _).imp_right fun h => .inr (.inr ⟨t, offset, requester, b, rfl, h⟩)
    | _ => exact .inl ⟨_, rfl⟩
  case landing => exact if_neg (Nat.not_le.2 h)
  case register => exact if_neg (Nat.not_le.2 h)
  case intake => exact if_neg (Nat.not_le.2 h)

section Unopened

variable {x : Dies} {slot : Nat} (hnone : ∀ ses : Session, x.sd.session slot = some ses → ses.opened = false)
include hnone

/-- A slot without an open session has none whose idle limit could be reached (R352). -/
theorem Dies.awakeSlot_unopened : x.awakeSlot slot = x := by
  unfold Dies.awakeSlot
  split
  case h_1 ses hses => rw [if_neg (by simp [SafetyDie.idle, hnone ses hses])]
  case h_2 => rfl

/-- A request of a slot without an open session is none (R344). -/
theorem Dies.requestOf_unopened (kind key offset : Nat) (data : Octets) (image : Option ImageBody) (last : Bool) :
    x.requestOf slot kind key offset data image last = x := by
  simp only [Dies.requestOf, Dies.awakeSlot_unopened hnone]
  split
  case h_1 => rfl
  case h_2 ses hses => rw [if_pos (by simp [hnone ses hses])]

/-- No number is written for such a slot. -/
theorem Dies.writeEntry_unopened (w : OdRow) (i v : Nat) : x.writeEntry slot w i v = x := by
  rw [Dies.writeEntry, Dies.requestOf_unopened hnone, ite_self]

/-- No octets are written for such a slot. -/
theorem Dies.writeOctets_unopened (w : OdRow) (i : Nat) (b : Octets) : x.writeOctets slot w i b = x := by
  rw [Dies.writeOctets, Dies.requestOf_unopened hnone, ite_self]

/-- No image is written for such a slot. -/
theorem Dies.writeBody_unopened (w : OdRow) (i : Nat) (b : ImageBody) (last : Bool) : x.writeBody slot w i b last = x := by
  rw [Dies.writeBody, Dies.requestOf_unopened hnone, ite_self]

end Unopened

/-- Settles O10: each row is a write of a number, of octets or of an image, or a read, of that slot's session. That such a row without an open
session moves the clocks alone is the model's choice (log entry 56). -/
theorem noOpenSessionNoEffect : Obligations.NoOpenSessionNoEffect := by
  intro c t slot s hc hclosed
  have hnone : ∀ ses : Session, (s.dies.tick t).sd.session slot = some ses → ses.opened = false := hclosed
  cases c with
  | streamRestart | fenceClear | arrayRetest | cdResetLockedClear | faultClear | btStart | holdRequest | logClear | marginStart
  | commitCrc | stageDiscard | partnerSelect | fabricRestart | timeStepNs | intakeEnable | warmReset | checkDieReset | runRequest
  | serviceRequestEnter | serviceRequestLeave | powerRequest | secVersionRaise | arm | disarm =>
    cases hc
    exact congrArg s.became (Dies.writeEntry_unopened hnone _ _ _)
  | packageImageWrite | manifestImageWrite | lanternSetWrite | mapImageWrite | fwImage | deviceCert =>
    cases hc
    exact congrArg s.became (Dies.writeBody_unopened hnone _ _ _ _)
  | roleKey | operatorPassphrase | attestNonce =>
    cases hc
    exact congrArg s.became (Dies.writeOctets_unopened hnone _ _ _)
  | sigBatchRead =>
    cases hc
    exact congrArg s.became (Dies.requestOf_unopened hnone _ _ _ _ _ _)
  | _ => cases hc

end Sys2Proof.Machine
end
